-- ==== Sys2Proof/Word.lean ====
section
/-! DEFINITION. The octet, the smallest unit the object dictionary addresses (R33, R34). -/

namespace Sys2Proof

/-- One octet. -/
abbrev Byte := BitVec 8

end Sys2Proof
end

