-- ==== Sys2Proof/Syntax.lean ====
section
/-! DEFINITION. The commands of the block (every row of spec/opcode_table.json) and the types of their operands. -/

namespace Sys2Proof

/-- A port slice, 0 to 255 (R6). -/
abbrev Port := Fin 256

/-- An access path to the object dictionary (R18, R38): the two on-chip paths, the host over PCIe and over SPI, and the
remote session `s` of the OD service. -/
inductive Path where
  | safety
  | application
  | pcie
  | spi
  | remote (s : Fin 32)
deriving DecidableEq, Repr

/-- How a remote PDU came and where its answer goes (R69): over Ethernet, with the source address and the tag of the
request, or over ISO 15765-2. -/
inductive Via where
  | ethernet (source : BitVec 48) (tag : Option (BitVec 16))
  | isoTp
deriving DecidableEq, Repr

/-- A bus frame as its controller receives it (R105 to R107): the kind of R105, the identifier of R106, the flags, SDT,
VCID, DLC and acceptance field of the cell header, and the payload without its check sequence. -/
structure BusFrame where
  kind : BitVec 4
  ident : BitVec 32
  flags : BitVec 8
  sdt : BitVec 8
  vcid : BitVec 8
  dlc : BitVec 8
  af : BitVec 32
  data : List Byte
deriving DecidableEq, Repr

/-- How the reception of a frame ended: its check sequence or check octet is good or bad, or the reassembly of a preemptable frame
failed (R95, R103, R224). -/
inductive RxEnd
  | good
  | badCheck
  | badAssembly
deriving DecidableEq, Repr

/-- What an attachment hands over: octets of an Ethernet frame from its destination address on, FCS included at the
end, on the express path or, in a number of fragments, on the preemptable path (R224); or a whole bus frame. -/
inductive Rx where
  | eth (octets : List Byte)
  | preemptable (fragments : Nat) (octets : List Byte)
  | bus (f : BusFrame)
deriving DecidableEq, Repr

/-- The 802.1AS messages other than Sync that the time function handles (R202): Announce with the system identity of the
grandmaster that it names, the steps to it, the identity of the port that sent it and its path trace; the peer-delay messages
with their timestamps, and a response that does not come; Follow_Up with its information TLV; and Signaling, which may say that the
neighbour runs gPTP. -/
inductive GptpMsg where
  | announce (priority1 : BitVec 8) (quality : BitVec 32) (priority2 : BitVec 8) (gmIdentity : BitVec 64) (steps : BitVec 16)
      (source : BitVec 80) (path : List (BitVec 64))
  | pdelayRequest
  | pdelayResponse (t1 t2 t3 t4 : Nat)
  | pdelayLost
  | followUp (tlv : BitVec 256)
  | signaling (gptpCapable : Bool)
deriving DecidableEq, Repr

/-- What a fault mechanism reports (R386). -/
inductive FaultReport where
  /-- A lockstep mismatch in the compare groups whose bit is set; `edge` says that every differing bit lies within the
  edge window of R393. -/
  | lockstep (groups : BitVec 8) (edge : Bool)
  /-- An invalid two-rail code in the comparator (source 0x03). -/
  | comparatorCode (group : Fin 8)
  /-- The injection test failed (source 0x04). -/
  | injectionFailed (group : Fin 8)
  /-- An invalid two-rail code in the collector (source 0x06). -/
  | collectorCode
  /-- A pipeline fault of source 0x10, 0x11 or 0x12 (`mechanism` 0, 1, 2) in pipeline `n`. -/
  | pipeline (n : Fin 5) (mechanism : Fin 3)
  /-- A corrected single-bit error (source 0x20). -/
  | corrected
  /-- An uncorrectable error found by the lookup of frame `frame` in a table row (source 0x21). -/
  | lookup (table : BitVec 16) (row : BitVec 24) (frame : Nat)
  /-- A cell CRC that failed at the egress read of the copy on the wire at `port` (source 0x22). -/
  | cellCrc (port : Port)
deriving DecidableEq, Repr

/-- What a scrub pass finds (R401): a corrected word, or an uncorrectable row of a table. -/
inductive ScrubFind where
  | corrected
  | row (table : BitVec 16) (row : BitVec 24)
deriving DecidableEq, Repr

/-- The result of a step of a self-test against its window (R422). -/
inductive StepResult where
  | inside
  | below
  | above
deriving DecidableEq, Repr

/-- How a pipeline test ends (R403). -/
inductive TestEnd where
  | passed
  | failed
  | aborted
deriving DecidableEq, Repr

/-- What the world contributes to a start (R437, R381): the injection test's outcome, the readout of the PUF region, which of the two
copies of the helper data the flash lets the ROM read (R432), the MBIST groups that failed with the repairs, the duration of the PUF
and MBIST runs and of the whole start in microseconds, and for a wake whether the retention region gives back the wrapped keys and the
safety segment as written, and the 32.768 kHz ticks that the Mitten counted through the sleep (R236). -/
structure StartEnv where
  injectionOk : Bool
  puf : BitVec 65536
  helperFirst : Bool
  helperSecond : Bool
  mbistFailed : List (Fin 7)
  mbistRepairs : Nat
  pufMicros : Nat
  mbistMicros : Nat
  totalMicros : Nat
  keysUnwrap : Bool
  segmentOk : Bool
  ticks : Nat
deriving DecidableEq, Repr

/-- What the world contributes to the safety partition's restart (R395): the injection test's outcome, and the SHA-256 of the resident
firmware as the restart finds it. -/
structure RestartEnv where
  injectionOk : Bool
  digest : BitVec 256
deriving DecidableEq, Repr

/-- The commands of the block: one constructor per row of spec/opcode_table.json. `dt` is the time that has passed since
the command before it, in units of 2^-16 ns (log entry 1). The other operands say where the command comes from and what the
world outside the block contributes to it. -/
inductive Instr where
  /-- OD_WRITE (R8). A write to an OD object that has no row of its own, judged against access rights, busy state and clamp rules. -/
  | odWrite (dt : Nat) (path : Path) (idx : BitVec 16) (sub : BitVec 8) (value : BitVec 64)
  /-- HOST_SCALAR_WRITE (R51). A posted PCIe write to a BAR0 slot is applied per slot, or dropped and logged. -/
  | hostScalarWrite (dt : Nat) (off : BitVec 27) (data : List Byte) (requester : BitVec 16)
  /-- HOST_SCALAR_READ (R52). A PCIe read in BAR0 completes successfully, returning all ones and recording the failure when the access fails. -/
  | hostScalarRead (dt : Nat) (off : BitVec 27) (len : Nat)
  /-- HOST_ROW_WRITE (R56). A posted PCIe write in a BAR2 aperture is applied atomically within each table row it touches. -/
  | hostRowWrite (dt : Nat) (off : BitVec 30) (data : List Byte) (requester : BitVec 16)
  /-- HOST_ROW_READ (R54). A PCIe read in a BAR2 aperture returns octets of the bound table's rows, or all ones when unbound. -/
  | hostRowRead (dt : Nat) (off : BitVec 30) (len : Nat)
  /-- SPI_FRAME (R66). A complete SPI request frame is checked for CRC, opcode and length, and answered with marker 0x5A or 0xC3. -/
  | spiFrame (dt : Nat) (octets : List Byte)
  /-- SPI_FRAME_DISCARD (R68). Chip select deasserted before the last CRC octet discards the frame, and no access is made. -/
  | spiFrameDiscard (dt : Nat) (octets : List Byte)
  /-- READ_SCALAR (R64). Opcode 0x01 reads one scalar slot, from an SPI frame or as an operation of a remote Request. -/
  | readScalar (dt : Nat) (path : Path) (idx : BitVec 16) (sub : BitVec 8)
  /-- WRITE_SCALAR (R64). Opcode 0x02 writes one scalar slot, from an SPI frame or as an operation of a remote Request. -/
  | writeScalar (dt : Nat) (path : Path) (idx : BitVec 16) (sub : BitVec 8) (value : BitVec 64)
  /-- READ_ROW (R64). Opcode 0x03 reads words of a table row in the selected generation. -/
  | readRow (dt : Nat) (path : Path) (idx : BitVec 16) (row : BitVec 24) (sketch : Bool) (off : Nat) (len : Nat)
  /-- WRITE_ROW (R64). Opcode 0x04 writes words of a table row, reaching the Sketch for a staged table. -/
  | writeRow (dt : Nat) (path : Path) (idx : BitVec 16) (row : BitVec 24) (sketch : Bool) (off : Nat) (data : List Byte)
  /-- OPEN (R75). A received Open PDU is answered with Challenge or Refuse, and a session number is assigned. -/
  | openSession (dt : Nat) (port : Port) (via : Via) (pdu : List Byte)
  /-- CONFIRM (R74). A valid Confirm derives the session key, opens the session and is answered with Accept. -/
  | confirm (dt : Nat) (port : Port) (via : Via) (pdu : List Byte)
  /-- REQUEST (R77). A Request PDU is checked for tag and sequence number and its operations are run in order. -/
  | request (dt : Nat) (port : Port) (via : Via) (pdu : List Byte)
  /-- CLOSE (R80). A received Close frees the session and is answered with Closed. -/
  | closeSession (dt : Nat) (port : Port) (via : Via) (pdu : List Byte)
  /-- CONFIRM_TIMEOUT (R74). A session with no valid Confirm within 1 s of its Challenge is freed. -/
  | confirmTimeout (dt : Nat) (session : Fin 32)
  /-- SESSION_IDLE_TIMEOUT (R80). A session whose idle time exceeds SessionIdleTimeout closes. -/
  | sessionIdleTimeout (dt : Nat) (session : Fin 32)
  /-- SESSION_FORCE_CLOSE (R80). The command closes the named remote session. -/
  | sessionForceClose (dt : Nat) (path : Path) (value : BitVec 64)
  /-- REMOTE_OD_ENABLE (R83). Writing 0 to RemoteOdEnable closes every session, and remote PDUs are then dropped. -/
  | remoteOdEnable (dt : Nat) (path : Path) (value : BitVec 64)
  /-- APPLICATION_RESET (R21). The application cluster enters reset or restarts, closing remote sessions and refusing its commands with 0x03. -/
  | applicationReset (dt : Nat)
  /-- APPLICATION_RUNNING (R113). The application cluster runs again, and its internal ports may become Up. -/
  | applicationRunning (dt : Nat)
  /-- SKETCH_COMMIT (R43). The command freezes the Sketch and starts the admission and gateway checks, or is refused with 0x03. -/
  | sketchCommit (dt : Nat) (path : Path) (value : BitVec 64)
  /-- COMMIT_CHECK_END (R43). The checks end, and the commit is Refused, Approved or refused for a passed CommitTime. -/
  | commitCheckEnd (dt : Nat) (admissionMicros gatewayMicros : Nat)
  /-- SWAP (R46). At the swap instant every staged table takes the Sketch as its Fair copy, and FairCopyGeneration increases. -/
  | swap (dt : Nat)
  /-- REALIGNING_END (R46). Realigning ends once the Sketch equals the Fair copy and the old generation is retired, and CommitState becomes Idle. -/
  | realigningEnd (dt : Nat)
  /-- GENERATION_RETIRE (R161). The previous generation is retired when no tagged frame remains, or at 50 µs, dropping stragglers. -/
  | generationRetire (dt : Nat)
  /-- SKETCH_DISCARD (R47). The command resets the Sketch to the Fair copy and cancels an Approved swap. -/
  | sketchDiscard (dt : Nat) (path : Path) (value : BitVec 64)
  /-- COMMIT_TIME (R45). A write of CommitTime or CommitTimeFrac while Approved moves the scheduled swap. -/
  | commitTime (dt : Nat) (path : Path) (frac : Bool) (value : BitVec 64)
  /-- ATTACHMENT_BINDING (R88). A write of AttachmentBinding swaps the bindings of two Disabled slices, or is refused with 0x03. -/
  | attachmentBinding (dt : Nat) (path : Path) (port : Port) (value : BitVec 64)
  /-- PORT_ENABLE (R110). A write of PortEnable moves the port between Disabled, Starting and Flushing, or sets a pending enable. -/
  | portEnable (dt : Nat) (path : Path) (port : Port) (value : BitVec 64)
  /-- FLUSH_COMPLETE (R116). The flush ends, and the port enters Starting or Disabled. -/
  | flushComplete (dt : Nat) (port : Port)
  /-- LINK_UP (R111). The attachment meets its link-up condition, and the Starting port becomes Up. -/
  | linkUp (dt : Nat) (port : Port) (reported : BitVec 8)
  /-- LINK_LOST (R111). The attachment reports loss of link, and the Up port enters Flushing within 10 µs. -/
  | linkLost (dt : Nat) (port : Port)
  /-- BUS_OFF (R98). A CAN controller goes bus-off, and the port enters Flushing. -/
  | busOff (dt : Nat) (port : Port)
  /-- SERVING_FUNCTION_STOPPED (R113). An internal port loses its Up condition and enters Flushing. -/
  | servingFunctionStopped (dt : Nat) (port : Port)
  /-- KLINE_INIT (R103). The K-line channel performs its initialisation, repeated every 5 s until it succeeds. -/
  | klineInit (dt : Nat) (port : Port) (success : Bool)
  /-- LIN_SLOT (R101). A LIN master slot starts: a header is sent with or without a published response, or the slot is empty. -/
  | linSlot (dt : Nat) (port : Port)
  /-- LIN_HEADER (R102). A LIN slave receives a header and answers it from its queues or takes the response as a cell. -/
  | linHeader (dt : Nat) (port : Port) (frameId : BitVec 6)
  /-- J1708_COLLISION (R103). A read-back difference stops the J1708 message, counts a collision and competes again. -/
  | j1708Collision (dt : Nat) (port : Port)
  /-- ARBITRATION_LOST (R99). A CAN frame loses arbitration, and the transmit stage is chosen again. -/
  | arbitrationLost (dt : Nat) (port : Port)
  /-- FRAME_ARRIVAL (R10). A frame's first word arrives at an ingress attachment, and cell writing starts or the frame is discarded. -/
  | frameArrival (dt : Nat) (port : Port) (rx : Rx)
  /-- LOOKAHEAD_COMPLETE (R192). The frame's lookahead is complete, and it takes a decision slot for steps 2 to 7. -/
  | lookaheadComplete (dt : Nat) (frame : Nat) (octets : List Byte)
  /-- FRAME_TAIL (R131). The frame's last octet arrives, and the check sequence, tail checks and charge are settled. -/
  | frameTail (dt : Nat) (frame : Nat) (rx : Rx) (how : RxEnd)
  /-- RECIRCULATION (R159). Port 246 or 247 takes a queued copy into its second pass. -/
  | recirculation (dt : Nat) (upper : Bool)
  /-- TRANSMISSION_END (R124). A copy has been sent, its entry ends, and the port selects its next frame. -/
  | transmissionEnd (dt : Nat) (port : Port)
  /-- ELIGIBILITY_TIME (R218). A head's eligibility time arrives, and the port's selection runs. -/
  | eligibilityTime (dt : Nat) (port : Port)
  /-- GATE_ENTRY (R214). A gate control list entry or cycle starts, applying its gate states. -/
  | gateEntry (dt : Nat) (port : Port)
  /-- CONFIG_CHANGE (R216). At ConfigChangeTime the new gate control list starts at entry 0. -/
  | configChange (dt : Nat) (port : Port)
  /-- PREEMPTION_POINT (R223). A preemptable frame stops at its preemption point, and the express frame starts after the gap. -/
  | preemptionPoint (dt : Nat) (port : Port)
  /-- VERIFY_ATTEMPT (R222). An IEEE 802.3br verification attempt is made every VerifyTime, up to 3. -/
  | verifyAttempt (dt : Nat) (port : Port)
  /-- LIFETIME_EXPIRY (R278). A copy with no attempt running at its expiry instant is removed as a failure. -/
  | lifetimeExpiry (dt : Nat) (port : Port)
  /-- OVERDUE_AT_HEAD (R261). Vehicle time passes a head copy's bound, and a delivery fault is raised. -/
  | overdueAtHead (dt : Nat) (port : Port)
  /-- QUEUE_DEPTH_SAMPLE (R259). Every 1.024 µs the depth of each queue is sampled into QueueDepthPeak. -/
  | queueDepthSample (dt : Nat)
  /-- EXCEPTION_REFILL (R155). Every 1 ms the per-reason and aggregate exception token buckets are refilled. -/
  | exceptionRefill (dt : Nat)
  /-- FIREWALL_ENABLE (R150). Writing 0 starts freeing every session, and writing 1 during freeing is held. -/
  | firewallEnable (dt : Nat) (path : Path) (value : BitVec 64)
  /-- SESSION_FLUSH (R162). The command frees every firewall session, as a write of 0 to FirewallEnable does. -/
  | sessionFlush (dt : Nat) (path : Path) (value : BitVec 64)
  /-- SESSION_FREEING_END (R150). The freeing of sessions ends, and a pending enable resumes the firewall. -/
  | sessionFreeingEnd (dt : Nat)
  /-- SESSION_EXPIRY (R148). The sweep frees a session whose idle time has reached its state's timeout. -/
  | sessionExpiry (dt : Nat) (row : Fin 16384)
  /-- FIREWALL_SESSION_WRITE (R149). A write of a FirewallSessions row creates, changes or deletes a session. -/
  | firewallSessionWrite (dt : Nat) (path : Path) (row : BitVec 24) (off : Nat) (data : List Byte)
  /-- FRAGMENT_EXPIRY (R153). A fragment entry becomes invalid when its lifetime ends. -/
  | fragmentExpiry (dt : Nat) (row : Fin 1024)
  /-- FDB_ENTRY_WRITE (R178). A write of a ForwardingDatabase row adds or removes a static entry. -/
  | fdbEntryWrite (dt : Nat) (path : Path) (row : BitVec 24) (off : Nat) (data : List Byte)
  /-- AGEING_SWEEP (R180). Every AgeingTime, dynamic entries without Hit are freed and Hit is cleared elsewhere. -/
  | ageingSweep (dt : Nat)
  /-- FDB_FLUSH_DYNAMIC (R198). The command starts freeing every dynamic forwarding entry. -/
  | fdbFlushDynamic (dt : Nat) (path : Path) (value : BitVec 64)
  /-- FDB_FLUSH_END (R198). The dynamic flush ends, and no dynamic entry remains. -/
  | fdbFlushEnd (dt : Nat)
  /-- SYNC_RECEIVED (R204). A Sync on the source instance's slave port drives the servo to step or slew vehicle time. -/
  | syncReceived (dt : Nat) (inst : Fin 2) (port : Port) (grandmaster : Nat) (logInterval : Int)
  /-- SYNC_RECEIPT_TIMEOUT (R205). No Sync arrives within the timeout, and TimeStatus enters Holdover. -/
  | syncReceiptTimeout (dt : Nat)
  /-- HOLDOVER_EXPIRY (R205). HoldoverLimit elapses in Holdover, and TimeStatus becomes Holdover expired. -/
  | holdoverExpiry (dt : Nat)
  /-- GRANDMASTER_ENTRY (R205). The source instance becomes grandmaster of its domain, and TimeStatus becomes Grandmaster. -/
  | grandmasterEntry (dt : Nat)
  /-- GPTP_MESSAGE (R202). An 802.1AS message other than Sync is handled by the time function for delay, relay or roles. -/
  | gptpMessage (dt : Nat) (inst : Fin 2) (port : Port) (msg : GptpMsg)
  /-- PDELAY_REQUEST (R202). At each LogPdelayInterval, a port starts a peer delay measurement. -/
  | pdelayRequest (dt : Nat) (port : Port)
  /-- SYNC_TRANSMIT (R202). At each sync interval, the instance sends Sync and Follow_Up on its master ports. -/
  | syncTransmit (dt : Nat) (inst : Fin 2)
  /-- VEHICLE_TIME_READ (R201). A read of VehicleTimeNow latches the fraction for its access path. -/
  | vehicleTimeRead (dt : Nat) (path : Path)
  /-- STREAM_UNBLOCK (R242). The command unblocks the named stream. -/
  | streamUnblock (dt : Nat) (path : Path) (value : BitVec 64)
  /-- RECOVERY_RESET_TIMEOUT (R247). A recovery function's reset timeout expires, and its history is reset. -/
  | recoveryResetTimeout (dt : Nat) (row : Fin 1024)
  /-- GATEWAY_CHANNEL_ENABLE (R282). Writing 0 starts a gateway channel shut-down, and writing 1 enables the channel or sets a pending enable. -/
  | gatewayChannelEnable (dt : Nat) (path : Path) (port : Port) (value : BitVec 64)
  /-- SHUT_DOWN_END (R282). The shut-down ends, and the channel becomes Disabled or, if pending, Enabled. -/
  | shutDownEnd (dt : Nat) (port : Port)
  /-- JOB_SUBMIT (R305). The command queues a Glove job slot or refuses it. -/
  | jobSubmit (dt : Nat) (path : Path) (page : Fin 64) (value : BitVec 64)
  /-- JOB_DISPATCH (R306). A queued job is dispatched to a free CMAC context, and its key slot is checked. -/
  | jobDispatch (dt : Nat) (unit : Fin 4)
  /-- MAC_GENERATE (R307). A MacGenerate job completes and writes its MAC. -/
  | macGenerate (dt : Nat) (page : Fin 64) (slot : Fin 16)
  /-- MAC_VERIFY (R307). A MacVerify job completes with a match or mismatch result. -/
  | macVerify (dt : Nat) (page : Fin 64) (slot : Fin 16)
  /-- MAC_GENERATE_FRESH (R310). A MacGenerateFresh job completes with its MAC and freshness value. -/
  | macGenerateFresh (dt : Nat) (page : Fin 64) (slot : Fin 16)
  /-- MAC_VERIFY_FRESH (R311). A MacVerifyFresh job decides freshness and MAC at completion, and may advance the counter. -/
  | macVerifyFresh (dt : Nat) (page : Fin 64) (slot : Fin 16)
  /-- JOB_SLOT_FREE (R308). Writing 0 to the State of a Done slot frees it. -/
  | jobSlotFree (dt : Nat) (path : Path) (page : Fin 64) (slot : Fin 16)
  /-- PAGE_ENABLE (R319). Writing 0 to PageEnable starts closing the Glove, and writing 1 enables it or sets a pending enable. -/
  | pageEnable (dt : Nat) (path : Path) (page : Fin 64) (value : BitVec 64)
  /-- PAGE_CLOSING_END (R319). No job of the page is running, so its rows are cleared and it becomes Disabled. -/
  | pageClosingEnd (dt : Nat) (page : Fin 64)
  /-- FRESHNESS_COUNTER_LOAD (R313). A write to a freshness counter row loads it, or is refused while its key is unchanged. -/
  | freshnessCounterLoad (dt : Nat) (path : Path) (row : BitVec 24) (off : Nat) (data : List Byte)
  /-- ARBITER_REFILL (R315). Every 256 fabric cycles the arbiter refills its credits and counts waiting requesters. -/
  | arbiterRefill (dt : Nat) (words : List Nat)
  /-- ARBITER_GRANT (R315). With the port idle or a transfer ending, the arbiter grants the requester with the highest credit. -/
  | arbiterGrant (dt : Nat) (words : List Nat)
  /-- REQUESTER_MASK (R316). The power controller asserts or releases a requester's mask, stopping its transfer or parking. -/
  | requesterMask (dt : Nat) (requester : Fin 8) (asserted : Bool)
  /-- KEY_LOAD (R334). A KeyTable write with Op Load loads or replaces a key, is held, or is refused. -/
  | keyLoad (dt : Nat) (path : Path) (row : BitVec 24) (off : Nat) (data : List Byte)
  /-- KEY_INVALIDATE (R335). A KeyTable write with Op Invalidate zeroises the slot and starts a sweep. -/
  | keyInvalidate (dt : Nat) (path : Path) (row : BitVec 24) (off : Nat) (data : List Byte)
  /-- SWEEP_END (R335). The key sweep ends, Invalidating slots become Empty, and held loads are applied. -/
  | sweepEnd (dt : Nat)
  /-- TAMPER (R339). A TAMPER_N low is accepted, and every key is destroyed and TamperLatched set. -/
  | tamper (dt : Nat)
  /-- SIGN_DATA (R343). A SignatureJobs row is submitted with Op SignData. -/
  | signData (dt : Nat) (path : Path) (row : Fin 2) (off : Nat) (data : List Byte)
  /-- SIGN_DIGEST (R343). A SignatureJobs row is submitted with Op SignDigest. -/
  | signDigest (dt : Nat) (path : Path) (row : Fin 2) (off : Nat) (data : List Byte)
  /-- VERIFY_DATA (R343). A SignatureJobs row is submitted with Op VerifyData. -/
  | verifyData (dt : Nat) (path : Path) (row : Fin 2) (off : Nat) (data : List Byte)
  /-- VERIFY_DIGEST (R343). A SignatureJobs row is submitted with Op VerifyDigest. -/
  | verifyDigest (dt : Nat) (path : Path) (row : Fin 2) (off : Nat) (data : List Byte)
  /-- SIGNATURE_OPERATION_END (R341). The signature unit completes an operation and starts the next user's, in the order of R342. -/
  | signatureOperationEnd (dt : Nat)
  /-- ATTEST_GENERATE (R344). The command builds a signed COSE_Sign1 attestation statement. -/
  | attestGenerate (dt : Nat) (path : Path) (value : BitVec 64)
  /-- RECORD_SEAL_ENABLE (R351). A write of RecordSealEnable starts Running, moves to Closing, or sets a pending enable. -/
  | recordSealEnable (dt : Nat) (path : Path) (value : BitVec 64)
  /-- SEAL_KEY_SLOT (R353). A write of SealKeySlot or SealSignSlot takes effect at once, and may stall the seal or start a chain. -/
  | sealKeySlot (dt : Nat) (path : Path) (sign : Bool) (value : BitVec 64)
  /-- RECORD_TAKE (R346). The seal unit takes a record from port 244's queues. -/
  | recordTake (dt : Nat)
  /-- RECORD_SEALED (R347). A record's chained MAC is complete, and its seal PDU is emitted into the fabric. -/
  | recordSealed (dt : Nat)
  /-- BATCH_CUT (R349). A batch is cut at BatchSize records or after 60 s, and its statement is signed. -/
  | batchCut (dt : Nat)
  /-- SEAL_CLOSING_END (R351). Closing ends with a final batch statement, and the seal becomes Disabled or Running. -/
  | sealClosingEnd (dt : Nat)
  /-- SLEEP_ENTRY (R378). Every enabled ring is in BusSleep with sleep enabled, and the device begins SleepEntry. -/
  | sleepEntry (dt : Nat)
  /-- SLEEP_ENTRY_COMPLETE (R378). The core reports completion, and the Mitten records time, releases INH_OUT and enters Asleep. -/
  | sleepEntryComplete (dt : Nat)
  /-- SLEEP_ENTRY_TIMEOUT (R380). Without completion by SleepEntryTimeout, the Mitten sleeps on the fail-safe path. -/
  | sleepEntryTimeout (dt : Nat)
  /-- WAKE_INPUT_ACTIVATION (R374). An accepted change to a wake input's active level is judged a wake or masked as chatter. -/
  | wakeInputActivation (dt : Nat) (input : Fin 16)
  /-- WAKE_INPUT_DEACTIVATION (R373). An accepted change back from the active level ends the input's Active state and holding. -/
  | wakeInputDeactivation (dt : Nat) (input : Fin 16)
  /-- WAKE_INPUT_STUCK (R374). An input that has been Active for 10 s with no frame is masked as stuck. -/
  | wakeInputStuck (dt : Nat) (input : Fin 16)
  /-- WAKE_INPUT_UNMASK (R374). A masked input that has been inactive for 100 ms is unmasked. -/
  | wakeInputUnmask (dt : Nat) (input : Fin 16)
  /-- DEVICE_WAKE (R381). With rails and REFCLK good after INH_OUT, the PLLs lock, retention is restored and the device runs. -/
  | deviceWake (dt : Nat) (env : StartEnv)
  /-- RING_ENABLE (R372). A write of RingEnable enters Awake, starts Closing, sets a pending enable or is refused. -/
  | ringEnable (dt : Nat) (path : Path) (ring : Fin 32) (value : BitVec 64)
  /-- RING_CLOSING_END (R372). Closing ends, and the ring becomes Disabled or, if pending, Awake. -/
  | ringClosingEnd (dt : Nat) (ring : Fin 32)
  /-- LOCAL_CONSENT (R365). A write of LocalConsent changes the local holder, and writing 0 is a wake request. -/
  | localConsent (dt : Nat) (path : Path) (ring : Fin 32) (value : BitVec 64)
  /-- RING_MESSAGE (R362). A received ring message is validated and updates its member row and the ring's consent. -/
  | ringMessage (dt : Nat) (ring : Fin 32) (port : Port) (sender : BitVec 6) (payload : List Byte)
  /-- RING_PERIOD (R361). At each RingPeriod tick the Siorper sends its ring message and evaluates consent. -/
  | ringPeriod (dt : Nat) (ring : Fin 32)
  /-- COMMIT_WINDOW (R365). Consent has held for RingPeriod, so CommitWindow starts with a CommitNotice message. -/
  | commitWindow (dt : Nat) (ring : Fin 32)
  /-- WINDOW_END (R368). The commit window ends without a wake request, and each ring port takes its sleep step. -/
  | windowEnd (dt : Nat) (ring : Fin 32)
  /-- SLEEP_STEP_COMPLETE (R368). A port completes its sleep step, and the ring reaches BusSleep once all have. -/
  | sleepStepComplete (dt : Nat) (ring : Fin 32) (port : Port)
  /-- BUS_SLEEP_FORCED (R368). A sleep step not completed 20 ms after WindowEnd is forced. -/
  | busSleepForced (dt : Nat) (ring : Fin 32)
  /-- SILENCE_TIMEOUT (R365). A member without a valid message for SilenceTimeout ring periods becomes silent. -/
  | silenceTimeout (dt : Nat) (ring : Fin 32) (member : Fin 64)
  /-- FALSE_WAKE_TIMEOUT (R370). No frame since an ordinary wake, so the ring returns to BusSleepEntry. -/
  | falseWakeTimeout (dt : Nat) (ring : Fin 32)
  /-- WAKE_UP_PULSE (R376). A TC10 WUP received on a sleeping T1 port is a wake request for its ring. -/
  | wakeUpPulse (dt : Nat) (port : Port)
  /-- WAKE_UP_REQUEST (R376). A received TC10 WUR is a wake request for the port's ring. -/
  | wakeUpRequest (dt : Nat) (port : Port)
  /-- TC10_SLEEP_REQUEST (R376). A link partner's TC10 sleep request is acknowledged only in BusSleepEntry. -/
  | tc10SleepRequest (dt : Nat) (port : Port)
  /-- FAULT_DETECTED (R386). A fault mechanism reports to the collector, which logs it and starts its reaction. -/
  | faultDetected (dt : Nat) (report : FaultReport)
  /-- RESYNCHRONISATION_END (R394). The resynchronisation ends, and waiting safety accesses complete. -/
  | resynchronisationEnd (dt : Nat)
  /-- PARTITION_RESTART_END (R395). The restart has passed its injection test, and safety firmware starts at its restart entry. -/
  | partitionRestartEnd (dt : Nat) (env : RestartEnv)
  /-- TAKE_OVER (R400). P4's take-over check ends, and P4 takes the failed pipeline's ports or leaves them interrupted. -/
  | takeOver (dt : Nat) (checkOk : Bool)
  /-- ISOLATION_VIOLATION (R389). A write reaching the safety write gate with another identity is discarded and logged. -/
  | isolationViolation (dt : Nat) (requester : BitVec 8) (address : BitVec 64)
  /-- ENTER_FAIL_SAFE (R399). The command puts the safety partition into fail-safe with cause 0x41. -/
  | enterFailSafe (dt : Nat) (path : Path) (value : BitVec 64)
  /-- SAFE_RELEASE (R399). The command releases SAFE_N when the last injection test passed. -/
  | safeRelease (dt : Nat) (path : Path) (value : BitVec 64)
  /-- WATCHDOG_SERVICE (R399). The command services the safety watchdog. -/
  | watchdogService (dt : Nat) (path : Path) (value : BitVec 64)
  /-- WATCHDOG_EXPIRY (R399). An interval beyond WatchdogPeriod without service is reported as source 0x05. -/
  | watchdogExpiry (dt : Nat)
  /-- PERIODIC_TEST_RUN (R404). The command starts the periodic test of the safety mechanisms. -/
  | periodicTestRun (dt : Nat) (path : Path) (value : BitVec 64)
  /-- PERIODIC_TEST_END (R404). The periodic run ends, and PeriodicTestResult and LatentTestAge are set. -/
  | periodicTestEnd (dt : Nat) (digitalOk : Bool)
  /-- PERIODIC_TEST_LIMIT (R423). The periodic run reaches its 20 ms limit and aborts running tests with cause 0x07. -/
  | periodicTestLimit (dt : Nat)
  /-- PIPELINE_TEST (R403). The command moves a pipeline's ports to P4 and tests it. -/
  | pipelineTest (dt : Nat) (path : Path) (value : BitVec 64)
  /-- PIPELINE_TEST_END (R403). The pipeline test ends with pass, fail or abort, and the ports move back. -/
  | pipelineTestEnd (dt : Nat) (result : TestEnd)
  /-- LATENT_TEST_OVERDUE (R404). LatentTestAge reaches 8 h, and source 0x32 is reported once. -/
  | latentTestOverdue (dt : Nat)
  /-- SCRUB (R401). The scrubber reads every protected word once per second, correcting or restoring rows. -/
  | scrub (dt : Nat) (found : List ScrubFind)
  /-- SELF_TEST_RUN (R416). The command starts, holds, refuses or marks not started the test of a SelfTestBlocks row. -/
  | selfTestRun (dt : Nat) (path : Path) (value : BitVec 64)
  /-- SELF_TEST_ABORT (R418). The command aborts a running test or cancels a held start. -/
  | selfTestAbort (dt : Nat) (path : Path) (value : BitVec 64)
  /-- TEST_STEPS_END (R417). A test's steps end, and the block is restored and read back. -/
  | testStepsEnd (dt : Nat) (row : Fin 128) (codes : List (BitVec 8 × StepResult))
  /-- RESTORING_END (R417). Restoring ends, the verdict is recorded, the hold ends or a held start begins. -/
  | restoringEnd (dt : Nat) (row : Fin 128) (readBackOk linkUp : Bool)
  /-- HOLD_THRESHOLD (R420). The held port's queued cells reach HoldThreshold, and the test aborts. -/
  | holdThreshold (dt : Nat) (port : Port)
  /-- REFCLK_MEASUREMENT (R414). Every 256 crystal ticks RefclkDeviation is updated, and a test out of range aborts. -/
  | refclkMeasurement (dt : Nat) (count : Nat)
  /-- TEMPERATURE_MEASUREMENT (R414). Every 1 ms JunctionTemperature is measured, and a test out of range aborts. -/
  | temperatureMeasurement (dt : Nat) (milliCelsius : Int)
  /-- PORST_ASSERT (R459). PORST_N accepted low puts every pin in its reset state and resets every domain. -/
  | porstAssert (dt : Nat)
  /-- COLD_START (R437). A cold start runs the start-up sequence from PLL lock to enabled ports. -/
  | coldStart (dt : Nat) (env : StartEnv)
  /-- UPDATE_OPEN (R439). The command opens an update session and starts erasing the inactive slot. -/
  | updateOpen (dt : Nat) (path : Path) (value : BitVec 64)
  /-- ERASE_COMPLETE (R439). The target slot is erased, and UpdateState becomes Receiving. -/
  | eraseComplete (dt : Nat)
  /-- UPDATE_WINDOW_WRITE (R440). A full-row write to UpdateWindow is taken into the program queue or refused. -/
  | updateWindowWrite (dt : Nat) (path : Path) (row : BitVec 24) (off : Nat) (data : List Byte)
  /-- ROW_PROGRAMMED (R440). A queued row is programmed and read back, and a difference rejects the session. -/
  | rowProgrammed (dt : Nat) (readBackOk : Bool)
  /-- UPDATE_VERIFY (R441). The command drains the queue and starts checking the target image. -/
  | updateVerify (dt : Nat) (path : Path) (value : BitVec 64)
  /-- UPDATE_CHECK_END (R441). The target check ends with Verified or Rejected. -/
  | updateCheckEnd (dt : Nat)
  /-- UPDATE_ACTIVATE (R441). The command makes the target preferred in trial and closes the session. -/
  | updateActivate (dt : Nat) (path : Path) (value : BitVec 64)
  /-- UPDATE_ABORT (R441). The command discards the queue, erases the target header and closes the session. -/
  | updateAbort (dt : Nat) (path : Path) (value : BitVec 64)
  /-- UPDATE_CONFIRM (R442). The command clears trial flags and advances RollbackCounter. -/
  | updateConfirm (dt : Nat) (path : Path) (value : BitVec 64)
  /-- RECOVERY_REQUEST (R444). The command sets the Mitten's request for RecoveryRequested at the next start. -/
  | recoveryRequest (dt : Nat) (path : Path) (value : BitVec 64)
  /-- SYSTEM_RESTART (R445). The command performs a cold start, keeping the Mitten and the boot control blocks. -/
  | systemRestart (dt : Nat) (path : Path) (value : BitVec 64)
  /-- JTAG_UNLOCK (R446). The command invalidates slot 0, and JTAG unlocks when the sweep ends. -/
  | jtagUnlock (dt : Nat) (path : Path) (value : BitVec 64)
  /-- IMAGE_KEY_WRITE (R436). A write of ImageKeys programs a Blank row or revokes a Programmed row. -/
  | imageKeyWrite (dt : Nat) (path : Path) (row : Fin 2) (off : Nat) (data : List Byte)
  /-- SUPPLY_UP (R460). VMITTEN and VIO33 reach range, and INH_OUT is driven high within 50 µs. -/
  | supplyUp (dt : Nat)
  /-- XTAL_START (R464). The first 256 crystal ticks are counted, and XtalStatus reads Running. -/
  | xtalStart (dt : Nat)
  /-- XTAL_STOPPED (R464). No crystal tick for 250 µs while Running, so XtalStatus reads Stopped. -/
  | xtalStopped (dt : Nat)
  /-- PCIE_PERST (R465). PCIE_PERST_N changes, holding the endpoint in reset or allowing link training. -/
  | pciePerst (dt : Nat) (high : Bool)
  /-- PPS_PULSE (R470). Vehicle time reaches a whole second, and the PPS pin rises. -/
  | ppsPulse (dt : Nat)
  /-- PPS_END (R470). The pulse has lasted PpsWidth, and the PPS pin falls. -/
  | ppsEnd (dt : Nat)
  /-- POSTED_ERROR_CLEAR (R59). The command empties PostedErrorLog and its overflow count. -/
  | postedErrorClear (dt : Nat) (path : Path) (value : BitVec 64)
  /-- CLAMP_COUNTERS_CLEAR (R62). The command clears the clamp counters. -/
  | clampCountersClear (dt : Nat) (path : Path) (value : BitVec 64)
  /-- PORT_COUNTERS_CLEAR (R124). A port's CountersClear sets its group 6 counters to 0. -/
  | portCountersClear (dt : Nat) (path : Path) (port : Port) (value : BitVec 64)
  /-- CLASSIFIER_COUNTERS_CLEAR (R162). CountersClear of index 0x4000 clears its counters, ExceptionCounters and RuleHits. -/
  | classifierCountersClear (dt : Nat) (path : Path) (value : BitVec 64)
  /-- QUEUE_COUNTERS_CLEAR (R197). The command clears a port's queue counters. -/
  | queueCountersClear (dt : Nat) (path : Path) (port : Port) (value : BitVec 64)
  /-- FORWARDING_COUNTERS_CLEAR (R198). CountersClear of index 0x3000 clears 0x3000:08 to 0x3000:11. -/
  | forwardingCountersClear (dt : Nat) (path : Path) (value : BitVec 64)
  /-- GATE_COUNTERS_CLEAR (R230). The command clears a port's gate counters. -/
  | gateCountersClear (dt : Nat) (path : Path) (port : Port) (value : BitVec 64)
  /-- SHAPING_COUNTERS_CLEAR (R231). The command clears a port's preemption and eligibility counters. -/
  | shapingCountersClear (dt : Nat) (path : Path) (port : Port) (value : BitVec 64)
  /-- TIME_COUNTERS_CLEAR (R232). The command clears the time counters and the AtsState counter fields. -/
  | timeCountersClear (dt : Nat) (path : Path) (value : BitVec 64)
  /-- DELIVERY_FAULT_LOG_CLEAR (R262). The command empties the delivery fault log. -/
  | deliveryFaultLogClear (dt : Nat) (path : Path) (value : BitVec 64)
  /-- STREAM_COUNTERS_CLEAR (R263). The command clears the stream and recovery counter fields and the exemption counts. -/
  | streamCountersClear (dt : Nat) (path : Path) (value : BitVec 64)
  /-- SAMPLING_CLEAR (R264). The command clears a port's peaks, histograms and removals, and restarts sampling. -/
  | samplingClear (dt : Nat) (path : Path) (port : Port) (value : BitVec 64)
  /-- GATEWAY_PORT_COUNTERS_CLEAR (R290). The command clears a port's gateway drop counters. -/
  | gatewayPortCountersClear (dt : Nat) (path : Path) (port : Port) (value : BitVec 64)
  /-- GATEWAY_FAILURE_CLEAR (R280). The command empties GatewayFailureLog and its overflow count. -/
  | gatewayFailureClear (dt : Nat) (path : Path) (value : BitVec 64)
  /-- GATEWAY_COUNTERS_CLEAR (R291). The command clears the gateway counters and RouteCounters. -/
  | gatewayCountersClear (dt : Nat) (path : Path) (value : BitVec 64)
  /-- STARVATION_CLEAR (R317). The command clears the named starvation flags. -/
  | starvationClear (dt : Nat) (path : Path) (value : BitVec 64)
  /-- MACSEC_COUNTERS_CLEAR (R323). The command clears a port's 802.1AE counters. -/
  | macsecCountersClear (dt : Nat) (path : Path) (port : Port) (value : BitVec 64)
  /-- KEEP_AWAKE_LOG_CLEAR (R371). The command empties the keep-awake log. -/
  | keepAwakeLogClear (dt : Nat) (path : Path) (value : BitVec 64)
  /-- RING_COUNTERS_CLEAR (R383). The command clears a ring's counters and HeldTotal fields. -/
  | ringCountersClear (dt : Nat) (path : Path) (ring : Fin 32) (value : BitVec 64)
  /-- FAULT_LOG_CLEAR (R388). The command empties the fault log. -/
  | faultLogClear (dt : Nat) (path : Path) (value : BitVec 64)
  /-- CAN_ERROR_FRAME (R278). A CAN-family controller detects a bus error and an error frame ends the current frame, updating its error
  counters and error state and failing a transmission attempt in progress. -/
  | canErrorFrame (dt : Nat) (port : Port) (transmitting : Bool) (tec rec : BitVec 8)
  /-- VERIFY_MPACKET_RECEIVED (R222). A verify or respond mPacket of IEEE 802.3br verification arrives from the link partner, answering it
  or moving VerifyStatus to succeeded. -/
  | verifyMpacketReceived (dt : Nat) (port : Port) (respond : Bool)
  /-- PCIE_LINK_UP (R113). PCIe link training completes and the link reaches L0, so host ports 224–231 can become Up. -/
  | pcieLinkUp (dt : Nat)
  /-- BUS_MASTER_ENABLE (R314). The host sets or clears Bus Master Enable, unmasking or masking arbiter requesters 0 and 1 and making
  ports 224–231 able or unable to be Up. -/
  | busMasterEnable (dt : Nat) (set : Bool)
deriving DecidableEq, Repr

end Sys2Proof
end

