-- ==== Sys2Proof/WellFormed.lean ====
section
/-! DEFINITION. The commands that can occur: the limits that the spec sets to what comes from outside. The model gives every
command a meaning, well formed or not; the limits say which commands the world can send. -/

namespace Sys2Proof

/-- Whether a bus frame of a kind of R105 can carry its octets: classical CAN 8, CAN FD 64, CAN XL 2,048, LIN 8. What comes on a
serial line has no limit before the channel tests it (R103). -/
def BusFrame.fits (f : BusFrame) : Bool :=
  match f.kind.toNat with
  | 1 => decide (f.data.length ≤ 8)
  | 2 => decide (f.data.length ≤ 64)
  | 3 => decide (f.data.length ≤ 2048)
  | 4 => decide (f.data.length ≤ 8)
  | _ => true

/-- What an attachment can hand over: an Ethernet frame or mPacket of at least one octet, a bus frame within its kind. -/
def Rx.wellFormed : Rx → Bool
  | .eth octets => !octets.isEmpty
  | .preemptable _ octets => !octets.isEmpty
  | .bus f => f.fits

/-- What a start can find (R327, R425): the durations within their limits. -/
def StartEnv.wellFormed (e : StartEnv) : Bool := decide (e.pufMicros ≤ 3500) && decide (e.mbistMicros ≤ 15000)

/-- The octets of a table access: 1 to 256, the longest run that a remote operation, an SPI frame or a TLP carries
(R50, R64, R78). -/
def spanFits (n : Nat) : Bool := decide (1 ≤ n) && decide (n ≤ 256)

/-- A remote PDU: at most 1,472 octets (R70). -/
def pduWithin (pdu : List Byte) : Bool := decide (pdu.length ≤ 1472)

/-- Whether a command can occur (R50, R70, R78, R252, R288, R315, R360, R425). -/
def Instr.wellFormed : Instr → Bool
  | .hostScalarWrite _ off data _ => spanFits data.length && decide (off.toNat + data.length ≤ 2 ^ 27)
  | .hostScalarRead _ off len => decide (1 ≤ len) && decide (len ≤ 512) && decide (off.toNat + len ≤ 2 ^ 27)
  | .hostRowWrite _ off data _ => spanFits data.length && decide (off.toNat + data.length ≤ 2 ^ 30)
  | .hostRowRead _ off len => decide (1 ≤ len) && decide (len ≤ 512) && decide (off.toNat + len ≤ 2 ^ 30)
  | .spiFrame _ octets => !octets.isEmpty
  | .readRow _ _ _ _ _ _ len => spanFits len
  | .writeRow _ _ _ _ _ _ data => spanFits data.length
  | .openSession _ _ _ pdu => pduWithin pdu
  | .confirm _ _ _ pdu => pduWithin pdu
  | .request _ _ _ pdu => pduWithin pdu
  | .closeSession _ _ _ pdu => pduWithin pdu
  | .commitCheckEnd _ adm gw => decide (adm ≤ 40000) && decide (gw ≤ 30000)
  | .frameArrival _ _ rx => rx.wellFormed
  | .frameTail _ _ rx how => match rx with
    | .bus f => f.fits && how != .badAssembly
    | .eth octets => decide (4 ≤ octets.length) && how != .badAssembly
    | .preemptable _ octets => decide (4 ≤ octets.length)
  | .firewallSessionWrite _ _ _ _ data => spanFits data.length
  | .fdbEntryWrite _ _ _ _ data => spanFits data.length
  | .freshnessCounterLoad _ _ _ _ data => spanFits data.length
  | .arbiterRefill _ words => decide (words.length ≤ 8) && words.all fun n => decide (n ≤ 16)
  | .arbiterGrant _ words => decide (words.length ≤ 8) && words.all fun n => decide (n ≤ 16)
  | .keyLoad _ _ _ _ data => spanFits data.length
  | .keyInvalidate _ _ _ _ data => spanFits data.length
  | .signData _ _ _ _ data => spanFits data.length
  | .signDigest _ _ _ _ data => spanFits data.length
  | .verifyData _ _ _ _ data => spanFits data.length
  | .verifyDigest _ _ _ _ data => spanFits data.length
  | .deviceWake _ env => env.wellFormed
  | .ringMessage _ _ _ _ payload => payload.length == 8
  | .testStepsEnd _ _ codes => decide (codes.length ≤ 65535)
  | .coldStart _ env => env.wellFormed
  | .updateWindowWrite _ _ _ _ data => spanFits data.length
  | .imageKeyWrite _ _ _ _ data => spanFits data.length
  | .temperatureMeasurement _ t => decide (-273150 ≤ t)
  | _ => true

end Sys2Proof
end

