-- ==== Sys2Proof/Machine/Bits.lean ====
section
/-! DEFINITION. Octets and bit fields: the little-endian placement of R34 and the most-significant-first order of protocol
headers. -/

namespace Sys2Proof.Machine

/-- The number whose octets are given least significant first. -/
def leNat : List Byte → Nat
  | [] => 0
  | b :: bs => b.toNat + 256 * leNat bs

/-- The `n` low octets of `v`, least significant first. -/
def leBytes : Nat → Nat → List Byte
  | 0, _ => []
  | n + 1, v => BitVec.ofNat 8 v :: leBytes n (v / 256)

/-- The number whose octets are given most significant first. -/
def beNat (bs : List Byte) : Nat := bs.foldl (fun a b => 256 * a + b.toNat) 0

/-- The `n` low octets of `v`, most significant first. -/
def beBytes (n v : Nat) : List Byte := (leBytes n v).reverse

/-- The `w` bits of `v` from bit `lo` on. -/
def bits (v lo w : Nat) : Nat := v / 2 ^ lo % 2 ^ w

/-- `v` with the `w` bits from bit `lo` on replaced by the low bits of `x`. -/
def setBits (v lo w x : Nat) : Nat := v / 2 ^ (lo + w) * 2 ^ (lo + w) + x % 2 ^ w * 2 ^ lo + v % 2 ^ lo

/-- `n` octets of `bs` from octet `i` on; octets past the end are 0. -/
def octetsAt (bs : List Byte) (i n : Nat) : List Byte :=
  let t := (bs.drop i).take n
  t ++ List.replicate (n - t.length) 0#8

/-- The number in `n` octets from octet `i` on, most significant first. -/
def beAt (bs : List Byte) (i n : Nat) : Nat := beNat (octetsAt bs i n)

/-- `bs` with the octets from `i` on replaced by `xs`. -/
def overlay (bs : List Byte) (i : Nat) (xs : List Byte) : List Byte :=
  bs.take i ++ xs ++ bs.drop (i + xs.length)

/-- Division rounded up. -/
def cdiv (a b : Nat) : Nat := (a + b - 1) / b

/-- The two's complement encoding of `v` in `w` bits. -/
def ofSigned (w : Nat) (v : Int) : Nat := (v % (2 ^ w : Int)).toNat

/-- The signed value of a two's complement encoding in `w` bits. -/
def toSigned (w v : Nat) : Int := if 2 ^ (w - 1) ≤ v then (v : Int) - 2 ^ w else v

/-- Puts an element before the first one it does not follow. -/
def insertBy {α : Type} (le : α → α → Bool) (x : α) : List α → List α
  | [] => [x]
  | y :: ys => if le x y then x :: y :: ys else y :: insertBy le x ys

/-- A list in rising order, equal elements as they stood. -/
def sortBy {α : Type} (le : α → α → Bool) : List α → List α
  | [] => []
  | x :: xs => insertBy le x (sortBy le xs)

/-- The members of a set of `n` bits, in rising order. -/
def members (n set : Nat) : List Nat := (List.range n).filter fun i => set.testBit i

end Sys2Proof.Machine
end

