-- ==== Sys2Proof/Machine/Crc.lean ====
section
/-! DEFINITION. The cyclic redundancy checks that the block computes: the CRC-16 of the SPI target (R65), the CRC-32C of the hash
buckets (R140) and of the flash's layout descriptor (R432), and the FCS of Ethernet (R95). -/

namespace Sys2Proof.Machine

/-- One bit of the CRC-16: generator 0x1021, most significant bit first. -/
def crc16Bit (r : Nat) : Nat := if r / 32768 % 2 = 1 then (r * 2 % 65536) ^^^ 0x1021 else r * 2 % 65536

/-- Eight bits of the CRC-16. -/
def crc16Octet (r : Nat) (b : Byte) : Nat := Nat.repeat crc16Bit 8 (r ^^^ (b.toNat * 256))

/-- The CRC-16 of R65: initial value 0xFFFF, no reflection, no final XOR. -/
def crc16 (bs : List Byte) : Nat := bs.foldl crc16Octet 0xFFFF

/-- One bit of a reflected 32-bit CRC, least significant bit first. -/
def crc32Bit (poly r : Nat) : Nat := if r % 2 = 1 then (r / 2) ^^^ poly else r / 2

/-- Eight bits of a reflected 32-bit CRC. -/
def crc32Octet (poly r : Nat) (b : Byte) : Nat := Nat.repeat (crc32Bit poly) 8 (r ^^^ b.toNat)

/-- A reflected 32-bit CRC with initial value and final XOR 0xFFFFFFFF. -/
def crc32 (poly : Nat) (bs : List Byte) : Nat := (bs.foldl (crc32Octet poly) 0xFFFFFFFF) ^^^ 0xFFFFFFFF

/-- The CRC-32C of R140; 0x82F63B78 is 0x1EDC6F41 reflected. -/
def crc32c (bs : List Byte) : Nat := crc32 0x82F63B78 bs

/-- The FCS of IEEE 802.3 over the octets from the DA on, in the order in which it is sent (log entry 119). -/
def fcsOf (bs : List Byte) : List Byte := leBytes 4 (crc32 0xEDB88320 bs)

end Sys2Proof.Machine
end

