-- ==== Sys2Proof/Machine/Parser.lean ====
section
/-! DEFINITION. The parser of step 2 (R127 to R132, R492): the headers of a frame, the fields they give the classification
key, and the parse-incomplete and malformed marks. The layouts inside IPv4, IPv6, TCP, UDP, SecTAG, R-tag, AVTP and ACF
headers are those of their standards (log entry 7). -/

namespace Sys2Proof.Machine

/-- What the parser finds. -/
structure Parse where
  /-- A recognised header needs octets that have not arrived yet. -/
  starved : Bool := false
  incomplete : Bool := false
  malformed : Bool := false
  /-- Headers counted (R129), and the code of the last completed one. -/
  count : Nat := 0
  last : Nat := 0
  /-- The codes and first offsets of the headers, in frame order. -/
  heads : List (Nat × Nat) := []
  /-- One past the last octet of the completed headers. -/
  depth : Nat := 0
  da : Nat := 0
  sa : Nat := 0
  /-- VLAN tags seen, the TCI of the first two, and whether the first is an S-tag. -/
  tags : Nat := 0
  outer : Nat := 0
  inner : Nat := 0
  stag : Bool := false
  typ : Nat := 0
  /-- 0 for a frame without an IP header. -/
  ip : Nat := 0
  proto : Nat := 0
  tclass : Nat := 0
  src : Nat := 0
  dst : Nat := 0
  first : Bool := false
  nonFirst : Bool := false
  ident : Nat := 0
  /-- One past the last octet of the IP payload. -/
  ipEnd : Nat := 0
  l4s : Nat := 0
  l4d : Nat := 0
  tcp : Nat := 0
  /-- The offset of the R-tag's type field's TPID, plus 1, and its sequence number. -/
  rtagAt : Nat := 0
  rtagSeq : Nat := 0
  sectag : Bool := false
  secAt : Nat := 0
  avtp : Nat := 0
  busId : Nat := 0
  acfType : Nat := 0
  /-- The first octet of the ACF messages and one past the last. -/
  acfAt : Nat := 0
  acfEnd : Nat := 0
  busIdent : Nat := 0
  kind : Nat := 0
deriving DecidableEq, Repr

/-- What the field of a header names as the next header. -/
inductive NextHdr where
  | typ (t : Nat)
  | ip (n : Nat)
  | acf
  | stop
deriving DecidableEq, Repr

/-- The header code that a next-header field names (R128), 0 for none. -/
def NextHdr.code (p : Parse) : NextHdr → Nat
  | .typ 0x8100 => 0x02
  | .typ 0x88A8 => 0x03
  | .typ 0xF1C1 => 0x04
  | .typ 0x88E5 => 0x05
  | .typ 0x0800 => 0x06
  | .typ 0x86DD => 0x07
  | .typ 0x0806 => 0x0E
  | .typ 0x22F0 => 0x0F
  | .typ 0x88F7 => 0x11
  | .typ 0x88B5 => 0x12
  | .typ _ => 0
  | .ip 6 => 0x0A
  | .ip 17 => 0x0B
  | .ip 1 => 0x0C
  | .ip 58 => 0x0D
  | .ip 0 => if p.ip = 6 then 0x08 else 0
  | .ip 43 => if p.ip = 6 then 0x08 else 0
  | .ip 60 => if p.ip = 6 then 0x08 else 0
  | .ip 44 => if p.ip = 6 then 0x09 else 0
  | .ip _ => 0
  | .acf => 0x10
  | .stop => 0

/-- Octets of a header that fix its length and that the checks of R130 read, and the length they give (R492). -/
def headerLength (bs : List Byte) (code o : Nat) : Nat × Nat :=
  let at1 := fun i => (bs.getD (o + i) 0#8).toNat
  match code with
  | 0x01 => (0, 14)
  | 0x02 => (0, 4)
  | 0x03 => (0, 4)
  | 0x04 => (0, 6)
  | 0x05 => (1, 6 + (if (at1 0).testBit 5 then 8 else 0) + (if (at1 0).testBit 3 then 0 else 2))
  | 0x06 => (4, at1 0 % 16 * 4)
  | 0x07 => (6, 40)
  | 0x08 => (2, (at1 1 + 1) * 8)
  | 0x09 => (0, 8)
  | 0x0A => (13, at1 12 / 16 * 4)
  | 0x0B => (6, 8)
  | 0x0C => (0, 4)
  | 0x0D => (0, 4)
  | 0x0E => (6, 8 + 2 * (at1 4 + at1 5))
  | 0x0F => (1, if at1 0 = 0x82 then 12 else if at1 0 = 0x05 then 24 else 4)
  | 0x10 => (2, (at1 0 % 2 * 256 + at1 1) * 4)
  | 0x11 => (0, 34)
  | 0x12 => (0, 8)
  | 0x13 => (0, 32)
  | _ => (0, 0)

/-- An IPv4 address in IPv4-mapped form (R128). -/
def mapped4 (a : Nat) : Nat := 0xFFFF * 2 ^ 32 + a

/-- The bus ID of an ACF message from its octets 2 and 3 (IEEE 1722-2016, log entry 7): FlexRay, LIN and MOST hold it in octet 2, the
CAN types in octet 3, and the other types have none, so that the field does not apply (R133). -/
def acfBusId (t octet2 octet3 : Nat) : Nat :=
  if t = 0 || t = 3 || t = 4 then octet2 % 32 else if t = 1 || t = 2 then octet3 % 32 else 0

/-- The fields that a header gives, the header that follows, and whether the header makes the frame malformed (R130). `fin`
is one past the last octet before the FCS and ICV, once the frame has ended (R131). A check is made on the octets that lie
within the parser's 256 (R127). DESIGN CHOICE (log entry 142): the parse of a fragment that is not the first ends with its IP header. -/
def takeHeader (bs : List Byte) (fin : Option Nat) (code o len : Nat) (p : Parse) : Parse × NextHdr × Bool :=
  let at1 := fun i => (bs.getD (o + i) 0#8).toNat
  let be := fun i n => beAt bs (o + i) n
  let beyond := fun e => match fin with
    | some f => decide (f < e)
    | none => false
  let seen := fun n => decide (o + n ≤ 256)
  match code with
  | 0x01 => ({ p with da := be 0 6, sa := be 6 6, typ := be 12 2 }, .typ (be 12 2), false)
  | 0x04 =>
    let first := p.rtagAt == 0
    ({ p with typ := be 4 2, rtagAt := if first then o - 1 else p.rtagAt, rtagSeq := if first then be 2 2 else p.rtagSeq },
      .typ (be 4 2), false)
  | 0x05 =>
    let enc := (at1 0).testBit 3
    let hdr := if (at1 0).testBit 5 then 14 else 6
    let sl := at1 1 % 64
    let bad := match fin with
      | some f => seen 2 && sl != 0 && sl != f - (o + hdr)
      | none => false
    ({ p with sectag := true, secAt := o, typ := if enc then p.typ else be hdr 2 },
      if enc then .stop else .typ (be hdr 2), bad)
  | 0x06 =>
    let ihl := at1 0 % 16
    let total := be 2 2
    let frag := be 6 2
    let bad := (seen 1 && (at1 0 / 16 != 4 || decide (ihl < 5))) || (seen 4 && (decide (total < ihl * 4) || beyond (o + total)))
    let nonFirst := frag % 8192 != 0
    ({ p with ip := 4, proto := at1 9, tclass := at1 1, src := mapped4 (be 12 4), dst := mapped4 (be 16 4),
              nonFirst := nonFirst, first := !nonFirst && frag.testBit 13, ident := be 4 2, ipEnd := o + total },
      if nonFirst then .stop else .ip (at1 9), bad)
  | 0x07 =>
    let plen := be 4 2
    let bad := (seen 1 && at1 0 / 16 != 6) || (seen 6 && (plen == 0 || beyond (o + 40 + plen)))
    ({ p with ip := 6, proto := at1 6, tclass := be 0 2 / 16 % 256, src := be 8 16, dst := be 24 16, ipEnd := o + 40 + plen },
      .ip (at1 6), bad)
  | 0x08 => ({ p with proto := at1 0 }, .ip (at1 0), seen 2 && decide (p.ipEnd < o + len))
  | 0x09 =>
    let f := be 2 2
    let nonFirst := f / 8 != 0
    ({ p with proto := at1 0, nonFirst := nonFirst, first := !nonFirst && f.testBit 0, ident := be 4 4 },
      if nonFirst then .stop else .ip (at1 0), decide (p.ipEnd < o + 8))
  | 0x0A =>
    let doff := at1 12 / 16
    ({ p with l4s := be 0 2, l4d := be 2 2, tcp := at1 13 }, .stop,
      seen 13 && (decide (doff < 5) || decide (p.ipEnd < o + doff * 4)))
  | 0x0B =>
    let l := be 4 2
    ({ p with l4s := be 0 2, l4d := be 2 2 }, .stop,
      (seen 6 && decide (l < 8)) || (if p.first then decide (p.ipEnd < o + 8) else seen 6 && decide (p.ipEnd < o + l)))
  | 0x0C => ({ p with l4s := be 0 2, l4d := 0 }, .stop, p.first && decide (p.ipEnd < o + 4))
  | 0x0D => ({ p with l4s := be 0 2, l4d := 0 }, .stop, p.first && decide (p.ipEnd < o + 4))
  | 0x0E =>
    let h := at1 4
    let n := at1 5
    let addr := fun i => if n = 4 then mapped4 (be i 4) else be i n % 2 ^ 128
    ({ p with src := addr (8 + h), dst := addr (8 + 2 * h + n) }, .stop, false)
  | 0x0F =>
    let sub := at1 0
    let dlen := if sub = 0x82 then be 1 2 % 2048 else if sub = 0x05 then be 20 2 else 0
    let carries := sub = 0x82 || sub = 0x05
    ({ p with avtp := sub, acfAt := o + len, acfEnd := o + len + dlen },
      if carries && dlen != 0 then .acf else .stop, carries && seen len && beyond (o + len + dlen))
  | 0x10 =>
    let t := at1 0 / 2
    let n := (at1 0 % 2 * 256 + at1 1) * 4
    let k := if t = 1 then 1 else if t = 2 then 2 else if t = 3 then 3 else 7
    ({ p with acfType := k, busId := acfBusId t (at1 2) (at1 3) }, .stop,
      seen 2 && (n == 0 || decide (p.acfEnd < o + n)))
  | 0x13 => ({ p with busIdent := leNat (octetsAt bs (o + 4) 4), kind := at1 0 / 16 }, .stop, false)
  | 0x02 => vlan false
  | 0x03 => vlan true
  | _ => (p, .stop, false)
where
  /-- A VLAN tag: the first two give their TCI. -/
  vlan (s : Bool) : Parse × NextHdr × Bool :=
    let tci := beAt bs o 2
    let t := beAt bs (o + 2) 2
    ({ p with tags := p.tags + 1, typ := t, outer := if p.tags = 0 then tci else p.outer,
              inner := if p.tags = 1 then tci else p.inner, stag := if p.tags = 0 then s else p.stag }, .typ t, false)

/-- The walk over the headers (R129): 17 recognitions at the most. `total` is the number of data octets once the frame has
ended, without its FCS. A header that runs past offset 255 stops the parse, unless a check of R130 on the octets that the
parser reads finds the frame malformed (log entry 116). -/
def parseFrom (bs : List Byte) (total : Option Nat) : Nat → Nat → Nat → Parse → Parse
  | 0, _, _, p => p
  | fuel + 1, code, o, p =>
    if code = 0 then p
    else if p.count = 16 then { p with incomplete := true }
    else
      let (need, len) := headerLength bs code o
      let fin := total.map fun t => if p.sectag || code == 5 then t - 16 else t
      let short := match fin with
        | some f => decide (f < o + len) || decide (f < o + need)
        | none => false
      let stop := decide (256 < o + len) || decide (256 < o + need)
      let wanted := if stop then min 256 (o + need) else o + max len need
      if short then { p with malformed := true }
      else if total.isNone && decide (bs.length < wanted) then { p with starved := true }
      else
        let q := { p with count := p.count + 1, last := code, heads := p.heads ++ [(code, o)], depth := o + len }
        let (r, next, bad) := takeHeader bs fin code o len q
        if bad then { (if stop then p else r) with malformed := true }
        else if stop then { p with incomplete := true }
        else parseFrom bs total fuel (next.code r) (o + len) r

/-- Parses a frame: `bus` for a bus frame cell. `complete` says that its last octet has arrived; an Ethernet frame then ends
with its FCS. -/
def parse (bs : List Byte) (bus complete : Bool) : Parse :=
  if bus then parseFrom bs (some bs.length) 17 0x13 0 {}
  else parseFrom bs (if complete then some (bs.length - 4) else none) 17 0x01 0 {}

/-- FrameFlags of R133. -/
def Parse.flags (p : Parse) (second : Bool) : Nat :=
  (if second then 128 else 0) + (if p.incomplete then 64 else 0) + (if p.nonFirst then 32 else 0)
    + (if p.first then 16 else 0) + p.kind

/-- The widths of the key fields 0 to 21 (R133). -/
def keyWidths : List Nat := [8, 8, 48, 48, 16, 16, 16, 8, 8, 128, 128, 16, 16, 8, 8, 32, 16, 16, 32, 32, 16, 16]

/-- Fields concatenated most significant first. -/
def packFields : List (Nat × Nat) → Nat
  | [] => 0
  | (w, v) :: fs => (v % 2 ^ w) * 2 ^ (fs.map fun x => x.1).sum + packFields fs

/-- The values of the key fields 0 to 21 (R133). -/
def keyFields (p : Parse) (port : Nat) (second : Bool) (session stencil udf0 udf1 tag : Nat) : List Nat :=
  [port, p.flags second, p.da, p.sa, p.outer, p.inner, p.typ, p.proto, p.tclass, p.src, p.dst, p.l4s, p.l4d, p.tcp, session,
   p.busIdent, stencil, p.avtp * 256 + p.busId * 8 + p.acfType, udf0, udf1, tag, p.count * 256 + p.last]

/-- The 640-bit key. -/
def keyOf (fields : List Nat) : Nat := packFields (keyWidths.zip fields)

end Sys2Proof.Machine
end

