-- ==== Sys2Proof/Config.lean ====
section
/-! DEFINITION. What a device fixes and the values the spec leaves open: constants without a body, so that no proof can
see a value of them. -/

namespace Sys2Proof.Config

/-- The value that manufacture fixes in an object whose default the spec calls fused, calibrated, read from straps, from
OTP or from ROM (log entry 3). The argument is the object's key, index × 256 + subindex. -/
opaque fused : Nat → Nat

/-- The n-th open value that the machine draws (log entry 5). The state counts the draws. -/
opaque freeValue : Nat → Nat

/-- The octets that the measurements and the packed scalars take in the retention image (R26, log entry 26): the spec does not give
their packing. The argument is the number of scalars that it holds. -/
opaque retentionRest : Nat → Nat

/-- The length of the JTAG instruction register, and the number of the instruction of an opcode (R468, log entry 129): 0 IDCODE, 1
BYPASS, others from 2 on. -/
opaque tapLength : Nat
opaque tapOpcode : Nat → Nat

/-- The identity and the quality of the device's clock in 802.1AS (R202, log entry 12), which the spec does not give. -/
opaque clockIdentity : Nat
opaque clockQuality : Nat

/-- The greatest mean link delay in 2^-16 ns with which a port of an attachment kind is asCapable (R234, log entry 12): IEEE 802.1AS
leaves it to the medium. -/
opaque linkDelayLimit : Nat → Nat

/-- What the helper data makes of a PUF readout (R327, log entry 127): the spec does not give the code. The arguments are the 8 KiB of
the readout and octets 0 to 1,135 of the helper data. -/
opaque pufCorrected : BitVec 65536 → List Byte → List Byte

/-- The IDCODE of the device (R446, log entry 129), which the spec does not give. -/
opaque idcode : BitVec 32

end Sys2Proof.Config
end

