-- ==== Sys2Proof/Machine/Catalog.lean ====
section
/-! DEFINITION. The catalogue of the scalar objects of the object dictionary: one entry per row of the
object tables of spec/ (R4, R48, R57, R62, R83, R121, R123, R124, R162, R197, R198, R230 to R233, R263, R264, R290,
R291, R322, R323, R353, R382, R383, R408, R426, R448, R449, R471), with type, access, owner, default and legal range. -/

namespace Sys2Proof.Machine

/-- The OD value types of R7. -/
inductive Ty where
  | bool | u8 | u16 | u32 | u64 | i32 | time | mac | oct8
deriving DecidableEq, Repr

/-- The access codes of R8 that the objects of spec/ use (no object is WO). -/
inductive Acc where
  | ro | rw | cmd | rwS | cmdS
deriving DecidableEq, Repr

/-- The owner column of the object tables; `port` is the port owner of R120. -/
inductive Owner where
  | safety | application | port
deriving DecidableEq, Repr

/-- The legal values and the clamp rule of an object or field (R35): every encoding; a union of intervals whose nearest
value is stored, the lower on a tie; a signed interval in two's complement; a union outside which the default is stored;
or the values up to a maximum, to which larger ones clamp, beside one value that is kept. -/
inductive Legal where
  | any
  | segs (l : List (Nat × Nat))
  | signed (lo hi : Int)
  | toDefault (l : List (Nat × Nat))
  | keep (hi k : Nat)
deriving DecidableEq, Repr

/-- One row of an object table. `idx` is the template index (port group g at 0x2000 + g, instance i at 0x5010, page p at
0x8100, ring r at 0x9100), `lo` to `hi` the subindices, `kind` the attachment kind it serves (0: every kind). -/
structure Obj where
  idx : Nat
  lo : Nat
  hi : Nat
  kind : Nat
  name : String
  ty : Ty
  acc : Acc
  own : Owner
  dflt : Nat
  legal : Legal
deriving DecidableEq, Repr

/-- Objects of the template 0x1000. -/
def objs1000 : List Obj := [
  ⟨0x1000, 1, 1, 0, "PartNumber", .oct8, .ro, .safety, 15258138367449168, .any⟩,
  ⟨0x1000, 2, 2, 0, "SiliconRevision", .u8, .ro, .safety, 176, .any⟩,
  ⟨0x1000, 3, 3, 0, "TemperatureGrade", .u8, .ro, .safety, 0, .any⟩]

/-- Objects of the template 0x1f10. -/
def objs1F10 : List Obj := [
  ⟨0x1f10, 1, 1, 0, "SketchCommit", .u8, .cmd, .safety, 0, .toDefault [(0, 0)]⟩,
  ⟨0x1f10, 2, 2, 0, "CommitTime", .time, .rw, .safety, 0, .any⟩,
  ⟨0x1f10, 3, 3, 0, "CommitTimeFrac", .u16, .rw, .safety, 0, .any⟩,
  ⟨0x1f10, 4, 4, 0, "CommitState", .u8, .ro, .safety, 0, .any⟩,
  ⟨0x1f10, 5, 5, 0, "FairCopyGeneration", .u32, .ro, .safety, 0, .any⟩,
  ⟨0x1f10, 6, 6, 0, "CommitRefusal", .u16, .ro, .safety, 0, .any⟩,
  ⟨0x1f10, 7, 7, 0, "SketchDiscard", .u8, .cmd, .safety, 0, .toDefault [(0, 0)]⟩]

/-- Objects of the template 0x1010. -/
def objs1010 : List Obj := [
  ⟨0x1010, 1, 1, 0, "PciVendorId", .u16, .ro, .safety, 0, .any⟩]

/-- Objects of the template 0x1e00. -/
def objs1E00 : List Obj := [
  ⟨0x1e00, 1, 1, 0, "HostReadStatus", .u8, .ro, .application, 0, .any⟩,
  ⟨0x1e00, 2, 2, 0, "HostReadTarget", .u64, .ro, .application, 0, .any⟩,
  ⟨0x1e00, 3, 3, 0, "HostReadFailures", .u32, .ro, .application, 0, .any⟩]

/-- Objects of the template 0x1f00. -/
def objs1F00 : List Obj := [
  ⟨0x1f00, 1, 16, 0, "ApertureBinding", .u64, .rw, .application, 0, .any⟩]

/-- Objects of the template 0x1f01. -/
def objs1F01 : List Obj := [
  ⟨0x1f01, 1, 16, 0, "ApertureStride", .u16, .ro, .application, 0, .any⟩]

/-- Objects of the template 0x1e10. -/
def objs1E10 : List Obj := [
  ⟨0x1e10, 1, 1, 0, "PostedErrorCount", .u8, .ro, .application, 0, .any⟩,
  ⟨0x1e10, 2, 2, 0, "PostedErrorOverflow", .u32, .ro, .application, 0, .any⟩,
  ⟨0x1e10, 3, 3, 0, "PostedErrorClear", .u8, .cmd, .application, 0, .toDefault [(0, 0)]⟩,
  ⟨0x1e10, 4, 4, 0, "PostedErrorVectorEnable", .bool, .rw, .application, 1, .any⟩]

/-- Objects of the template 0x1e20. -/
def objs1E20 : List Obj := [
  ⟨0x1e20, 1, 1, 0, "ClampCountersClear", .u8, .cmd, .application, 0, .toDefault [(0, 0)]⟩]

/-- Objects of the template 0x1d00. -/
def objs1D00 : List Obj := [
  ⟨0x1d00, 1, 1, 0, "RemoteOdEnable", .bool, .rw, .application, 1, .any⟩,
  ⟨0x1d00, 2, 2, 0, "SessionIdleTimeout", .u32, .rw, .application, 10000, .segs [(100, 600000)]⟩,
  ⟨0x1d00, 3, 3, 0, "OpenSessions", .u8, .ro, .application, 0, .any⟩,
  ⟨0x1d00, 4, 4, 0, "SessionRefusals", .u32, .ro, .application, 0, .any⟩,
  ⟨0x1d00, 5, 5, 0, "BadPduCount", .u32, .ro, .application, 0, .any⟩,
  ⟨0x1d00, 6, 6, 0, "OdStationAddress", .mac, .rw, .application, 0, .any⟩,
  ⟨0x1d00, 7, 7, 0, "EthPortMask", .u64, .rw, .application, 0, .any⟩,
  ⟨0x1d00, 8, 8, 0, "CanChannelMaskLow", .u64, .rw, .application, 0, .any⟩,
  ⟨0x1d00, 9, 9, 0, "CanChannelMaskHigh", .u32, .rw, .application, 0, .any⟩,
  ⟨0x1d00, 10, 10, 0, "CanRequestId", .u32, .rw, .application, 416940273, .any⟩,
  ⟨0x1d00, 11, 11, 0, "CanResponseId", .u32, .rw, .application, 417001728, .any⟩,
  ⟨0x1d00, 12, 12, 0, "CanIdFormat", .u8, .rw, .application, 1, .segs [(0, 1)]⟩,
  ⟨0x1d00, 13, 13, 0, "CanFrameFormat", .u8, .rw, .application, 0, .segs [(0, 1)]⟩,
  ⟨0x1d00, 14, 14, 0, "IsoTpBlockSize", .u8, .rw, .application, 0, .any⟩,
  ⟨0x1d00, 15, 15, 0, "IsoTpStMin", .u8, .rw, .application, 0, .segs [(0, 127), (241, 249)]⟩,
  ⟨0x1d00, 16, 16, 0, "RemoteOdRateLimit", .u32, .rw, .application, 2000, .segs [(10, 20000)]⟩,
  ⟨0x1d00, 17, 17, 0, "RemoteOdRateDrops", .u32, .ro, .application, 0, .any⟩,
  ⟨0x1d00, 18, 18, 0, "RemoteOdClass", .u8, .rw, .application, 4, .segs [(0, 7)]⟩,
  ⟨0x1d00, 19, 19, 0, "SessionForceClose", .u8, .cmd, .application, 0, .segs [(0, 31)]⟩]

/-- Objects of the template 0x2000. -/
def objs2000 : List Obj := [
  ⟨0x2000, 1, 1, 0, "AttachmentKind", .u8, .ro, .port, 0, .any⟩,
  ⟨0x2000, 2, 2, 0, "AttachmentBinding", .u8, .rwS, .safety, 0, .segs [(0, 223)]⟩,
  ⟨0x2000, 3, 3, 0, "PortEnable", .bool, .rw, .port, 0, .any⟩]

/-- Objects of the template 0x2001. -/
def objs2001 : List Obj := [
  ⟨0x2001, 1, 1, 0, "PortState", .u8, .ro, .port, 0, .any⟩,
  ⟨0x2001, 2, 2, 0, "PendingEnable", .bool, .ro, .port, 0, .any⟩,
  ⟨0x2001, 3, 3, 0, "LinkUpTime", .time, .ro, .port, 0, .any⟩,
  ⟨0x2001, 4, 4, 0, "LinkDownReason", .u8, .ro, .port, 0, .any⟩,
  ⟨0x2001, 5, 5, 0, "FlushDuration", .u32, .ro, .port, 0, .any⟩,
  ⟨0x2001, 6, 6, 0, "LinkEventVector", .u8, .rw, .port, 255, .segs [(1, 63), (255, 255)]⟩]

/-- Objects of the template 0x2002. -/
def objs2002 : List Obj := [
  ⟨0x2002, 1, 1, 0, "MaxFrameLength", .u16, .rw, .port, 1522, .segs [(64, 9600)]⟩,
  ⟨0x2002, 2, 2, 1, "SerdesMode", .u8, .rw, .port, 4, .segs [(1, 5)]⟩,
  ⟨0x2002, 3, 3, 1, "SpeedSelect", .u8, .rw, .port, 0, .segs [(0, 6)]⟩,
  ⟨0x2002, 4, 4, 1, "FecMode", .u8, .rw, .port, 0, .segs [(0, 2)]⟩,
  ⟨0x2002, 5, 5, 2, "T1Speed", .u8, .rw, .port, 2, .segs [(1, 2)]⟩,
  ⟨0x2002, 6, 6, 2, "T1Role", .u8, .rw, .port, 1, .segs [(0, 1)]⟩]

/-- Objects of the template 0x2008. -/
def objs2008 : List Obj := [
  ⟨0x2008, 1, 1, 3, "PlcaEnable", .bool, .rw, .port, 1, .any⟩,
  ⟨0x2008, 2, 2, 3, "PlcaNodeId", .u8, .rw, .port, 0, .segs [(0, 15)]⟩,
  ⟨0x2008, 3, 3, 3, "PlcaNodeCount", .u8, .rw, .port, 8, .segs [(1, 16)]⟩,
  ⟨0x2008, 4, 4, 3, "PlcaToTimer", .u8, .rw, .port, 32, .segs [(1, 255)]⟩,
  ⟨0x2008, 5, 5, 3, "PlcaBurstCount", .u8, .rw, .port, 0, .any⟩,
  ⟨0x2008, 6, 6, 3, "PlcaBurstTimer", .u8, .rw, .port, 128, .segs [(1, 255)]⟩,
  ⟨0x2008, 1, 1, 4, "CanMode", .u8, .rw, .port, 2, .segs [(1, 3)]⟩,
  ⟨0x2008, 2, 2, 4, "NominalBitRate", .u32, .rw, .port, 500000, .any⟩,
  ⟨0x2008, 3, 3, 4, "NominalSamplePoint", .u16, .rw, .port, 800, .any⟩,
  ⟨0x2008, 4, 4, 4, "DataBitRate", .u32, .rw, .port, 2000000, .any⟩,
  ⟨0x2008, 5, 5, 4, "DataSamplePoint", .u16, .rw, .port, 750, .any⟩,
  ⟨0x2008, 6, 6, 4, "TdcEnable", .bool, .rw, .port, 1, .any⟩,
  ⟨0x2008, 7, 7, 4, "AutoBusOffRecovery", .bool, .rw, .port, 1, .any⟩,
  ⟨0x2008, 8, 8, 4, "XlPwmEnable", .bool, .rw, .port, 0, .any⟩,
  ⟨0x2008, 9, 9, 4, "ListenOnly", .bool, .rw, .port, 0, .any⟩,
  ⟨0x2008, 1, 1, 5, "LinRole", .u8, .rw, .port, 1, .segs [(0, 1)]⟩,
  ⟨0x2008, 2, 2, 5, "LinBitRate", .u16, .rw, .port, 19200, .segs [(1000, 20000)]⟩,
  ⟨0x2008, 1, 1, 6, "SerialProtocol", .u8, .rw, .port, 1, .segs [(1, 2)]⟩,
  ⟨0x2008, 2, 2, 6, "SerialBitRate", .u32, .rw, .port, 10400, .segs [(1200, 62500)]⟩,
  ⟨0x2008, 3, 3, 6, "J1708Priority", .u8, .rw, .port, 8, .segs [(1, 8)]⟩,
  ⟨0x2008, 4, 4, 6, "KlineInit", .u8, .rw, .port, 0, .segs [(0, 2)]⟩,
  ⟨0x2008, 5, 5, 6, "KlineTargetAddress", .u8, .rw, .port, 51, .any⟩,
  ⟨0x2008, 6, 6, 6, "MessageGap", .u16, .rw, .port, 5000, .segs [(500, 50000)]⟩]

/-- Objects of the template 0x2009. -/
def objs2009 : List Obj := [
  ⟨0x2009, 1, 1, 4, "CanErrorState", .u8, .ro, .port, 0, .any⟩,
  ⟨0x2009, 2, 2, 4, "TransmitErrorCount", .u8, .ro, .port, 0, .any⟩,
  ⟨0x2009, 3, 3, 4, "ReceiveErrorCount", .u8, .ro, .port, 0, .any⟩,
  ⟨0x2009, 4, 4, 4, "BusOffCount", .u32, .ro, .port, 0, .any⟩,
  ⟨0x2009, 1, 1, 5, "LinNoResponse", .u32, .ro, .port, 0, .any⟩,
  ⟨0x2009, 2, 2, 5, "LinSlotEmpty", .u32, .ro, .port, 0, .any⟩,
  ⟨0x2009, 1, 1, 6, "SerialCollisions", .u32, .ro, .port, 0, .any⟩]

/-- Objects of the template 0x2006. -/
def objs2006 : List Obj := [
  ⟨0x2006, 1, 1, 0, "RxFrames", .u64, .ro, .port, 0, .any⟩,
  ⟨0x2006, 2, 2, 0, "RxOctets", .u64, .ro, .port, 0, .any⟩,
  ⟨0x2006, 3, 3, 0, "TxFrames", .u64, .ro, .port, 0, .any⟩,
  ⟨0x2006, 4, 4, 0, "TxOctets", .u64, .ro, .port, 0, .any⟩,
  ⟨0x2006, 5, 5, 0, "RxCheckErrors", .u64, .ro, .port, 0, .any⟩,
  ⟨0x2006, 6, 6, 0, "RxLengthErrors", .u64, .ro, .port, 0, .any⟩,
  ⟨0x2006, 7, 7, 0, "IngressDiscards", .u64, .ro, .port, 0, .any⟩,
  ⟨0x2006, 8, 8, 0, "NotUpDiscards", .u64, .ro, .port, 0, .any⟩,
  ⟨0x2006, 9, 9, 0, "FlushDiscards", .u64, .ro, .port, 0, .any⟩,
  ⟨0x2006, 10, 10, 0, "EgressAborts", .u64, .ro, .port, 0, .any⟩,
  ⟨0x2006, 11, 11, 0, "EgressFormatDrops", .u64, .ro, .port, 0, .any⟩,
  ⟨0x2006, 12, 12, 0, "RxControlDiscards", .u64, .ro, .port, 0, .any⟩,
  ⟨0x2006, 13, 13, 0, "LinkDownEvents", .u32, .ro, .port, 0, .any⟩,
  ⟨0x2006, 14, 14, 0, "CountersClear", .u8, .cmd, .port, 0, .toDefault [(0, 0)]⟩]

/-- Objects of the template 0x4000. -/
def objs4000 : List Obj := [
  ⟨0x4000, 1, 1, 0, "MalformedAction", .u8, .rw, .application, 0, .segs [(0, 1)]⟩,
  ⟨0x4000, 2, 2, 0, "NoMatchAction", .u8, .rw, .application, 1, .segs [(0, 1)]⟩,
  ⟨0x4000, 3, 3, 0, "FragmentOrphanAction", .u8, .rw, .application, 1, .segs [(0, 1)]⟩,
  ⟨0x4000, 4, 4, 0, "FragmentLifetime", .u32, .rw, .application, 20000, .segs [(1000, 1000000)]⟩,
  ⟨0x4000, 5, 5, 0, "FragmentEntriesInUse", .u16, .ro, .application, 0, .any⟩,
  ⟨0x4000, 6, 6, 0, "FragmentTableFull", .u32, .ro, .application, 0, .any⟩,
  ⟨0x4000, 7, 7, 0, "ExceptionAggregateRate", .u32, .rw, .application, 50000, .segs [(1000, 100000)]⟩,
  ⟨0x4000, 8, 8, 0, "ExceptionAggregateBurst", .u16, .rw, .application, 512, .segs [(1, 4096)]⟩,
  ⟨0x4000, 9, 9, 0, "ExceptionAggregateDrops", .u32, .ro, .application, 0, .any⟩,
  ⟨0x4000, 10, 10, 0, "MalformedFrames", .u64, .ro, .application, 0, .any⟩,
  ⟨0x4000, 11, 11, 0, "MalformedTail", .u64, .ro, .application, 0, .any⟩,
  ⟨0x4000, 12, 12, 0, "ParseIncompleteFrames", .u64, .ro, .application, 0, .any⟩,
  ⟨0x4000, 13, 13, 0, "NoMatchFrames", .u64, .ro, .application, 0, .any⟩,
  ⟨0x4000, 14, 14, 0, "RecirculationDrops", .u64, .ro, .application, 0, .any⟩,
  ⟨0x4000, 15, 15, 0, "GenerationDrops", .u32, .ro, .application, 0, .any⟩,
  ⟨0x4000, 16, 16, 0, "AcfSplitOverflow", .u32, .ro, .application, 0, .any⟩,
  ⟨0x4000, 17, 17, 0, "ClassifierDrops", .u64, .ro, .application, 0, .any⟩,
  ⟨0x4000, 18, 18, 0, "CountersClear", .u8, .cmd, .application, 0, .toDefault [(0, 0)]⟩]

/-- Objects of the template 0x4100. -/
def objs4100 : List Obj := [
  ⟨0x4100, 1, 1, 0, "FirewallEnable", .bool, .rw, .application, 1, .any⟩,
  ⟨0x4100, 2, 2, 0, "OpeningTimeout", .u32, .rw, .application, 5000, .segs [(100, 60000)]⟩,
  ⟨0x4100, 3, 3, 0, "EstablishedTimeout", .u32, .rw, .application, 600000, .segs [(1000, 86400000)]⟩,
  ⟨0x4100, 4, 4, 0, "ClosingTimeout", .u32, .rw, .application, 10000, .segs [(100, 300000)]⟩,
  ⟨0x4100, 5, 5, 0, "ActiveTimeout", .u32, .rw, .application, 30000, .segs [(100, 3600000)]⟩,
  ⟨0x4100, 6, 6, 0, "SessionsInUse", .u16, .ro, .application, 0, .any⟩,
  ⟨0x4100, 7, 7, 0, "SessionCreateFailures", .u32, .ro, .application, 0, .any⟩,
  ⟨0x4100, 8, 8, 0, "SessionFlush", .u8, .cmd, .application, 0, .toDefault [(0, 0)]⟩,
  ⟨0x4100, 9, 9, 0, "FirewallPendingEnable", .bool, .ro, .application, 0, .any⟩]

/-- Objects of the template 0x2003. -/
def objs2003 : List Obj := [
  ⟨0x2003, 1, 8, 0, "QueueLimit", .u32, .rw, .port, 8192, .segs [(0, 95232)]⟩,
  ⟨0x2003, 9, 16, 0, "QueueDepthCells", .u32, .ro, .port, 0, .any⟩,
  ⟨0x2003, 17, 24, 0, "QueueDepthFrames", .u32, .ro, .port, 0, .any⟩,
  ⟨0x2003, 25, 32, 0, "QueueFullDrops", .u64, .ro, .port, 0, .any⟩,
  ⟨0x2003, 33, 40, 0, "PushedOut", .u64, .ro, .port, 0, .any⟩,
  ⟨0x2003, 41, 41, 0, "CutThroughEnable", .bool, .rw, .port, 1, .any⟩,
  ⟨0x2003, 42, 42, 0, "CutThroughFrames", .u64, .ro, .port, 0, .any⟩,
  ⟨0x2003, 43, 43, 0, "VarnishedFrames", .u64, .ro, .port, 0, .any⟩,
  ⟨0x2003, 44, 44, 0, "QueueCountersClear", .u8, .cmd, .port, 0, .toDefault [(0, 0)]⟩]

/-- Objects of the template 0x3000. -/
def objs3000 : List Obj := [
  ⟨0x3000, 1, 1, 0, "CellsFree", .u32, .ro, .application, 98304, .any⟩,
  ⟨0x3000, 2, 2, 0, "DescriptorsFree", .u32, .ro, .application, 65536, .any⟩,
  ⟨0x3000, 3, 3, 0, "QueueEntriesFree", .u32, .ro, .application, 131072, .any⟩,
  ⟨0x3000, 4, 4, 0, "ArrivalCellsPeak", .u16, .ro, .application, 0, .any⟩,
  ⟨0x3000, 5, 5, 0, "AgeingTime", .u32, .rw, .application, 300, .segs [(10, 1000000)]⟩,
  ⟨0x3000, 6, 6, 0, "FloodUnknownUnicast", .bool, .rw, .application, 1, .any⟩,
  ⟨0x3000, 7, 7, 0, "DynamicEntries", .u16, .ro, .application, 0, .any⟩,
  ⟨0x3000, 8, 8, 0, "LearnFailures", .u32, .ro, .application, 0, .any⟩,
  ⟨0x3000, 9, 9, 0, "DescriptorDrops", .u64, .ro, .application, 0, .any⟩,
  ⟨0x3000, 10, 10, 0, "QueueEntryDrops", .u64, .ro, .application, 0, .any⟩,
  ⟨0x3000, 11, 11, 0, "PoolFullDrops", .u64, .ro, .application, 0, .any⟩,
  ⟨0x3000, 12, 12, 0, "PushOutEvictions", .u64, .ro, .application, 0, .any⟩,
  ⟨0x3000, 13, 13, 0, "DecisionOverruns", .u64, .ro, .application, 0, .any⟩,
  ⟨0x3000, 14, 14, 0, "RefCountOverflow", .u32, .ro, .application, 0, .any⟩,
  ⟨0x3000, 15, 15, 0, "VlanDiscards", .u64, .ro, .application, 0, .any⟩,
  ⟨0x3000, 16, 16, 0, "BridgeFiltered", .u64, .ro, .application, 0, .any⟩,
  ⟨0x3000, 17, 17, 0, "InternalTargetDrops", .u64, .ro, .application, 0, .any⟩,
  ⟨0x3000, 18, 18, 0, "FdbFlushDynamic", .u8, .cmd, .application, 0, .toDefault [(0, 0)]⟩,
  ⟨0x3000, 19, 19, 0, "CountersClear", .u8, .cmd, .application, 0, .toDefault [(0, 0)]⟩]

/-- Objects of the template 0x3010. -/
def objs3010 : List Obj := [
  ⟨0x3010, 1, 4, 0, "PoolCellsInUse", .u32, .ro, .application, 0, .any⟩]

/-- Objects of the template 0x2004. -/
def objs2004 : List Obj := [
  ⟨0x2004, 1, 1, 0, "GateOperState", .u8, .ro, .port, 0, .any⟩,
  ⟨0x2004, 2, 2, 0, "ConfigChangeTime", .time, .ro, .port, 0, .any⟩,
  ⟨0x2004, 3, 3, 0, "OperCycleTime", .u32, .ro, .port, 0, .any⟩,
  ⟨0x2004, 4, 4, 0, "CurrentEntry", .u16, .ro, .port, 0, .any⟩,
  ⟨0x2004, 5, 5, 0, "CurrentGateStates", .u8, .ro, .port, 255, .any⟩,
  ⟨0x2004, 6, 6, 0, "TransmissionOverruns", .u64, .ro, .port, 0, .any⟩,
  ⟨0x2004, 7, 7, 0, "BrimDeferrals", .u64, .ro, .port, 0, .any⟩,
  ⟨0x2004, 8, 8, 0, "ConfigChanges", .u32, .ro, .port, 0, .any⟩,
  ⟨0x2004, 9, 9, 0, "IngressLatency", .u32, .rw, .port, 0, .segs [(0, 10000)]⟩,
  ⟨0x2004, 10, 10, 0, "EgressLatency", .u32, .rw, .port, 0, .segs [(0, 10000)]⟩,
  ⟨0x2004, 11, 11, 0, "LogPdelayInterval", .i32, .rw, .port, 0, .signed (-3) 3⟩,
  ⟨0x2004, 12, 12, 0, "MeanLinkDelay", .u32, .ro, .port, 0, .any⟩,
  ⟨0x2004, 13, 13, 0, "GateEventVector", .u8, .rw, .port, 255, .segs [(1, 63), (255, 255)]⟩,
  ⟨0x2004, 14, 14, 0, "GateCountersClear", .u8, .cmd, .port, 0, .toDefault [(0, 0)]⟩]

/-- Objects of the template 0x2005. -/
def objs2005 : List Obj := [
  ⟨0x2005, 1, 1, 0, "PreemptionActive", .bool, .ro, .port, 0, .any⟩,
  ⟨0x2005, 2, 2, 0, "VerifyStatus", .u8, .ro, .port, 0, .any⟩,
  ⟨0x2005, 3, 3, 0, "VerifyTime", .u8, .rw, .port, 10, .segs [(1, 128)]⟩,
  ⟨0x2005, 4, 4, 0, "VerifyDisable", .bool, .rw, .port, 0, .any⟩,
  ⟨0x2005, 5, 5, 0, "HoldAdvance", .u32, .ro, .port, 0, .any⟩,
  ⟨0x2005, 6, 6, 0, "FragmentsSent", .u64, .ro, .port, 0, .any⟩,
  ⟨0x2005, 7, 7, 0, "FragmentsReceived", .u64, .ro, .port, 0, .any⟩,
  ⟨0x2005, 8, 8, 0, "AssemblyErrors", .u64, .ro, .port, 0, .any⟩,
  ⟨0x2005, 9, 9, 0, "EligibilityHolds", .u64, .ro, .port, 0, .any⟩,
  ⟨0x2005, 10, 10, 0, "ShapingCountersClear", .u8, .cmd, .port, 0, .toDefault [(0, 0)]⟩]

/-- Objects of the template 0x5000. -/
def objs5000 : List Obj := [
  ⟨0x5000, 1, 1, 0, "VehicleTimeNow", .time, .ro, .safety, 0, .any⟩,
  ⟨0x5000, 2, 2, 0, "VehicleTimeNowFrac", .u16, .ro, .safety, 0, .any⟩,
  ⟨0x5000, 3, 3, 0, "TimeStatus", .u8, .ro, .safety, 0, .any⟩,
  ⟨0x5000, 4, 4, 0, "TimeSourceInstance", .u8, .rw, .safety, 0, .segs [(0, 1)]⟩,
  ⟨0x5000, 5, 5, 0, "StepThreshold", .u32, .rw, .safety, 10000, .segs [(100, 1000000)]⟩,
  ⟨0x5000, 6, 6, 0, "MaxSlewRate", .u16, .rw, .safety, 50, .segs [(1, 200)]⟩,
  ⟨0x5000, 7, 7, 0, "HoldoverLimit", .u32, .rw, .safety, 10000, .segs [(100, 3600000)]⟩,
  ⟨0x5000, 8, 8, 0, "OffsetFromMaster", .i32, .ro, .safety, 0, .any⟩,
  ⟨0x5000, 9, 9, 0, "FrequencyAdjust", .i32, .ro, .safety, 0, .any⟩,
  ⟨0x5000, 10, 10, 0, "TimeSteps", .u32, .ro, .safety, 0, .any⟩,
  ⟨0x5000, 11, 11, 0, "LastStepSize", .i32, .ro, .safety, 0, .any⟩,
  ⟨0x5000, 12, 12, 0, "SyncLossEvents", .u32, .ro, .safety, 0, .any⟩,
  ⟨0x5000, 13, 13, 0, "TimeEventVector", .u8, .rw, .safety, 255, .segs [(1, 63), (255, 255)]⟩,
  ⟨0x5000, 14, 14, 0, "TimeCountersClear", .u8, .cmd, .safety, 0, .toDefault [(0, 0)]⟩]

/-- Objects of the template 0x5010. -/
def objs5010 : List Obj := [
  ⟨0x5010, 1, 1, 0, "InstanceEnable", .bool, .rw, .application, 1, .any⟩,
  ⟨0x5010, 2, 2, 0, "DomainNumber", .u8, .rw, .application, 0, .segs [(0, 127)]⟩,
  ⟨0x5010, 3, 3, 0, "ExternalPortConfiguration", .bool, .rw, .application, 1, .any⟩,
  ⟨0x5010, 4, 4, 0, "Priority1", .u8, .rw, .application, 248, .any⟩,
  ⟨0x5010, 5, 5, 0, "Priority2", .u8, .rw, .application, 248, .any⟩,
  ⟨0x5010, 6, 6, 0, "LogSyncInterval", .i32, .rw, .application, 4294967293, .signed (-5) 0⟩,
  ⟨0x5010, 7, 7, 0, "SyncReceiptTimeout", .u8, .rw, .application, 3, .segs [(2, 255)]⟩,
  ⟨0x5010, 8, 8, 0, "GrandmasterIdentity", .oct8, .ro, .application, 0, .any⟩,
  ⟨0x5010, 9, 9, 0, "InstanceState", .u8, .ro, .application, 0, .any⟩]

/-- Objects of the template 0x6000. -/
def objs6000 : List Obj := [
  ⟨0x6000, 1, 1, 0, "AdmittedStreams", .u16, .ro, .safety, 0, .any⟩,
  ⟨0x6000, 2, 2, 0, "CertificateKeySlot", .u16, .rwS, .safety, 0, .segs [(0, 1022)]⟩,
  ⟨0x6000, 3, 3, 0, "RefusalStream", .u16, .ro, .safety, 65535, .any⟩,
  ⟨0x6000, 4, 4, 0, "RefusalPort", .u16, .ro, .safety, 65535, .any⟩,
  ⟨0x6000, 5, 5, 0, "LastCheckDuration", .u32, .ro, .safety, 0, .any⟩,
  ⟨0x6000, 7, 7, 0, "DeliveryFaultTotal", .u32, .ro, .safety, 0, .any⟩,
  ⟨0x6000, 8, 8, 0, "DeliveryFaultLogCount", .u8, .ro, .safety, 0, .any⟩,
  ⟨0x6000, 9, 9, 0, "DeliveryFaultOverflow", .u32, .ro, .safety, 0, .any⟩,
  ⟨0x6000, 10, 10, 0, "DeliveryFaultVector", .u8, .rw, .safety, 255, .segs [(1, 63), (255, 255)]⟩,
  ⟨0x6000, 11, 11, 0, "DeliveryFaultLogClear", .u8, .cmdS, .safety, 0, .toDefault [(0, 0)]⟩,
  ⟨0x6000, 12, 12, 0, "StepExemptions", .u32, .ro, .safety, 0, .any⟩,
  ⟨0x6000, 13, 13, 0, "TransitionExemptions", .u32, .ro, .safety, 0, .any⟩,
  ⟨0x6000, 14, 14, 0, "StreamCountersClear", .u8, .cmd, .safety, 0, .toDefault [(0, 0)]⟩,
  ⟨0x6000, 15, 15, 0, "StreamUnblock", .u16, .cmd, .safety, 0, .segs [(0, 4095)]⟩]

/-- Objects of the template 0x2007. -/
def objs2007 : List Obj := [
  ⟨0x2007, 1, 8, 0, "QueueDepthPeak", .u32, .ro, .port, 0, .any⟩,
  ⟨0x2007, 9, 16, 0, "SojournMax", .u32, .ro, .port, 0, .any⟩,
  ⟨0x2007, 17, 17, 0, "SojournSampleExponent", .u8, .rw, .port, 6, .segs [(0, 10)]⟩,
  ⟨0x2007, 18, 18, 0, "AdmissionMismatch", .bool, .ro, .port, 0, .any⟩,
  ⟨0x2007, 19, 26, 0, "AdmittedCells", .u32, .ro, .port, 0, .any⟩,
  ⟨0x2007, 27, 27, 0, "UnadmittedRemovals", .u64, .ro, .port, 0, .any⟩,
  ⟨0x2007, 28, 28, 0, "SamplingClear", .u8, .cmd, .port, 0, .toDefault [(0, 0)]⟩]

/-- Objects of the template 0x200a. -/
def objs200A : List Obj := [
  ⟨0x200a, 1, 1, 0, "GatewayChannelEnable", .bool, .rw, .port, 1, .any⟩,
  ⟨0x200a, 2, 2, 0, "GatewayPendingEnable", .bool, .ro, .port, 0, .any⟩,
  ⟨0x200a, 3, 3, 0, "GatewayChannelState", .u8, .ro, .port, 2, .any⟩,
  ⟨0x200a, 4, 7, 0, "InboundLimit", .u16, .rw, .port, 32, .segs [(0, 1024)]⟩,
  ⟨0x200a, 8, 11, 0, "OutboundLimit", .u16, .rw, .port, 64, .segs [(0, 4096)]⟩,
  ⟨0x200a, 12, 15, 0, "InboundInUse", .u16, .ro, .port, 0, .any⟩,
  ⟨0x200a, 16, 19, 0, "OutboundInUse", .u16, .ro, .port, 0, .any⟩,
  ⟨0x200a, 20, 20, 0, "InboundFullDrops", .u64, .ro, .port, 0, .any⟩,
  ⟨0x200a, 21, 21, 0, "OutboundFullDrops", .u64, .ro, .port, 0, .any⟩,
  ⟨0x200a, 22, 22, 0, "GatewayDisabledDrops", .u64, .ro, .port, 0, .any⟩,
  ⟨0x200a, 23, 23, 0, "ShutDownDuration", .u32, .ro, .port, 0, .any⟩,
  ⟨0x200a, 24, 24, 0, "GatewayPortCountersClear", .u8, .cmd, .port, 0, .toDefault [(0, 0)]⟩]

/-- Objects of the template 0x7000. -/
def objs7000 : List Obj := [
  ⟨0x7000, 1, 1, 0, "NoRouteAction", .u8, .rw, .application, 0, .segs [(0, 1)]⟩,
  ⟨0x7000, 2, 2, 0, "NoRouteFrames", .u64, .ro, .application, 0, .any⟩,
  ⟨0x7000, 3, 3, 0, "RoutedFrames", .u64, .ro, .application, 0, .any⟩,
  ⟨0x7000, 4, 4, 0, "GatewayFailureCount", .u8, .ro, .application, 0, .any⟩,
  ⟨0x7000, 5, 5, 0, "GatewayFailureOverflow", .u32, .ro, .application, 0, .any⟩,
  ⟨0x7000, 6, 6, 0, "GatewayFailureClear", .u8, .cmd, .application, 0, .toDefault [(0, 0)]⟩,
  ⟨0x7000, 7, 7, 0, "GatewayFailureVector", .u8, .rw, .application, 1, .segs [(1, 63), (255, 255)]⟩,
  ⟨0x7000, 8, 8, 0, "LifetimeExpiries", .u64, .ro, .application, 0, .any⟩,
  ⟨0x7000, 9, 9, 0, "TransformFailures", .u64, .ro, .application, 0, .any⟩,
  ⟨0x7000, 10, 10, 0, "DefaultLifetime", .u16, .rw, .application, 1000, .segs [(1, 65535)]⟩,
  ⟨0x7000, 11, 11, 0, "RefusalRoute", .u16, .ro, .safety, 65535, .any⟩,
  ⟨0x7000, 12, 12, 0, "RefusalPair", .u8, .ro, .safety, 255, .any⟩,
  ⟨0x7000, 13, 13, 0, "GatewayResidenceMax", .u32, .ro, .application, 0, .any⟩,
  ⟨0x7000, 14, 14, 0, "LastGatewayCheckDuration", .u32, .ro, .safety, 0, .any⟩,
  ⟨0x7000, 15, 15, 0, "GatewayCountersClear", .u8, .cmd, .application, 0, .toDefault [(0, 0)]⟩]

/-- Objects of the template 0x8000. -/
def objs8000 : List Obj := [
  ⟨0x8000, 1, 1, 0, "JobsInFlight", .u16, .ro, .application, 0, .any⟩,
  ⟨0x8000, 2, 2, 0, "JobsRunning", .u8, .ro, .application, 0, .any⟩,
  ⟨0x8000, 3, 3, 0, "SubmitBusyRefusals", .u32, .ro, .application, 0, .any⟩,
  ⟨0x8000, 4, 4, 0, "IntegrityEventVector", .u8, .rw, .application, 255, .segs [(1, 63), (255, 255)]⟩]

/-- Objects of the template 0x8010. -/
def objs8010 : List Obj := [
  ⟨0x8010, 1, 8, 0, "ArbiterWeight", .u16, .rwS, .safety, 0, .segs [(0, 256)]⟩,
  ⟨0x8010, 9, 9, 0, "StarvationWindows", .u16, .rwS, .safety, 64, .segs [(1, 65535)]⟩,
  ⟨0x8010, 10, 10, 0, "StarvationFlags", .u8, .ro, .safety, 0, .any⟩,
  ⟨0x8010, 11, 11, 0, "StarvationVector", .u8, .rwS, .safety, 255, .segs [(1, 63), (255, 255)]⟩,
  ⟨0x8010, 12, 12, 0, "StarvationClear", .u8, .cmdS, .safety, 0, .any⟩,
  ⟨0x8010, 13, 13, 0, "GrantOwner", .u8, .ro, .safety, 255, .any⟩,
  ⟨0x8010, 14, 14, 0, "MaskState", .u8, .ro, .safety, 255, .any⟩]

/-- Objects of the template 0x8011. -/
def objs8011 : List Obj := [
  ⟨0x8011, 1, 8, 0, "WordsGranted", .u64, .ro, .safety, 0, .any⟩]

/-- Objects of the template 0x8020. -/
def objs8020 : List Obj := [
  ⟨0x8020, 1, 1, 0, "FreshnessWarnRemaining", .u64, .rwS, .safety, 65536, .segs [(1, 9223372036854775808)]⟩,
  ⟨0x8020, 2, 2, 0, "FreshnessWarned", .u16, .ro, .safety, 0, .any⟩,
  ⟨0x8020, 3, 3, 0, "FreshnessExhausted", .u16, .ro, .safety, 0, .any⟩,
  ⟨0x8020, 4, 4, 0, "FreshnessEventVector", .u8, .rwS, .safety, 255, .segs [(1, 63), (255, 255)]⟩]

/-- Objects of the template 0x8100. -/
def objs8100 : List Obj := [
  ⟨0x8100, 1, 1, 0, "JobSubmit", .u8, .cmd, .application, 0, .segs [(0, 15)]⟩,
  ⟨0x8100, 2, 2, 0, "PageState", .u8, .ro, .safety, 0, .any⟩,
  ⟨0x8100, 3, 3, 0, "PageEnable", .bool, .rwS, .safety, 0, .any⟩,
  ⟨0x8100, 4, 4, 0, "PagePendingEnable", .bool, .ro, .safety, 0, .any⟩,
  ⟨0x8100, 5, 5, 0, "PageJobsInFlight", .u8, .ro, .safety, 0, .any⟩]

/-- Objects of the template 0x200b. -/
def objs200B : List Obj := [
  ⟨0x200b, 1, 1, 0, "InVerified", .u64, .ro, .port, 0, .any⟩,
  ⟨0x200b, 2, 2, 0, "InFailed", .u64, .ro, .port, 0, .any⟩,
  ⟨0x200b, 3, 3, 0, "InLate", .u64, .ro, .port, 0, .any⟩,
  ⟨0x200b, 4, 4, 0, "InNoSa", .u64, .ro, .port, 0, .any⟩,
  ⟨0x200b, 5, 5, 0, "InUntagged", .u64, .ro, .port, 0, .any⟩,
  ⟨0x200b, 6, 6, 0, "OutProtected", .u64, .ro, .port, 0, .any⟩,
  ⟨0x200b, 7, 7, 0, "OutSaDrops", .u64, .ro, .port, 0, .any⟩,
  ⟨0x200b, 8, 8, 0, "MacsecCountersClear", .u8, .cmd, .port, 0, .toDefault [(0, 0)]⟩]

/-- Objects of the template 0x8200. -/
def objs8200 : List Obj := [
  ⟨0x8200, 1, 1, 0, "PufStatus", .u8, .ro, .safety, 0, .any⟩,
  ⟨0x8200, 2, 2, 0, "PufDuration", .u32, .ro, .safety, 0, .any⟩,
  ⟨0x8200, 3, 3, 0, "KeyGuardMode", .u8, .ro, .safety, 0, .any⟩,
  ⟨0x8200, 4, 4, 0, "TamperLatched", .bool, .ro, .safety, 0, .any⟩,
  ⟨0x8200, 5, 5, 0, "SweepActive", .bool, .ro, .safety, 0, .any⟩,
  ⟨0x8200, 6, 6, 0, "KeyEventVector", .u8, .rwS, .safety, 255, .segs [(1, 63), (255, 255)]⟩,
  ⟨0x8200, 7, 7, 0, "DeviceUidHigh", .oct8, .ro, .safety, 0, .any⟩,
  ⟨0x8200, 8, 8, 0, "DeviceUidLow", .oct8, .ro, .safety, 0, .any⟩]

/-- Objects of the template 0x8300. -/
def objs8300 : List Obj := [
  ⟨0x8300, 1, 1, 0, "AttestGenerate", .u8, .cmd, .safety, 0, .toDefault [(0, 0)]⟩]

/-- Objects of the template 0x8400. -/
def objs8400 : List Obj := [
  ⟨0x8400, 1, 1, 0, "RecordSealEnable", .bool, .rwS, .safety, 0, .any⟩,
  ⟨0x8400, 2, 2, 0, "RecordSealState", .u8, .ro, .safety, 0, .any⟩,
  ⟨0x8400, 3, 3, 0, "RecordSealPendingEnable", .bool, .ro, .safety, 0, .any⟩,
  ⟨0x8400, 4, 4, 0, "SealKeySlot", .u16, .rwS, .safety, 4, .segs [(4, 1023)]⟩,
  ⟨0x8400, 5, 5, 0, "SealSignSlot", .u16, .rwS, .safety, 1, .segs [(1, 1023)]⟩,
  ⟨0x8400, 6, 6, 0, "BatchSize", .u16, .rwS, .safety, 1024, .segs [(16, 65535)]⟩,
  ⟨0x8400, 7, 7, 0, "RecordDestination", .mac, .rwS, .safety, 0, .any⟩,
  ⟨0x8400, 8, 8, 0, "RecordEtherType", .u16, .rwS, .safety, 34998, .segs [(1536, 65535)]⟩,
  ⟨0x8400, 9, 9, 0, "ChainId", .u64, .ro, .safety, 0, .any⟩,
  ⟨0x8400, 10, 10, 0, "LastSequence", .u32, .ro, .safety, 0, .any⟩,
  ⟨0x8400, 11, 11, 0, "RecordsSealed", .u64, .ro, .safety, 0, .any⟩,
  ⟨0x8400, 12, 12, 0, "SealDrops", .u64, .ro, .safety, 0, .any⟩,
  ⟨0x8400, 13, 13, 0, "PrevChainId", .u64, .rwS, .safety, 0, .any⟩,
  ⟨0x8400, 14, 14, 0, "PrevLastSequence", .u32, .rwS, .safety, 0, .any⟩,
  ⟨0x8400, 15, 15, 0, "PrevLastMacHigh", .oct8, .rwS, .safety, 0, .any⟩,
  ⟨0x8400, 16, 16, 0, "PrevLastMacLow", .oct8, .rwS, .safety, 0, .any⟩,
  ⟨0x8400, 17, 17, 0, "SealEventVector", .u8, .rwS, .safety, 255, .segs [(1, 63), (255, 255)]⟩]

/-- Objects of the template 0x9000. -/
def objs9000 : List Obj := [
  ⟨0x9000, 1, 1, 0, "DeviceState", .u8, .ro, .safety, 0, .any⟩,
  ⟨0x9000, 2, 2, 0, "DeviceSleepEnable", .bool, .rwS, .safety, 0, .any⟩,
  ⟨0x9000, 3, 3, 0, "RetentionEnable", .bool, .rwS, .safety, 1, .any⟩,
  ⟨0x9000, 4, 4, 0, "SleepEntryTimeout", .u16, .rwS, .safety, 100, .segs [(20, 1000)]⟩,
  ⟨0x9000, 5, 5, 0, "LastWakeKind", .u8, .ro, .safety, 0, .any⟩,
  ⟨0x9000, 6, 6, 0, "LastWakeSource", .u8, .ro, .safety, 255, .any⟩,
  ⟨0x9000, 7, 7, 0, "LastSleepDuration", .u64, .ro, .safety, 0, .any⟩,
  ⟨0x9000, 8, 8, 0, "LastWakeLatency", .u32, .ro, .safety, 0, .any⟩,
  ⟨0x9000, 9, 9, 0, "DeviceWakes", .u32, .ro, .safety, 0, .any⟩,
  ⟨0x9000, 10, 10, 0, "FailSafeSleeps", .u32, .ro, .safety, 0, .any⟩,
  ⟨0x9000, 11, 11, 0, "SleepEventVector", .u8, .rw, .application, 255, .segs [(1, 63), (255, 255)]⟩,
  ⟨0x9000, 12, 12, 0, "KeepAwakeLogCount", .u8, .ro, .application, 0, .any⟩,
  ⟨0x9000, 13, 13, 0, "KeepAwakeLogOverflow", .u32, .ro, .application, 0, .any⟩,
  ⟨0x9000, 14, 14, 0, "KeepAwakeLogClear", .u8, .cmd, .application, 0, .toDefault [(0, 0)]⟩,
  ⟨0x9000, 15, 15, 0, "RetentionImageSize", .u32, .ro, .safety, 0, .any⟩,
  ⟨0x9000, 16, 16, 0, "RetentionOverflows", .u32, .ro, .safety, 0, .any⟩]

/-- Objects of the template 0x9100. -/
def objs9100 : List Obj := [
  ⟨0x9100, 1, 1, 0, "RingEnable", .bool, .rw, .application, 0, .any⟩,
  ⟨0x9100, 2, 2, 0, "RingState", .u8, .ro, .application, 0, .any⟩,
  ⟨0x9100, 3, 3, 0, "RingPendingEnable", .bool, .ro, .application, 0, .any⟩,
  ⟨0x9100, 4, 4, 0, "LocalConsent", .bool, .rw, .application, 0, .any⟩,
  ⟨0x9100, 5, 5, 0, "HolderCount", .u8, .ro, .application, 0, .any⟩,
  ⟨0x9100, 6, 6, 0, "LastHolder", .u16, .ro, .application, 65535, .any⟩,
  ⟨0x9100, 7, 7, 0, "AbortedCommits", .u32, .ro, .application, 0, .any⟩,
  ⟨0x9100, 8, 8, 0, "FalseWakes", .u32, .ro, .application, 0, .any⟩,
  ⟨0x9100, 9, 9, 0, "BusSleepsForced", .u32, .ro, .application, 0, .any⟩,
  ⟨0x9100, 10, 10, 0, "BadRingMessages", .u32, .ro, .application, 0, .any⟩,
  ⟨0x9100, 11, 11, 0, "BusSleeps", .u32, .ro, .application, 0, .any⟩,
  ⟨0x9100, 12, 12, 0, "RingCountersClear", .u8, .cmd, .application, 0, .toDefault [(0, 0)]⟩]

/-- Objects of the template 0xa000. -/
def objsA000 : List Obj := [
  ⟨0xa000, 1, 1, 0, "SafetyState", .u8, .ro, .safety, 0, .any⟩,
  ⟨0xa000, 2, 2, 0, "Mismatches", .u32, .ro, .safety, 0, .any⟩,
  ⟨0xa000, 3, 3, 0, "SamplingDivergences", .u32, .ro, .safety, 0, .any⟩,
  ⟨0xa000, 4, 4, 0, "CoreMismatches", .u32, .ro, .safety, 0, .any⟩,
  ⟨0xa000, 5, 5, 0, "ComparatorFaults", .u32, .ro, .safety, 0, .any⟩,
  ⟨0xa000, 6, 6, 0, "LastMismatchGroup", .u8, .ro, .safety, 255, .any⟩,
  ⟨0xa000, 7, 7, 0, "FailSafeCause", .u8, .ro, .safety, 0, .any⟩,
  ⟨0xa000, 8, 8, 0, "IsolationViolations", .u32, .ro, .safety, 0, .any⟩,
  ⟨0xa000, 9, 9, 0, "FaultVector", .u8, .rwS, .safety, 255, .segs [(1, 63), (255, 255)]⟩,
  ⟨0xa000, 10, 10, 0, "FaultLogCount", .u8, .ro, .safety, 0, .any⟩,
  ⟨0xa000, 11, 11, 0, "FaultLogOverflow", .u32, .ro, .safety, 0, .any⟩,
  ⟨0xa000, 12, 12, 0, "FaultLogClear", .u8, .cmdS, .safety, 0, .toDefault [(0, 0)]⟩,
  ⟨0xa000, 13, 13, 0, "SafeRelease", .u8, .cmdS, .safety, 0, .toDefault [(0, 0)]⟩,
  ⟨0xa000, 14, 14, 0, "EnterFailSafe", .u8, .cmdS, .safety, 0, .toDefault [(0, 0)]⟩,
  ⟨0xa000, 15, 15, 0, "WatchdogService", .u8, .cmdS, .safety, 0, .toDefault [(0, 0)]⟩,
  ⟨0xa000, 16, 16, 0, "WatchdogPeriod", .u16, .rwS, .safety, 100, .segs [(1, 1000)]⟩,
  ⟨0xa000, 17, 17, 0, "PeriodicTestRun", .u8, .cmdS, .safety, 0, .toDefault [(0, 0)]⟩,
  ⟨0xa000, 18, 18, 0, "PeriodicTestResult", .u8, .ro, .safety, 255, .any⟩,
  ⟨0xa000, 19, 19, 0, "CorrectedErrors", .u64, .ro, .safety, 0, .any⟩,
  ⟨0xa000, 20, 20, 0, "UncorrectedErrors", .u32, .ro, .safety, 0, .any⟩,
  ⟨0xa000, 21, 21, 0, "CellCrcErrors", .u32, .ro, .safety, 0, .any⟩,
  ⟨0xa000, 22, 22, 0, "LatentTestAge", .u32, .ro, .safety, 0, .any⟩]

/-- Objects of the template 0xa010. -/
def objsA010 : List Obj := [
  ⟨0xa010, 1, 5, 0, "PipelineState", .u8, .ro, .safety, 1, .any⟩,
  ⟨0xa010, 6, 6, 0, "SpareHosts", .u8, .ro, .safety, 255, .any⟩,
  ⟨0xa010, 7, 7, 0, "Failovers", .u32, .ro, .safety, 0, .any⟩,
  ⟨0xa010, 8, 8, 0, "FailoverDiscards", .u32, .ro, .safety, 0, .any⟩,
  ⟨0xa010, 9, 9, 0, "InterruptionDiscards", .u64, .ro, .safety, 0, .any⟩,
  ⟨0xa010, 10, 10, 0, "LastInterruption", .u32, .ro, .safety, 0, .any⟩,
  ⟨0xa010, 12, 12, 0, "PipelineTest", .u8, .cmdS, .safety, 0, .segs [(0, 4)]⟩,
  ⟨0xa010, 13, 13, 0, "PipelineTestResult", .u8, .ro, .safety, 255, .any⟩]

/-- Objects of the template 0xb000. -/
def objsB000 : List Obj := [
  ⟨0xb000, 1, 1, 0, "SelfTestRun", .u8, .cmdS, .safety, 0, .any⟩,
  ⟨0xb000, 2, 2, 0, "SelfTestAbort", .u8, .cmdS, .safety, 0, .any⟩,
  ⟨0xb000, 3, 3, 0, "SelfTestVector", .u8, .rwS, .safety, 255, .segs [(1, 63), (255, 255)]⟩,
  ⟨0xb000, 4, 4, 0, "RefclkDeviation", .i32, .ro, .safety, 0, .any⟩,
  ⟨0xb000, 5, 5, 0, "JunctionTemperature", .i32, .ro, .safety, 0, .any⟩,
  ⟨0xb000, 6, 6, 0, "MbistResult", .u8, .ro, .safety, 0, .any⟩,
  ⟨0xb000, 7, 7, 0, "MbistRepairs", .u16, .ro, .safety, 0, .any⟩,
  ⟨0xb000, 8, 8, 0, "MbistFailedGroup", .u8, .ro, .safety, 255, .any⟩,
  ⟨0xb000, 9, 9, 0, "MbistDuration", .u32, .ro, .safety, 0, .any⟩,
  ⟨0xb000, 10, 10, 0, "TestsRunning", .u8, .ro, .safety, 0, .any⟩]

/-- Objects of the template 0xb001. -/
def objsB001 : List Obj := [
  ⟨0xb001, 1, 5, 0, "ExpectedSignature", .u32, .ro, .safety, 0, .any⟩]

/-- Objects of the template 0xb002. -/
def objsB002 : List Obj := [
  ⟨0xb002, 1, 5, 0, "ExpectedSteps", .u16, .ro, .safety, 18, .any⟩]

/-- Objects of the template 0xc000. -/
def objsC000 : List Obj := [
  ⟨0xc000, 1, 1, 0, "StartupState", .u8, .ro, .safety, 1, .any⟩,
  ⟨0xc000, 2, 2, 0, "FirmwareSlotActive", .u8, .ro, .safety, 255, .any⟩,
  ⟨0xc000, 3, 3, 0, "OdSlotActive", .u8, .ro, .safety, 255, .any⟩,
  ⟨0xc000, 4, 4, 0, "FirmwareTrial", .bool, .ro, .safety, 0, .any⟩,
  ⟨0xc000, 5, 5, 0, "OdTrial", .bool, .ro, .safety, 0, .any⟩,
  ⟨0xc000, 6, 6, 0, "TrialStarts", .u8, .ro, .safety, 0, .any⟩,
  ⟨0xc000, 7, 7, 0, "SlotFallbacks", .u32, .ro, .safety, 0, .any⟩,
  ⟨0xc000, 8, 8, 0, "RollbackCounter", .u8, .ro, .safety, 0, .any⟩,
  ⟨0xc000, 9, 9, 0, "UpdateConfirm", .u8, .cmdS, .safety, 0, .toDefault [(0, 0)]⟩,
  ⟨0xc000, 10, 10, 0, "RecoveryRequest", .u8, .cmdS, .safety, 0, .toDefault [(0, 0)]⟩,
  ⟨0xc000, 11, 11, 0, "SystemRestart", .u8, .cmdS, .safety, 0, .toDefault [(0, 0)]⟩,
  ⟨0xc000, 12, 12, 0, "JtagUnlock", .u8, .cmdS, .safety, 0, .toDefault [(0, 0)]⟩,
  ⟨0xc000, 13, 13, 0, "JtagState", .u8, .ro, .safety, 0, .any⟩,
  ⟨0xc000, 14, 14, 0, "StartupDuration", .u32, .ro, .safety, 0, .any⟩,
  ⟨0xc000, 15, 15, 0, "FirmwareVersion", .u32, .ro, .safety, 0, .any⟩,
  ⟨0xc000, 16, 16, 0, "OdImageVersion", .u32, .ro, .safety, 0, .any⟩,
  ⟨0xc000, 17, 17, 0, "LastImageRejection", .u16, .ro, .safety, 0, .any⟩]

/-- Objects of the template 0xc100. -/
def objsC100 : List Obj := [
  ⟨0xc100, 1, 1, 0, "UpdateOpen", .u8, .cmd, .safety, 0, .segs [(1, 2)]⟩,
  ⟨0xc100, 2, 2, 0, "UpdateState", .u8, .ro, .safety, 0, .any⟩,
  ⟨0xc100, 3, 3, 0, "UpdateVerify", .u8, .cmd, .safety, 0, .toDefault [(0, 0)]⟩,
  ⟨0xc100, 4, 4, 0, "UpdateActivate", .u8, .cmd, .safety, 0, .toDefault [(0, 0)]⟩,
  ⟨0xc100, 5, 5, 0, "UpdateAbort", .u8, .cmd, .safety, 0, .toDefault [(0, 0)]⟩,
  ⟨0xc100, 6, 6, 0, "UpdateReject", .u8, .ro, .safety, 0, .any⟩,
  ⟨0xc100, 7, 7, 0, "UpdateQueueFree", .u16, .ro, .safety, 256, .any⟩,
  ⟨0xc100, 8, 8, 0, "UpdateOwner", .u8, .ro, .safety, 255, .any⟩]

/-- Objects of the template 0xc200. -/
def objsC200 : List Obj := [
  ⟨0xc200, 1, 1, 0, "BankSelect", .u8, .ro, .safety, 0, .any⟩,
  ⟨0xc200, 2, 2, 0, "XtalStatus", .u8, .ro, .safety, 1, .any⟩,
  ⟨0xc200, 3, 3, 0, "GpioDirection", .u32, .rw, .application, 0, .any⟩,
  ⟨0xc200, 4, 4, 0, "GpioOutput", .u32, .rw, .application, 0, .any⟩,
  ⟨0xc200, 5, 5, 0, "GpioInput", .u32, .ro, .application, 0, .any⟩,
  ⟨0xc200, 6, 6, 0, "GpioPullDown", .u32, .rw, .application, 4294967295, .any⟩,
  ⟨0xc200, 7, 7, 0, "PpsOutput", .u32, .rw, .application, 0, .any⟩,
  ⟨0xc200, 8, 8, 0, "PpsWidth", .u32, .rw, .application, 1000000, .segs [(100, 500000000)]⟩]

/-- Every scalar object of the dictionary, by template index. -/
def catalog : List (Nat × List Obj) := [
  (0x1000, objs1000), (0x1f10, objs1F10), (0x1010, objs1010), (0x1e00, objs1E00), (0x1f00, objs1F00),
  (0x1f01, objs1F01), (0x1e10, objs1E10), (0x1e20, objs1E20), (0x1d00, objs1D00), (0x2000, objs2000),
  (0x2001, objs2001), (0x2002, objs2002), (0x2008, objs2008), (0x2009, objs2009), (0x2006, objs2006),
  (0x4000, objs4000), (0x4100, objs4100), (0x2003, objs2003), (0x3000, objs3000), (0x3010, objs3010),
  (0x2004, objs2004), (0x2005, objs2005), (0x5000, objs5000), (0x5010, objs5010), (0x6000, objs6000),
  (0x2007, objs2007), (0x200a, objs200A), (0x7000, objs7000), (0x8000, objs8000), (0x8010, objs8010),
  (0x8011, objs8011), (0x8020, objs8020), (0x8100, objs8100), (0x200b, objs200B), (0x8200, objs8200),
  (0x8300, objs8300), (0x8400, objs8400), (0x9000, objs9000), (0x9100, objs9100), (0xa000, objsA000),
  (0xa010, objsA010), (0xb000, objsB000), (0xb001, objsB001), (0xb002, objsB002), (0xc000, objsC000),
  (0xc100, objsC100), (0xc200, objsC200)]

/-- One table object: its index, rows, row stride, access, owner, whether it is staged, and its name. -/
structure Tab where
  idx : Nat
  rows : Nat
  stride : Nat
  acc : Acc
  own : Owner
  staged : Bool
  name : String
deriving DecidableEq, Repr

/-- Table objects. -/
def tables0 : List Tab := [
  ⟨0xF000, 16777216, 8, .ro, .application, false, "ClampCounters"⟩,
  ⟨0xF001, 16, 32, .ro, .application, false, "PostedErrorLog"⟩,
  ⟨0xF002, 64, 8, .rwS, .safety, false, "RemoteClients"⟩,
  ⟨0xF003, 32, 16, .ro, .application, false, "RemoteSessions"⟩,
  ⟨0xF010, 3072, 8, .rw, .application, true, "LinSchedule"⟩,
  ⟨0xF040, 8192, 256, .rw, .application, true, "TernaryRules"⟩,
  ⟨0xF041, 65536, 64, .rw, .application, true, "ExactEntries"⟩,
  ⟨0xF042, 4, 8, .rw, .application, true, "ExactProfiles"⟩,
  ⟨0xF043, 1024, 256, .rw, .application, true, "StencilPatterns"⟩,
  ⟨0xF044, 4096, 16, .rw, .application, true, "ActionSets"⟩,
  ⟨0xF045, 2, 8, .rw, .application, true, "ExtractFields"⟩,
  ⟨0xF046, 16384, 64, .rw, .application, false, "FirewallSessions"⟩,
  ⟨0xF047, 1024, 64, .ro, .application, false, "FragmentTable"⟩,
  ⟨0xF048, 32, 16, .rw, .application, false, "ExceptionReasons"⟩,
  ⟨0xF049, 32, 16, .ro, .application, false, "ExceptionCounters"⟩,
  ⟨0xF04A, 8192, 8, .ro, .application, false, "RuleHits"⟩,
  ⟨0xF050, 4, 8, .rwS, .safety, true, "CanvasPools"⟩,
  ⟨0xF051, 4096, 128, .rw, .application, true, "VlanTable"⟩,
  ⟨0xF052, 32768, 16, .rw, .application, false, "ForwardingDatabase"⟩,
  ⟨0xF053, 256, 8, .rw, .application, true, "PortForwarding"⟩,
  ⟨0xF054, 1024, 32, .rw, .application, true, "GroupPorts"⟩,
  ⟨0xF060, 256, 32, .rw, .safety, true, "PortTiming"⟩,
  ⟨0xF061, 262144, 8, .rw, .safety, true, "GateControlList"⟩,
  ⟨0xF062, 256, 8, .rw, .application, true, "Palette"⟩,
  ⟨0xF063, 4096, 16, .rw, .safety, true, "AtsShapers"⟩,
  ⟨0xF064, 1024, 8, .rw, .safety, true, "AtsGroups"⟩,
  ⟨0xF065, 4096, 32, .ro, .safety, false, "AtsState"⟩,
  ⟨0xF066, 512, 8, .rw, .application, false, "GptpPorts"⟩,
  ⟨0xF070, 8192, 64, .rw, .application, true, "StreamIdentification"⟩,
  ⟨0xF071, 4096, 32, .rw, .safety, true, "StreamContexts"⟩,
  ⟨0xF072, 4096, 32, .rw, .application, true, "FlowMeters"⟩,
  ⟨0xF073, 256, 16, .rwS, .safety, true, "StrictPolicers"⟩,
  ⟨0xF074, 1024, 16, .rw, .safety, true, "RecoveryFunctions"⟩,
  ⟨0xF075, 256, 16, .rw, .safety, true, "StreamPorts"⟩,
  ⟨0xF076, 4104, 16, .rwS, .safety, true, "HolrenCertificate"⟩]

/-- Table objects. -/
def tables1 : List Tab := [
  ⟨0xF077, 4096, 64, .ro, .safety, false, "StreamState"⟩,
  ⟨0xF078, 1024, 64, .ro, .safety, false, "RecoveryState"⟩,
  ⟨0xF07A, 16, 32, .ro, .safety, false, "DeliveryFaultLog"⟩,
  ⟨0xF07B, 2048, 128, .ro, .application, false, "SojournHistograms"⟩,
  ⟨0xF080, 16384, 128, .rw, .application, true, "GatewayRoutes"⟩,
  ⟨0xF081, 1024, 64, .rw, .application, true, "TransformProfiles"⟩,
  ⟨0xF082, 64, 32, .ro, .application, false, "GatewayFailureLog"⟩,
  ⟨0xF083, 16384, 64, .ro, .application, false, "RouteCounters"⟩,
  ⟨0xF090, 48, 32, .rw, .application, false, "MacsecSecY"⟩,
  ⟨0xF091, 192, 16, .rw, .application, false, "MacsecRxSc"⟩,
  ⟨0xF092, 960, 64, .rw, .application, false, "MacsecSa"⟩,
  ⟨0xF094, 16384, 16, .rwS, .safety, false, "FreshnessCounters"⟩,
  ⟨0xF095, 64, 16, .rwS, .safety, false, "GlovePages"⟩,
  ⟨0xF096, 1024, 64, .rw, .application, false, "GloveJobs"⟩,
  ⟨0xF097, 4096, 64, .rw, .application, false, "GloveData"⟩,
  ⟨0xF098, 1024, 64, .rwS, .safety, false, "KeyTable"⟩,
  ⟨0xF099, 2, 256, .rw, .safety, false, "SignatureJobs"⟩,
  ⟨0xF09A, 1, 1024, .rw, .safety, false, "AttestationStatement"⟩,
  ⟨0xF0A0, 32, 64, .rw, .application, false, "RingConfig"⟩,
  ⟨0xF0A1, 2048, 32, .rw, .application, false, "RingMembers"⟩,
  ⟨0xF0A2, 32, 32, .ro, .application, false, "KeepAwakeLog"⟩,
  ⟨0xF0A3, 16, 16, .rw, .application, false, "WakeInputs"⟩,
  ⟨0xF0B0, 32, 32, .ro, .safety, false, "FaultLog"⟩,
  ⟨0xF0B1, 128, 32, .rwS, .safety, false, "SelfTestBlocks"⟩,
  ⟨0xF0C0, 32768, 256, .rw, .safety, false, "UpdateWindow"⟩,
  ⟨0xF0C1, 2, 64, .rwS, .safety, false, "ImageKeys"⟩]

/-- Every table object of the dictionary. -/
def tables : List Tab := tables0 ++ tables1

end Sys2Proof.Machine
end

