-- ==== Sys2Proof/Machine/Fields.lean ====
section
/-! DEFINITION. The row layouts of the table objects: every field of every row, with its place, width, clamp rule and
default, as the layout tables of spec/ give them. Octets and bits that no field covers are reserved (R33). -/

namespace Sys2Proof.Machine

/-- A field of a table row: its first bit (octet × 8 + bit, little-endian as R34), its width, its legal values,
    the value
it has in a row never written, and whether a write leaves it as it is. -/
structure Fld where
  bit : Nat
  width : Nat
  legal : Legal := .any
  dflt : Nat := 0
  ro : Bool := false
deriving DecidableEq, Repr

namespace F

/-- ClampCounters, octet 0 bit 0. -/
def clampCount : Fld := ⟨0, 32, .any, 0, true⟩
/-- PostedErrorLog, octet 0 bit 0. -/
def postedTime : Fld := ⟨0, 64, .any, 0, true⟩
/-- PostedErrorLog, octet 8 bit 0. -/
def postedTarget : Fld := ⟨64, 64, .any, 0, true⟩
/-- PostedErrorLog, octet 16 bit 0. -/
def postedWhere : Fld := ⟨128, 64, .any, 0, true⟩
/-- PostedErrorLog, octet 24 bit 0. -/
def postedReason : Fld := ⟨192, 8, .any, 0, true⟩
/-- PostedErrorLog, octet 25 bit 0. -/
def postedCount : Fld := ⟨200, 8, .any, 0, true⟩
/-- PostedErrorLog, octet 26 bit 0. -/
def postedRequester : Fld := ⟨208, 16, .any, 0, true⟩
/-- PostedErrorLog, octet 28 bit 0. -/
def postedFirst : Fld := ⟨224, 32, .any, 0, true⟩
/-- RemoteClients, octet 0 bit 0. -/
def clientKeySlot : Fld := ⟨0, 10, .any, 0, false⟩
/-- RemoteClients, octet 1 bit 4. -/
def clientTransports : Fld := ⟨12, 2, .any, 0, false⟩
/-- RemoteClients, octet 1 bit 6. -/
def clientReadOnly : Fld := ⟨14, 1, .any, 0, false⟩
/-- RemoteClients, octet 1 bit 7. -/
def clientEnable : Fld := ⟨15, 1, .any, 0, false⟩
/-- RemoteSessions, octet 0 bit 0. -/
def rsessState : Fld := ⟨0, 8, .any, 0, true⟩
/-- RemoteSessions, octet 1 bit 0. -/
def rsessClient : Fld := ⟨8, 8, .any, 0, true⟩
/-- RemoteSessions, octet 2 bit 0. -/
def rsessPort : Fld := ⟨16, 8, .any, 0, true⟩
/-- RemoteSessions, octet 4 bit 0. -/
def rsessSeq : Fld := ⟨32, 32, .any, 0, true⟩
/-- RemoteSessions, octet 8 bit 0. -/
def rsessActive : Fld := ⟨64, 64, .any, 0, true⟩
/-- LinSchedule, octet 0 bit 0. -/
def linFrameId : Fld := ⟨0, 6, .any, 0, false⟩
/-- LinSchedule, octet 0 bit 6. -/
def linPublish : Fld := ⟨6, 1, .any, 0, false⟩
/-- LinSchedule, octet 0 bit 7. -/
def linValid : Fld := ⟨7, 1, .any, 0, false⟩
/-- LinSchedule, octet 1 bit 0. -/
def linLength : Fld := ⟨8, 4, .segs [(1, 8)], 0, false⟩
/-- LinSchedule, octet 1 bit 7. -/
def linEnhanced : Fld := ⟨15, 1, .any, 0, false⟩
/-- LinSchedule, octet 2 bit 0. -/
def linSlot : Fld := ⟨16, 16, .segs [(10, 65535)], 0, false⟩
/-- TernaryRules, octet 0 bit 0. -/
def ternKey : Fld := ⟨0, 640, .any, 0, false⟩
/-- TernaryRules, octet 80 bit 0. -/
def ternMask : Fld := ⟨640, 640, .any, 0, false⟩
/-- TernaryRules, octet 160 bit 7. -/
def ternValid : Fld := ⟨1287, 1, .any, 0, false⟩
/-- TernaryRules, octet 162 bit 0. -/
def ternAction : Fld := ⟨1296, 16, .segs [(0, 4095)], 0, false⟩
/-- ExactEntries, octet 0 bit 0. -/
def exactKey : Fld := ⟨0, 320, .any, 0, false⟩
/-- ExactEntries, octet 40 bit 0. -/
def exactProfile : Fld := ⟨320, 2, .any, 0, false⟩
/-- ExactEntries, octet 40 bit 7. -/
def exactValid : Fld := ⟨327, 1, .any, 0, false⟩
/-- ExactEntries, octet 42 bit 0. -/
def exactTag : Fld := ⟨336, 16, .any, 0, false⟩
/-- ExactEntries, octet 44 bit 0. -/
def exactAction : Fld := ⟨352, 16, .keep 4095 65535, 0, false⟩
/-- ExactProfiles, octet 0 bit 0. -/
def profSelect : Fld := ⟨0, 22, .any, 0, false⟩
/-- ExactProfiles, octet 7 bit 7. -/
def profValid : Fld := ⟨63, 1, .any, 0, false⟩
/-- StencilPatterns, octet 0 bit 0. -/
def patPattern : Fld := ⟨0, 512, .any, 0, false⟩
/-- StencilPatterns, octet 64 bit 0. -/
def patMask : Fld := ⟨512, 512, .any, 0, false⟩
/-- StencilPatterns, octet 128 bit 6. -/
def patAnchored : Fld := ⟨1030, 1, .any, 0, false⟩
/-- StencilPatterns, octet 128 bit 7. -/
def patValid : Fld := ⟨1031, 1, .any, 0, false⟩
/-- StencilPatterns, octet 129 bit 0. -/
def patLength : Fld := ⟨1032, 8, .segs [(1, 64)], 0, false⟩
/-- StencilPatterns, octet 130 bit 0. -/
def patStart : Fld := ⟨1040, 16, .segs [(0, 511)], 0, false⟩
/-- StencilPatterns, octet 132 bit 0. -/
def patFinish : Fld := ⟨1056, 16, .segs [(0, 511)], 0, false⟩
/-- ActionSets, octet 0 bit 0. -/
def actFixedPort : Fld := ⟨0, 1, .any, 0, false⟩
/-- ActionSets, octet 0 bit 1. -/
def actOverride : Fld := ⟨1, 1, .any, 0, false⟩
/-- ActionSets, octet 0 bit 2. -/
def actSessionCreate : Fld := ⟨2, 1, .any, 0, false⟩
/-- ActionSets, octet 0 bit 3. -/
def actRecirculate : Fld := ⟨3, 1, .any, 0, false⟩
/-- ActionSets, octet 0 bit 4. -/
def actMirror : Fld := ⟨4, 1, .any, 0, false⟩
/-- ActionSets, octet 0 bit 5. -/
def actCopy : Fld := ⟨5, 1, .any, 0, false⟩
/-- ActionSets, octet 0 bit 6. -/
def actForward : Fld := ⟨6, 1, .any, 0, false⟩
/-- ActionSets, octet 0 bit 7. -/
def actDrop : Fld := ⟨7, 1, .any, 0, false⟩
/-- ActionSets, octet 1 bit 1. -/
def actMode : Fld := ⟨9, 2, .segs [(0, 2)], 0, false⟩
/-- ActionSets, octet 1 bit 3. -/
def actMirrorTarget : Fld := ⟨11, 2, .any, 0, false⟩
/-- ActionSets, octet 1 bit 5. -/
def actPriority : Fld := ⟨13, 3, .any, 0, false⟩
/-- ActionSets, octet 2 bit 0. -/
def actCopyReason : Fld := ⟨16, 5, .segs [(16, 31)], 16, false⟩
/-- ActionSets, octet 3 bit 0. -/
def actPort : Fld := ⟨24, 8, .any, 0, false⟩
/-- ExtractFields, octet 0 bit 0. -/
def extMask : Fld := ⟨0, 32, .any, 0, false⟩
/-- ExtractFields, octet 4 bit 0. -/
def extOffset : Fld := ⟨32, 16, .segs [(0, 255)], 0, false⟩
/-- ExtractFields, octet 6 bit 0. -/
def extAnchor : Fld := ⟨48, 8, .segs [(0, 19)], 0, false⟩
/-- ExtractFields, octet 7 bit 7. -/
def extValid : Fld := ⟨63, 1, .any, 0, false⟩
/-- FirewallSessions, octet 0 bit 5. -/
def sessState : Fld := ⟨5, 3, .segs [(0, 4)], 0, false⟩
/-- FirewallSessions, octet 1 bit 4. -/
def sessVersion : Fld := ⟨12, 4, .segs [(4, 4), (6, 6)], 0, false⟩
/-- FirewallSessions, octet 2 bit 0. -/
def sessProtocol : Fld := ⟨16, 8, .any, 0, false⟩
/-- FirewallSessions, octet 4 bit 0. -/
def sessVid : Fld := ⟨32, 12, .any, 0, false⟩
/-- FirewallSessions, octet 8 bit 0. -/
def sessInitiator : Fld := ⟨64, 128, .any, 0, false⟩
/-- FirewallSessions, octet 24 bit 0. -/
def sessResponder : Fld := ⟨192, 128, .any, 0, false⟩
/-- FirewallSessions, octet 40 bit 0. -/
def sessInitPort : Fld := ⟨320, 16, .any, 0, false⟩
/-- FirewallSessions, octet 42 bit 0. -/
def sessRespPort : Fld := ⟨336, 16, .any, 0, false⟩
/-- FirewallSessions, octet 48 bit 0. -/
def sessTime : Fld := ⟨384, 64, .any, 0, true⟩
/-- FirewallSessions, octet 56 bit 0. -/
def sessFramesInit : Fld := ⟨448, 32, .any, 0, true⟩
/-- FirewallSessions, octet 60 bit 0. -/
def sessFramesResp : Fld := ⟨480, 32, .any, 0, true⟩
/-- FragmentTable, octet 0 bit 0. -/
def fragActions : Fld := ⟨0, 128, .any, 0, true⟩
/-- FragmentTable, octet 16 bit 0. -/
def fragSource : Fld := ⟨128, 128, .any, 0, true⟩
/-- FragmentTable, octet 32 bit 0. -/
def fragDest : Fld := ⟨256, 128, .any, 0, true⟩
/-- FragmentTable, octet 48 bit 0. -/
def fragIdent : Fld := ⟨384, 32, .any, 0, true⟩
/-- FragmentTable, octet 52 bit 6. -/
def fragIpv6 : Fld := ⟨422, 1, .any, 0, true⟩
/-- FragmentTable, octet 52 bit 7. -/
def fragValid : Fld := ⟨423, 1, .any, 0, true⟩
/-- FragmentTable, octet 53 bit 0. -/
def fragProtocol : Fld := ⟨424, 8, .any, 0, true⟩
/-- FragmentTable, octet 56 bit 0. -/
def fragTime : Fld := ⟨448, 64, .any, 0, true⟩
/-- ExceptionReasons, octet 0 bit 0. -/
def exrRate : Fld := ⟨0, 32, .segs [(1, 50000)], 1000, false⟩
/-- ExceptionReasons, octet 4 bit 0. -/
def exrBurst : Fld := ⟨32, 16, .segs [(1, 1024)], 64, false⟩
/-- ExceptionReasons, octet 6 bit 0. -/
def exrPort : Fld := ⟨48, 2, .any, 0, false⟩
/-- ExceptionReasons, octet 7 bit 0. -/
def exrTc : Fld := ⟨56, 3, .any, 2, false⟩
/-- ExceptionCounters, octet 0 bit 0. -/
def excDelivered : Fld := ⟨0, 64, .any, 0, true⟩
/-- ExceptionCounters, octet 8 bit 0. -/
def excDroppedReason : Fld := ⟨64, 32, .any, 0, true⟩
/-- ExceptionCounters, octet 12 bit 0. -/
def excDroppedAggregate : Fld := ⟨96, 32, .any, 0, true⟩
/-- RuleHits, octet 0 bit 0. -/
def hitsCount : Fld := ⟨0, 64, .any, 0, true⟩
/-- CanvasPools, octet 0 bit 0. -/
def poolQuota : Fld := ⟨0, 32, .segs [(0, 95232)], 0, false⟩
/-- CanvasPools, octet 4 bit 0. -/
def poolClasses : Fld := ⟨32, 8, .any, 0, false⟩
/-- CanvasPools, octet 5 bit 0. -/
def poolProtected : Fld := ⟨40, 8, .any, 0, false⟩
/-- VlanTable, octet 0 bit 7. -/
def vlanValid : Fld := ⟨7, 1, .any, 0, false⟩
/-- VlanTable, octet 32 bit 0. -/
def vlanMembers : Fld := ⟨256, 256, .any, 0, false⟩
/-- VlanTable, octet 64 bit 0. -/
def vlanUntagged : Fld := ⟨512, 256, .any, 0, false⟩
/-- ForwardingDatabase, octet 0 bit 0. -/
def fdbAddress : Fld := ⟨0, 48, .any, 0, false⟩
/-- ForwardingDatabase, octet 6 bit 0. -/
def fdbVid : Fld := ⟨48, 12, .segs [(1, 4094)], 0, false⟩
/-- ForwardingDatabase, octet 7 bit 4. -/
def fdbHit : Fld := ⟨60, 1, .any, 0, true⟩
/-- ForwardingDatabase, octet 7 bit 5. -/
def fdbGroup : Fld := ⟨61, 1, .any, 0, false⟩
/-- ForwardingDatabase, octet 7 bit 6. -/
def fdbStatic : Fld := ⟨62, 1, .any, 0, false⟩
/-- ForwardingDatabase, octet 7 bit 7. -/
def fdbValid : Fld := ⟨63, 1, .any, 0, false⟩
/-- ForwardingDatabase, octet 8 bit 0. -/
def fdbTarget : Fld := ⟨64, 10, .any, 0, false⟩
/-- PortForwarding, octet 0 bit 0. -/
def pfwdPvid : Fld := ⟨0, 12, .segs [(1, 4094)], 1, false⟩
/-- PortForwarding, octet 2 bit 0. -/
def pfwdAccepted : Fld := ⟨16, 2, .segs [(0, 2)], 0, false⟩
/-- PortForwarding, octet 2 bit 2. -/
def pfwdIngressFilter : Fld := ⟨18, 1, .any, 0, false⟩
/-- PortForwarding, octet 2 bit 3. -/
def pfwdLearning : Fld := ⟨19, 1, .any, 1, false⟩
/-- PortForwarding, octet 3 bit 0. -/
def pfwdPipeline : Fld := ⟨24, 3, .segs [(0, 3)], 0, false⟩
/-- GroupPorts, octet 0 bit 0. -/
def grpPorts : Fld := ⟨0, 256, .any, 0, false⟩
/-- PortTiming, octet 0 bit 4. -/
def ptimAddFrag : Fld := ⟨4, 2, .any, 0, false⟩
/-- PortTiming, octet 0 bit 6. -/
def ptimPreempt : Fld := ⟨6, 1, .any, 0, false⟩
/-- PortTiming, octet 0 bit 7. -/
def ptimGate : Fld := ⟨7, 1, .any, 0, false⟩
/-- PortTiming, octet 1 bit 0. -/
def ptimOverhead : Fld := ⟨8, 6, .any, 0, false⟩
/-- PortTiming, octet 2 bit 0. -/
def ptimPreemptMask : Fld := ⟨16, 8, .any, 0, false⟩
/-- PortTiming, octet 3 bit 0. -/
def ptimAdminStates : Fld := ⟨24, 8, .any, 255, false⟩
/-- PortTiming, octet 4 bit 0. -/
def ptimLength : Fld := ⟨32, 16, .segs [(1, 1024)], 1, false⟩
/-- PortTiming, octet 8 bit 0. -/
def ptimBase : Fld := ⟨64, 64, .any, 0, false⟩
/-- PortTiming, octet 16 bit 0. -/
def ptimCycle : Fld := ⟨128, 32, .segs [(10000, 1000000000)], 1000000, false⟩
/-- PortTiming, octet 20 bit 0. -/
def ptimExtension : Fld := ⟨160, 32, .segs [(0, 1000000000)], 0, false⟩
/-- GateControlList, octet 0 bit 0. -/
def gclInterval : Fld := ⟨0, 32, .segs [(50, 1000000000)], 1000000, false⟩
/-- GateControlList, octet 4 bit 0. -/
def gclStates : Fld := ⟨32, 8, .any, 255, false⟩
/-- GateControlList, octet 5 bit 0. -/
def gclOperation : Fld := ⟨40, 2, .segs [(0, 2)], 0, false⟩
/-- Palette, octet 0 bit 0. -/
def palMap : Fld := ⟨0, 24, .any, 16434817, false⟩
/-- Palette, octet 3 bit 0. -/
def palPriority : Fld := ⟨24, 3, .any, 0, false⟩
/-- AtsShapers, octet 0 bit 7. -/
def atsValid : Fld := ⟨7, 1, .any, 0, false⟩
/-- AtsShapers, octet 2 bit 0. -/
def atsGroup : Fld := ⟨16, 10, .any, 0, false⟩
/-- AtsShapers, octet 4 bit 0. -/
def atsCbs : Fld := ⟨32, 32, .segs [(64, 1048576)], 0, false⟩
/-- AtsShapers, octet 8 bit 0. -/
def atsCir : Fld := ⟨64, 64, .segs [(1000, 25000000000)], 0, false⟩
/-- AtsGroups, octet 0 bit 0. -/
def atsgResidence : Fld := ⟨0, 32, .segs [(1000, 1000000000)], 1000000, false⟩
/-- AtsState, octet 0 bit 0. -/
def atssBucket : Fld := ⟨0, 64, .any, 0, true⟩
/-- AtsState, octet 8 bit 0. -/
def atssShaped : Fld := ⟨64, 64, .any, 0, true⟩
/-- AtsState, octet 16 bit 0. -/
def atssDiscards : Fld := ⟨128, 32, .any, 0, true⟩
/-- GptpPorts, octet 0 bit 5. -/
def gptpRole : Fld := ⟨5, 2, .any, 0, false⟩
/-- GptpPorts, octet 0 bit 7. -/
def gptpEnable : Fld := ⟨7, 1, .any, 0, false⟩
/-- GptpPorts, octet 1 bit 5. -/
def gptpInUse : Fld := ⟨13, 2, .any, 0, true⟩
/-- GptpPorts, octet 1 bit 7. -/
def gptpAsCapable : Fld := ⟨15, 1, .any, 0, true⟩
/-- StreamIdentification, octet 0 bit 0. -/
def sidKey : Fld := ⟨0, 384, .any, 0, false⟩
/-- StreamIdentification, octet 48 bit 0. -/
def sidMethod : Fld := ⟨384, 3, .segs [(1, 4)], 0, false⟩
/-- StreamIdentification, octet 48 bit 7. -/
def sidValid : Fld := ⟨391, 1, .any, 0, false⟩
/-- StreamIdentification, octet 50 bit 0. -/
def sidHandle : Fld := ⟨400, 12, .any, 0, false⟩
/-- StreamContexts, octet 0 bit 0. -/
def ctxCls : Fld := ⟨0, 3, .any, 0, false⟩
/-- StreamContexts, octet 0 bit 3. -/
def ctxBlockOversize : Fld := ⟨3, 1, .any, 0, false⟩
/-- StreamContexts, octet 0 bit 4. -/
def ctxGenerate : Fld := ⟨4, 1, .any, 0, false⟩
/-- StreamContexts, octet 0 bit 5. -/
def ctxMember : Fld := ⟨5, 1, .any, 0, false⟩
/-- StreamContexts, octet 0 bit 6. -/
def ctxGuaranteed : Fld := ⟨6, 1, .any, 0, false⟩
/-- StreamContexts, octet 0 bit 7. -/
def ctxValid : Fld := ⟨7, 1, .any, 0, false⟩
/-- StreamContexts, octet 1 bit 6. -/
def ctxMeterKind : Fld := ⟨14, 2, .segs [(0, 2)], 0, false⟩
/-- StreamContexts, octet 2 bit 0. -/
def ctxMaxSdu : Fld := ⟨16, 16, .segs [(1, 9600)], 0, false⟩
/-- StreamContexts, octet 4 bit 0. -/
def ctxMeter : Fld := ⟨32, 12, .any, 0, false⟩
/-- StreamContexts, octet 6 bit 0. -/
def ctxShaper : Fld := ⟨48, 12, .any, 0, false⟩
/-- StreamContexts, octet 7 bit 7. -/
def ctxShaperValid : Fld := ⟨63, 1, .any, 0, false⟩
/-- StreamContexts, octet 8 bit 0. -/
def ctxRecovery : Fld := ⟨64, 10, .any, 0, false⟩
/-- StreamContexts, octet 9 bit 7. -/
def ctxRecoveryValid : Fld := ⟨79, 1, .any, 0, false⟩
/-- StreamContexts, octet 10 bit 0. -/
def ctxTarget : Fld := ⟨80, 10, .any, 0, false⟩
/-- StreamContexts, octet 11 bit 7. -/
def ctxTargetValid : Fld := ⟨95, 1, .any, 0, false⟩
/-- StreamContexts, octet 12 bit 0. -/
def ctxReplication : Fld := ⟨96, 10, .any, 0, false⟩
/-- StreamContexts, octet 13 bit 7. -/
def ctxReplicationValid : Fld := ⟨111, 1, .any, 0, false⟩
/-- StreamContexts, octet 14 bit 0. -/
def ctxRtag : Fld := ⟨112, 10, .any, 0, false⟩
/-- StreamContexts, octet 15 bit 7. -/
def ctxRtagValid : Fld := ⟨127, 1, .any, 0, false⟩
/-- StreamContexts, octet 16 bit 0. -/
def ctxIngress : Fld := ⟨128, 16, .segs [(0, 255), (65535, 65535)], 0, false⟩
/-- FlowMeters, octet 0 bit 3. -/
def flowMarkEnable : Fld := ⟨3, 1, .any, 0, false⟩
/-- FlowMeters, octet 0 bit 4. -/
def flowDropYellow : Fld := ⟨4, 1, .any, 0, false⟩
/-- FlowMeters, octet 0 bit 5. -/
def flowCoupling : Fld := ⟨5, 1, .any, 0, false⟩
/-- FlowMeters, octet 0 bit 6. -/
def flowAware : Fld := ⟨6, 1, .any, 0, false⟩
/-- FlowMeters, octet 0 bit 7. -/
def flowValid : Fld := ⟨7, 1, .any, 0, false⟩
/-- FlowMeters, octet 4 bit 0. -/
def flowCbs : Fld := ⟨32, 32, .segs [(0, 1048576)], 0, false⟩
/-- FlowMeters, octet 8 bit 0. -/
def flowEbs : Fld := ⟨64, 32, .segs [(0, 1048576)], 0, false⟩
/-- FlowMeters, octet 16 bit 0. -/
def flowCir : Fld := ⟨128, 64, .segs [(0, 25000000000)], 0, false⟩
/-- FlowMeters, octet 24 bit 0. -/
def flowEir : Fld := ⟨192, 64, .segs [(0, 25000000000)], 0, false⟩
/-- StrictPolicers, octet 0 bit 6. -/
def polReport : Fld := ⟨6, 1, .any, 0, false⟩
/-- StrictPolicers, octet 0 bit 7. -/
def polValid : Fld := ⟨7, 1, .any, 0, false⟩
/-- StrictPolicers, octet 2 bit 0. -/
def polStream : Fld := ⟨16, 12, .any, 0, false⟩
/-- StrictPolicers, octet 4 bit 0. -/
def polCbs : Fld := ⟨32, 32, .segs [(64, 1048576)], 0, false⟩
/-- StrictPolicers, octet 8 bit 0. -/
def polCir : Fld := ⟨64, 64, .segs [(1000, 25000000000)], 0, false⟩
/-- RecoveryFunctions, octet 0 bit 5. -/
def recTakeNo : Fld := ⟨5, 1, .any, 0, false⟩
/-- RecoveryFunctions, octet 0 bit 6. -/
def recMatch : Fld := ⟨6, 1, .any, 0, false⟩
/-- RecoveryFunctions, octet 0 bit 7. -/
def recValid : Fld := ⟨7, 1, .any, 0, false⟩
/-- RecoveryFunctions, octet 1 bit 0. -/
def recHistory : Fld := ⟨8, 8, .segs [(2, 32)], 0, false⟩
/-- RecoveryFunctions, octet 2 bit 0. -/
def recOutput : Fld := ⟨16, 12, .any, 0, false⟩
/-- RecoveryFunctions, octet 4 bit 0. -/
def recTimeout : Fld := ⟨32, 32, .segs [(1, 10000)], 0, false⟩
/-- StreamPorts, octet 0 bit 0. -/
def sportMethods : Fld := ⟨0, 4, .any, 0, false⟩
/-- StreamPorts, octet 4 bit 0. -/
def sportBurst : Fld := ⟨32, 32, .segs [(0, 1000000000)], 0, false⟩
/-- StreamPorts, octet 8 bit 0. -/
def sportShare : Fld := ⟨64, 32, .segs [(0, 1000000)], 0, false⟩
/-- HolrenCertificate: a row of the signature, and the assigned parts of rows 0 to 2 and of a record (R253). -/
def certAll : Fld := ⟨0, 128, .any, 0, false⟩
def certMagic : Fld := ⟨0, 40, .any, 0, false⟩
def certCount : Fld := ⟨48, 80, .any, 0, false⟩
def certDigest : Fld := ⟨0, 64, .any, 0, false⟩
def certHandle : Fld := ⟨0, 12, .any, 0, false⟩
def certBound : Fld := ⟨32, 32, .any, 0, false⟩
/-- StreamState, octet 0 bit 0. -/
def stBound : Fld := ⟨0, 32, .any, 0, true⟩
/-- StreamState, octet 4 bit 5. -/
def stBlocked : Fld := ⟨37, 1, .any, 0, true⟩
/-- StreamState, octet 4 bit 6. -/
def stSuspended : Fld := ⟨38, 1, .any, 0, true⟩
/-- StreamState, octet 4 bit 7. -/
def stAdmitted : Fld := ⟨39, 1, .any, 0, true⟩
/-- StreamState, octet 8 bit 0. -/
def stMatched : Fld := ⟨64, 64, .any, 0, true⟩
/-- StreamState, octet 16 bit 0. -/
def stPassed : Fld := ⟨128, 64, .any, 0, true⟩
/-- StreamState, octet 24 bit 0. -/
def stFiltered : Fld := ⟨192, 32, .any, 0, true⟩
/-- StreamState, octet 28 bit 0. -/
def stYellow : Fld := ⟨224, 32, .any, 0, true⟩
/-- StreamState, octet 32 bit 0. -/
def stRed : Fld := ⟨256, 32, .any, 0, true⟩
/-- StreamState, octet 36 bit 0. -/
def stFaults : Fld := ⟨288, 32, .any, 0, true⟩
/-- StreamState, octet 40 bit 0. -/
def stMaxSojourn : Fld := ⟨320, 32, .any, 0, true⟩
/-- StreamState, octet 48 bit 0. -/
def stSequence : Fld := ⟨384, 16, .any, 0, true⟩
/-- RecoveryState, octet 0 bit 0. -/
def rstPassed : Fld := ⟨0, 64, .any, 0, true⟩
/-- RecoveryState, octet 8 bit 0. -/
def rstDiscarded : Fld := ⟨64, 64, .any, 0, true⟩
/-- RecoveryState, octet 16 bit 0. -/
def rstOutOfOrder : Fld := ⟨128, 32, .any, 0, true⟩
/-- RecoveryState, octet 20 bit 0. -/
def rstRogue : Fld := ⟨160, 32, .any, 0, true⟩
/-- RecoveryState, octet 24 bit 0. -/
def rstLost : Fld := ⟨192, 32, .any, 0, true⟩
/-- RecoveryState, octet 28 bit 0. -/
def rstTagless : Fld := ⟨224, 32, .any, 0, true⟩
/-- RecoveryState, octet 32 bit 0. -/
def rstResets : Fld := ⟨256, 32, .any, 0, true⟩
/-- DeliveryFaultLog, octet 0 bit 0. -/
def dflogTime : Fld := ⟨0, 64, .any, 0, true⟩
/-- DeliveryFaultLog, octet 8 bit 0. -/
def dflogStream : Fld := ⟨64, 16, .any, 0, true⟩
/-- DeliveryFaultLog, octet 10 bit 0. -/
def dflogPort : Fld := ⟨80, 8, .any, 0, true⟩
/-- DeliveryFaultLog, octet 11 bit 0. -/
def dflogKind : Fld := ⟨88, 8, .any, 0, true⟩
/-- DeliveryFaultLog, octet 12 bit 0. -/
def dflogSojourn : Fld := ⟨96, 32, .any, 0, true⟩
/-- DeliveryFaultLog, octet 16 bit 0. -/
def dflogBound : Fld := ⟨128, 32, .any, 0, true⟩
/-- SojournHistograms, octet 0 bit 0. -/
def histBins : Fld := ⟨0, 512, .any, 0, true⟩
/-- SojournHistograms, octet 64 bit 0. -/
def histMax : Fld := ⟨512, 32, .any, 0, true⟩
/-- SojournHistograms, octet 72 bit 0. -/
def histMaxTime : Fld := ⟨576, 64, .any, 0, true⟩
/-- SojournHistograms, octet 80 bit 0. -/
def histSamples : Fld := ⟨640, 64, .any, 0, true⟩
/-- GatewayRoutes, octet 0 bit 7. -/
def routeValid : Fld := ⟨7, 1, .any, 0, false⟩
/-- GatewayRoutes, octet 1 bit 0. -/
def routeSource : Fld := ⟨8, 8, .any, 0, false⟩
/-- GatewayRoutes, octet 2 bit 1. -/
def routeKinds : Fld := ⟨17, 6, .any, 0, false⟩
/-- GatewayRoutes, octet 4 bit 0. -/
def routeIdent : Fld := ⟨32, 32, .any, 0, false⟩
/-- GatewayRoutes, octet 8 bit 0. -/
def routeMask : Fld := ⟨64, 32, .any, 0, false⟩
/-- GatewayRoutes, octet 12 bit 0. -/
def routeLifetime : Fld := ⟨96, 16, .segs [(1, 65535)], 1000, false⟩
/-- GatewayRoutes, pair j. -/
def routePairIdMode (j : Nat) : Fld := ⟨129 + 64 * j, 3, .segs [(0, 4)], 0, false⟩
/-- GatewayRoutes, pair j. -/
def routePairFormat (j : Nat) : Fld := ⟨132 + 64 * j, 3, .segs [(0, 6)], 0, false⟩
/-- GatewayRoutes, pair j. -/
def routePairValid (j : Nat) : Fld := ⟨135 + 64 * j, 1, .any, 0, false⟩
/-- GatewayRoutes, pair j. -/
def routePairPort (j : Nat) : Fld := ⟨136 + 64 * j, 8, .any, 0, false⟩
/-- GatewayRoutes, pair j. -/
def routePairProfile (j : Nat) : Fld := ⟨144 + 64 * j, 10, .any, 0, false⟩
/-- GatewayRoutes, pair j. -/
def routePairIdent (j : Nat) : Fld := ⟨160 + 64 * j, 32, .any, 0, false⟩
/-- TransformProfiles, octet 0 bit 4. -/
def xpXlSec : Fld := ⟨4, 1, .any, 0, false⟩
/-- TransformProfiles, octet 0 bit 5. -/
def xpTagged : Fld := ⟨5, 1, .any, 0, false⟩
/-- TransformProfiles, octet 0 bit 6. -/
def xpBrs : Fld := ⟨6, 1, .any, 0, false⟩
/-- TransformProfiles, octet 0 bit 7. -/
def xpValid : Fld := ⟨7, 1, .any, 0, false⟩
/-- TransformProfiles, octet 1 bit 0. -/
def xpBusId : Fld := ⟨8, 5, .any, 0, false⟩
/-- TransformProfiles, octet 1 bit 5. -/
def xpPcp : Fld := ⟨13, 3, .any, 0, false⟩
/-- TransformProfiles, octet 2 bit 0. -/
def xpVid : Fld := ⟨16, 12, .segs [(1, 4094)], 0, false⟩
/-- TransformProfiles, octet 4 bit 0. -/
def xpDa : Fld := ⟨32, 48, .any, 0, false⟩
/-- TransformProfiles, octet 10 bit 0. -/
def xpSa : Fld := ⟨80, 48, .any, 0, false⟩
/-- TransformProfiles, octet 16 bit 0. -/
def xpStreamId : Fld := ⟨128, 64, .any, 0, false⟩
/-- TransformProfiles, octet 24 bit 0. -/
def xpSdt : Fld := ⟨192, 8, .any, 0, false⟩
/-- TransformProfiles, octet 25 bit 0. -/
def xpVcid : Fld := ⟨200, 8, .any, 0, false⟩
/-- TransformProfiles, octet 26 bit 0. -/
def xpXlId : Fld := ⟨208, 11, .any, 0, false⟩
/-- TransformProfiles, octet 28 bit 0. -/
def xpPad : Fld := ⟨224, 8, .any, 0, false⟩
/-- TransformProfiles, octet 32 bit 0. -/
def xpOffset : Fld := ⟨256, 32, .segs [(0, 100000000)], 0, false⟩
/-- GatewayFailureLog, octet 0 bit 0. -/
def gwlogTime : Fld := ⟨0, 64, .any, 0, true⟩
/-- GatewayFailureLog, octet 8 bit 0. -/
def gwlogIdent : Fld := ⟨64, 32, .any, 0, true⟩
/-- GatewayFailureLog, octet 12 bit 0. -/
def gwlogSource : Fld := ⟨96, 8, .any, 0, true⟩
/-- GatewayFailureLog, octet 13 bit 0. -/
def gwlogTarget : Fld := ⟨104, 8, .any, 0, true⟩
/-- GatewayFailureLog, octet 14 bit 0. -/
def gwlogReason : Fld := ⟨112, 8, .any, 0, true⟩
/-- GatewayFailureLog, octet 15 bit 0. -/
def gwlogCls : Fld := ⟨120, 3, .any, 0, true⟩
/-- GatewayFailureLog, octet 15 bit 7. -/
def gwlogWhole : Fld := ⟨127, 1, .any, 0, true⟩
/-- GatewayFailureLog, octet 16 bit 0. -/
def gwlogKind : Fld := ⟨128, 8, .any, 0, true⟩
/-- GatewayFailureLog, octet 18 bit 0. -/
def gwlogRoute : Fld := ⟨144, 16, .any, 0, true⟩
/-- GatewayFailureLog, octet 20 bit 0. -/
def gwlogRepeats : Fld := ⟨160, 16, .any, 0, true⟩
/-- GatewayFailureLog, octet 24 bit 0. -/
def gwlogLast : Fld := ⟨192, 64, .any, 0, true⟩
/-- RouteCounters, octet 0 bit 0. -/
def rcntMatched : Fld := ⟨0, 64, .any, 0, true⟩
/-- RouteCounters, octet 8 bit 0. -/
def rcntSent : Fld := ⟨64, 64, .any, 0, true⟩
/-- RouteCounters, octet 16 bit 0. -/
def rcntReasons : Fld := ⟨128, 256, .any, 0, true⟩
/-- FaultLog, octet 0 bit 0. -/
def flogTime : Fld := ⟨0, 64, .any, 0, true⟩
/-- FaultLog, octet 8 bit 0. -/
def flogSource : Fld := ⟨64, 8, .any, 0, true⟩
/-- FaultLog, octet 9 bit 0. -/
def flogReaction : Fld := ⟨72, 8, .any, 0, true⟩
/-- FaultLog, octet 10 bit 0. -/
def flogUnit : Fld := ⟨80, 8, .any, 0, true⟩
/-- FaultLog, octet 11 bit 0. -/
def flogMismatches : Fld := ⟨88, 8, .any, 0, true⟩
/-- FaultLog, octet 12 bit 0. -/
def flogOd : Fld := ⟨96, 16, .any, 0, true⟩
/-- FaultLog, octet 14 bit 0. -/
def flogRow : Fld := ⟨112, 24, .any, 0, true⟩
/-- FaultLog, octet 20 bit 0. -/
def flogAddress : Fld := ⟨160, 64, .any, 0, true⟩
/-- MacsecSecY, octet 0 bit 7. -/
def secyEnable : Fld := ⟨7, 1, .any, 0, false⟩
/-- MacsecSecY, octet 0 bit 6. -/
def secyProtect : Fld := ⟨6, 1, .any, 0, false⟩
/-- MacsecSecY, octet 0 bit 5. -/
def secyIncludeSci : Fld := ⟨5, 1, .any, 0, false⟩
/-- MacsecSecY, octet 0 bit 4. -/
def secyReplay : Fld := ⟨4, 1, .any, 0, false⟩
/-- MacsecSecY, octet 0 bit 2. -/
def secyValidate : Fld := ⟨2, 2, .segs [(0, 2)], 0, false⟩
/-- MacsecSecY, octet 1 bit 6. -/
def secySuite : Fld := ⟨14, 2, .any, 0, false⟩
/-- MacsecSecY, octet 1 bit 0. -/
def secyEncoding : Fld := ⟨8, 2, .any, 0, false⟩
/-- MacsecSecY, octet 2 bit 0. -/
def secyPortIdent : Fld := ⟨16, 16, .any, 0, false⟩
/-- MacsecSecY, octet 4 bit 0. -/
def secyWindow : Fld := ⟨32, 30, .any, 0, false⟩
/-- MacsecSecY, octet 8 bit 0. -/
def secyWarnAt : Fld := ⟨64, 64, .segs [(1, 9223372036854775808)], 0, false⟩
/-- MacsecSecY, octet 16 bit 0. -/
def secyAddress : Fld := ⟨128, 48, .any, 0, false⟩
/-- MacsecRxSc, octet 0 bit 7. -/
def rxscValid : Fld := ⟨7, 1, .any, 0, false⟩
/-- MacsecRxSc, octet 8 bit 0. -/
def rxscSci : Fld := ⟨64, 64, .any, 0, false⟩
/-- MacsecSa, octet 0 bit 7. -/
def saInUse : Fld := ⟨7, 1, .any, 0, false⟩
/-- MacsecSa, octet 0 bit 6. -/
def saExhausted : Fld := ⟨6, 1, .any, 0, true⟩
/-- MacsecSa, octet 0 bit 5. -/
def saWarned : Fld := ⟨5, 1, .any, 0, true⟩
/-- MacsecSa, octet 2 bit 0. -/
def saKeySlot : Fld := ⟨16, 10, .any, 0, false⟩
/-- MacsecSa, octet 4 bit 0. -/
def saSsci : Fld := ⟨32, 32, .any, 0, false⟩
/-- MacsecSa, octet 8 bit 0. -/
def saPn : Fld := ⟨64, 64, .any, 0, false⟩
/-- MacsecSa, octet 16 bit 0. -/
def saSalt : Fld := ⟨128, 96, .any, 0, false⟩
/-- MacsecSa, octet 32 bit 0. -/
def saFrames : Fld := ⟨256, 64, .any, 0, true⟩
/-- FreshnessCounters, octet 0 bit 0. -/
def freshValue : Fld := ⟨0, 64, .any, 0, false⟩
/-- FreshnessCounters, octet 8 bit 0. -/
def freshWidth : Fld := ⟨64, 7, .segs [(8, 64)], 0, false⟩
/-- FreshnessCounters, octet 9 bit 7. -/
def freshLoaded : Fld := ⟨79, 1, .any, 0, true⟩
/-- FreshnessCounters, octet 9 bit 6. -/
def freshWarned : Fld := ⟨78, 1, .any, 0, true⟩
/-- FreshnessCounters, octet 9 bit 5. -/
def freshExhausted : Fld := ⟨77, 1, .any, 0, true⟩
/-- FreshnessCounters, octet 10 bit 0. -/
def freshKeySlot : Fld := ⟨80, 10, .any, 0, false⟩
/-- FreshnessCounters, octet 12 bit 0. -/
def freshGeneration : Fld := ⟨96, 16, .any, 0, true⟩
/-- GlovePages, octet 0 bit 0. -/
def pageUser : Fld := ⟨0, 4, .segs [(0, 3), (5, 6)], 0, false⟩
/-- GlovePages, octet 1 bit 0. -/
def pageQuota : Fld := ⟨8, 8, .segs [(1, 16)], 16, false⟩
/-- GlovePages, octet 2 bit 0. -/
def pageKeyBase : Fld := ⟨16, 10, .any, 0, false⟩
/-- GlovePages, octet 4 bit 0. -/
def pageKeyCount : Fld := ⟨32, 11, .segs [(0, 1024)], 0, false⟩
/-- GlovePages, octet 6 bit 0. -/
def pageFreshBase : Fld := ⟨48, 14, .any, 0, false⟩
/-- GlovePages, octet 8 bit 0. -/
def pageFreshCount : Fld := ⟨64, 15, .segs [(0, 16384)], 0, false⟩
/-- GlovePages, octet 10 bit 0. -/
def pageVector : Fld := ⟨80, 8, .segs [(1, 63), (255, 255)], 255, false⟩
/-- GloveJobs, octet 0 bit 6. -/
def jobState : Fld := ⟨6, 2, .any, 0, false⟩
/-- GloveJobs, octet 1 bit 0. -/
def jobOp : Fld := ⟨8, 8, .segs [(1, 4)], 0, false⟩
/-- GloveJobs, octet 2 bit 0. -/
def jobKeySlot : Fld := ⟨16, 10, .any, 0, false⟩
/-- GloveJobs, octet 4 bit 0. -/
def jobCounter : Fld := ⟨32, 14, .any, 0, false⟩
/-- GloveJobs, octet 6 bit 0. -/
def jobOffset : Fld := ⟨48, 16, .segs [(0, 4095)], 0, false⟩
/-- GloveJobs, octet 8 bit 0. -/
def jobLength : Fld := ⟨64, 16, .segs [(0, 4096)], 0, false⟩
/-- GloveJobs, octet 10 bit 0. -/
def jobMacLength : Fld := ⟨80, 8, .segs [(4, 16)], 0, false⟩
/-- GloveJobs, octet 12 bit 0. -/
def jobStatus : Fld := ⟨96, 8, .any, 0, true⟩
/-- GloveJobs, octet 13 bit 0. -/
def jobResult : Fld := ⟨104, 8, .any, 0, true⟩
/-- GloveJobs, octet 16 bit 0. -/
def jobFresh : Fld := ⟨128, 64, .any, 0, false⟩
/-- GloveJobs, octet 24 bit 0. -/
def jobMac : Fld := ⟨192, 128, .any, 0, false⟩
/-- GloveJobs, octet 40 bit 0. -/
def jobTime : Fld := ⟨320, 64, .any, 0, true⟩
/-- GloveData, octet 0 bit 0. -/
def gdataData : Fld := ⟨0, 512, .any, 0, false⟩
/-- KeyTable, octet 0 bit 0. -/
def keyMaterial : Fld := ⟨0, 256, .any, 0, false⟩
/-- KeyTable, octet 32 bit 4. -/
def keyKind : Fld := ⟨260, 4, .segs [(0, 6), (8, 9), (15, 15)], 0, false⟩
/-- KeyTable, octet 33 bit 0. -/
def keyUsage : Fld := ⟨264, 5, .any, 0, false⟩
/-- KeyTable, octet 34 bit 0. -/
def keyParent : Fld := ⟨272, 10, .any, 0, false⟩
/-- KeyTable, octet 36 bit 0. -/
def keyParentGen : Fld := ⟨288, 16, .any, 0, false⟩
/-- KeyTable, octet 38 bit 0. -/
def keyGeneration : Fld := ⟨304, 16, .any, 0, true⟩
/-- KeyTable, octet 40 bit 4. -/
def keyRetain : Fld := ⟨324, 1, .any, 0, false⟩
/-- KeyTable, octet 40 bit 5. -/
def keyPending : Fld := ⟨325, 1, .any, 0, true⟩
/-- KeyTable, octet 40 bit 6. -/
def keyState : Fld := ⟨326, 2, .any, 0, true⟩
/-- KeyTable, octet 40 bit 0. -/
def keyDepth : Fld := ⟨320, 3, .any, 0, true⟩
/-- KeyTable, octet 41 bit 0. -/
def keyOp : Fld := ⟨328, 2, .segs [(0, 2)], 0, false⟩
/-- SignatureJobs, octet 0 bit 6. -/
def sjobState : Fld := ⟨6, 2, .any, 0, false⟩
/-- SignatureJobs, octet 1 bit 0. -/
def sjobOp : Fld := ⟨8, 8, .segs [(1, 4)], 0, false⟩
/-- SignatureJobs, octet 2 bit 0. -/
def sjobKeySlot : Fld := ⟨16, 10, .any, 0, false⟩
/-- SignatureJobs, octet 4 bit 0. -/
def sjobPage : Fld := ⟨32, 6, .any, 0, false⟩
/-- SignatureJobs, octet 6 bit 0. -/
def sjobOffset : Fld := ⟨48, 16, .segs [(0, 4095)], 0, false⟩
/-- SignatureJobs, octet 8 bit 0. -/
def sjobLength : Fld := ⟨64, 16, .segs [(0, 4096)], 0, false⟩
/-- SignatureJobs, octet 12 bit 0. -/
def sjobStatus : Fld := ⟨96, 8, .any, 0, true⟩
/-- SignatureJobs, octet 13 bit 0. -/
def sjobResult : Fld := ⟨104, 8, .any, 0, true⟩
/-- SignatureJobs, octet 16 bit 0. -/
def sjobDigest : Fld := ⟨128, 384, .any, 0, false⟩
/-- SignatureJobs, octet 64 bit 0. -/
def sjobSigR : Fld := ⟨512, 768, .any, 0, false⟩
/-- SignatureJobs, octet 160 bit 0. -/
def sjobTime : Fld := ⟨1280, 64, .any, 0, true⟩
/-- AttestationStatement, octet 0 bit 0. -/
def attNonceLength : Fld := ⟨0, 8, .segs [(1, 32)], 0, false⟩
/-- AttestationStatement, octet 8 bit 0. -/
def attNonce : Fld := ⟨64, 256, .any, 0, false⟩
/-- AttestationStatement, octet 40 bit 0. -/
def attLength : Fld := ⟨320, 16, .any, 0, true⟩
/-- AttestationStatement, octet 48 bit 0. -/
def attStatement : Fld := ⟨384, 7808, .any, 0, true⟩
/-- RingConfig, octet 0 bit 0. -/
def ringPorts : Fld := ⟨0, 256, .any, 0, false⟩
/-- RingConfig, octet 32 bit 0. -/
def ringLocalId : Fld := ⟨256, 6, .any, 0, false⟩
/-- RingConfig, octet 32 bit 6. -/
def ringFormat : Fld := ⟨262, 1, .any, 0, false⟩
/-- RingConfig, octet 33 bit 0. -/
def ringCls : Fld := ⟨264, 3, .any, 6, false⟩
/-- RingConfig, octet 34 bit 0. -/
def ringPeriod : Fld := ⟨272, 16, .segs [(10, 1000)], 100, false⟩
/-- RingConfig, octet 36 bit 0. -/
def ringWindow : Fld := ⟨288, 16, .segs [(50, 5000)], 250, false⟩
/-- RingConfig, octet 38 bit 0. -/
def ringSilence : Fld := ⟨304, 8, .segs [(2, 255)], 3, false⟩
/-- RingConfig, octet 39 bit 0. -/
def ringThreshold : Fld := ⟨312, 8, .any, 10, false⟩
/-- RingConfig, octet 40 bit 0. -/
def ringBaseId : Fld := ⟨320, 29, .any, 1280, false⟩
/-- RingConfig, octet 44 bit 0. -/
def ringEtherType : Fld := ⟨352, 16, .segs [(1536, 65535)], 1536, false⟩
/-- RingConfig, octet 46 bit 0. -/
def ringDa : Fld := ⟨368, 48, .any, 1099511627779, false⟩
/-- RingConfig, octet 52 bit 0. -/
def ringFalseWake : Fld := ⟨416, 16, .segs [(100, 60000)], 5000, false⟩
/-- RingMembers, octet 0 bit 6. -/
def memberAnyPort : Fld := ⟨6, 1, .any, 0, false⟩
/-- RingMembers, octet 0 bit 7. -/
def memberValid : Fld := ⟨7, 1, .any, 0, false⟩
/-- RingMembers, octet 1 bit 0. -/
def memberPort : Fld := ⟨8, 8, .any, 0, false⟩
/-- RingMembers, octet 2 bit 5. -/
def memberHolding : Fld := ⟨21, 1, .any, 0, true⟩
/-- RingMembers, octet 2 bit 6. -/
def memberSilent : Fld := ⟨22, 1, .any, 0, true⟩
/-- RingMembers, octet 2 bit 7. -/
def memberReady : Fld := ⟨23, 1, .any, 0, true⟩
/-- RingMembers, octet 3 bit 0. -/
def memberSeq : Fld := ⟨24, 8, .any, 0, true⟩
/-- RingMembers, octet 8 bit 0. -/
def memberLast : Fld := ⟨64, 64, .any, 0, true⟩
/-- RingMembers, octet 16 bit 0. -/
def memberHeld : Fld := ⟨128, 64, .any, 0, true⟩
/-- KeepAwakeLog, octet 0 bit 0. -/
def kalogTime : Fld := ⟨0, 64, .any, 0, true⟩
/-- KeepAwakeLog, octet 8 bit 0. -/
def kalogDuration : Fld := ⟨64, 64, .any, 0, true⟩
/-- KeepAwakeLog, octet 16 bit 0. -/
def kalogRing : Fld := ⟨128, 8, .any, 0, true⟩
/-- KeepAwakeLog, octet 17 bit 0. -/
def kalogKind : Fld := ⟨136, 8, .any, 0, true⟩
/-- KeepAwakeLog, octet 18 bit 0. -/
def kalogIdent : Fld := ⟨144, 8, .any, 0, true⟩
/-- KeepAwakeLog, octet 19 bit 0. -/
def kalogEnds : Fld := ⟨152, 8, .any, 0, true⟩
/-- WakeInputs, octet 0 bit 6. -/
def wakeActiveHigh : Fld := ⟨6, 1, .any, 1, false⟩
/-- WakeInputs, octet 0 bit 7. -/
def wakeEnable : Fld := ⟨7, 1, .any, 0, false⟩
/-- WakeInputs, octet 1 bit 4. -/
def wakeCause : Fld := ⟨12, 2, .any, 0, true⟩
/-- WakeInputs, octet 1 bit 6. -/
def wakeMasked : Fld := ⟨14, 1, .any, 0, true⟩
/-- WakeInputs, octet 1 bit 7. -/
def wakeActive : Fld := ⟨15, 1, .any, 0, true⟩
/-- WakeInputs, octet 2 bit 0. -/
def wakeRecent : Fld := ⟨16, 5, .any, 0, true⟩
/-- WakeInputs, octet 4 bit 0. -/
def wakeRings : Fld := ⟨32, 32, .any, 0, false⟩
/-- WakeInputs, octet 8 bit 0. -/
def wakeActivations : Fld := ⟨64, 32, .any, 0, true⟩
/-- WakeInputs, octet 12 bit 0. -/
def wakeMaskEvents : Fld := ⟨96, 32, .any, 0, true⟩
/-- SelfTestBlocks, octet 0 bit 6. -/
def stbAllow : Fld := ⟨6, 1, .any, 0, false⟩
/-- SelfTestBlocks, octet 0 bit 7. -/
def stbPeriodic : Fld := ⟨7, 1, .any, 0, false⟩
/-- SelfTestBlocks, octet 1 bit 0. -/
def stbTestId : Fld := ⟨8, 8, .any, 0, true⟩
/-- SelfTestBlocks, octet 4 bit 0. -/
def stbThreshold : Fld := ⟨32, 32, .segs [(16, 95232)], 256, false⟩
/-- SelfTestBlocks, octet 8 bit 0. -/
def stbState : Fld := ⟨64, 2, .any, 0, true⟩
/-- SelfTestBlocks, octet 8 bit 7. -/
def stbPending : Fld := ⟨71, 1, .any, 0, true⟩
/-- SelfTestBlocks, octet 9 bit 0. -/
def stbVerdict : Fld := ⟨72, 8, .any, 0, true⟩
/-- SelfTestBlocks, octet 10 bit 0. -/
def stbCause : Fld := ⟨80, 8, .any, 0, true⟩
/-- SelfTestBlocks, octet 12 bit 0. -/
def stbSignature : Fld := ⟨96, 32, .any, 0, true⟩
/-- SelfTestBlocks, octet 16 bit 0. -/
def stbSteps : Fld := ⟨128, 16, .any, 0, true⟩
/-- SelfTestBlocks, octet 20 bit 0. -/
def stbDuration : Fld := ⟨160, 32, .any, 0, true⟩
/-- SelfTestBlocks, octet 24 bit 0. -/
def stbTime : Fld := ⟨192, 64, .any, 0, true⟩
/-- UpdateWindow, octet 0 bit 0. -/
def updwData : Fld := ⟨0, 2048, .any, 0, false⟩
/-- ImageKeys, octet 0 bit 0. -/
def ikeyDigest : Fld := ⟨0, 256, .any, 0, false⟩
/-- ImageKeys, octet 32 bit 0. -/
def ikeyState : Fld := ⟨256, 8, .any, 0, false⟩

end F

/-- The fields of a row of ClampCounters. -/
def layoutF000 : List Fld := [F.clampCount]
/-- The fields of a row of PostedErrorLog. -/
def layoutF001 : List Fld := [F.postedTime, F.postedTarget, F.postedWhere, F.postedReason, F.postedCount,
    F.postedRequester, F.postedFirst]
/-- The fields of a row of RemoteClients. -/
def layoutF002 : List Fld := [F.clientKeySlot, F.clientTransports, F.clientReadOnly, F.clientEnable]
/-- The fields of a row of RemoteSessions. -/
def layoutF003 : List Fld := [F.rsessState, F.rsessClient, F.rsessPort, F.rsessSeq, F.rsessActive]
/-- The fields of a row of LinSchedule. -/
def layoutF010 : List Fld := [F.linFrameId, F.linPublish, F.linValid, F.linLength, F.linEnhanced, F.linSlot]
/-- The fields of a row of TernaryRules. -/
def layoutF040 : List Fld := [F.ternKey, F.ternMask, F.ternValid, F.ternAction]
/-- The fields of a row of ExactEntries. -/
def layoutF041 : List Fld := [F.exactKey, F.exactProfile, F.exactValid, F.exactTag, F.exactAction]
/-- The fields of a row of ExactProfiles. -/
def layoutF042 : List Fld := [F.profSelect, F.profValid]
/-- The fields of a row of StencilPatterns. -/
def layoutF043 : List Fld := [F.patPattern, F.patMask, F.patAnchored, F.patValid, F.patLength, F.patStart,
    F.patFinish]
/-- The fields of a row of ActionSets. -/
def layoutF044 : List Fld := [F.actFixedPort, F.actOverride, F.actSessionCreate, F.actRecirculate, F.actMirror,
    F.actCopy, F.actForward, F.actDrop, F.actMode, F.actMirrorTarget, F.actPriority, F.actCopyReason, F.actPort]
/-- The fields of a row of ExtractFields. -/
def layoutF045 : List Fld := [F.extMask, F.extOffset, F.extAnchor, F.extValid]
/-- The fields of a row of FirewallSessions. -/
def layoutF046 : List Fld := [F.sessState, F.sessVersion, F.sessProtocol, F.sessVid, F.sessInitiator,
    F.sessResponder, F.sessInitPort, F.sessRespPort, F.sessTime, F.sessFramesInit, F.sessFramesResp]
/-- The fields of a row of FragmentTable. -/
def layoutF047 : List Fld := [F.fragActions, F.fragSource, F.fragDest, F.fragIdent, F.fragIpv6, F.fragValid,
    F.fragProtocol, F.fragTime]
/-- The fields of a row of ExceptionReasons. -/
def layoutF048 : List Fld := [F.exrRate, F.exrBurst, F.exrPort, F.exrTc]
/-- The fields of a row of ExceptionCounters. -/
def layoutF049 : List Fld := [F.excDelivered, F.excDroppedReason, F.excDroppedAggregate]
/-- The fields of a row of RuleHits. -/
def layoutF04A : List Fld := [F.hitsCount]
/-- The fields of a row of CanvasPools. -/
def layoutF050 : List Fld := [F.poolQuota, F.poolClasses, F.poolProtected]
/-- The fields of a row of VlanTable. -/
def layoutF051 : List Fld := [F.vlanValid, F.vlanMembers, F.vlanUntagged]
/-- The fields of a row of ForwardingDatabase. -/
def layoutF052 : List Fld := [F.fdbAddress, F.fdbVid, F.fdbHit, F.fdbGroup, F.fdbStatic, F.fdbValid, F.fdbTarget]
/-- The fields of a row of PortForwarding. -/
def layoutF053 : List Fld := [F.pfwdPvid, F.pfwdAccepted, F.pfwdIngressFilter, F.pfwdLearning, F.pfwdPipeline]
/-- The fields of a row of GroupPorts. -/
def layoutF054 : List Fld := [F.grpPorts]
/-- The fields of a row of PortTiming. -/
def layoutF060 : List Fld := [F.ptimAddFrag, F.ptimPreempt, F.ptimGate, F.ptimOverhead, F.ptimPreemptMask,
    F.ptimAdminStates, F.ptimLength, F.ptimBase, F.ptimCycle, F.ptimExtension]
/-- The fields of a row of GateControlList. -/
def layoutF061 : List Fld := [F.gclInterval, F.gclStates, F.gclOperation]
/-- The fields of a row of Palette. -/
def layoutF062 : List Fld := [F.palMap, F.palPriority]
/-- The fields of a row of AtsShapers. -/
def layoutF063 : List Fld := [F.atsValid, F.atsGroup, F.atsCbs, F.atsCir]
/-- The fields of a row of AtsGroups. -/
def layoutF064 : List Fld := [F.atsgResidence]
/-- The fields of a row of AtsState. -/
def layoutF065 : List Fld := [F.atssBucket, F.atssShaped, F.atssDiscards]
/-- The fields of a row of GptpPorts. -/
def layoutF066 : List Fld := [F.gptpRole, F.gptpEnable, F.gptpInUse, F.gptpAsCapable]
/-- The fields of a row of StreamIdentification. -/
def layoutF070 : List Fld := [F.sidKey, F.sidMethod, F.sidValid, F.sidHandle]
/-- The fields of a row of StreamContexts. -/
def layoutF071 : List Fld := [F.ctxCls, F.ctxBlockOversize, F.ctxGenerate, F.ctxMember, F.ctxGuaranteed, F.ctxValid,
    F.ctxMeterKind, F.ctxMaxSdu, F.ctxMeter, F.ctxShaper, F.ctxShaperValid, F.ctxRecovery, F.ctxRecoveryValid,
    F.ctxTarget, F.ctxTargetValid, F.ctxReplication, F.ctxReplicationValid, F.ctxRtag, F.ctxRtagValid, F.ctxIngress]
/-- The fields of a row of FlowMeters. -/
def layoutF072 : List Fld := [F.flowMarkEnable, F.flowDropYellow, F.flowCoupling, F.flowAware, F.flowValid,
    F.flowCbs, F.flowEbs, F.flowCir, F.flowEir]
/-- The fields of a row of StrictPolicers. -/
def layoutF073 : List Fld := [F.polReport, F.polValid, F.polStream, F.polCbs, F.polCir]
/-- The fields of a row of RecoveryFunctions. -/
def layoutF074 : List Fld := [F.recTakeNo, F.recMatch, F.recValid, F.recHistory, F.recOutput, F.recTimeout]
/-- The fields of a row of StreamPorts. -/
def layoutF075 : List Fld := [F.sportMethods, F.sportBurst, F.sportShare]
/-- The fields of a row of HolrenCertificate. -/
def layoutF076 : List Fld := [F.certAll]
/-- The fields of a row of StreamState. -/
def layoutF077 : List Fld := [F.stBound, F.stBlocked, F.stSuspended, F.stAdmitted, F.stMatched, F.stPassed,
    F.stFiltered, F.stYellow, F.stRed, F.stFaults, F.stMaxSojourn, F.stSequence]
/-- The fields of a row of RecoveryState. -/
def layoutF078 : List Fld := [F.rstPassed, F.rstDiscarded, F.rstOutOfOrder, F.rstRogue, F.rstLost, F.rstTagless,
    F.rstResets]
/-- The fields of a row of DeliveryFaultLog. -/
def layoutF07A : List Fld := [F.dflogTime, F.dflogStream, F.dflogPort, F.dflogKind, F.dflogSojourn, F.dflogBound]
/-- The fields of a row of SojournHistograms. -/
def layoutF07B : List Fld := [F.histBins, F.histMax, F.histMaxTime, F.histSamples]
/-- The fields of a row of GatewayRoutes. -/
def layoutF080 : List Fld := [F.routeValid, F.routeSource, F.routeKinds, F.routeIdent, F.routeMask,
    F.routeLifetime] ++ (List.range 8).flatMap fun j => [F.routePairIdMode j, F.routePairFormat j,
    F.routePairValid j, F.routePairPort j, F.routePairProfile j, F.routePairIdent j]
/-- The fields of a row of TransformProfiles. -/
def layoutF081 : List Fld := [F.xpXlSec, F.xpTagged, F.xpBrs, F.xpValid, F.xpBusId, F.xpPcp, F.xpVid, F.xpDa,
    F.xpSa, F.xpStreamId, F.xpSdt, F.xpVcid, F.xpXlId, F.xpPad, F.xpOffset]
/-- The fields of a row of GatewayFailureLog. -/
def layoutF082 : List Fld := [F.gwlogTime, F.gwlogIdent, F.gwlogSource, F.gwlogTarget, F.gwlogReason, F.gwlogCls,
    F.gwlogWhole, F.gwlogKind, F.gwlogRoute, F.gwlogRepeats, F.gwlogLast]
/-- The fields of a row of RouteCounters. -/
def layoutF083 : List Fld := [F.rcntMatched, F.rcntSent, F.rcntReasons]
/-- The fields of a row of FaultLog. -/
def layoutF0B0 : List Fld := [F.flogTime, F.flogSource, F.flogReaction, F.flogUnit, F.flogMismatches, F.flogOd,
    F.flogRow, F.flogAddress]
/-- The fields of a row of MacsecSecY. -/
def layoutF090 : List Fld := [F.secyEnable, F.secyProtect, F.secyIncludeSci, F.secyReplay, F.secyValidate,
    F.secySuite, F.secyEncoding, F.secyPortIdent, F.secyWindow, F.secyWarnAt, F.secyAddress]
/-- The fields of a row of MacsecRxSc. -/
def layoutF091 : List Fld := [F.rxscValid, F.rxscSci]
/-- The fields of a row of MacsecSa. -/
def layoutF092 : List Fld := [F.saInUse, F.saExhausted, F.saWarned, F.saKeySlot, F.saSsci, F.saPn, F.saSalt,
    F.saFrames]
/-- The fields of a row of FreshnessCounters. -/
def layoutF094 : List Fld := [F.freshValue, F.freshWidth, F.freshLoaded, F.freshWarned, F.freshExhausted,
    F.freshKeySlot, F.freshGeneration]
/-- The fields of a row of GlovePages. -/
def layoutF095 : List Fld := [F.pageUser, F.pageQuota, F.pageKeyBase, F.pageKeyCount, F.pageFreshBase,
    F.pageFreshCount, F.pageVector]
/-- The fields of a row of GloveJobs. -/
def layoutF096 : List Fld := [F.jobState, F.jobOp, F.jobKeySlot, F.jobCounter, F.jobOffset, F.jobLength,
    F.jobMacLength, F.jobStatus, F.jobResult, F.jobFresh, F.jobMac, F.jobTime]
/-- The fields of a row of GloveData. -/
def layoutF097 : List Fld := [F.gdataData]
/-- The fields of a row of KeyTable. -/
def layoutF098 : List Fld := [F.keyMaterial, F.keyKind, F.keyUsage, F.keyParent, F.keyParentGen, F.keyGeneration,
    F.keyRetain, F.keyPending, F.keyState, F.keyDepth, F.keyOp]
/-- The fields of a row of SignatureJobs. -/
def layoutF099 : List Fld := [F.sjobState, F.sjobOp, F.sjobKeySlot, F.sjobPage, F.sjobOffset, F.sjobLength,
    F.sjobStatus, F.sjobResult, F.sjobDigest, F.sjobSigR, F.sjobTime]
/-- The fields of a row of AttestationStatement. -/
def layoutF09A : List Fld := [F.attNonceLength, F.attNonce, F.attLength, F.attStatement]
/-- The fields of a row of RingConfig. -/
def layoutF0A0 : List Fld := [F.ringPorts, F.ringLocalId, F.ringFormat, F.ringCls, F.ringPeriod, F.ringWindow,
    F.ringSilence, F.ringThreshold, F.ringBaseId, F.ringEtherType, F.ringDa, F.ringFalseWake]
/-- The fields of a row of RingMembers. -/
def layoutF0A1 : List Fld := [F.memberAnyPort, F.memberValid, F.memberPort, F.memberHolding, F.memberSilent,
    F.memberReady, F.memberSeq, F.memberLast, F.memberHeld]
/-- The fields of a row of KeepAwakeLog. -/
def layoutF0A2 : List Fld := [F.kalogTime, F.kalogDuration, F.kalogRing, F.kalogKind, F.kalogIdent, F.kalogEnds]
/-- The fields of a row of WakeInputs. -/
def layoutF0A3 : List Fld := [F.wakeActiveHigh, F.wakeEnable, F.wakeCause, F.wakeMasked, F.wakeActive, F.wakeRecent,
    F.wakeRings, F.wakeActivations, F.wakeMaskEvents]
/-- The fields of a row of SelfTestBlocks. -/
def layoutF0B1 : List Fld := [F.stbAllow, F.stbPeriodic, F.stbTestId, F.stbThreshold, F.stbState, F.stbPending,
    F.stbVerdict, F.stbCause, F.stbSignature, F.stbSteps, F.stbDuration, F.stbTime]
/-- The fields of a row of UpdateWindow. -/
def layoutF0C0 : List Fld := [F.updwData]
/-- The fields of a row of ImageKeys. -/
def layoutF0C1 : List Fld := [F.ikeyDigest, F.ikeyState]

/-- The fields of a row of the table at an index. -/
def layout (idx : Nat) : List Fld :=
  match idx with
  | 0xF000 => layoutF000
  | 0xF001 => layoutF001
  | 0xF002 => layoutF002
  | 0xF003 => layoutF003
  | 0xF010 => layoutF010
  | 0xF040 => layoutF040
  | 0xF041 => layoutF041
  | 0xF042 => layoutF042
  | 0xF043 => layoutF043
  | 0xF044 => layoutF044
  | 0xF045 => layoutF045
  | 0xF046 => layoutF046
  | 0xF047 => layoutF047
  | 0xF048 => layoutF048
  | 0xF049 => layoutF049
  | 0xF04A => layoutF04A
  | 0xF050 => layoutF050
  | 0xF051 => layoutF051
  | 0xF052 => layoutF052
  | 0xF053 => layoutF053
  | 0xF054 => layoutF054
  | 0xF060 => layoutF060
  | 0xF061 => layoutF061
  | 0xF062 => layoutF062
  | 0xF063 => layoutF063
  | 0xF064 => layoutF064
  | 0xF065 => layoutF065
  | 0xF066 => layoutF066
  | 0xF070 => layoutF070
  | 0xF071 => layoutF071
  | 0xF072 => layoutF072
  | 0xF073 => layoutF073
  | 0xF074 => layoutF074
  | 0xF075 => layoutF075
  | 0xF076 => layoutF076
  | 0xF077 => layoutF077
  | 0xF078 => layoutF078
  | 0xF07A => layoutF07A
  | 0xF07B => layoutF07B
  | 0xF080 => layoutF080
  | 0xF081 => layoutF081
  | 0xF082 => layoutF082
  | 0xF083 => layoutF083
  | 0xF0B0 => layoutF0B0
  | 0xF090 => layoutF090
  | 0xF091 => layoutF091
  | 0xF092 => layoutF092
  | 0xF094 => layoutF094
  | 0xF095 => layoutF095
  | 0xF096 => layoutF096
  | 0xF097 => layoutF097
  | 0xF098 => layoutF098
  | 0xF099 => layoutF099
  | 0xF09A => layoutF09A
  | 0xF0A0 => layoutF0A0
  | 0xF0A1 => layoutF0A1
  | 0xF0A2 => layoutF0A2
  | 0xF0A3 => layoutF0A3
  | 0xF0B1 => layoutF0B1
  | 0xF0C0 => layoutF0C0
  | 0xF0C1 => layoutF0C1
  | _ => []

/-- The fields of a row of a table: those of its layout, but for HolrenCertificate, whose rows differ (R253). -/
def rowLayout (idx row : Nat) : List Fld :=
  if idx = 0xF076 then
    match row with
    | 0 => [F.certMagic, F.certCount]
    | 1 => [F.certAll]
    | 2 => [F.certDigest]
    | 3 => []
    | _ => if row < 8 then [F.certAll] else [F.certHandle, F.certBound]
  else layout idx

end Sys2Proof.Machine
end

