-- ==== Sys2Proof/Machine/Keys.lean ====
section
/-! DEFINITION. The keys of the register store: an object of the dictionary has the key index × 256 + subindex; in
the port groups 8 and 9, whose subindices name another object for each attachment kind (R123), the low octet is kind × 16 +
subindex. -/

namespace Sys2Proof.Machine.Key

/-- 0x1000:01 PartNumber. -/
def partNumber : Nat := 0x1000 * 256 + 1
/-- 0x1000:02 SiliconRevision. -/
def siliconRevision : Nat := 0x1000 * 256 + 2
/-- 0x1000:03 TemperatureGrade. -/
def temperatureGrade : Nat := 0x1000 * 256 + 3
/-- 0x1F10:01 SketchCommit. -/
def sketchCommit : Nat := 0x1f10 * 256 + 1
/-- 0x1F10:02 CommitTime. -/
def commitTime : Nat := 0x1f10 * 256 + 2
/-- 0x1F10:03 CommitTimeFrac. -/
def commitTimeFrac : Nat := 0x1f10 * 256 + 3
/-- 0x1F10:04 CommitState. -/
def commitState : Nat := 0x1f10 * 256 + 4
/-- 0x1F10:05 FairCopyGeneration. -/
def fairCopyGeneration : Nat := 0x1f10 * 256 + 5
/-- 0x1F10:06 CommitRefusal. -/
def commitRefusal : Nat := 0x1f10 * 256 + 6
/-- 0x1F10:07 SketchDiscard. -/
def sketchDiscard : Nat := 0x1f10 * 256 + 7
/-- 0x1010:01 PciVendorId. -/
def pciVendorId : Nat := 0x1010 * 256 + 1
/-- 0x1E00:01 HostReadStatus. -/
def hostReadStatus : Nat := 0x1e00 * 256 + 1
/-- 0x1E00:02 HostReadTarget. -/
def hostReadTarget : Nat := 0x1e00 * 256 + 2
/-- 0x1E00:03 HostReadFailures. -/
def hostReadFailures : Nat := 0x1e00 * 256 + 3
/-- 0x1F00:01–0x1F00:10 ApertureBinding. -/
def apertureBinding (n : Nat) : Nat := 0x1f00 * 256 + (1 + n)
/-- 0x1F01:01–0x1F01:10 ApertureStride. -/
def apertureStride (n : Nat) : Nat := 0x1f01 * 256 + (1 + n)
/-- 0x1E10:01 PostedErrorCount. -/
def postedErrorCount : Nat := 0x1e10 * 256 + 1
/-- 0x1E10:02 PostedErrorOverflow. -/
def postedErrorOverflow : Nat := 0x1e10 * 256 + 2
/-- 0x1E10:03 PostedErrorClear. -/
def postedErrorClear : Nat := 0x1e10 * 256 + 3
/-- 0x1E10:04 PostedErrorVectorEnable. -/
def postedErrorVectorEnable : Nat := 0x1e10 * 256 + 4
/-- 0x1E20:01 ClampCountersClear. -/
def clampCountersClear : Nat := 0x1e20 * 256 + 1
/-- 0x1D00:01 RemoteOdEnable. -/
def remoteOdEnable : Nat := 0x1d00 * 256 + 1
/-- 0x1D00:02 SessionIdleTimeout. -/
def sessionIdleTimeout : Nat := 0x1d00 * 256 + 2
/-- 0x1D00:03 OpenSessions. -/
def openSessions : Nat := 0x1d00 * 256 + 3
/-- 0x1D00:04 SessionRefusals. -/
def sessionRefusals : Nat := 0x1d00 * 256 + 4
/-- 0x1D00:05 BadPduCount. -/
def badPduCount : Nat := 0x1d00 * 256 + 5
/-- 0x1D00:06 OdStationAddress. -/
def odStationAddress : Nat := 0x1d00 * 256 + 6
/-- 0x1D00:07 EthPortMask. -/
def ethPortMask : Nat := 0x1d00 * 256 + 7
/-- 0x1D00:08 CanChannelMaskLow. -/
def canChannelMaskLow : Nat := 0x1d00 * 256 + 8
/-- 0x1D00:09 CanChannelMaskHigh. -/
def canChannelMaskHigh : Nat := 0x1d00 * 256 + 9
/-- 0x1D00:0A CanRequestId. -/
def canRequestId : Nat := 0x1d00 * 256 + 10
/-- 0x1D00:0B CanResponseId. -/
def canResponseId : Nat := 0x1d00 * 256 + 11
/-- 0x1D00:0C CanIdFormat. -/
def canIdFormat : Nat := 0x1d00 * 256 + 12
/-- 0x1D00:0D CanFrameFormat. -/
def canFrameFormat : Nat := 0x1d00 * 256 + 13
/-- 0x1D00:0E IsoTpBlockSize. -/
def isoTpBlockSize : Nat := 0x1d00 * 256 + 14
/-- 0x1D00:0F IsoTpStMin. -/
def isoTpStMin : Nat := 0x1d00 * 256 + 15
/-- 0x1D00:10 RemoteOdRateLimit. -/
def remoteOdRateLimit : Nat := 0x1d00 * 256 + 16
/-- 0x1D00:11 RemoteOdRateDrops. -/
def remoteOdRateDrops : Nat := 0x1d00 * 256 + 17
/-- 0x1D00:12 RemoteOdClass. -/
def remoteOdClass : Nat := 0x1d00 * 256 + 18
/-- 0x1D00:13 SessionForceClose. -/
def sessionForceClose : Nat := 0x1d00 * 256 + 19
/-- 0x2pp0:01 AttachmentKind. -/
def attachmentKind (p : Nat) : Nat := (0x2000 + 16 * p) * 256 + 1
/-- 0x2pp0:02 AttachmentBinding. -/
def attachmentBinding (p : Nat) : Nat := (0x2000 + 16 * p) * 256 + 2
/-- 0x2pp0:03 PortEnable. -/
def portEnable (p : Nat) : Nat := (0x2000 + 16 * p) * 256 + 3
/-- 0x2pp1:01 PortState. -/
def portState (p : Nat) : Nat := (0x2001 + 16 * p) * 256 + 1
/-- 0x2pp1:02 PendingEnable. -/
def pendingEnable (p : Nat) : Nat := (0x2001 + 16 * p) * 256 + 2
/-- 0x2pp1:03 LinkUpTime. -/
def linkUpTime (p : Nat) : Nat := (0x2001 + 16 * p) * 256 + 3
/-- 0x2pp1:04 LinkDownReason. -/
def linkDownReason (p : Nat) : Nat := (0x2001 + 16 * p) * 256 + 4
/-- 0x2pp1:05 FlushDuration. -/
def flushDuration (p : Nat) : Nat := (0x2001 + 16 * p) * 256 + 5
/-- 0x2pp1:06 LinkEventVector. -/
def linkEventVector (p : Nat) : Nat := (0x2001 + 16 * p) * 256 + 6
/-- 0x2pp2:01 MaxFrameLength. -/
def maxFrameLength (p : Nat) : Nat := (0x2002 + 16 * p) * 256 + 1
/-- 0x2pp2:02 SerdesMode. -/
def serdesMode (p : Nat) : Nat := (0x2002 + 16 * p) * 256 + 2
/-- 0x2pp2:03 SpeedSelect. -/
def speedSelect (p : Nat) : Nat := (0x2002 + 16 * p) * 256 + 3
/-- 0x2pp2:04 FecMode. -/
def fecMode (p : Nat) : Nat := (0x2002 + 16 * p) * 256 + 4
/-- 0x2pp2:05 T1Speed. -/
def t1Speed (p : Nat) : Nat := (0x2002 + 16 * p) * 256 + 5
/-- 0x2pp2:06 T1Role. -/
def t1Role (p : Nat) : Nat := (0x2002 + 16 * p) * 256 + 6
/-- 0x2pp8:01 PlcaEnable. -/
def plcaEnable (p : Nat) : Nat := (0x2008 + 16 * p) * 256 + 49
/-- 0x2pp8:02 PlcaNodeId. -/
def plcaNodeId (p : Nat) : Nat := (0x2008 + 16 * p) * 256 + 50
/-- 0x2pp8:03 PlcaNodeCount. -/
def plcaNodeCount (p : Nat) : Nat := (0x2008 + 16 * p) * 256 + 51
/-- 0x2pp8:04 PlcaToTimer. -/
def plcaToTimer (p : Nat) : Nat := (0x2008 + 16 * p) * 256 + 52
/-- 0x2pp8:05 PlcaBurstCount. -/
def plcaBurstCount (p : Nat) : Nat := (0x2008 + 16 * p) * 256 + 53
/-- 0x2pp8:06 PlcaBurstTimer. -/
def plcaBurstTimer (p : Nat) : Nat := (0x2008 + 16 * p) * 256 + 54
/-- 0x2pp8:01 CanMode. -/
def canMode (p : Nat) : Nat := (0x2008 + 16 * p) * 256 + 65
/-- 0x2pp8:02 NominalBitRate. -/
def nominalBitRate (p : Nat) : Nat := (0x2008 + 16 * p) * 256 + 66
/-- 0x2pp8:03 NominalSamplePoint. -/
def nominalSamplePoint (p : Nat) : Nat := (0x2008 + 16 * p) * 256 + 67
/-- 0x2pp8:04 DataBitRate. -/
def dataBitRate (p : Nat) : Nat := (0x2008 + 16 * p) * 256 + 68
/-- 0x2pp8:05 DataSamplePoint. -/
def dataSamplePoint (p : Nat) : Nat := (0x2008 + 16 * p) * 256 + 69
/-- 0x2pp8:06 TdcEnable. -/
def tdcEnable (p : Nat) : Nat := (0x2008 + 16 * p) * 256 + 70
/-- 0x2pp8:07 AutoBusOffRecovery. -/
def autoBusOffRecovery (p : Nat) : Nat := (0x2008 + 16 * p) * 256 + 71
/-- 0x2pp8:08 XlPwmEnable. -/
def xlPwmEnable (p : Nat) : Nat := (0x2008 + 16 * p) * 256 + 72
/-- 0x2pp8:09 ListenOnly. -/
def listenOnly (p : Nat) : Nat := (0x2008 + 16 * p) * 256 + 73
/-- 0x2pp9:01 CanErrorState. -/
def canErrorState (p : Nat) : Nat := (0x2009 + 16 * p) * 256 + 65
/-- 0x2pp9:02 TransmitErrorCount. -/
def transmitErrorCount (p : Nat) : Nat := (0x2009 + 16 * p) * 256 + 66
/-- 0x2pp9:03 ReceiveErrorCount. -/
def receiveErrorCount (p : Nat) : Nat := (0x2009 + 16 * p) * 256 + 67
/-- 0x2pp9:04 BusOffCount. -/
def busOffCount (p : Nat) : Nat := (0x2009 + 16 * p) * 256 + 68
/-- 0x2pp8:01 LinRole. -/
def linRole (p : Nat) : Nat := (0x2008 + 16 * p) * 256 + 81
/-- 0x2pp8:02 LinBitRate. -/
def linBitRate (p : Nat) : Nat := (0x2008 + 16 * p) * 256 + 82
/-- 0x2pp9:01 LinNoResponse. -/
def linNoResponse (p : Nat) : Nat := (0x2009 + 16 * p) * 256 + 81
/-- 0x2pp9:02 LinSlotEmpty. -/
def linSlotEmpty (p : Nat) : Nat := (0x2009 + 16 * p) * 256 + 82
/-- 0x2pp8:01 SerialProtocol. -/
def serialProtocol (p : Nat) : Nat := (0x2008 + 16 * p) * 256 + 97
/-- 0x2pp8:02 SerialBitRate. -/
def serialBitRate (p : Nat) : Nat := (0x2008 + 16 * p) * 256 + 98
/-- 0x2pp8:03 J1708Priority. -/
def j1708Priority (p : Nat) : Nat := (0x2008 + 16 * p) * 256 + 99
/-- 0x2pp8:04 KlineInit. -/
def klineInit (p : Nat) : Nat := (0x2008 + 16 * p) * 256 + 100
/-- 0x2pp8:05 KlineTargetAddress. -/
def klineTargetAddress (p : Nat) : Nat := (0x2008 + 16 * p) * 256 + 101
/-- 0x2pp8:06 MessageGap. -/
def messageGap (p : Nat) : Nat := (0x2008 + 16 * p) * 256 + 102
/-- 0x2pp9:01 SerialCollisions. -/
def serialCollisions (p : Nat) : Nat := (0x2009 + 16 * p) * 256 + 97
/-- 0x2pp6:01 RxFrames. -/
def rxFrames (p : Nat) : Nat := (0x2006 + 16 * p) * 256 + 1
/-- 0x2pp6:02 RxOctets. -/
def rxOctets (p : Nat) : Nat := (0x2006 + 16 * p) * 256 + 2
/-- 0x2pp6:03 TxFrames. -/
def txFrames (p : Nat) : Nat := (0x2006 + 16 * p) * 256 + 3
/-- 0x2pp6:04 TxOctets. -/
def txOctets (p : Nat) : Nat := (0x2006 + 16 * p) * 256 + 4
/-- 0x2pp6:05 RxCheckErrors. -/
def rxCheckErrors (p : Nat) : Nat := (0x2006 + 16 * p) * 256 + 5
/-- 0x2pp6:06 RxLengthErrors. -/
def rxLengthErrors (p : Nat) : Nat := (0x2006 + 16 * p) * 256 + 6
/-- 0x2pp6:07 IngressDiscards. -/
def ingressDiscards (p : Nat) : Nat := (0x2006 + 16 * p) * 256 + 7
/-- 0x2pp6:08 NotUpDiscards. -/
def notUpDiscards (p : Nat) : Nat := (0x2006 + 16 * p) * 256 + 8
/-- 0x2pp6:09 FlushDiscards. -/
def flushDiscards (p : Nat) : Nat := (0x2006 + 16 * p) * 256 + 9
/-- 0x2pp6:0A EgressAborts. -/
def egressAborts (p : Nat) : Nat := (0x2006 + 16 * p) * 256 + 10
/-- 0x2pp6:0B EgressFormatDrops. -/
def egressFormatDrops (p : Nat) : Nat := (0x2006 + 16 * p) * 256 + 11
/-- 0x2pp6:0C RxControlDiscards. -/
def rxControlDiscards (p : Nat) : Nat := (0x2006 + 16 * p) * 256 + 12
/-- 0x2pp6:0D LinkDownEvents. -/
def linkDownEvents (p : Nat) : Nat := (0x2006 + 16 * p) * 256 + 13
/-- 0x2pp6:0E CountersClear. -/
def countersClear2006 (p : Nat) : Nat := (0x2006 + 16 * p) * 256 + 14
/-- 0x4000:01 MalformedAction. -/
def malformedAction : Nat := 0x4000 * 256 + 1
/-- 0x4000:02 NoMatchAction. -/
def noMatchAction : Nat := 0x4000 * 256 + 2
/-- 0x4000:03 FragmentOrphanAction. -/
def fragmentOrphanAction : Nat := 0x4000 * 256 + 3
/-- 0x4000:04 FragmentLifetime. -/
def fragmentLifetime : Nat := 0x4000 * 256 + 4
/-- 0x4000:05 FragmentEntriesInUse. -/
def fragmentEntriesInUse : Nat := 0x4000 * 256 + 5
/-- 0x4000:06 FragmentTableFull. -/
def fragmentTableFull : Nat := 0x4000 * 256 + 6
/-- 0x4000:07 ExceptionAggregateRate. -/
def exceptionAggregateRate : Nat := 0x4000 * 256 + 7
/-- 0x4000:08 ExceptionAggregateBurst. -/
def exceptionAggregateBurst : Nat := 0x4000 * 256 + 8
/-- 0x4000:09 ExceptionAggregateDrops. -/
def exceptionAggregateDrops : Nat := 0x4000 * 256 + 9
/-- 0x4000:0A MalformedFrames. -/
def malformedFrames : Nat := 0x4000 * 256 + 10
/-- 0x4000:0B MalformedTail. -/
def malformedTail : Nat := 0x4000 * 256 + 11
/-- 0x4000:0C ParseIncompleteFrames. -/
def parseIncompleteFrames : Nat := 0x4000 * 256 + 12
/-- 0x4000:0D NoMatchFrames. -/
def noMatchFrames : Nat := 0x4000 * 256 + 13
/-- 0x4000:0E RecirculationDrops. -/
def recirculationDrops : Nat := 0x4000 * 256 + 14
/-- 0x4000:0F GenerationDrops. -/
def generationDrops : Nat := 0x4000 * 256 + 15
/-- 0x4000:10 AcfSplitOverflow. -/
def acfSplitOverflow : Nat := 0x4000 * 256 + 16
/-- 0x4000:11 ClassifierDrops. -/
def classifierDrops : Nat := 0x4000 * 256 + 17
/-- 0x4000:12 CountersClear. -/
def countersClear4000 : Nat := 0x4000 * 256 + 18
/-- 0x4100:01 FirewallEnable. -/
def firewallEnable : Nat := 0x4100 * 256 + 1
/-- 0x4100:02 OpeningTimeout. -/
def openingTimeout : Nat := 0x4100 * 256 + 2
/-- 0x4100:03 EstablishedTimeout. -/
def establishedTimeout : Nat := 0x4100 * 256 + 3
/-- 0x4100:04 ClosingTimeout. -/
def closingTimeout : Nat := 0x4100 * 256 + 4
/-- 0x4100:05 ActiveTimeout. -/
def activeTimeout : Nat := 0x4100 * 256 + 5
/-- 0x4100:06 SessionsInUse. -/
def sessionsInUse : Nat := 0x4100 * 256 + 6
/-- 0x4100:07 SessionCreateFailures. -/
def sessionCreateFailures : Nat := 0x4100 * 256 + 7
/-- 0x4100:08 SessionFlush. -/
def sessionFlush : Nat := 0x4100 * 256 + 8
/-- 0x4100:09 FirewallPendingEnable. -/
def firewallPendingEnable : Nat := 0x4100 * 256 + 9
/-- 0x2pp3:01–0x2pp3:08 QueueLimit. -/
def queueLimit (p n : Nat) : Nat := (0x2003 + 16 * p) * 256 + (1 + n)
/-- 0x2pp3:09–0x2pp3:10 QueueDepthCells. -/
def queueDepthCells (p n : Nat) : Nat := (0x2003 + 16 * p) * 256 + (9 + n)
/-- 0x2pp3:11–0x2pp3:18 QueueDepthFrames. -/
def queueDepthFrames (p n : Nat) : Nat := (0x2003 + 16 * p) * 256 + (17 + n)
/-- 0x2pp3:19–0x2pp3:20 QueueFullDrops. -/
def queueFullDrops (p n : Nat) : Nat := (0x2003 + 16 * p) * 256 + (25 + n)
/-- 0x2pp3:21–0x2pp3:28 PushedOut. -/
def pushedOut (p n : Nat) : Nat := (0x2003 + 16 * p) * 256 + (33 + n)
/-- 0x2pp3:29 CutThroughEnable. -/
def cutThroughEnable (p : Nat) : Nat := (0x2003 + 16 * p) * 256 + 41
/-- 0x2pp3:2A CutThroughFrames. -/
def cutThroughFrames (p : Nat) : Nat := (0x2003 + 16 * p) * 256 + 42
/-- 0x2pp3:2B VarnishedFrames. -/
def varnishedFrames (p : Nat) : Nat := (0x2003 + 16 * p) * 256 + 43
/-- 0x2pp3:2C QueueCountersClear. -/
def queueCountersClear (p : Nat) : Nat := (0x2003 + 16 * p) * 256 + 44
/-- 0x3000:01 CellsFree. -/
def cellsFree : Nat := 0x3000 * 256 + 1
/-- 0x3000:02 DescriptorsFree. -/
def descriptorsFree : Nat := 0x3000 * 256 + 2
/-- 0x3000:03 QueueEntriesFree. -/
def queueEntriesFree : Nat := 0x3000 * 256 + 3
/-- 0x3000:04 ArrivalCellsPeak. -/
def arrivalCellsPeak : Nat := 0x3000 * 256 + 4
/-- 0x3000:05 AgeingTime. -/
def ageingTime : Nat := 0x3000 * 256 + 5
/-- 0x3000:06 FloodUnknownUnicast. -/
def floodUnknownUnicast : Nat := 0x3000 * 256 + 6
/-- 0x3000:07 DynamicEntries. -/
def dynamicEntries : Nat := 0x3000 * 256 + 7
/-- 0x3000:08 LearnFailures. -/
def learnFailures : Nat := 0x3000 * 256 + 8
/-- 0x3000:09 DescriptorDrops. -/
def descriptorDrops : Nat := 0x3000 * 256 + 9
/-- 0x3000:0A QueueEntryDrops. -/
def queueEntryDrops : Nat := 0x3000 * 256 + 10
/-- 0x3000:0B PoolFullDrops. -/
def poolFullDrops : Nat := 0x3000 * 256 + 11
/-- 0x3000:0C PushOutEvictions. -/
def pushOutEvictions : Nat := 0x3000 * 256 + 12
/-- 0x3000:0D DecisionOverruns. -/
def decisionOverruns : Nat := 0x3000 * 256 + 13
/-- 0x3000:0E RefCountOverflow. -/
def refCountOverflow : Nat := 0x3000 * 256 + 14
/-- 0x3000:0F VlanDiscards. -/
def vlanDiscards : Nat := 0x3000 * 256 + 15
/-- 0x3000:10 BridgeFiltered. -/
def bridgeFiltered : Nat := 0x3000 * 256 + 16
/-- 0x3000:11 InternalTargetDrops. -/
def internalTargetDrops : Nat := 0x3000 * 256 + 17
/-- 0x3000:12 FdbFlushDynamic. -/
def fdbFlushDynamic : Nat := 0x3000 * 256 + 18
/-- 0x3000:13 CountersClear. -/
def countersClear3000 : Nat := 0x3000 * 256 + 19
/-- 0x3010:01–0x3010:04 PoolCellsInUse. -/
def poolCellsInUse (n : Nat) : Nat := 0x3010 * 256 + (1 + n)
/-- 0x2pp4:01 GateOperState. -/
def gateOperState (p : Nat) : Nat := (0x2004 + 16 * p) * 256 + 1
/-- 0x2pp4:02 ConfigChangeTime. -/
def configChangeTime (p : Nat) : Nat := (0x2004 + 16 * p) * 256 + 2
/-- 0x2pp4:03 OperCycleTime. -/
def operCycleTime (p : Nat) : Nat := (0x2004 + 16 * p) * 256 + 3
/-- 0x2pp4:04 CurrentEntry. -/
def currentEntry (p : Nat) : Nat := (0x2004 + 16 * p) * 256 + 4
/-- 0x2pp4:05 CurrentGateStates. -/
def currentGateStates (p : Nat) : Nat := (0x2004 + 16 * p) * 256 + 5
/-- 0x2pp4:06 TransmissionOverruns. -/
def transmissionOverruns (p : Nat) : Nat := (0x2004 + 16 * p) * 256 + 6
/-- 0x2pp4:07 BrimDeferrals. -/
def brimDeferrals (p : Nat) : Nat := (0x2004 + 16 * p) * 256 + 7
/-- 0x2pp4:08 ConfigChanges. -/
def configChanges (p : Nat) : Nat := (0x2004 + 16 * p) * 256 + 8
/-- 0x2pp4:09 IngressLatency. -/
def ingressLatency (p : Nat) : Nat := (0x2004 + 16 * p) * 256 + 9
/-- 0x2pp4:0A EgressLatency. -/
def egressLatency (p : Nat) : Nat := (0x2004 + 16 * p) * 256 + 10
/-- 0x2pp4:0B LogPdelayInterval. -/
def logPdelayInterval (p : Nat) : Nat := (0x2004 + 16 * p) * 256 + 11
/-- 0x2pp4:0C MeanLinkDelay. -/
def meanLinkDelay (p : Nat) : Nat := (0x2004 + 16 * p) * 256 + 12
/-- 0x2pp4:0D GateEventVector. -/
def gateEventVector (p : Nat) : Nat := (0x2004 + 16 * p) * 256 + 13
/-- 0x2pp4:0E GateCountersClear. -/
def gateCountersClear (p : Nat) : Nat := (0x2004 + 16 * p) * 256 + 14
/-- 0x2pp5:01 PreemptionActive. -/
def preemptionActive (p : Nat) : Nat := (0x2005 + 16 * p) * 256 + 1
/-- 0x2pp5:02 VerifyStatus. -/
def verifyStatus (p : Nat) : Nat := (0x2005 + 16 * p) * 256 + 2
/-- 0x2pp5:03 VerifyTime. -/
def verifyTime (p : Nat) : Nat := (0x2005 + 16 * p) * 256 + 3
/-- 0x2pp5:04 VerifyDisable. -/
def verifyDisable (p : Nat) : Nat := (0x2005 + 16 * p) * 256 + 4
/-- 0x2pp5:05 HoldAdvance. -/
def holdAdvance (p : Nat) : Nat := (0x2005 + 16 * p) * 256 + 5
/-- 0x2pp5:06 FragmentsSent. -/
def fragmentsSent (p : Nat) : Nat := (0x2005 + 16 * p) * 256 + 6
/-- 0x2pp5:07 FragmentsReceived. -/
def fragmentsReceived (p : Nat) : Nat := (0x2005 + 16 * p) * 256 + 7
/-- 0x2pp5:08 AssemblyErrors. -/
def assemblyErrors (p : Nat) : Nat := (0x2005 + 16 * p) * 256 + 8
/-- 0x2pp5:09 EligibilityHolds. -/
def eligibilityHolds (p : Nat) : Nat := (0x2005 + 16 * p) * 256 + 9
/-- 0x2pp5:0A ShapingCountersClear. -/
def shapingCountersClear (p : Nat) : Nat := (0x2005 + 16 * p) * 256 + 10
/-- 0x5000:01 VehicleTimeNow. -/
def vehicleTimeNow : Nat := 0x5000 * 256 + 1
/-- 0x5000:02 VehicleTimeNowFrac. -/
def vehicleTimeNowFrac : Nat := 0x5000 * 256 + 2
/-- 0x5000:03 TimeStatus. -/
def timeStatus : Nat := 0x5000 * 256 + 3
/-- 0x5000:04 TimeSourceInstance. -/
def timeSourceInstance : Nat := 0x5000 * 256 + 4
/-- 0x5000:05 StepThreshold. -/
def stepThreshold : Nat := 0x5000 * 256 + 5
/-- 0x5000:06 MaxSlewRate. -/
def maxSlewRate : Nat := 0x5000 * 256 + 6
/-- 0x5000:07 HoldoverLimit. -/
def holdoverLimit : Nat := 0x5000 * 256 + 7
/-- 0x5000:08 OffsetFromMaster. -/
def offsetFromMaster : Nat := 0x5000 * 256 + 8
/-- 0x5000:09 FrequencyAdjust. -/
def frequencyAdjust : Nat := 0x5000 * 256 + 9
/-- 0x5000:0A TimeSteps. -/
def timeSteps : Nat := 0x5000 * 256 + 10
/-- 0x5000:0B LastStepSize. -/
def lastStepSize : Nat := 0x5000 * 256 + 11
/-- 0x5000:0C SyncLossEvents. -/
def syncLossEvents : Nat := 0x5000 * 256 + 12
/-- 0x5000:0D TimeEventVector. -/
def timeEventVector : Nat := 0x5000 * 256 + 13
/-- 0x5000:0E TimeCountersClear. -/
def timeCountersClear : Nat := 0x5000 * 256 + 14
/-- 0x501i:01 InstanceEnable. -/
def instanceEnable (i : Nat) : Nat := (0x5010 + i) * 256 + 1
/-- 0x501i:02 DomainNumber. -/
def domainNumber (i : Nat) : Nat := (0x5010 + i) * 256 + 2
/-- 0x501i:03 ExternalPortConfiguration. -/
def externalPortConfiguration (i : Nat) : Nat := (0x5010 + i) * 256 + 3
/-- 0x501i:04 Priority1. -/
def priority1 (i : Nat) : Nat := (0x5010 + i) * 256 + 4
/-- 0x501i:05 Priority2. -/
def priority2 (i : Nat) : Nat := (0x5010 + i) * 256 + 5
/-- 0x501i:06 LogSyncInterval. -/
def logSyncInterval (i : Nat) : Nat := (0x5010 + i) * 256 + 6
/-- 0x501i:07 SyncReceiptTimeout. -/
def syncReceiptTimeout (i : Nat) : Nat := (0x5010 + i) * 256 + 7
/-- 0x501i:08 GrandmasterIdentity. -/
def grandmasterIdentity (i : Nat) : Nat := (0x5010 + i) * 256 + 8
/-- 0x501i:09 InstanceState. -/
def instanceState (i : Nat) : Nat := (0x5010 + i) * 256 + 9
/-- 0x6000:01 AdmittedStreams. -/
def admittedStreams : Nat := 0x6000 * 256 + 1
/-- 0x6000:02 CertificateKeySlot. -/
def certificateKeySlot : Nat := 0x6000 * 256 + 2
/-- 0x6000:03 RefusalStream. -/
def refusalStream : Nat := 0x6000 * 256 + 3
/-- 0x6000:04 RefusalPort. -/
def refusalPort : Nat := 0x6000 * 256 + 4
/-- 0x6000:05 LastCheckDuration. -/
def lastCheckDuration : Nat := 0x6000 * 256 + 5
/-- 0x6000:07 DeliveryFaultTotal. -/
def deliveryFaultTotal : Nat := 0x6000 * 256 + 7
/-- 0x6000:08 DeliveryFaultLogCount. -/
def deliveryFaultLogCount : Nat := 0x6000 * 256 + 8
/-- 0x6000:09 DeliveryFaultOverflow. -/
def deliveryFaultOverflow : Nat := 0x6000 * 256 + 9
/-- 0x6000:0A DeliveryFaultVector. -/
def deliveryFaultVector : Nat := 0x6000 * 256 + 10
/-- 0x6000:0B DeliveryFaultLogClear. -/
def deliveryFaultLogClear : Nat := 0x6000 * 256 + 11
/-- 0x6000:0C StepExemptions. -/
def stepExemptions : Nat := 0x6000 * 256 + 12
/-- 0x6000:0D TransitionExemptions. -/
def transitionExemptions : Nat := 0x6000 * 256 + 13
/-- 0x6000:0E StreamCountersClear. -/
def streamCountersClear : Nat := 0x6000 * 256 + 14
/-- 0x6000:0F StreamUnblock. -/
def streamUnblock : Nat := 0x6000 * 256 + 15
/-- 0x2pp7:01–0x2pp7:08 QueueDepthPeak. -/
def queueDepthPeak (p n : Nat) : Nat := (0x2007 + 16 * p) * 256 + (1 + n)
/-- 0x2pp7:09–0x2pp7:10 SojournMax. -/
def sojournMax (p n : Nat) : Nat := (0x2007 + 16 * p) * 256 + (9 + n)
/-- 0x2pp7:11 SojournSampleExponent. -/
def sojournSampleExponent (p : Nat) : Nat := (0x2007 + 16 * p) * 256 + 17
/-- 0x2pp7:12 AdmissionMismatch. -/
def admissionMismatch (p : Nat) : Nat := (0x2007 + 16 * p) * 256 + 18
/-- 0x2pp7:13–0x2pp7:1A AdmittedCells. -/
def admittedCells (p n : Nat) : Nat := (0x2007 + 16 * p) * 256 + (19 + n)
/-- 0x2pp7:1B UnadmittedRemovals. -/
def unadmittedRemovals (p : Nat) : Nat := (0x2007 + 16 * p) * 256 + 27
/-- 0x2pp7:1C SamplingClear. -/
def samplingClear (p : Nat) : Nat := (0x2007 + 16 * p) * 256 + 28
/-- 0x2ppA:01 GatewayChannelEnable. -/
def gatewayChannelEnable (p : Nat) : Nat := (0x200a + 16 * p) * 256 + 1
/-- 0x2ppA:02 GatewayPendingEnable. -/
def gatewayPendingEnable (p : Nat) : Nat := (0x200a + 16 * p) * 256 + 2
/-- 0x2ppA:03 GatewayChannelState. -/
def gatewayChannelState (p : Nat) : Nat := (0x200a + 16 * p) * 256 + 3
/-- 0x2ppA:04–0x2ppA:07 InboundLimit. -/
def inboundLimit (p n : Nat) : Nat := (0x200a + 16 * p) * 256 + (4 + n)
/-- 0x2ppA:08–0x2ppA:0B OutboundLimit. -/
def outboundLimit (p n : Nat) : Nat := (0x200a + 16 * p) * 256 + (8 + n)
/-- 0x2ppA:0C–0x2ppA:0F InboundInUse. -/
def inboundInUse (p n : Nat) : Nat := (0x200a + 16 * p) * 256 + (12 + n)
/-- 0x2ppA:10–0x2ppA:13 OutboundInUse. -/
def outboundInUse (p n : Nat) : Nat := (0x200a + 16 * p) * 256 + (16 + n)
/-- 0x2ppA:14 InboundFullDrops. -/
def inboundFullDrops (p : Nat) : Nat := (0x200a + 16 * p) * 256 + 20
/-- 0x2ppA:15 OutboundFullDrops. -/
def outboundFullDrops (p : Nat) : Nat := (0x200a + 16 * p) * 256 + 21
/-- 0x2ppA:16 GatewayDisabledDrops. -/
def gatewayDisabledDrops (p : Nat) : Nat := (0x200a + 16 * p) * 256 + 22
/-- 0x2ppA:17 ShutDownDuration. -/
def shutDownDuration (p : Nat) : Nat := (0x200a + 16 * p) * 256 + 23
/-- 0x2ppA:18 GatewayPortCountersClear. -/
def gatewayPortCountersClear (p : Nat) : Nat := (0x200a + 16 * p) * 256 + 24
/-- 0x7000:01 NoRouteAction. -/
def noRouteAction : Nat := 0x7000 * 256 + 1
/-- 0x7000:02 NoRouteFrames. -/
def noRouteFrames : Nat := 0x7000 * 256 + 2
/-- 0x7000:03 RoutedFrames. -/
def routedFrames : Nat := 0x7000 * 256 + 3
/-- 0x7000:04 GatewayFailureCount. -/
def gatewayFailureCount : Nat := 0x7000 * 256 + 4
/-- 0x7000:05 GatewayFailureOverflow. -/
def gatewayFailureOverflow : Nat := 0x7000 * 256 + 5
/-- 0x7000:06 GatewayFailureClear. -/
def gatewayFailureClear : Nat := 0x7000 * 256 + 6
/-- 0x7000:07 GatewayFailureVector. -/
def gatewayFailureVector : Nat := 0x7000 * 256 + 7
/-- 0x7000:08 LifetimeExpiries. -/
def lifetimeExpiries : Nat := 0x7000 * 256 + 8
/-- 0x7000:09 TransformFailures. -/
def transformFailures : Nat := 0x7000 * 256 + 9
/-- 0x7000:0A DefaultLifetime. -/
def defaultLifetime : Nat := 0x7000 * 256 + 10
/-- 0x7000:0B RefusalRoute. -/
def refusalRoute : Nat := 0x7000 * 256 + 11
/-- 0x7000:0C RefusalPair. -/
def refusalPair : Nat := 0x7000 * 256 + 12
/-- 0x7000:0D GatewayResidenceMax. -/
def gatewayResidenceMax : Nat := 0x7000 * 256 + 13
/-- 0x7000:0E LastGatewayCheckDuration. -/
def lastGatewayCheckDuration : Nat := 0x7000 * 256 + 14
/-- 0x7000:0F GatewayCountersClear. -/
def gatewayCountersClear : Nat := 0x7000 * 256 + 15
/-- 0x8000:01 JobsInFlight. -/
def jobsInFlight : Nat := 0x8000 * 256 + 1
/-- 0x8000:02 JobsRunning. -/
def jobsRunning : Nat := 0x8000 * 256 + 2
/-- 0x8000:03 SubmitBusyRefusals. -/
def submitBusyRefusals : Nat := 0x8000 * 256 + 3
/-- 0x8000:04 IntegrityEventVector. -/
def integrityEventVector : Nat := 0x8000 * 256 + 4
/-- 0x8010:01–0x8010:08 ArbiterWeight. -/
def arbiterWeight (n : Nat) : Nat := 0x8010 * 256 + (1 + n)
/-- 0x8010:09 StarvationWindows. -/
def starvationWindows : Nat := 0x8010 * 256 + 9
/-- 0x8010:0A StarvationFlags. -/
def starvationFlags : Nat := 0x8010 * 256 + 10
/-- 0x8010:0B StarvationVector. -/
def starvationVector : Nat := 0x8010 * 256 + 11
/-- 0x8010:0C StarvationClear. -/
def starvationClear : Nat := 0x8010 * 256 + 12
/-- 0x8010:0D GrantOwner. -/
def grantOwner : Nat := 0x8010 * 256 + 13
/-- 0x8010:0E MaskState. -/
def maskState : Nat := 0x8010 * 256 + 14
/-- 0x8011:01–0x8011:08 WordsGranted. -/
def wordsGranted (n : Nat) : Nat := 0x8011 * 256 + (1 + n)
/-- 0x8020:01 FreshnessWarnRemaining. -/
def freshnessWarnRemaining : Nat := 0x8020 * 256 + 1
/-- 0x8020:02 FreshnessWarned. -/
def freshnessWarned : Nat := 0x8020 * 256 + 2
/-- 0x8020:03 FreshnessExhausted. -/
def freshnessExhausted : Nat := 0x8020 * 256 + 3
/-- 0x8020:04 FreshnessEventVector. -/
def freshnessEventVector : Nat := 0x8020 * 256 + 4
/-- 0x8100 + p:01 JobSubmit. -/
def jobSubmit (g : Nat) : Nat := (0x8100 + g) * 256 + 1
/-- 0x8100 + p:02 PageState. -/
def pageState (g : Nat) : Nat := (0x8100 + g) * 256 + 2
/-- 0x8100 + p:03 PageEnable. -/
def pageEnable (g : Nat) : Nat := (0x8100 + g) * 256 + 3
/-- 0x8100 + p:04 PagePendingEnable. -/
def pagePendingEnable (g : Nat) : Nat := (0x8100 + g) * 256 + 4
/-- 0x8100 + p:05 PageJobsInFlight. -/
def pageJobsInFlight (g : Nat) : Nat := (0x8100 + g) * 256 + 5
/-- 0x2ppB:01 InVerified. -/
def inVerified (p : Nat) : Nat := (0x200b + 16 * p) * 256 + 1
/-- 0x2ppB:02 InFailed. -/
def inFailed (p : Nat) : Nat := (0x200b + 16 * p) * 256 + 2
/-- 0x2ppB:03 InLate. -/
def inLate (p : Nat) : Nat := (0x200b + 16 * p) * 256 + 3
/-- 0x2ppB:04 InNoSa. -/
def inNoSa (p : Nat) : Nat := (0x200b + 16 * p) * 256 + 4
/-- 0x2ppB:05 InUntagged. -/
def inUntagged (p : Nat) : Nat := (0x200b + 16 * p) * 256 + 5
/-- 0x2ppB:06 OutProtected. -/
def outProtected (p : Nat) : Nat := (0x200b + 16 * p) * 256 + 6
/-- 0x2ppB:07 OutSaDrops. -/
def outSaDrops (p : Nat) : Nat := (0x200b + 16 * p) * 256 + 7
/-- 0x2ppB:08 MacsecCountersClear. -/
def macsecCountersClear (p : Nat) : Nat := (0x200b + 16 * p) * 256 + 8
/-- 0x8200:01 PufStatus. -/
def pufStatus : Nat := 0x8200 * 256 + 1
/-- 0x8200:02 PufDuration. -/
def pufDuration : Nat := 0x8200 * 256 + 2
/-- 0x8200:03 KeyGuardMode. -/
def keyGuardMode : Nat := 0x8200 * 256 + 3
/-- 0x8200:04 TamperLatched. -/
def tamperLatched : Nat := 0x8200 * 256 + 4
/-- 0x8200:05 SweepActive. -/
def sweepActive : Nat := 0x8200 * 256 + 5
/-- 0x8200:06 KeyEventVector. -/
def keyEventVector : Nat := 0x8200 * 256 + 6
/-- 0x8200:07 DeviceUidHigh. -/
def deviceUidHigh : Nat := 0x8200 * 256 + 7
/-- 0x8200:08 DeviceUidLow. -/
def deviceUidLow : Nat := 0x8200 * 256 + 8
/-- 0x8300:01 AttestGenerate. -/
def attestGenerate : Nat := 0x8300 * 256 + 1
/-- 0x8400:01 RecordSealEnable. -/
def recordSealEnable : Nat := 0x8400 * 256 + 1
/-- 0x8400:02 RecordSealState. -/
def recordSealState : Nat := 0x8400 * 256 + 2
/-- 0x8400:03 RecordSealPendingEnable. -/
def recordSealPendingEnable : Nat := 0x8400 * 256 + 3
/-- 0x8400:04 SealKeySlot. -/
def sealKeySlot : Nat := 0x8400 * 256 + 4
/-- 0x8400:05 SealSignSlot. -/
def sealSignSlot : Nat := 0x8400 * 256 + 5
/-- 0x8400:06 BatchSize. -/
def batchSize : Nat := 0x8400 * 256 + 6
/-- 0x8400:07 RecordDestination. -/
def recordDestination : Nat := 0x8400 * 256 + 7
/-- 0x8400:08 RecordEtherType. -/
def recordEtherType : Nat := 0x8400 * 256 + 8
/-- 0x8400:09 ChainId. -/
def chainId : Nat := 0x8400 * 256 + 9
/-- 0x8400:0A LastSequence. -/
def lastSequence : Nat := 0x8400 * 256 + 10
/-- 0x8400:0B RecordsSealed. -/
def recordsSealed : Nat := 0x8400 * 256 + 11
/-- 0x8400:0C SealDrops. -/
def sealDrops : Nat := 0x8400 * 256 + 12
/-- 0x8400:0D PrevChainId. -/
def prevChainId : Nat := 0x8400 * 256 + 13
/-- 0x8400:0E PrevLastSequence. -/
def prevLastSequence : Nat := 0x8400 * 256 + 14
/-- 0x8400:0F PrevLastMacHigh. -/
def prevLastMacHigh : Nat := 0x8400 * 256 + 15
/-- 0x8400:10 PrevLastMacLow. -/
def prevLastMacLow : Nat := 0x8400 * 256 + 16
/-- 0x8400:11 SealEventVector. -/
def sealEventVector : Nat := 0x8400 * 256 + 17
/-- 0x9000:01 DeviceState. -/
def deviceState : Nat := 0x9000 * 256 + 1
/-- 0x9000:02 DeviceSleepEnable. -/
def deviceSleepEnable : Nat := 0x9000 * 256 + 2
/-- 0x9000:03 RetentionEnable. -/
def retentionEnable : Nat := 0x9000 * 256 + 3
/-- 0x9000:04 SleepEntryTimeout. -/
def sleepEntryTimeout : Nat := 0x9000 * 256 + 4
/-- 0x9000:05 LastWakeKind. -/
def lastWakeKind : Nat := 0x9000 * 256 + 5
/-- 0x9000:06 LastWakeSource. -/
def lastWakeSource : Nat := 0x9000 * 256 + 6
/-- 0x9000:07 LastSleepDuration. -/
def lastSleepDuration : Nat := 0x9000 * 256 + 7
/-- 0x9000:08 LastWakeLatency. -/
def lastWakeLatency : Nat := 0x9000 * 256 + 8
/-- 0x9000:09 DeviceWakes. -/
def deviceWakes : Nat := 0x9000 * 256 + 9
/-- 0x9000:0A FailSafeSleeps. -/
def failSafeSleeps : Nat := 0x9000 * 256 + 10
/-- 0x9000:0B SleepEventVector. -/
def sleepEventVector : Nat := 0x9000 * 256 + 11
/-- 0x9000:0C KeepAwakeLogCount. -/
def keepAwakeLogCount : Nat := 0x9000 * 256 + 12
/-- 0x9000:0D KeepAwakeLogOverflow. -/
def keepAwakeLogOverflow : Nat := 0x9000 * 256 + 13
/-- 0x9000:0E KeepAwakeLogClear. -/
def keepAwakeLogClear : Nat := 0x9000 * 256 + 14
/-- 0x9000:0F RetentionImageSize. -/
def retentionImageSize : Nat := 0x9000 * 256 + 15
/-- 0x9000:10 RetentionOverflows. -/
def retentionOverflows : Nat := 0x9000 * 256 + 16
/-- 0x9100 + r:01 RingEnable. -/
def ringEnable (r : Nat) : Nat := (0x9100 + r) * 256 + 1
/-- 0x9100 + r:02 RingState. -/
def ringState (r : Nat) : Nat := (0x9100 + r) * 256 + 2
/-- 0x9100 + r:03 RingPendingEnable. -/
def ringPendingEnable (r : Nat) : Nat := (0x9100 + r) * 256 + 3
/-- 0x9100 + r:04 LocalConsent. -/
def localConsent (r : Nat) : Nat := (0x9100 + r) * 256 + 4
/-- 0x9100 + r:05 HolderCount. -/
def holderCount (r : Nat) : Nat := (0x9100 + r) * 256 + 5
/-- 0x9100 + r:06 LastHolder. -/
def lastHolder (r : Nat) : Nat := (0x9100 + r) * 256 + 6
/-- 0x9100 + r:07 AbortedCommits. -/
def abortedCommits (r : Nat) : Nat := (0x9100 + r) * 256 + 7
/-- 0x9100 + r:08 FalseWakes. -/
def falseWakes (r : Nat) : Nat := (0x9100 + r) * 256 + 8
/-- 0x9100 + r:09 BusSleepsForced. -/
def busSleepsForced (r : Nat) : Nat := (0x9100 + r) * 256 + 9
/-- 0x9100 + r:0A BadRingMessages. -/
def badRingMessages (r : Nat) : Nat := (0x9100 + r) * 256 + 10
/-- 0x9100 + r:0B BusSleeps. -/
def busSleeps (r : Nat) : Nat := (0x9100 + r) * 256 + 11
/-- 0x9100 + r:0C RingCountersClear. -/
def ringCountersClear (r : Nat) : Nat := (0x9100 + r) * 256 + 12
/-- 0xA000:01 SafetyState. -/
def safetyState : Nat := 0xa000 * 256 + 1
/-- 0xA000:02 Mismatches. -/
def mismatches : Nat := 0xa000 * 256 + 2
/-- 0xA000:03 SamplingDivergences. -/
def samplingDivergences : Nat := 0xa000 * 256 + 3
/-- 0xA000:04 CoreMismatches. -/
def coreMismatches : Nat := 0xa000 * 256 + 4
/-- 0xA000:05 ComparatorFaults. -/
def comparatorFaults : Nat := 0xa000 * 256 + 5
/-- 0xA000:06 LastMismatchGroup. -/
def lastMismatchGroup : Nat := 0xa000 * 256 + 6
/-- 0xA000:07 FailSafeCause. -/
def failSafeCause : Nat := 0xa000 * 256 + 7
/-- 0xA000:08 IsolationViolations. -/
def isolationViolations : Nat := 0xa000 * 256 + 8
/-- 0xA000:09 FaultVector. -/
def faultVector : Nat := 0xa000 * 256 + 9
/-- 0xA000:0A FaultLogCount. -/
def faultLogCount : Nat := 0xa000 * 256 + 10
/-- 0xA000:0B FaultLogOverflow. -/
def faultLogOverflow : Nat := 0xa000 * 256 + 11
/-- 0xA000:0C FaultLogClear. -/
def faultLogClear : Nat := 0xa000 * 256 + 12
/-- 0xA000:0D SafeRelease. -/
def safeRelease : Nat := 0xa000 * 256 + 13
/-- 0xA000:0E EnterFailSafe. -/
def enterFailSafe : Nat := 0xa000 * 256 + 14
/-- 0xA000:0F WatchdogService. -/
def watchdogService : Nat := 0xa000 * 256 + 15
/-- 0xA000:10 WatchdogPeriod. -/
def watchdogPeriod : Nat := 0xa000 * 256 + 16
/-- 0xA000:11 PeriodicTestRun. -/
def periodicTestRun : Nat := 0xa000 * 256 + 17
/-- 0xA000:12 PeriodicTestResult. -/
def periodicTestResult : Nat := 0xa000 * 256 + 18
/-- 0xA000:13 CorrectedErrors. -/
def correctedErrors : Nat := 0xa000 * 256 + 19
/-- 0xA000:14 UncorrectedErrors. -/
def uncorrectedErrors : Nat := 0xa000 * 256 + 20
/-- 0xA000:15 CellCrcErrors. -/
def cellCrcErrors : Nat := 0xa000 * 256 + 21
/-- 0xA000:16 LatentTestAge. -/
def latentTestAge : Nat := 0xa000 * 256 + 22
/-- 0xA010:01–0xA010:05 PipelineState. -/
def pipelineState (n : Nat) : Nat := 0xa010 * 256 + (1 + n)
/-- 0xA010:06 SpareHosts. -/
def spareHosts : Nat := 0xa010 * 256 + 6
/-- 0xA010:07 Failovers. -/
def failovers : Nat := 0xa010 * 256 + 7
/-- 0xA010:08 FailoverDiscards. -/
def failoverDiscards : Nat := 0xa010 * 256 + 8
/-- 0xA010:09 InterruptionDiscards. -/
def interruptionDiscards : Nat := 0xa010 * 256 + 9
/-- 0xA010:0A LastInterruption. -/
def lastInterruption : Nat := 0xa010 * 256 + 10
/-- 0xA010:0C PipelineTest. -/
def pipelineTest : Nat := 0xa010 * 256 + 12
/-- 0xA010:0D PipelineTestResult. -/
def pipelineTestResult : Nat := 0xa010 * 256 + 13
/-- 0xB000:01 SelfTestRun. -/
def selfTestRun : Nat := 0xb000 * 256 + 1
/-- 0xB000:02 SelfTestAbort. -/
def selfTestAbort : Nat := 0xb000 * 256 + 2
/-- 0xB000:03 SelfTestVector. -/
def selfTestVector : Nat := 0xb000 * 256 + 3
/-- 0xB000:04 RefclkDeviation. -/
def refclkDeviation : Nat := 0xb000 * 256 + 4
/-- 0xB000:05 JunctionTemperature. -/
def junctionTemperature : Nat := 0xb000 * 256 + 5
/-- 0xB000:06 MbistResult. -/
def mbistResult : Nat := 0xb000 * 256 + 6
/-- 0xB000:07 MbistRepairs. -/
def mbistRepairs : Nat := 0xb000 * 256 + 7
/-- 0xB000:08 MbistFailedGroup. -/
def mbistFailedGroup : Nat := 0xb000 * 256 + 8
/-- 0xB000:09 MbistDuration. -/
def mbistDuration : Nat := 0xb000 * 256 + 9
/-- 0xB000:0A TestsRunning. -/
def testsRunning : Nat := 0xb000 * 256 + 10
/-- 0xB001:01–0xB001:05 ExpectedSignature. -/
def expectedSignature (n : Nat) : Nat := 0xb001 * 256 + (1 + n)
/-- 0xB002:01–0xB002:05 ExpectedSteps. -/
def expectedSteps (n : Nat) : Nat := 0xb002 * 256 + (1 + n)
/-- 0xC000:01 StartupState. -/
def startupState : Nat := 0xc000 * 256 + 1
/-- 0xC000:02 FirmwareSlotActive. -/
def firmwareSlotActive : Nat := 0xc000 * 256 + 2
/-- 0xC000:03 OdSlotActive. -/
def odSlotActive : Nat := 0xc000 * 256 + 3
/-- 0xC000:04 FirmwareTrial. -/
def firmwareTrial : Nat := 0xc000 * 256 + 4
/-- 0xC000:05 OdTrial. -/
def odTrial : Nat := 0xc000 * 256 + 5
/-- 0xC000:06 TrialStarts. -/
def trialStarts : Nat := 0xc000 * 256 + 6
/-- 0xC000:07 SlotFallbacks. -/
def slotFallbacks : Nat := 0xc000 * 256 + 7
/-- 0xC000:08 RollbackCounter. -/
def rollbackCounter : Nat := 0xc000 * 256 + 8
/-- 0xC000:09 UpdateConfirm. -/
def updateConfirm : Nat := 0xc000 * 256 + 9
/-- 0xC000:0A RecoveryRequest. -/
def recoveryRequest : Nat := 0xc000 * 256 + 10
/-- 0xC000:0B SystemRestart. -/
def systemRestart : Nat := 0xc000 * 256 + 11
/-- 0xC000:0C JtagUnlock. -/
def jtagUnlock : Nat := 0xc000 * 256 + 12
/-- 0xC000:0D JtagState. -/
def jtagState : Nat := 0xc000 * 256 + 13
/-- 0xC000:0E StartupDuration. -/
def startupDuration : Nat := 0xc000 * 256 + 14
/-- 0xC000:0F FirmwareVersion. -/
def firmwareVersion : Nat := 0xc000 * 256 + 15
/-- 0xC000:10 OdImageVersion. -/
def odImageVersion : Nat := 0xc000 * 256 + 16
/-- 0xC000:11 LastImageRejection. -/
def lastImageRejection : Nat := 0xc000 * 256 + 17
/-- 0xC100:01 UpdateOpen. -/
def updateOpen : Nat := 0xc100 * 256 + 1
/-- 0xC100:02 UpdateState. -/
def updateState : Nat := 0xc100 * 256 + 2
/-- 0xC100:03 UpdateVerify. -/
def updateVerify : Nat := 0xc100 * 256 + 3
/-- 0xC100:04 UpdateActivate. -/
def updateActivate : Nat := 0xc100 * 256 + 4
/-- 0xC100:05 UpdateAbort. -/
def updateAbort : Nat := 0xc100 * 256 + 5
/-- 0xC100:06 UpdateReject. -/
def updateReject : Nat := 0xc100 * 256 + 6
/-- 0xC100:07 UpdateQueueFree. -/
def updateQueueFree : Nat := 0xc100 * 256 + 7
/-- 0xC100:08 UpdateOwner. -/
def updateOwner : Nat := 0xc100 * 256 + 8
/-- 0xC200:01 BankSelect. -/
def bankSelect : Nat := 0xc200 * 256 + 1
/-- 0xC200:02 XtalStatus. -/
def xtalStatus : Nat := 0xc200 * 256 + 2
/-- 0xC200:03 GpioDirection. -/
def gpioDirection : Nat := 0xc200 * 256 + 3
/-- 0xC200:04 GpioOutput. -/
def gpioOutput : Nat := 0xc200 * 256 + 4
/-- 0xC200:05 GpioInput. -/
def gpioInput : Nat := 0xc200 * 256 + 5
/-- 0xC200:06 GpioPullDown. -/
def gpioPullDown : Nat := 0xc200 * 256 + 6
/-- 0xC200:07 PpsOutput. -/
def ppsOutput : Nat := 0xc200 * 256 + 7
/-- 0xC200:08 PpsWidth. -/
def ppsWidth : Nat := 0xc200 * 256 + 8

end Sys2Proof.Machine.Key
end

