-- ==== Sys2Proof/Machine/Defaults.lean ====
section
/-! DEFINITION. What a register or a table octet that nothing has written reads as: the default columns of the object and
table lists of spec/. -/

namespace Sys2Proof.Machine

/-- The template index of a concrete index, and the port, instance, page or ring it belongs to (R87, R233, R322, R383). -/
def template (idx : Nat) : Nat × Nat :=
  if idx / 0x1000 = 2 then (0x2000 + idx % 16, idx / 16 % 256)
  else if idx = 0x5011 then (0x5010, 1)
  else if idx / 64 = 0x8100 / 64 then (0x8100, idx % 64)
  else if idx / 32 = 0x9100 / 32 then (0x9100, idx % 32)
  else (idx, 0)

/-- The objects of a template index. -/
def objectsAt (t : Nat) : List Obj :=
  match catalog.find? fun c => c.1 == t with
  | some c => c.2
  | none => []

/-- The object of a register key; none for the internal registers of Regs.lean. -/
def objOfKey (k : Nat) : Option Obj :=
  if k < 2 ^ 24 then
    let t := (template (k / 256)).1
    let byKind := t == 0x2008 || t == 0x2009
    let sub := if byKind then k % 16 else k % 256
    let kind := k % 256 / 16
    (objectsAt t).find? fun o => o.lo ≤ sub && sub ≤ o.hi && (!byKind || o.kind == kind)
  else none

/-- The width of a type of R7 in bits. -/
def Ty.bits : Ty → Nat
  | .bool => 1
  | .u8 => 8
  | .u16 => 16
  | .u32 => 32
  | .i32 => 32
  | .mac => 48
  | .u64 => 64
  | .time => 64
  | .oct8 => 64

/-- The modulus of a register: 2 to the width of its object; 0 for an internal register, which does not wrap. -/
def regMod (k : Nat) : Nat :=
  match objOfKey k with
  | some o => 2 ^ o.ty.bits
  | none => 0

/-- Defaults that depend on the port, instance or subindex, or that manufacture fixes (log entry 3). -/
def specialDefault (k : Nat) : Option Nat :=
  let t := template (k / 256)
  let sub := k % 256
  if t.1 = 0x2000 then
    if sub = 2 then some t.2 else if sub = 3 && 232 ≤ t.2 then some 1 else none
  else if t.1 = 0x2001 then if sub = 1 && 232 ≤ t.2 then some 1 else none
  else if t.1 = 0x2004 then
    if (sub = 9 || sub = 10) && 16 ≤ t.2 && t.2 < 64 then some (Config.fused k % 10001) else none
  else if t.1 = 0x5010 then
    if sub = 1 then some (1 - t.2) else if sub = 2 then some t.2 else none
  else if k = Key.bankSelect then some (Config.fused k % 2 ^ 5)
  else if k = Key.rollbackCounter then some (Config.fused k % 65)
  else if k = Key.temperatureGrade then some (Config.fused k % 2 + 1)
  else if k = Key.pciVendorId then some (Config.fused k % 2 ^ 16)
  else if k = Key.odStationAddress then some (setBits (Config.fused k % 2 ^ 48) 40 1 0)
  else if k = Key.deviceUidHigh || k = Key.deviceUidLow then some (Config.fused k % 2 ^ 64)
  else if t.1 = 0x8010 then
    if sub = 1 || sub = 2 then some 64 else if 3 ≤ sub && sub ≤ 6 then some 24
    else if sub = 7 || sub = 8 then some 16 else none
  else if t.1 = 0x8100 then if sub = 3 && 62 ≤ t.2 then some 1 else none
  else if t.1 = 0xA010 then if sub = 5 then some 0 else none
  else if t.1 = 0xB001 then if 1 ≤ sub && sub ≤ 5 then some (Config.fused k % 2 ^ 32) else none
  else if t.1 = 0xB002 then
    match sub with
    | 1 => some 18
    | 2 => some 24
    | 3 => some 20
    | 4 => some 8
    | 5 => some 6
    | _ => none
  else none

/-- What a register that nothing has written reads as. -/
def regDefault (k : Nat) : Nat :=
  if k < 2 ^ 24 then
    match specialDefault k with
    | some v => v
    | none => match objOfKey k with
      | some o => o.dflt
      | none => 0
  else 0

/-- The set of ports from `lo` to `hi` as a 256-bit port set (R177). -/
def portSpan (lo hi : Nat) : Nat := 2 ^ (hi + 1) - 2 ^ lo

/-- The image that the default fields of a layout give a row. -/
def layoutImage : List Fld → Nat
  | [] => 0
  | f :: fs => f.dflt * 2 ^ f.bit + layoutImage fs

/-- The image of a row that nothing has written, as a number with octet 0 least significant. DESIGN CHOICE (log entry 141): the fields of a
LinSchedule row beside Valid read 0. -/
def rowImage (idx row : Nat) : Nat :=
  let base := layoutImage (layout idx)
  match idx with
  | 0xF048 => base + row % 4 * 2 ^ F.exrPort.bit
  | 0xF050 => if row = 0 then 95232 + 0xFF * 2 ^ F.poolClasses.bit + 0x80 * 2 ^ F.poolProtected.bit else 0
  | 0xF051 =>
    if row = 1 then
      let ports := portSpan 0 63 + portSpan 224 231
      2 ^ F.vlanValid.bit + ports * 2 ^ F.vlanMembers.bit + ports * 2 ^ F.vlanUntagged.bit
    else 0
  | 0xF053 => base + row % 4 * 2 ^ F.pfwdPipeline.bit
  | 0xF095 => base + (if row = 62 then 5 else if row = 63 then 6 else 0)
  | 0xF0B1 =>
    if row < 66 then
      base + (if 64 ≤ row then 2 ^ F.stbPeriodic.bit else 0)
        + (if row < 16 then 1 else if row < 48 then 2 else if row < 64 then 3 else row - 60) * 2 ^ F.stbTestId.bit
    else 0
  | 0xF0C1 =>
    if row = 0 then Config.fused (0xF0C1 * 256) % 2 ^ 256 + 2 ^ F.ikeyState.bit else 0
  | 0xF060 => base + (if row < 64 then 20 else 0) * 2 ^ F.ptimOverhead.bit
  | _ => base

/-- The key of an octet of a table row: 12 bits of octet, 24 of row, then the table index. -/
def cellKey (idx row oct : Nat) : Nat := (idx * 2 ^ 24 + row) * 2 ^ 12 + oct

/-- What a table octet that nothing has written reads as. -/
def octetDefault (a : Nat) : Byte :=
  BitVec.ofNat 8 (rowImage (a / 2 ^ 36) (a / 2 ^ 12 % 2 ^ 24) / 256 ^ (a % 2 ^ 12))

end Sys2Proof.Machine
end

