-- ==== Sys2Proof/Machine/Store.lean ====
section
/-! DEFINITION. Sparse stores: lists of (key, value) pairs in one canonical form, keys strictly rising and no entry equal
to what an unlisted key reads as. The register file and every octet memory of the block are stores. -/

namespace Sys2Proof.Machine

/-- A sparse store over values of type `α`. -/
abbrev Store (α : Type) := List (Nat × α)

/-- The value under key `k`; an unlisted key reads as `d k`. -/
def Store.get {α : Type} (d : Nat → α) : Store α → Nat → α
  | [], k => d k
  | (j, v) :: m, k => if j = k then v else Store.get d m k

/-- Puts a pair before the first larger key. -/
def Store.insert {α : Type} (k : Nat) (v : α) : Store α → Store α
  | [] => [(k, v)]
  | (j, w) :: m => if k < j then (k, v) :: (j, w) :: m else (j, w) :: Store.insert k v m

/-- Every entry under a key other than `k`. -/
def Store.erase {α : Type} (k : Nat) (m : Store α) : Store α := m.filter fun c => c.1 != k

/-- Writes `v` under key `k`; writing what an unlisted key reads as removes the entry. -/
def Store.set {α : Type} [DecidableEq α] (d : Nat → α) (m : Store α) (k : Nat) (v : α) : Store α :=
  if v = d k then Store.erase k m else Store.insert k v (Store.erase k m)

/-- Every key of the list is above `k`. -/
def Store.above {α : Type} (k : Nat) (m : Store α) : Bool := m.all fun c => decide (k < c.1)

/-- The canonical form. -/
def Store.wf {α : Type} [DecidableEq α] (d : Nat → α) : Store α → Bool
  | [] => true
  | (k, v) :: m => decide (v ≠ d k) && (Store.above k m && Store.wf d m)

end Sys2Proof.Machine
end

