-- ==== Sys2Proof/Machine/State.lean ====
section
/-! DEFINITION. The state of the block: the register file, the octet memories, the frames and queue entries of the fabric,
time, what the last command answered and put out, and the queue of waiting commands. -/

namespace Sys2Proof.Machine

/-- A fault of the block. The spec gives every command an effect in every state, so no command raises one. -/
inductive Fault where
deriving DecidableEq, Repr

/-- A refusal of the model. -/
inductive Refusal where
  /-- The command has no meaning yet; raised only by an arm of the dispatch. Safe: the model stops. -/
  | notModelled (mnemonic : String)
deriving DecidableEq, Repr

/-- Where a frame is on the path of R10. -/
inductive Stage where
  /-- Its lookahead is not complete. -/
  | arriving
  /-- It holds a descriptor (R166). -/
  | stored
  /-- It waits in the reserve of a recirculation port for its second pass (R158). -/
  | recirculating
  /-- It has no target; its remaining octets are still arriving. -/
  | draining
deriving DecidableEq, Repr

/-- A frame in the fabric (R10, R166). Times are in units of 2^-16 ns. -/
structure Frame where
  id : Nat
  /-- The ingress port; for the second pass, 246 or 247. -/
  port : Nat
  /-- The port of key field 0 (R133). -/
  source : Nat
  /-- 0 Ethernet, else the Kind code of R105. -/
  kind : Nat
  /-- Ethernet octets from the destination address on, or the cell header and payload of R105. -/
  octets : List Byte
  /-- It came in mPackets (R224). -/
  preemptable : Bool
  /-- Its last octet has arrived. -/
  complete : Bool
  stage : Stage
  /-- The generation tag of R160. -/
  tag : Nat
  /-- The ingress timestamp (vehicle time). -/
  stamp : Nat
  /-- The true time of its first octet. -/
  arrived : Nat
  /-- The true time at which it took its decision slot (R192), if it has. -/
  decided : Option Nat
  /-- The pipeline it entered (R191). -/
  pipeline : Nat
  second : Bool
  /-- RecirculationMode is ACF split. -/
  split : Bool
  /-- 0 complete, 1 incomplete, 2 malformed (R157). -/
  verdict : Nat
  headers : Nat
  rule : Option Nat
  actionSet : Option Nat
  /-- The resolved action set, layout of R143. -/
  actions : Nat
  stencil : Option Nat
  session : Option Nat
  /-- The reason of the exception copy made in this pass, if one was. -/
  reason : Option Nat
  vid : Nat
  priority : Nat
  cls : Nat
  stream : Option Nat
  /-- The sequence number of R246 or R247, where the frame has one. -/
  sequence : Option Nat
  /-- R246: none for a frame of no stream; else the RtagPorts set. -/
  rtag : Option Nat
  /-- The eligibility time of R227 (vehicle time). -/
  eligible : Option Nat
  /-- The cells charged (R171). -/
  charge : Nat
  /-- The order of step 7, which push-out follows (R186). -/
  order : Nat
  /-- The GatewayRoutes row that routed it. -/
  route : Option Nat
  /-- An inbound buffer entry of the gateway is held (R284). -/
  inbound : Bool
  /-- Its ingress SecY handles its SecTAG (R298, R300). -/
  secured : Bool
  /-- Key field 17 of a cell of an ACF split (R133). -/
  avtp : Nat
  /-- The true time at which its last octet arrived, 0 before (R287). -/
  valid : Nat
  /-- The port to which an answer of the OD service goes (R69). -/
  answerTo : Option Nat
  /-- The true time of the first step of vehicle time since its ingress timestamp (R250). -/
  stepAt : Option Nat := none
deriving DecidableEq, Repr

/-- What a copy is for. -/
inductive Role where
  | forward
  | mirror
  | exception (reason : Nat)
  | recirculate
deriving DecidableEq, Repr

/-- Where a queue entry stands. -/
inductive Phase where
  /-- A recirculated copy before its frame's last octet (R158). -/
  | held
  | waiting
  /-- In the transmit stage of a bus attachment (R99). -/
  | staged
  | wire
  /-- A preempted frame between two fragments (R223). -/
  | paused
deriving DecidableEq, Repr

/-- Under what a SecY protects a copy (R302, R303): the row of MacsecSa, the PN, and the slot, key and IV that the SA had when the copy
began to leave. -/
structure SecUse where
  row : Nat
  pn : Nat
  slot : Nat
  key : List Byte
  iv : List Byte
deriving DecidableEq, Repr

/-- One copy of a stored frame on one queue (R167), from step 7 until it has been sent or removed. -/
structure Copy where
  frame : Nat
  port : Nat
  tc : Nat
  /-- The place in the queue; the least is the head. -/
  seq : Nat
  role : Role
  phase : Phase
  /-- The GatewayRoutes row and pair that named this target. -/
  pair : Option (Nat × Nat)
  /-- The end of the route lifetime (vehicle time, R277). -/
  expiry : Option Nat
  /-- The eligibility time of R227 (vehicle time). -/
  eligible : Option Nat
  /-- The outbound buffer class held (R284). -/
  outbound : Bool
  /-- The egress timestamp, once it has begun to leave (vehicle time). -/
  egress : Option Nat
  /-- The true time of that timestamp. -/
  leftAt : Nat := 0
  /-- It began before its frame's last octet arrived (R188). -/
  cut : Bool
  /-- The octets with which it leaves, fixed when it begins. -/
  sent : List Byte
  /-- Its protection, once it has begun to leave. -/
  sec : Option SecUse
  /-- It will end with an inverted FCS (R190). -/
  bad : Bool
  /-- A delivery fault for it has been reported while it waited (R261). -/
  reported : Bool
  /-- The admitted stream it belongs to and that stream's bound in ns, when it is an accepted copy (R249). -/
  stream : Option Nat
  bound : Option Nat
  /-- What R182 does to the outer tag: 0 nothing, 1 removes it, 2 sets its VID, 3 inserts one. -/
  edit : Nat
  /-- The form that a route transform gives the copy (R273, R274), and the profile whose sequence counter it takes. -/
  form : Option (List Byte)
  profile : Option Nat
  /-- It has failed the Brim test, and it has waited for its eligibility time: each is counted once (R218, R231). -/
  deferred : Bool
  waited : Bool
deriving DecidableEq, Repr

/-- What the block puts out while it runs a command. -/
inductive Out where
  /-- A copy ends on a port: its octets, and whether its check sequence is inverted. -/
  | frame (port : Nat) (octets : List Byte) (varnish : Bool)
  /-- A bus frame on a bus attachment: identifier, flags, data, and the check octet of a LIN or serial frame (R100, R103). -/
  | bus (port kind ident flags : Nat) (data check : List Byte)
  /-- The port sends a signal of its medium: a header, a wake pulse, a verify or respond mPacket, and so on. -/
  | signal (port code arg : Nat)
  /-- MSI-X vector. -/
  | vector (n : Nat)
  /-- The completion of a PCIe read. -/
  | completion (data : List Byte)
  /-- The answer on MISO after the 0xFF octets. -/
  | spi (octets : List Byte)
  /-- The OD service hands over a PDU for a port. -/
  | pdu (port : Nat) (octets : List Byte)
  /-- A command to the flash in 1S-1S-1S mode (R432): opcode, address octets, data octet. -/
  | xspi (octets : List Byte)
  /-- A time message on a port: message code, value and TLV. -/
  | gptp (port code value : Nat) (tlv : List Byte)
deriving DecidableEq, Repr

/-- The retention image (R26): registers, octets of the live tables, the Fair copy, the wrapped key slots (R340), each with its
number, and the safety segment (R447). -/
structure Saved where
  regs : Store Nat
  live : Store Byte
  fair : Store Byte
  keys : List (Nat × List Byte)
  segment : List Byte
deriving DecidableEq, Repr

/-- The block. -/
structure State where
  /-- The commands that wait, first in, first out. -/
  pending : List Instr
  /-- True time since the model's origin, in 2^-16 ns. -/
  now : Nat
  /-- Vehicle time, in 2^-16 ns (80 bits, R7). -/
  vtime : Nat
  /-- Every scalar object (key index × 256 + subindex) and every internal register of Regs.lean. -/
  regs : Store Nat
  /-- The unstaged tables and the memories of the engines. -/
  live : Store Byte
  /-- The Sketch (R42). -/
  sketch : Store Byte
  /-- The Fair copy (R42). -/
  fair : Store Byte
  /-- The generation before the Fair copy, kept for tagged frames (R161). -/
  prev : Store Byte
  /-- The boot flash on the xSPI port (R431). -/
  flash : Store Byte
  frames : List Frame
  copies : List Copy
  /-- The retention region (R26). -/
  saved : Option Saved
  /-- The status code of the last access. -/
  status : Nat
  /-- The data of the last read. -/
  data : List Byte
  /-- What the last command put out, oldest first. -/
  outs : List Out
  /-- How many free values have been drawn (the model's own field, log entry 5). -/
  free : Nat
deriving DecidableEq, Repr

/-- The block right after PORST_N is released and before COLD_START: every register at its default, every table and
memory empty, nothing in flight (R84, R125, R164, R200, R235, R266, R293, R325, R355, R385, R410, R429, R450, R472). -/
def State.reset : State where
  pending := []
  now := 0
  vtime := 0
  regs := []
  live := []
  sketch := []
  fair := []
  prev := []
  flash := []
  frames := []
  copies := []
  saved := none
  status := 0
  data := []
  outs := []
  free := 0

end Sys2Proof.Machine
end

