-- ==== Sys2Proof/Machine/Act.lean ====
section
/-! DEFINITION. What a command can do to the state: a small language of acts and its one interpreter. Every meaning is an
act, so that what no command can do (touch the queue, leave a store out of its canonical form, store a value wider than its
register) is proved once, over the language. -/

namespace Sys2Proof.Machine

/-- The octet memories of the state. -/
inductive Gen where
  | live
  | sketch
  | fair
  | prev
  | flash
deriving DecidableEq, Repr

/-- An octet memory of the state. -/
def State.mem (s : State) : Gen → Store Byte
  | .live => s.live
  | .sketch => s.sketch
  | .fair => s.fair
  | .prev => s.prev
  | .flash => s.flash

/-- The state with one octet memory replaced. -/
def State.withMem (s : State) (g : Gen) (m : Store Byte) : State :=
  match g with
  | .live => { s with live := m }
  | .sketch => { s with sketch := m }
  | .fair => { s with fair := m }
  | .prev => { s with prev := m }
  | .flash => { s with flash := m }

/-- What an unlisted octet of a memory reads as: the default of its table; 0xFF in the flash (log entry 6). -/
def memDefault : Gen → Nat → Byte
  | .flash, _ => 0xFF#8
  | _, a => octetDefault a

/-- The acts. -/
inductive Act where
  /-- Nothing. -/
  | skip
  /-- One act, then another. -/
  | seq (a b : Act)
  /-- The act that the state at this point decides. -/
  | dep (f : State → Act)
  /-- Store a value in a register, cut to the register's width. -/
  | put (k v : Nat)
  /-- Store an octet. -/
  | cell (g : Gen) (a : Nat) (b : Byte)
  /-- Every register whose key fails the test takes its default. -/
  | keepRegs (p : Nat → Bool)
  /-- Every octet whose key fails the test takes its default. -/
  | keepCells (g : Gen) (p : Nat → Bool)
  /-- The Fair copy becomes the previous generation and the Sketch the Fair copy (R46). -/
  | swap
  /-- The Sketch is reset to the Fair copy (R47). -/
  | discard
  | setFrames (l : List Frame)
  | setCopies (l : List Copy)
  /-- True time, which never goes back, and vehicle time in its 80 bits (R7). -/
  | clock (now vtime : Nat)
  /-- The answer of an access. -/
  | answer (status : Nat) (data : List Byte)
  /-- An output. -/
  | emit (o : Out)
  /-- Forget the outputs of the command before. -/
  | quiet
  /-- Count one draw of a free value. -/
  | drawn
  /-- Write the retention image: the registers and live octets that pass the tests, the Fair copy, the wrapped keys and
  the safety segment (R26). -/
  | retain (p q : Nat → Bool) (keys : List (Nat × List Byte)) (segment : List Byte)
  /-- Mark the retention region invalid. -/
  | forget

/-- The interpreter. -/
def Act.run : Act → State → State
  | .skip, s => s
  | .seq a b, s => b.run (a.run s)
  | .dep f, s => (f s).run s
  | .put k v, s => { s with regs := Store.set regDefault s.regs k (v % regMod k) }
  | .cell g a b, s => s.withMem g (Store.set (memDefault g) (s.mem g) a b)
  | .keepRegs p, s => { s with regs := s.regs.filter fun c => p c.1 }
  | .keepCells g p, s => s.withMem g ((s.mem g).filter fun c => p c.1)
  | .swap, s => { s with prev := s.fair, fair := s.sketch }
  | .discard, s => { s with sketch := s.fair }
  | .setFrames l, s => { s with frames := l }
  | .setCopies l, s => { s with copies := l }
  | .clock n v, s => { s with now := max s.now n, vtime := v % 2 ^ 80 }
  | .answer st d, s => { s with status := st % 256, data := d }
  | .emit o, s => { s with outs := s.outs ++ [o] }
  | .quiet, s => { s with outs := [], status := 0, data := [] }
  | .drawn, s => { s with free := s.free + 1 }
  | .retain p q w g, s =>
    { s with saved := some ⟨s.regs.filter fun c => p c.1, s.live.filter fun c => q c.1, s.fair, w, g⟩ }
  | .forget, s => { s with saved := none }

end Sys2Proof.Machine
end

