-- ==== Sys2Proof/Machine/Ops.lean ====
section
/-! DEFINITION. The named operations of the machine: reading registers and table fields, and the acts that every family
shares. -/

namespace Sys2Proof.Machine

/-- The value of a register. -/
def State.get (s : State) (k : Nat) : Nat := Store.get regDefault s.regs k

/-- Whether a register is not 0. -/
def State.flag (s : State) (k : Nat) : Bool := s.get k != 0

/-- One octet of a memory. -/
def State.octet (s : State) (g : Gen) (a : Nat) : Byte := Store.get (memDefault g) (s.mem g) a

/-- `n` octets of a memory from address `a` on. -/
def State.octets (s : State) (g : Gen) (a n : Nat) : List Byte := (List.range n).map fun i => s.octet g (a + i)

/-- `n` octets of a table row from octet `off` on. -/
def State.rowOctets (s : State) (g : Gen) (idx row off n : Nat) : List Byte := s.octets g (cellKey idx row off) n

/-- A field of a table row. -/
def State.fld (s : State) (g : Gen) (idx row : Nat) (f : Fld) : Nat :=
  bits (leNat (s.rowOctets g idx row (f.bit / 8) ((f.bit % 8 + f.width + 7) / 8))) (f.bit % 8) f.width

/-- Whether a field of a table row is not 0. -/
def State.fldOn (s : State) (g : Gen) (idx row : Nat) (f : Fld) : Bool := s.fld g idx row f != 0

/-- Time units in a nanosecond, a microsecond and a millisecond. -/
def ns (n : Nat) : Nat := n * 65536
def us (n : Nat) : Nat := n * 65536000
def ms (n : Nat) : Nat := n * 65536000000

/-- Vehicle time in whole nanoseconds (TIME64). -/
def State.vns (s : State) : Nat := s.vtime / 65536

/-- Acts in order. -/
def Act.all : List Act → Act
  | [] => .skip
  | a :: as => .seq a (Act.all as)

/-- An act under a condition. -/
def Act.when (c : Bool) (a : Act) : Act := if c then a else .skip

/-- One act for each element. -/
def Act.each {α : Type} (l : List α) (f : α → Act) : Act := Act.all (l.map f)

/-- Store octets from address `a` on. -/
def Act.block (g : Gen) (a : Nat) : List Byte → Act
  | [] => .skip
  | b :: bs => .seq (.cell g a b) (Act.block g (a + 1) bs)

/-- Store octets in a table row. -/
def Act.setRow (g : Gen) (idx row off : Nat) (bs : List Byte) : Act := Act.block g (cellKey idx row off) bs

/-- Store a field of a table row. -/
def Act.setF (g : Gen) (idx row : Nat) (f : Fld) (v : Nat) : Act :=
  .dep fun s =>
    let o := f.bit / 8
    let n := (f.bit % 8 + f.width + 7) / 8
    Act.setRow g idx row o (leBytes n (setBits (leNat (s.rowOctets g idx row o n)) (f.bit % 8) f.width v))

/-- Add to a counter that stops at its maximum (R37, R124). -/
def Act.bump (k : Nat) (n : Nat := 1) : Act := .dep fun s => .put k (min (s.get k + n) (regMod k - 1))

/-- Add to a counter field that stops at its maximum. -/
def Act.bumpF (g : Gen) (idx row : Nat) (f : Fld) (n : Nat := 1) : Act :=
  .dep fun s => Act.setF g idx row f (min (s.fld g idx row f + n) (2 ^ f.width - 1))

/-- Set a list of registers to 0. -/
def Act.zero (ks : List Nat) : Act := Act.each ks fun k => .put k 0

/-- Draw a free value (log entry 5). -/
def Act.draw (use : Nat → Act) : Act := .dep fun s => .seq .drawn (use (Config.freeValue s.free))

/-- A free value from `lo` to `hi`. -/
def Act.drawIn (lo hi : Nat) (use : Nat → Act) : Act := Act.draw fun r => use (lo + r % (hi + 1 - lo))

/-- Raise the MSI-X vector that a vector object names, unless it is 0xFF. -/
def Act.vectorOf (k : Nat) : Act := .dep fun s => Act.when (s.get k != 255) (.emit (.vector (s.get k)))

/-- Store a value and raise a vector when it changes the register. -/
def Act.putNotify (k v vec : Nat) : Act :=
  .dep fun s => if s.get k = v then .skip else .seq (.put k v) (Act.vectorOf vec)

/-- Clear the octets of a row range of a table. -/
def Act.clearTable (g : Gen) (idx : Nat) (p : Nat → Bool := fun _ => true) : Act :=
  .keepCells g fun a => !(a / 2 ^ 36 == idx && p (a / 2 ^ 12 % 2 ^ 24))

/-- The rows of a table with an octet that differs from its default, in ascending order. -/
def State.listedRows (s : State) (g : Gen) (idx : Nat) : List Nat :=
  (((s.mem g).filter fun c => c.1 / 2 ^ 36 == idx).map fun c => c.1 / 2 ^ 12 % 2 ^ 24).dedup

/-- The rows of a table that a test picks, where a row at its default fails the test. -/
def State.rowsWhere (s : State) (g : Gen) (idx : Nat) (p : Nat → Bool) : List Nat := (s.listedRows g idx).filter p

end Sys2Proof.Machine
end

