-- ==== Sys2Proof/Machine/Regs.lean ====
section
/-! DEFINITION. The internal registers: state that the spec gives the machine without making it an object of the
dictionary. Their keys lie above those of the objects, and each reads 0 until it is written. -/

namespace Sys2Proof.Machine.Rg

/-- The key of the internal register number `n`, element `i`, `j`. -/
def at' (n i j : Nat) : Nat := 2 ^ 24 + (n * 2 ^ 20 + i) * 2 ^ 20 + j

/-- R201: the fraction latched by a read of VehicleTimeNow on a path; 0 for none, else fraction + 1. -/
def fracLatch (path : Nat) : Nat := at' 1 path 0
/-- R204: the offset that the servo still has to add by slewing, in 2^-16 ns. -/
def slewUp : Nat := at' 2 0 0
/-- R204: the offset that the servo still has to take away by slewing, in 2^-16 ns. -/
def slewDown : Nat := at' 2 0 1
/-- R43: the scheduled swap instant (vehicle time). -/
def swapAt : Nat := at' 3 0 0
/-- R160: the number of swaps made, which tags the frames. -/
def generation : Nat := at' 3 0 1
/-- R161: 1 while the previous generation is kept. -/
def prevHeld : Nat := at' 3 0 2
/-- R46: the true time of the last swap or discard. -/
def realignFrom : Nat := at' 3 0 3
/-- R21: 1 while the application cluster runs. -/
def appRunning : Nat := at' 4 0 0
/-- R113: 1 while the PCIe link is in L0 or L1. -/
def pcieLink : Nat := at' 4 0 1
/-- R113: 1 while bus mastering is enabled. -/
def busMaster : Nat := at' 4 0 2
/-- R465: 1 while PERST_N is high. -/
def perstHigh : Nat := at' 4 0 3
/-- R74: the true time of the Challenge of a session. -/
def challengeAt (s : Nat) : Nat := at' 5 s 0
/-- R77: the length of the stored Request and Response of a session. -/
def requestLen (s : Nat) : Nat := at' 5 s 1
def responseLen (s : Nat) : Nat := at' 5 s 2
/-- R74: the true time of a session's last activity. -/
def activeAt (s : Nat) : Nat := at' 5 s 3
/-- R77: the octets of the stored Request and Response, as numbers. -/
def requestText (s : Nat) : Nat := at' 5 s 7
def responseText (s : Nat) : Nat := at' 5 s 8
/-- R73, R74: a session's key plus 1, 0 for none; its nonces at the Challenge. -/
def sessionKey (s : Nat) : Nat := at' 5 s 4
def deviceNonce (s : Nat) : Nat := at' 5 s 5
def clientNonce (s : Nat) : Nat := at' 5 s 6
/-- R76: the true times of the last ten Refuse PDUs on a port, and how many were sent. -/
def refuseAt (p i : Nat) : Nat := at' 6 p i
def refuseCount (p : Nat) : Nat := at' 6 p 16
/-- R70: the true times of the accepted request PDUs, and how many were accepted. -/
def pduAt (i : Nat) : Nat := at' 7 0 i
def pduCount : Nat := at' 7 0 32768
/-- R116: the true time at which a flush began. -/
def flushFrom (p : Nat) : Nat := at' 8 p 0
/-- R112: the copy of an option object in force, plus 1; 0 before the port first entered Starting. -/
def inForce (k : Nat) : Nat := at' 9 0 (k % 2 ^ 20)
/-- R92: the data rate that the link partner reports, 0 none; else as SpeedSelect. -/
def linkSpeed (p : Nat) : Nat := at' 10 p 1
/-- R98: 1 while a CAN controller is in bus-off recovery; 2 when it is bus-off and waits for PortEnable; 3 when it is bus-off and
the port has not entered Starting since. -/
def busOff (p : Nat) : Nat := at' 10 p 2
/-- R101: the row of LinSchedule whose slot runs, plus 1; the true time at which the slot began. -/
def linRow (p : Nat) : Nat := at' 11 p 0
def linFrom (p : Nat) : Nat := at' 11 p 1
/-- R101: 1 when a new Fair copy waits for the end of the slot that runs. -/
def linRestart (p : Nat) : Nat := at' 11 p 2
/-- R102: the frame ID of the header that awaits a response, plus 1; the length and the checksum of the row that names it, and
the true time by which the response has to come. -/
def linExpect (p : Nat) : Nat := at' 11 p 3
def linLength (p : Nat) : Nat := at' 11 p 4
def linEnhanced (p : Nat) : Nat := at' 11 p 5
def linDue (p : Nat) : Nat := at' 11 p 6
/-- R101: the true time at which the slot that runs ends. -/
def linUntil (p : Nat) : Nat := at' 11 p 7
/-- R278: the true time at which the response of a master's slot starts behind its header. -/
def linStart (p : Nat) : Nat := at' 11 p 9
/-- R103: the true time since which a serial line is idle. -/
def lineIdle (p : Nat) : Nat := at' 11 p 10
/-- R208: the vehicle time of the falling edge that starts the break field of the last header. -/
def linBreak (p : Nat) : Nat := at' 11 p 8
/-- R208, R250: the true time of that edge. -/
def linBreakAt (p : Nat) : Nat := at' 11 p 11
/-- The number of frames so far; it numbers the next frame. -/
def frameCount : Nat := at' 12 0 0
/-- The number of queue entries so far; it orders them. -/
def entryCount : Nat := at' 12 0 1
/-- R155: the tokens of a reason and of the aggregate, in thousandths of a frame, plus 1; 0 for full since reset. -/
def reasonTok (r : Nat) : Nat := at' 13 r 0
def aggregateTok : Nat := at' 13 32 0
/-- R192: the true time until which decision slot `i` of pipeline `n` is held. -/
def slotUntil (n i : Nat) : Nat := at' 37 n i
/-- R400: the frame plus 1 whose decision took the slot last. -/
def slotFrame (n i : Nat) : Nat := at' 37 n (64 + i)
/-- R249: the bound plus 1 that a stream had in the previous generation, where it was admitted and not suspended. -/
def prevBound (str : Nat) : Nat := at' 38 str 0
/-- R261: the bound plus 1 that a stream had in the previous generation, where it was admitted. -/
def prevAdmitted (str : Nat) : Nat := at' 38 str 1
/-- R150: 1 while the sessions are being freed. -/
def freeing : Nat := at' 14 0 0
/-- R198: 1 while FdbFlushDynamic runs. -/
def fdbFlushing : Nat := at' 14 0 1
/-- R148: the true time of a session's last frame or of its entry to Closing. -/
def sessionAt (r : Nat) : Nat := at' 15 r 0
/-- R153: the true time at which a fragment entry ends. -/
def fragmentEnd (r : Nat) : Nat := at' 16 r 0
/-- R216: the operational copy of the gate settings of a port: 1 while a list runs. -/
def gateOn (p : Nat) : Nat := at' 17 p 0
/-- R216: the image of the PortTiming row that runs, and of the row that waits for ConfigChangeTime. -/
def gateRow (p : Nat) : Nat := at' 17 p 1
def gateNextRow (p : Nat) : Nat := at' 17 p 2
/-- R216: the exact ConfigChangeTime in 2^-16 ns, plus 1; 0 for none pending. -/
def gateChange (p : Nat) : Nat := at' 17 p 3
/-- R216: the swap instant from which the pending change counts. -/
def gateSwap (p : Nat) : Nat := at' 17 p 4
/-- R250: the vehicle time until which the first cycle of a new list lasts. -/
def gateFirst (p : Nat) : Nat := at' 17 p 5
/-- R250: how often GateOperState of a port has changed; and for change `i` its true time, 1 where it led into a transition, and
`gateFirst` as it stood then. -/
def gateMoves (p : Nat) : Nat := at' 17 p 12
def gateMoveAt (p i : Nat) : Nat := at' 1000 i (4 * p)
def gateMoveOn (p i : Nat) : Nat := at' 1000 i (4 * p + 1)
def gateMoveFirst (p i : Nat) : Nat := at' 1000 i (4 * p + 2)
/-- R221: the place number plus 1 of the copy of a port whose overrun was counted last. -/
def overrun (p : Nat) : Nat := at' 17 p 8
/-- R221: the place number plus 1 of a preemptable copy on the wire whose gate has closed, and the true time of the close. -/
def closing (p : Nat) : Nat := at' 17 p 9
def closingAt (p : Nat) : Nat := at' 17 p 10
/-- R223: 1 while Set-And-Hold-MAC holds the preemptable frames. -/
def gateHold (p : Nat) : Nat := at' 17 p 7
/-- R216: the GateControlList rows of the running list and of the waiting list, as row images. -/
def gateList (p i : Nat) : Nat := at' 18 p i
def gateNextList (p i : Nat) : Nat := at' 19 p i
/-- R222: the verify attempts made. -/
def verifyTries (p : Nat) : Nat := at' 20 p 0
/-- R223: the vehicle time from which on the gate engine of a port has yet to act on the entries that start. -/
def gateSeen (p : Nat) : Nat := at' 17 p 11
/-- R95: the true time until which the gap behind the last frame of an Ethernet port lasts. -/
def gapUntil (p : Nat) : Nat := at' 22 p 5
/-- R223: the true time of the preemption point that is due, plus 1. -/
def preemptAt (p : Nat) : Nat := at' 22 p 1
/-- R223: octets of the preemptable frame of a port that will have been sent at the preemption point due. -/
def fragmentNext (p : Nat) : Nat := at' 22 p 0
/-- R223: octets of the preemptable frame of a port already sent. -/
def fragmentSent (p : Nat) : Nat := at' 22 p 2
/-- R222: AddFragSize of the preemptable frame of a port as it started. -/
def fragmentSize (p : Nat) : Nat := at' 22 p 4
/-- R223: the true time, plus 1, at which the fragment on the wire began. -/
def fragmentFrom (p : Nat) : Nat := at' 22 p 3
/-- R260: copies that have begun to leave each queue since the last clear. -/
def sampled (p tc : Nat) : Nat := at' 23 p tc
/-- R227: the group eligibility time (vehicle time). -/
def groupElig (g : Nat) : Nat := at' 24 g 0
/-- R227: the bucket empty time of a shaper in 2^-16 ns, plus 2^100; 0 for a shaper that is full from the start. -/
def bucketEmpty (k : Nat) : Nat := at' 24 k 1
/-- R244: tokens missing from the buckets of a flow meter, in units of 1 / (8 × 10^9 × 2^16) octet, the true time of its last
update, and the MarkAllRed latch. -/
def meterSpentC (m : Nat) : Nat := at' 25 m 0
def meterSpentE (m : Nat) : Nat := at' 25 m 1
def meterAt (m : Nat) : Nat := at' 25 m 2
def meterRed (m : Nat) : Nat := at' 25 m 3
/-- R245: tokens missing from the bucket of a strict policer, and the true time of its last update. -/
def policerSpent (r : Nat) : Nat := at' 26 r 0
def policerAt (r : Nat) : Nat := at' 26 r 1
/-- R247: the recovery state of IEEE 802.1CB 7.4.3: TakeAny complemented, RecovSeqNum, the history bits, and the true
time of the last reset-timer restart. -/
def recoveryOn (r : Nat) : Nat := at' 27 r 0
def recoverySeq (r : Nat) : Nat := at' 27 r 1
def recoveryHistory (r : Nat) : Nat := at' 27 r 2
def recoveryAt (r : Nat) : Nat := at' 27 r 3
/-- R258: the value of an object that the checker recorded, plus 1. -/
def recorded (k : Nat) : Nat := at' 28 0 (k % 2 ^ 20)
/-- R258: 1 when the bound of a stream read the objects of a port. -/
def boundReads (stream p : Nat) : Nat := at' 29 stream p
/-- R274: the sequence counter of a transform profile. -/
def profileSeq (x : Nat) : Nat := at' 30 x 0
/-- R282: the true time at which a channel shut-down began. -/
def shutFrom (p : Nat) : Nat := at' 31 p 0
/-- R285: the legal minimum of an inbound (0 to 3) and outbound (4 to 7) limit. -/
def limitMin (p g : Nat) : Nat := at' 31 p (8 + g)
/-- R207, R250: the true time of the last step of vehicle time, plus 1. -/
def steppedAt : Nat := at' 32 0 0
/-- R205: the true time plus 1 of the last Sync on an instance's slave port, its logMessageInterval + 128 (0 for none), and the
true time of the entry to Holdover. -/
def syncAt (i : Nat) : Nat := at' 33 i 0
def syncInterval (i : Nat) : Nat := at' 33 i 1
def holdoverAt : Nat := at' 33 2 2
/-- R202: peer-delay responses in succession that a port has missed; R234: 1 while the measurements make it asCapable; the true time
plus 1 at which its neighbour last said in an instance's domain that it runs gPTP. -/
def pdelayLost (p : Nat) : Nat := at' 34 p 0
def pdelayOk (p : Nat) : Nat := at' 34 p 1
def neighborAt (i p : Nat) : Nat := at' 34 p (2 + i)
/-- R202: the priority vector plus 1 of the Announce that a port holds in an instance, the true time at which it came, and its path
trace with the number of its identities. -/
def annVector (i p : Nat) : Nat := at' 63 (256 * i + p) 0
def annAt (i p : Nat) : Nat := at' 63 (256 * i + p) 1
def annPath (i p : Nat) : Nat := at' 63 (256 * i + p) 2
def annHops (i p : Nat) : Nat := at' 63 (256 * i + p) 3
/-- R202: the true time plus 1 of the last Announce that an instance sent; the Follow_Up information TLV plus 1 that it received. -/
def annSent (i : Nat) : Nat := at' 64 i 0
def followTlv (i : Nat) : Nat := at' 64 i 1
/-- R206: the last frequency correction that the servo applied. -/
def servoAdjust : Nat := at' 2 0 2
/-- R119, R421: the self-test row that holds a port, plus 1. -/
def testedBy (p : Nat) : Nat := at' 35 p 0
/-- R419: 1 while the line of a port under test is isolated. -/
def isolated (p : Nat) : Nat := at' 35 p 1
/-- R112, R321: the image of the MacsecSecY row of a port in force, plus 1. -/
def secyRow (p : Nat) : Nat := at' 39 p 0
/-- R99, R208: the true time since which the attempt of the copy in a transmit stage is open. -/
def stagedFrom (p : Nat) : Nat := at' 40 p 0
/-- R370, R374: the true time plus 1 of the last frame other than a ring message that a port took. -/
def trafficAt (p : Nat) : Nat := at' 41 p 0
/-- R374: the true time plus 1 at which the last such frame ended on a port without a decision. -/
def arrivalAt (p : Nat) : Nat := at' 41 p 1
/-- R43: the verdict of the checks that run: the refusal code (0 for none), stream, port, route and pair. -/
def verdict (i : Nat) : Nat := at' 42 0 i
/-- R257: what the check in progress admits of a stream: its bound plus 1, Frames and Cells. -/
def pendBound (x : Nat) : Nat := at' 43 x 0
def pendFrames (x : Nat) : Nat := at' 43 x 1
def pendCells (x : Nat) : Nat := at' 43 x 2
/-- R258: the value plus 1 of an object that the check in progress read. -/
def pendValue (k : Nat) : Nat := at' 44 0 (k % 2 ^ 20)
/-- R258: 1 when the bound of a stream that the check in progress admits reads the objects of port `p`; `p` = 256 stands for
MaxFrameLength of every Ethernet attachment, 512 + p for that of port p. -/
def pendReads (stream p : Nat) : Nat := at' 45 stream p
/-- The number of an internal register's key, and its element; 0 for an object. -/
def numberOf (k : Nat) : Nat := (k - 2 ^ 24) / 2 ^ 40
def elementOf (k : Nat) : Nat := (k - 2 ^ 24) / 2 ^ 20 % 2 ^ 20
/-- R368: 1 while the attachment of a port is held in low power; 1 once the port has completed its sleep step. -/
def lowPower (p : Nat) : Nat := at' 46 p 0
def stepDone (p : Nat) : Nat := at' 46 p 1
/-- R361: 1 while the next ring message on a port carries WakeRequest. -/
def wakeSend (p : Nat) : Nat := at' 46 p 2
/-- R361: the sequence of the ring messages sent. -/
def ringSeq (r : Nat) : Nat := at' 47 r 0
/-- R365: ConsentSince as a true time plus 1, the true time of WindowEnd, and 1 while a wake request is held. -/
def consentSince (r : Nat) : Nat := at' 47 r 1
def windowEnd (r : Nat) : Nat := at' 47 r 2
def ringHeld (r : Nat) : Nat := at' 47 r 3
/-- R369, R370: the true time plus 1 of the last ordinary wake while its false-wake timer runs. -/
def ringWoke (r : Nat) : Nat := at' 47 r 4
/-- R372: 1 when Closing began in BusSleepEntry. -/
def closingEntry (r : Nat) : Nat := at' 47 r 6
/-- R371: a member's HeldTotal in 2^-16 ns. -/
def holdAll (r m : Nat) : Nat := at' 49 4096 (64 * r + m)
/-- R365: the true time of a member's last valid message. -/
def memberSeen (row : Nat) : Nat := at' 48 row 0
/-- R371: since when a member's or an input's holding of a ring is counted (true time plus 1, and vehicle time in ns), and
what has been counted in 2^-16 ns. -/
def holdSince (kind r id : Nat) : Nat := at' 49 (kind * 64 + id) (8 * r)
def holdStart (kind r id : Nat) : Nat := at' 49 (kind * 64 + id) (8 * r + 1)
def holdTotal (kind r id : Nat) : Nat := at' 49 (kind * 64 + id) (8 * r + 2)
def isHolding (kind r id : Nat) : Nat := at' 49 (kind * 64 + id) (8 * r + 3)
/-- R373, R374: the true time of an input's last activation and deactivation, and of each of its wakes, plus 1. -/
def inputOn (i : Nat) : Nat := at' 50 i 0
def inputOff (i : Nat) : Nat := at' 50 i 1
def inputWake (i n : Nat) : Nat := at' 50 i (8 + n)
/-- R357: the wake source plus 1 held through SleepEntry, and the rings it wakes. -/
def heldSource : Nat := at' 51 0 0
def heldRings : Nat := at' 51 0 1
/-- R378: the true time plus 1 at which the steps of SleepEntry began; the vehicle time of sleep entry; the true time at
which Waking began. -/
def sleepFrom : Nat := at' 51 0 2
def asleepTime : Nat := at' 51 0 4
def wakingFrom : Nat := at' 51 0 5
/-- R380: what the next wake will be after: 0 ordinary, 1 without retention, 2 after the fail-safe path. -/
def sleepKind : Nat := at' 51 0 6
/-- R306: the place of a queued job in submission order, the number of jobs submitted, the page served last plus 1, the CMAC
unit plus 1 that runs a job, and the freshness value that a job took at dispatch. -/
def jobOrder (row : Nat) : Nat := at' 52 row 0
def jobUnit (row : Nat) : Nat := at' 52 row 1
def jobValue (row : Nat) : Nat := at' 52 row 2
def jobsSubmitted : Nat := at' 52 1024 0
def pageServed : Nat := at' 52 1024 1
/-- R315: the credit and wait count of a requester; the true time plus 1 of the last fabric cycle in which its credit or its mask changed,
with both as they stood at the end of the cycle before; and 1 while the owner's transfer runs. -/
def credit (r : Nat) : Nat := at' 53 r 0
def waits (r : Nat) : Nat := at' 53 r 1
def creditOld (r : Nat) : Nat := at' 53 r 2
def maskOld (r : Nat) : Nat := at' 53 r 3
def seenAt (r : Nat) : Nat := at' 53 r 4
def transferring : Nat := at' 53 8 1
/-- R310: the generation plus 1 of its key slot under which a counter was exhausted. -/
def exhaustedGen (c : Nat) : Nat := at' 67 c 0
/-- R326: 1 for a restored counter, and for a restored SA, whose key slot was not restored. -/
def staleFresh (c : Nat) : Nat := at' 68 c 0
def staleSa (row : Nat) : Nat := at' 68 row 1
/-- R336: the image plus 1 of the load held for a slot. -/
def heldLoad (n : Nat) : Nat := at' 54 n 0
/-- R342: the user plus 1 whose operation the signature unit runs, and 1 while an attestation waits or runs. -/
def signUser : Nat := at' 55 0 0
def attestWanted : Nat := at' 55 0 1
/-- R349, R350: the cause with which the next chain begins, 0 for 0x01 and 8 for a chain that goes on; 1 once the chain-break
statement is out; the next sequence; the last MAC; the seal key's Generation; the record count; records dropped since the
chain began; 1 when the next PDU carries Loss; the true time of the last cut. -/
def sealCause : Nat := at' 56 0 0
def chainOpen : Nat := at' 56 0 1
def sealNext : Nat := at' 56 0 2
def sealMac : Nat := at' 56 0 3
def sealKeyGen : Nat := at' 56 0 4
def sealCount : Nat := at' 56 0 5
def sealDropped : Nat := at' 56 0 6
def sealLoss : Nat := at' 56 0 7
def cutAt : Nat := at' 56 0 8
/-- R349: the first sequence that no batch has covered; the statement that waits for its signature: 0 none, else its PDU
type; its header octets; its covered range (first, last, count, MAC) and dropped records. -/
def sealFirst : Nat := at' 56 0 9
def stmtKind : Nat := at' 56 0 10
def stmtHeader : Nat := at' 56 0 11
def stmtBody : Nat := at' 56 0 12
/-- R342: 1 while the signature unit signs the statement that waits. -/
def stmtRun : Nat := at' 56 0 15
/-- R346: the records in process: how many were taken and emitted, and each one's length and octets. -/
def recordsTaken : Nat := at' 56 0 13
def recordsOut : Nat := at' 56 0 14
def recordLength (i : Nat) : Nat := at' 56 1 (2 * (i % 64))
def recordOctets (i : Nat) : Nat := at' 56 1 (2 * (i % 64) + 1)
/-- R345, R447: the digests that measured boot recorded, of the boot firmware, of the OD image and of the safety segment. -/
def bootDigest : Nat := at' 57 0 0
def imageDigest : Nat := at' 57 0 1
def segmentDigest : Nat := at' 57 0 2
/-- R399: 1 while SAFE_N is released, 1 when the last injection test passed, the true times plus 1 of the last three mismatches,
and of the last watchdog service. -/
def safeReleased : Nat := at' 58 0 0
def injectionOk : Nat := at' 58 0 1
def mismatchAt (i : Nat) : Nat := at' 58 0 (16 + i)
def watchdogAt : Nat := at' 58 0 4
/-- R395: what the safety partition's data memory holds, as one number. -/
def safetyData : Nat := at' 58 0 21
/-- R404: LatentTestAge at the last entry to Running, in 2^-16 ns, the true time of that entry, and 1 once the overdue test has
been reported. -/
def latentBase : Nat := at' 58 0 5
def latentSince : Nat := at' 58 0 6
def overdueTold : Nat := at' 58 0 7
/-- R400, R403: the fenced pipeline plus 1 for which P4 runs its take-over check, the true time of the fence, the pipeline
plus 1 under test, and the pipeline plus 1 whose ports P4 carries (kept by the Mitten). -/
def fenced : Nat := at' 58 0 8
def fencedAt : Nat := at' 58 0 9
def pipeTested : Nat := at' 58 0 10
def hosted : Nat := at' 58 0 11
/-- R404, R423: the true time plus 1 at which the periodic run began; for each row of its set, 1 while it waits to start, 3 while its
test runs, 2 once it has passed and 4 once it has not. -/
def periodicFrom : Nat := at' 58 0 12
def periodicRow (r : Nat) : Nat := at' 59 r 0
/-- R416 to R422: the port plus 1 that a test holds, the true time of its start, its hold threshold, its signature and step
count, and the cause of its abort. -/
def testPort (r : Nat) : Nat := at' 59 r 1
def testFrom (r : Nat) : Nat := at' 59 r 2
def testThreshold (r : Nat) : Nat := at' 59 r 3
def testSignature (r : Nat) : Nat := at' 59 r 4
def testSteps (r : Nat) : Nat := at' 59 r 5
def testCause (r : Nat) : Nat := at' 59 r 6
/-- R416, R491: the row plus 1 of the last execution of SelfTestRun, while its test is to come or runs. -/
def testLast : Nat := at' 58 0 13
/-- R404, R403: the pipeline plus 1 whose test is next in the periodic run, 0 for none; 1 while a test of the run is under way; 1
once one of them has not passed. -/
def pipeTurn : Nat := at' 58 0 14
def pipeOwn : Nat := at' 58 0 15
def pipeBad : Nat := at' 58 0 20
/-- R438: the boot control block in force: the preferred slot and the trial flag of a kind (0 firmware, 1 OD image), the trial
start count, and the sequence number. -/
def preferred (kind : Nat) : Nat := at' 60 0 kind
def trial (kind : Nat) : Nat := at' 60 0 (2 + kind)
def trialCount : Nat := at' 60 0 4
def bootSequence : Nat := at' 60 0 5
/-- R438, R443, R445: the true time until which a boot control block is being written, and its copy plus 1. -/
def bootUntil : Nat := at' 60 0 8
def bootWriting : Nat := at' 60 0 9
/-- R444: 1 while the Mitten holds a recovery request. -/
def recoveryAsked : Nat := at' 60 0 6
/-- R382: the kind of the start that runs, as LastWakeKind codes it. -/
def startKind : Nat := at' 60 0 7
/-- R439, R440: the kind and slot of the update's target, the rows accepted and the rows programmed; 1 for each row that was
written, and the row at each place of the program queue. -/
def updateKind : Nat := at' 60 1 0
def updateSlot : Nat := at' 60 1 1
def updateTaken : Nat := at' 60 1 2
def updateDone : Nat := at' 60 1 3
def updateAborting : Nat := at' 60 1 4
def updateWritten (n : Nat) : Nat := at' 60 2 n
def updateRow (i : Nat) : Nat := at' 60 3 (i % 256)
def updateData (i : Nat) : Nat := at' 60 4 (i % 256)
/-- R455, R460: 1 while INH_OUT is driven low; PORST_N drives it high. -/
def inhLow : Nat := at' 61 0 0
/-- R470: the true time plus 1 at which the running pulse began, and the pins that carry it. -/
def ppsFrom : Nat := at' 61 0 1
def ppsPins : Nat := at' 61 0 2
/-- R455: 1 while PORST_N is accepted low. -/
def porstLow : Nat := at' 61 0 3
/-- R340: the wrapping key plus 1 held in the Mitten. -/
def wrapKey : Nat := at' 62 0 0
/-- R378: 1 once the ports outside the rings have been flushed for sleep. -/
def sleepFlushed : Nat := at' 51 0 7
/-- R69: the ISO 15765-2 transport on a port: the PDU that is sent, its length, the octets sent, the next sequence number and TX_DL;
the octets of a request that are still to come, the sequence number awaited, and the frames left in the block. -/
def isoText (p : Nat) : Nat := at' 65 p 0
def isoLen (p : Nat) : Nat := at' 65 p 1
def isoPos (p : Nat) : Nat := at' 65 p 2
def isoNext (p : Nat) : Nat := at' 65 p 3
def isoDl (p : Nat) : Nat := at' 65 p 4
def isoLeft (p : Nat) : Nat := at' 65 p 5
def isoAwait (p : Nat) : Nat := at' 65 p 6
def isoBlock (p : Nat) : Nat := at' 65 p 7
/-- R467: 1 while XSPI_RESET_N is high. R430, R432: 1 while the flash runs in 8D-8D-8D mode, and its read dummy cycles there. -/
def xspiReset : Nat := at' 66 0 0
def flashMode : Nat := at' 66 0 1
def flashDummy : Nat := at' 66 0 2
/-- R26: 1 where the image was within its region at the start of SleepEntry. -/
def imageFits : Nat := at' 66 0 3
/-- R468: the TAP state, the instruction register, the shift register of the scan that runs and its length, and TDO plus 1 while it is
driven (log entry 129). -/
def tapState : Nat := at' 66 1 0
def tapInstruction : Nat := at' 66 1 1
def tapShift : Nat := at' 66 1 2
def tapTdo : Nat := at' 66 1 3
/-- R468: 1 while JTAG_TRST_N is high. -/
def tapTrst : Nat := at' 66 1 4
/-- R158: 1 once start-up has enabled the ports (R113). -/
def portsEnabled : Nat := at' 36 0 0

end Sys2Proof.Machine.Rg
end

