-- ==== Sys2Proof/Machine/Tick.lean ====
section
/-! DEFINITION. The passing of time, with which every command begins, and the outcome of a command. -/

namespace Sys2Proof.Machine

/-- What syntonisation adds to vehicle time in a span (R201, R204): FrequencyAdjust in ppb. -/
def State.syntonised (s : State) (dt : Nat) : Int :=
  (dt : Int) + (dt : Int) * toSigned 32 (s.get Key.frequencyAdjust) / 1000000000

/-- The longest that slewing can move vehicle time in a span (R204). -/
def State.slewLimit (s : State) (dt : Nat) : Nat := dt * s.get Key.maxSlewRate / 1000000

/-- Vehicle time in its 80 bits (R7). -/
def vehicle (v : Int) : Nat := (v % (2 ^ 80 : Int)).toNat

/-- Whether PORST_N holds the block in reset (R455, R459). -/
def State.inReset (s : State) : Bool := s.flag Rg.porstLow

/-- Whether the switched rails are absent: Asleep, and Waking until they return (R356, R457). -/
def State.unpowered (s : State) : Bool := decide (2 ≤ s.get Key.deviceState)

/-- Whether the switched domains work: in Running and SleepEntry (R24, R356), and not in reset (R459). -/
def State.operates (s : State) : Bool := !s.unpowered && !s.inReset

/-- The span `dt` passes (R201, R204): true time by `dt`; vehicle time at the syntonised rate and, while an offset is being
removed, by an open amount up to MaxSlewRate of it; in reset vehicle time stands still (R459). The outputs and the answer of the command
before are forgotten. -/
def tick (dt : Nat) : Act :=
  .seq .quiet (.dep fun s =>
    let t := s.now + dt
    let v : Int := s.vtime + s.syntonised dt
    if s.inReset then .clock t s.vtime
    else if s.flag Rg.slewUp then
      Act.drawIn 0 (min (s.slewLimit dt) (s.get Rg.slewUp)) fun x =>
        .seq (.clock t (vehicle (v + x))) (.put Rg.slewUp (s.get Rg.slewUp - x))
    else if s.flag Rg.slewDown then
      Act.drawIn 0 (min (s.slewLimit dt) (s.get Rg.slewDown)) fun x =>
        .seq (.clock t (vehicle (v - x))) (.put Rg.slewDown (s.get Rg.slewDown - x))
    else .clock t (vehicle v))

/-- An event in the switched domains, which can happen only while they work. -/
def powered (a : Act) : Act := .dep fun s => Act.when s.operates a

/-- A command: the time since the command before it passes, and then it has its effect. -/
def command (dt : Nat) (a : Act) (s : State) : Host.Outcome State Fault Refusal := .next ((Act.seq (tick dt) a).run s)

end Sys2Proof.Machine
end

