-- ==== Sys2Proof/Machine/Query.lean ====
section
/-! DEFINITION. Questions about the state that several families ask: attachment kinds, rates, port states, the uses of the
Canvas. -/

namespace Sys2Proof.Machine

/-- The attachment bound to a port (R88). -/
def State.attachment (s : State) (p : Nat) : Nat := s.get (Key.attachmentBinding p)

/-- The kind of an attachment (R90). -/
def attachmentKindOf (a : Nat) : Nat :=
  if a < 16 then 1 else if a < 48 then 2 else if a < 64 then 3 else if a < 160 then 4 else if a < 208 then 5
  else if a < 224 then 6 else 7

/-- The kind of the attachment bound to a port. -/
def State.kind (s : State) (p : Nat) : Nat := attachmentKindOf (s.attachment p)

def State.isEthernet (s : State) (p : Nat) : Bool := 1 ≤ s.kind p && s.kind p ≤ 3
def State.isBus (s : State) (p : Nat) : Bool := 4 ≤ s.kind p && s.kind p ≤ 6

/-- An option object as it was when the port entered Starting (R112); its default before the port ever did. -/
def State.inForce (s : State) (k : Nat) : Nat :=
  match s.get (Rg.inForce k) with
  | 0 => regDefault k
  | v + 1 => v

/-- The value of an option object that a port has or would start with: as it entered Starting, but as stored while it is
Disabled (log entry 13). -/
def State.effective (s : State) (p k : Nat) : Nat := if s.get (Key.portState p) = 0 then s.get k else s.inForce k

/-- The rate that a code of SpeedSelect stands for in bit/s (R92). -/
def speedRate (c : Nat) : Nat :=
  match c with
  | 1 => 100000000
  | 2 => 1000000000
  | 3 => 2500000000
  | 4 => 5000000000
  | 5 => 10000000000
  | 6 => 10000000
  | _ => 0

/-- The data rate of an Ethernet attachment in bit/s (R91 to R94) under the option objects that `o` gives. An auto-negotiating
lane runs at the rate the partner reports (R92). -/
def State.rateBy (s : State) (o : Nat → Nat) (p : Nat) : Nat :=
  match s.kind p with
  | 1 =>
    let x := o (Key.speedSelect p)
    let c := if x = 0 then s.get (Rg.linkSpeed p) else x
    match o (Key.serdesMode p) with
    | 1 => if c = 6 || c = 1 || c = 2 then speedRate c else 1000000000
    | 2 => 2500000000
    | 3 => if 1 ≤ c && c ≤ 5 then speedRate c else 10000000000
    | 5 => 25000000000
    | _ => 10000000000
  | 2 => if o (Key.t1Speed p) = 1 then 100000000 else 1000000000
  | 3 => 10000000
  | _ => 100000000000

/-- The data rate of a port. -/
def State.rate (s : State) (p : Nat) : Nat := s.rateBy s.inForce p

/-- Whether a lane runs with auto-negotiation (R92), for a stored SerdesMode and SpeedSelect. -/
def autoNegotiates (mode speed : Nat) : Bool := (mode = 1 || mode = 3) && speed = 0

/-- The states of a port (R109). -/
def State.portState (s : State) (p : Nat) : Nat := s.get (Key.portState p)
def State.isUp (s : State) (p : Nat) : Bool := s.portState p == 2

/-- Responses that a LIN master still awaits though their time is over (R101): 0 or 1. -/
def State.linMissed (s : State) (p : Nat) : Nat :=
  if s.kind p == 5 && s.inForce (Key.linRole p) == 1 && s.flag (Rg.linExpect p) && decide (s.get (Rg.linDue p) < s.now) then 1 else 0

/-- A frame by its number. -/
def State.frame? (s : State) (id : Nat) : Option Frame := s.frames.find? fun f => f.id == id

/-- A copy by its place number. -/
def State.copy? (s : State) (seq : Nat) : Option Copy := s.copies.find? fun c => c.seq == seq

/-- The copies of a frame. -/
def State.copiesOf (s : State) (id : Nat) : List Copy := s.copies.filter fun c => c.frame == id

/-- Whether a copy's expiry instant has come (R278). -/
def State.expired (s : State) (c : Copy) : Bool :=
  match c.expiry with
  | some e => decide (e ≤ s.vtime)
  | none => false

/-- Whether a bus frame or an Ethernet frame is being received on a port. -/
def State.receiving (s : State) (p : Nat) : Bool := s.frames.any fun f => f.port == p && !f.complete

/-- Whether a copy has been taken for sending and no attempt runs (R99, R103, R278): a CAN frame before the next frame start, a serial
message during its idle wait, or the response of a LIN master's slot behind a header that is still being sent. -/
def State.notStarted (s : State) (c : Copy) : Bool :=
  c.phase == .staged || (c.phase == .wire && ((s.kind c.port == 6 && decide (s.now < c.leftAt))
    || (s.kind c.port == 5 && decide (s.now < s.get (Rg.linStart c.port)))))

/-- Whether a copy has begun to leave (R168): its attachment has taken its first word, also into a transmit stage (R99). -/
def Copy.begun (c : Copy) : Bool := c.phase == .wire || c.phase == .paused || c.phase == .staged

/-- The copies on a queue, head first. A displaced copy keeps its place (R99). -/
def State.queue (s : State) (p tc : Nat) : List Copy :=
  sortBy (fun a b => decide (a.seq ≤ b.seq)) (s.copies.filter fun c => c.port == p && c.tc == tc)

/-- The head of a queue among the copies that wait. -/
def State.head? (s : State) (p tc : Nat) : Option Copy :=
  (s.queue p tc).find? fun c => c.phase == .waiting

/-- Cells of an Ethernet frame or of a bus frame cell of `n` octets (R165, R107): a cell's header counts among its octets. -/
def cellsOf (n : Nat) : Nat := cdiv n 256

/-- The charge of a frame by its number, 0 when it is gone. -/
def State.chargeOf (s : State) (id : Nat) : Nat :=
  match s.frame? id with
  | some f => f.charge
  | none => 0

/-- QueueDepthCells (R197): the charges of the frames that hold an entry on the queue, each frame once. -/
def State.depthCells (s : State) (p tc : Nat) : Nat := (((s.queue p tc).map fun c => c.frame).dedup.map s.chargeOf).sum

/-- QueueDepthFrames (R197). -/
def State.depthFrames (s : State) (p tc : Nat) : Nat := (s.queue p tc).length

/-- The charge of a frame at step 7 (R171). -/
def chargeFor (s : State) (f : Frame) : Nat :=
  if f.complete then cellsOf f.octets.length else cellsOf (s.inForce (Key.maxFrameLength f.port))

/-- The pool of a class in the Fair copy (R170). -/
def State.poolOf (s : State) (tc : Nat) : Nat :=
  ((List.range 4).find? fun r => (s.fld .fair 0xF050 r F.poolClasses).testBit tc).getD 0

/-- The cells charged to a pool (R170, R173). -/
def State.poolUse (s : State) (pool : Nat) : Nat :=
  ((s.frames.filter fun f => f.stage == .stored && s.poolOf f.cls == pool).map fun f => f.charge).sum

/-- The descriptors in use (R166). -/
def State.descriptors (s : State) : Nat := (s.frames.filter fun f => f.stage == .stored).length

/-- The cells of the reserve of a recirculation port in use (R158). -/
def State.recircUse (s : State) (p : Nat) : Nat :=
  ((s.frames.filter fun f => f.stage == .recirculating && f.port == p).map fun f => cellsOf f.octets.length).sum

/-- The cells of the arrival reserve in use (R169). -/
def State.arrivalUse (s : State) : Nat :=
  ((s.frames.filter fun f => f.stage == .arriving && !f.second).map fun f => cellsOf f.octets.length).sum

/-- CellsFree (R198). A frame whose only entry is a recirculated copy that waits for the frame's last octet keeps its data
(R158), so its cells count too. -/
def State.cellsFree (s : State) : Nat :=
  98304 - s.arrivalUse - s.recircUse 246 - s.recircUse 247
    - ((s.frames.filter fun f => f.stage == .stored || (f.stage == .draining && !(s.copiesOf f.id).isEmpty)).map fun f =>
        cellsOf f.octets.length).sum

/-- The gateway class of a traffic class (R283). -/
def gatewayClass (tc : Nat) : Nat := tc / 2

/-- The inbound buffer of a port in use (R283). -/
def State.inboundUse (s : State) (p g : Nat) : Nat :=
  (s.frames.filter fun f => f.inbound && f.stage == .stored && f.source == p && gatewayClass f.cls == g).length

/-- The outbound buffer of a port in use (R283). -/
def State.outboundUse (s : State) (p g : Nat) : Nat :=
  (s.copies.filter fun c => c.outbound && c.port == p && gatewayClass c.tc == g).length

/-- The memory that holds the generation of a tag (R160). -/
def State.genOf (s : State) (tag : Nat) : Gen :=
  if tag = s.get Rg.generation then .fair else .prev

/-- Whether a tag's generation is still kept (R161). -/
def State.genKept (s : State) (tag : Nat) : Bool :=
  tag == s.get Rg.generation || (tag + 1 == s.get Rg.generation && s.flag Rg.prevHeld)

/-- Whether the safety partition is running, also through a resynchronisation, which neither takes its ports down nor refuses a commit:
it is neither starting, restarting nor in fail-safe (R113, R252, R394, R395, R399). -/
def State.safetyRuns (s : State) : Bool := s.get Key.safetyState == 1 || s.get Key.safetyState == 2

end Sys2Proof.Machine
end

