-- ==== Sys2Proof/Machine/Arbiter.lean ====
section
/-! DEFINITION. The shared-port arbiter (R314 to R318). -/

namespace Sys2Proof.Machine

/-- Whether a requester is masked (MaskState, R314). -/
def State.masked (s : State) (r : Nat) : Bool := (s.get Key.maskState).testBit r

/-- Whether less than a fabric cycle, 0.8 ns, has passed since a true time plus 1; 0 for none. -/
def State.sameCycle (s : State) (t : Nat) : Bool := decide (0 < t) && decide ((s.now + 1 - t) * 5 < 4 * 65536)

/-- The credit and the mask of a requester that a decision sees (R315): those of the end of the cycle before. -/
def State.seenCredit (s : State) (r : Nat) : Nat :=
  if s.sameCycle (s.get (Rg.seenAt r)) then s.get (Rg.creditOld r) else s.get (Rg.credit r)
def State.seenMasked (s : State) (r : Nat) : Bool :=
  if s.sameCycle (s.get (Rg.seenAt r)) then s.flag (Rg.maskOld r) else s.masked r

/-- The credit or the mask of a requester is about to change: what this cycle's decision sees is kept. -/
def keepSeen (r : Nat) : Act :=
  .dep fun s => Act.when (!s.sameCycle (s.get (Rg.seenAt r))) (Act.all [.put (Rg.seenAt r) (s.now + 1),
    .put (Rg.creditOld r) (s.get (Rg.credit r)), .put (Rg.maskOld r) (if s.masked r then 1 else 0)])

/-- The words of a requester's visible request, at most 16 (R314); 0 for none. -/
def wordsOf (words : List Nat) (r : Nat) : Nat := min (words.getD r 0) 16

/-- A refill (R315, R316, R318): credits are set, waiting requesters are counted, and one that waits too long is flagged. -/
def refillArbiter (words : List Nat) : Act :=
  .dep fun s =>
    Act.each (List.range 8) fun r => Act.all [
      keepSeen r,
      .put (Rg.credit r) (if s.masked r then 0 else s.get (Key.arbiterWeight r)),
      if wordsOf words r = 0 || s.masked r then .skip
      else .dep fun t =>
        let w := s.get (Rg.waits r) + 1
        .seq (.put (Rg.waits r) w)
          (Act.when (decide (t.get Key.starvationWindows < w) && !(t.get Key.starvationFlags).testBit r)
            (.seq (.put Key.starvationFlags (t.get Key.starvationFlags + 2 ^ r)) (Act.vectorOf Key.starvationVector)))]

/-- The requester that wins: the highest credit, ties to the lowest number (R315). One whose mask was released competes from the next
cycle (R316), and one whose mask was asserted still does in this. -/
def State.arbiterWinner (s : State) (words : List Nat) : Option Nat :=
  (List.range 8).foldl (fun best r =>
    if wordsOf words r = 0 || s.seenMasked r then best
    else match best with
      | none => some r
      | some b => if s.seenCredit b < s.seenCredit r then some r else some b) none

/-- A decision of the arbiter (R315), at the end of a transfer or with the port idle. A winner whose mask has been asserted in this cycle
holds the grant when it does, so that its transfer, which would start in the next, is stopped and no requester is owner (R316); it is
charged like any other (log entry 146). -/
def grantArbiter (words : List Nat) : Act :=
  .dep fun s =>
    match s.arbiterWinner words with
    | none => .put Rg.transferring 0
    | some w =>
      let n := wordsOf words w
      Act.all [keepSeen w, .put (Rg.credit w) (s.get (Rg.credit w) - n), .put (Rg.waits w) 0,
        .put Key.grantOwner (if s.masked w then 255 else w), .put Rg.transferring (if s.masked w then 0 else 1), Act.bump (Key.wordsGranted w) n]

/-- Whether the endpoint holds the mask of a requester: the host DMA's while it is in reset or bus mastering is disabled (R314, R465). -/
def State.heldMasked (s : State) (r : Nat) : Bool := decide (r < 2) && (!s.flag Rg.perstHigh || !s.flag Rg.busMaster)

/-- A requester's mask changes (R316): a transfer of its own stops, or its parking ends. -/
def maskRequester (r : Nat) (on : Bool) : Act :=
  .dep fun s =>
    if on then Act.all [
      keepSeen r, Act.when (!s.masked r) (.put Key.maskState (s.get Key.maskState + 2 ^ r)),
      .put (Rg.credit r) 0, .put (Rg.waits r) 0,
      Act.when (s.get Key.grantOwner == r) (.seq (.put Key.grantOwner 255) (.put Rg.transferring 0))]
    else Act.when (s.masked r && !s.heldMasked r)
      (.seq (keepSeen r) (.put Key.maskState (s.get Key.maskState - 2 ^ r)))

/-- The masks of the host DMA requesters follow the endpoint's reset and bus mastering (R314). -/
def maskHost : Act :=
  .dep fun s => .seq (maskRequester 0 (s.heldMasked 0)) (maskRequester 1 (s.heldMasked 1))

/-- StarvationClear (R317). -/
def clearStarvation (v : Nat) : Act :=
  .dep fun s => .put Key.starvationFlags (s.get Key.starvationFlags &&& (255 - v % 256))

end Sys2Proof.Machine
end

