-- ==== Sys2Proof/Machine/Crypto.lean ====
section
/-! DEFINITION. The cryptographic functions that the block computes: SHA-256 and SHA-384 (FIPS 180-4), AES (FIPS 197),
AES-KW (SP 800-38F), AES-CMAC (SP 800-38B), the GMAC of GCM-AES (SP 800-38D) and the counter-mode KDF of SP 800-108, as R73, R254,
R307, R327, R329, R340, R341 and R348 name them. -/

namespace Sys2Proof.Machine

/-- The words of `w` bits in which numbers of `n` words each are written, the first most significant. -/
def unpackWords (w n : Nat) (packed : List Nat) : List (BitVec w) :=
  packed.flatMap fun v => (List.range n).map fun i => BitVec.ofNat w (v >>> (w * (n - 1 - i)))

/-- The fractional parts of the cube roots of the first 80 primes in 64 bits (FIPS 180-4, 4.2.3), five primes to a number. -/
def cubeRootParts : List Nat :=
  [0x428A2F98D728AE227137449123EF65CDB5C0FBCFEC4D3B2FE9B5DBA58189DBBC3956C25BF348B538,
    0x59F111F1B605D019923F82A4AF194F9BAB1C5ED5DA6D8118D807AA98A303024212835B0145706FBE,
    0x243185BE4EE4B28C550C7DC3D5FFB4E272BE5D74F27B896F80DEB1FE3B1696B19BDC06A725C71235,
    0xC19BF174CF692694E49B69C19EF14AD2EFBE4786384F25E30FC19DC68B8CD5B5240CA1CC77AC9C65,
    0x2DE92C6F592B02754A7484AA6EA6E4835CB0A9DCBD41FBD476F988DA831153B5983E5152EE66DFAB,
    0xA831C66D2DB43210B00327C898FB213FBF597FC7BEEF0EE4C6E00BF33DA88FC2D5A79147930AA725,
    0x06CA6351E003826F142929670A0E6E7027B70A8546D22FFC2E1B21385C26C9264D2C6DFC5AC42AED,
    0x53380D139D95B3DF650A73548BAF63DE766A0ABB3C77B2A881C2C92E47EDAEE692722C851482353B] ++
  [0xA2BFE8A14CF10364A81A664BBC423001C24B8B70D0F89791C76C51A30654BE30D192E819D6EF5218,
    0xD69906245565A910F40E35855771202A106AA07032BBD1B819A4C116B8D2D0C81E376C085141AB53,
    0x2748774CDF8EEB9934B0BCB5E19B48A8391C0CB3C5C95A634ED8AA4AE3418ACB5B9CCA4F7763E373,
    0x682E6FF3D6B2B8A3748F82EE5DEFB2FC78A5636F43172F6084C87814A1F0AB728CC702081A6439EC,
    0x90BEFFFA23631E28A4506CEBDE82BDE9BEF9A3F7B2C67915C67178F2E372532BCA273ECEEA26619C,
    0xD186B8C721C0C207EADA7DD6CDE0EB1EF57D4F7FEE6ED17806F067AA72176FBA0A637DC5A2C898A6,
    0x113F9804BEF90DAE1B710B35131C471B28DB77F523047D8432CAAB7B40C724933C9EBE0A15C9BEBC,
    0x431D67C49C100D4C4CC5D4BECB3E42B6597F299CFC657E2A5FCB6FAB3AD6FAEC6C44198C4A475817]

/-- The round constants of SHA-384. -/
def sha512K : List (BitVec 64) := unpackWords 64 5 cubeRootParts

/-- The round constants of SHA-256 (FIPS 180-4, 4.2.2): the upper halves of the first 64 of those parts. -/
def sha256K : List (BitVec 32) := (sha512K.take 64).map fun x => x.extractLsb' 32 32

/-- The initial hash value of SHA-256 (FIPS 180-4, 5.3.3): the fractional parts of the square roots of the first 8 primes. -/
def sha256H : List (BitVec 32) :=
  unpackWords 32 8 [0x6A09E667BB67AE853C6EF372A54FF53A510E527F9B05688C1F83D9AB5BE0CD19]

/-- The initial hash value of SHA-384 (FIPS 180-4, 5.3.4): those of the 9th to the 16th prime, in 64 bits. -/
def sha384H : List (BitVec 64) :=
  unpackWords 64 4
    [0xCBBB9D5DC1059ED8629A292A367CD5079159015A3070DD17152FECD8F70E5939,
      0x67332667FFC00B318EB44A8768581511DB0C2E0D64F98FA747B5481DBEFA4FA4]

/-- What tells the two hash functions apart: the rotations and shifts of the four sigma functions. -/
structure ShaParams (w : Nat) where
  big0 : Nat × Nat × Nat
  big1 : Nat × Nat × Nat
  small0 : Nat × Nat × Nat
  small1 : Nat × Nat × Nat
  k : List (BitVec w)
  h : List (BitVec w)
  /-- Octets of the length field. -/
  lenOctets : Nat

/-- SHA-256. -/
def sha256P : ShaParams 32 := ⟨(2, 13, 22), (6, 11, 25), (7, 18, 3), (17, 19, 10), sha256K, sha256H, 8⟩

/-- SHA-384. -/
def sha384P : ShaParams 64 := ⟨(28, 34, 39), (14, 18, 41), (1, 8, 7), (19, 61, 6), sha512K, sha384H, 16⟩

/-- Three rotations. -/
def shaBig {w : Nat} (r : Nat × Nat × Nat) (x : BitVec w) : BitVec w :=
  x.rotateRight r.1 ^^^ x.rotateRight r.2.1 ^^^ x.rotateRight r.2.2

/-- Two rotations and a shift. -/
def shaSmall {w : Nat} (r : Nat × Nat × Nat) (x : BitVec w) : BitVec w :=
  x.rotateRight r.1 ^^^ x.rotateRight r.2.1 ^^^ (x >>> r.2.2)

/-- The message schedule, latest word first. -/
def shaSchedule {w : Nat} (p : ShaParams w) : Nat → List (BitVec w) → List (BitVec w)
  | 0, ws => ws
  | n + 1, ws =>
    let x := shaSmall p.small1 (ws.getD 1 0#w) + ws.getD 6 0#w + shaSmall p.small0 (ws.getD 14 0#w) + ws.getD 15 0#w
    shaSchedule p n (x :: ws)

/-- One round on the eight working variables. -/
def shaRound {w : Nat} (p : ShaParams w) (v : List (BitVec w)) (kw : BitVec w × BitVec w) : List (BitVec w) :=
  match v with
  | [a, b, c, d, e, f, g, h] =>
    let t1 := h + shaBig p.big1 e + ((e &&& f) ^^^ (~~~e &&& g)) + kw.1 + kw.2
    let t2 := shaBig p.big0 a + ((a &&& b) ^^^ (a &&& c) ^^^ (b &&& c))
    [t1 + t2, a, b, c, d + t1, e, f, g]
  | _ => v

/-- One block. -/
def shaBlock {w : Nat} (p : ShaParams w) (h : List (BitVec w)) (block : List Byte) : List (BitVec w) :=
  let words := (List.range 16).map fun i => BitVec.ofNat w (beNat ((block.drop (i * (w / 8))).take (w / 8)))
  let sched := (shaSchedule p (p.k.length - 16) words.reverse).reverse
  let v := (p.k.zip sched).foldl (shaRound p) h
  (h.zip v).map fun x => x.1 + x.2

/-- The blocks of a padded message. -/
def shaBlocks {w : Nat} (p : ShaParams w) : Nat → List (BitVec w) → List Byte → List (BitVec w)
  | 0, h, _ => h
  | n + 1, h, bs => shaBlocks p n (shaBlock p h (bs.take (2 * w))) (bs.drop (2 * w))

/-- The hash of a message, 8 words. -/
def sha {w : Nat} (p : ShaParams w) (m : List Byte) : List Byte :=
  let size := 2 * w
  let used := m.length + 1 + p.lenOctets
  let zeros := (size - used % size) % size
  let padded := m ++ [0x80#8] ++ List.replicate zeros 0#8 ++ beBytes p.lenOctets (8 * m.length)
  (shaBlocks p (padded.length / size) p.h padded).flatMap fun x => beBytes (w / 8) x.toNat

/-- SHA-256. -/
def sha256 (m : List Byte) : List Byte := sha sha256P m

/-- SHA-384. -/
def sha384 (m : List Byte) : List Byte := (sha sha384P m).take 48

/-- Doubling in GF(2^8) under the AES polynomial. -/
def aesDouble (x : Nat) : Nat := if 128 ≤ x then (2 * x % 256) ^^^ 0x1B else 2 * x

/-- The rows of the S-box table of FIPS 197: the octets of row `r` for the inputs 16 × `r` on, the first least significant. -/
def aesBoxRows : List Nat :=
  [0x76ABD7FE2B670130C56F6BF27B777C63, 0xC072A49CAFA2D4ADF04759FA7DC982CA,
    0x1531D871F1E5A534CCF73F362693FDB7, 0x75B227EBE28012079A059618C323C704,
    0x842FE329B3D63B52A05A6E1B1A2C8309, 0xCF584C4A39BECB6A5BB1FC20ED00D153,
    0xA89F3C507F02F94585334D43FBAAEFD0, 0xD2F3FF1021DAB6BCF5389D928F40A351] ++
  [0x73195D643D7EA7C41744975FEC130CCD, 0xDB0B5EDE14B8EE4688902A22DC4F8160,
    0x79E4959162ACD3C25C2406490A3A32E0, 0x08AE7A65EAF4566CA94ED58D6D37C8E7,
    0x8A8BBD4B1F74DDE8C6B4A61C2E2578BA, 0x9E1DC186B95735610EF6034866B53E70,
    0xDF2855CEE9871E9B948ED9691198F8E1, 0x16BB54B00F2D99416842E6BF0D89A18C]

/-- The S-box. -/
def aesSub (b : Byte) : Byte := BitVec.ofNat 8 (aesBoxRows.getD (b.toNat / 16) 0 / 2 ^ (8 * (b.toNat % 16)))

/-- Exclusive or of two octet strings. -/
def xorBytes (a b : List Byte) : List Byte := (a.zip b).map fun x => x.1 ^^^ x.2

/-- The expanded key, word by word, latest first. -/
def aesExpand (nk : Nat) : Nat → Nat → Byte → List (List Byte) → List (List Byte)
  | 0, _, _, ws => ws
  | n + 1, i, rcon, ws =>
    let t := ws.headD []
    let t1 :=
      if i % nk = 0 then xorBytes ((t.drop 1 ++ t.take 1).map aesSub) [rcon, 0#8, 0#8, 0#8]
      else if 6 < nk && i % nk == 4 then t.map aesSub else t
    let rcon1 := if i % nk = 0 then BitVec.ofNat 8 (aesDouble rcon.toNat) else rcon
    aesExpand nk n (i + 1) rcon1 (xorBytes (ws.getD (nk - 1) []) t1 :: ws)

/-- The round keys. -/
def aesRoundKeys (key : List Byte) : List (List Byte) :=
  let nk := key.length / 4
  let first := (List.range nk).map fun i => (key.drop (4 * i)).take 4
  let words := (aesExpand nk (4 * (nk + 7) - nk) nk 1#8 first.reverse).reverse
  (List.range (nk + 7)).map fun i => ((words.drop (4 * i)).take 4).flatten

/-- Rows shifted: octet r + 4c comes from column c + r. -/
def aesShiftRows (st : List Byte) : List Byte :=
  (List.range 16).map fun i => st.getD ((i + 4 * (i % 4)) % 16) 0#8

/-- One column mixed. -/
def aesMixColumn (c : List Byte) : List Byte :=
  (List.range 4).map fun r =>
    let x := fun i => (c.getD ((r + i) % 4) 0#8).toNat
    BitVec.ofNat 8 (aesDouble (x 0) ^^^ (aesDouble (x 1) ^^^ x 1) ^^^ x 2 ^^^ x 3)

/-- Every column mixed. -/
def aesMixColumns (st : List Byte) : List Byte :=
  (List.range 4).flatMap fun c => aesMixColumn ((st.drop (4 * c)).take 4)

/-- The rounds after the first key addition. -/
def aesRounds : List (List Byte) → List Byte → List Byte
  | [], st => st
  | [k], st => xorBytes (aesShiftRows (st.map aesSub)) k
  | k :: ks, st => aesRounds ks (xorBytes (aesMixColumns (aesShiftRows (st.map aesSub))) k)

/-- AES of one block, under a key of 16 or 32 octets. -/
def aes (key block : List Byte) : List Byte :=
  match aesRoundKeys key with
  | [] => block
  | k :: ks => aesRounds ks (xorBytes block k)

/-- The S-box undone. -/
def aesUnsub (b : Byte) : Byte := BitVec.ofNat 8 (((List.range 256).find? fun x => aesSub (BitVec.ofNat 8 x) == b).getD 0)

/-- The rows shifted back. -/
def aesUnshiftRows (st : List Byte) : List Byte :=
  (List.range 16).map fun i => st.getD ((i + 16 - 4 * (i % 4)) % 16) 0#8

/-- The columns mixed back: mixing has order 4. -/
def aesUnmix (st : List Byte) : List Byte := aesMixColumns (aesMixColumns (aesMixColumns st))

/-- The rounds undone, under the round keys from the last but one on. -/
def aesUndo : List (List Byte) → List Byte → List Byte
  | [], st => st
  | [k], st => xorBytes ((aesUnshiftRows st).map aesUnsub) k
  | k :: ks, st => aesUndo ks (aesUnmix (xorBytes ((aesUnshiftRows st).map aesUnsub) k))

/-- The inverse cipher of AES (FIPS 197). -/
def aesInverse (key block : List Byte) : List Byte :=
  match (aesRoundKeys key).reverse with
  | [] => block
  | k :: ks => aesUndo ks (xorBytes block k)

/-- The steps of the wrapping function of SP 800-38F: the chain value, and the semiblocks, over the step numbers. -/
def kwWrap (key : List Byte) : List Nat → List Byte → List (List Byte) → List Byte
  | [], a, rs => a ++ rs.flatten
  | t :: ts, a, rs =>
    match rs with
    | [] => a
    | r :: more =>
      let b := aes key (a ++ r)
      kwWrap key ts (xorBytes (b.take 8) (beBytes 8 t)) (more ++ [b.drop 8])

/-- The same steps undone, the step numbers falling; the last semiblock is the one that the step made. -/
def kwUnwrap (key : List Byte) : List Nat → List Byte → List (List Byte) → List Byte × List Byte
  | [], a, rs => (a, rs.flatten)
  | t :: ts, a, rs =>
    let b := aesInverse key (xorBytes a (beBytes 8 t) ++ rs.getLastD [])
    kwUnwrap key ts (b.take 8) (b.drop 8 :: rs.dropLast)

/-- The integrity check value of AES-KW. -/
def kwCheck : List Byte := List.replicate 8 0xA6#8

/-- The semiblocks of an octet string. -/
def semiblocks (m : List Byte) : List (List Byte) := (List.range (m.length / 8)).map fun i => (m.drop (8 * i)).take 8

/-- AES-KW (SP 800-38F) of a string of at least two semiblocks, and its inverse: none where the check value is wrong. -/
def aesWrap (key m : List Byte) : List Byte :=
  kwWrap key ((List.range (6 * (m.length / 8))).map (· + 1)) kwCheck (semiblocks m)
def aesUnwrap (key c : List Byte) : Option (List Byte) :=
  let r := kwUnwrap key ((List.range (6 * (c.length / 8 - 1))).map (· + 1)).reverse (c.take 8) (semiblocks (c.drop 8))
  if r.1 = kwCheck then some r.2 else none

/-- Doubling in GF(2^128) for CMAC. -/
def cmacDouble (b : List Byte) : List Byte :=
  let v := beNat b
  beBytes 16 (if 2 ^ 127 ≤ v then (2 * v % 2 ^ 128) ^^^ 0x87 else 2 * v)

/-- The CBC chain over whole blocks. -/
def cbcMac (key : List Byte) : Nat → List Byte → List Byte → List Byte
  | 0, x, _ => x
  | n + 1, x, m => cbcMac key n (aes key (xorBytes x (m.take 16))) (m.drop 16)

/-- AES-CMAC. -/
def cmac (key m : List Byte) : List Byte :=
  let k1 := cmacDouble (aes key (List.replicate 16 0#8))
  let k2 := cmacDouble k1
  let n := cdiv m.length 16
  let full := decide (0 < m.length) && m.length % 16 == 0
  let head := n - 1
  let rest := m.drop (16 * head)
  let last := if full then xorBytes rest k1
    else xorBytes (rest ++ [0x80#8] ++ List.replicate (15 - rest.length) 0#8) k2
  aes key (xorBytes (cbcMac key head (List.replicate 16 0#8) m) last)

/-- The counter-mode KDF of SP 800-108 with AES-CMAC: `bits` output bits, counter and length in 32 bits. -/
def kdf (key label context : List Byte) (outBits : Nat) : List Byte :=
  let n := cdiv outBits 128
  (((List.range n).flatMap fun i =>
    cmac key (beBytes 4 (i + 1) ++ label ++ [0#8] ++ context ++ beBytes 4 outBits)).take (outBits / 8))

/-- The product in GF(2^128) of GHASH: bit 127 of a number is the coefficient of 1. -/
def ghashMul : Nat → Nat → Nat → Nat
  | 0, _, _ => 0
  | n + 1, x, v =>
    (if x.testBit n then v else 0)
      ^^^ ghashMul n x (if v % 2 = 1 then (v / 2) ^^^ (0xE1 * 2 ^ 120) else v / 2)

/-- GHASH over whole blocks. -/
def ghash (h : Nat) : Nat → Nat → List Byte → Nat
  | 0, y, _ => y
  | n + 1, y, m => ghash h n (ghashMul 128 (y ^^^ beNat (m.take 16)) h) (m.drop 16)

/-- The GMAC of a message under a 12-octet IV: GCM with the message as associated data and no plaintext. -/
def gmac (key iv m : List Byte) : List Byte :=
  let h := beNat (aes key (List.replicate 16 0#8))
  let n := cdiv m.length 16
  let padded := m ++ List.replicate (16 * n - m.length) 0#8 ++ beBytes 8 (8 * m.length) ++ beBytes 8 0
  xorBytes (beBytes 16 (ghash h (n + 1) 0 padded)) (aes key (iv ++ beBytes 4 1))

/-- The octets of an ASCII string. -/
def ascii (t : String) : List Byte := t.toList.map fun c => BitVec.ofNat 8 c.toNat

end Sys2Proof.Machine
end

