-- ==== Sys2Proof/Machine/Ecc.lean ====
section
/-! DEFINITION. ECDSA per FIPS 186-5 over P-256 with SHA-256 and over P-384 with SHA-384 (R254, R329, R341). -/

namespace Sys2Proof.Machine

/-- A curve y² = x³ - 3x + b over the prime field of p, with base point (gx, gy) of order n and size in octets. -/
structure Curve where
  p : Nat
  b : Nat
  n : Nat
  gx : Nat
  gy : Nat
  size : Nat
deriving DecidableEq, Repr

/-- P-256. -/
def p256 : Curve where
  p := 0xffffffff00000001000000000000000000000000ffffffffffffffffffffffff
  b := 0x5ac635d8aa3a93e7b3ebbd55769886bc651d06b0cc53b0f63bce3c3e27d2604b
  n := 0xffffffff00000000ffffffffffffffffbce6faada7179e84f3b9cac2fc632551
  gx := 0x6b17d1f2e12c4247f8bce6e563a440f277037d812deb33a0f4a13945d898c296
  gy := 0x4fe342e2fe1a7f9b8ee7eb4a7c0f9e162bce33576b315ececbb6406837bf51f5
  size := 32

/-- P-384. -/
def p384 : Curve where
  p := 0xfffffffffffffffffffffffffffffffffffffffffffffffffffffffffffffffeffffffff0000000000000000ffffffff
  b := 0xb3312fa7e23ee7e4988e056be3f82d19181d9c6efe8141120314088f5013875ac656398d8a2ed19d2a85c8edd3ec2aef
  n := 0xffffffffffffffffffffffffffffffffffffffffffffffffc7634d81f4372ddf581a0db248b0a77aecec196accc52973
  gx := 0xaa87ca22be8b05378eb1c71ef320ad746e1d3b628ba79b9859f741e082542a385502f25dbf55296c3a545e3872760ab7
  gy := 0x3617de4a96262c6f5d9e98bf9292dc29f8f41dbd289a147ce9da3113b5f0b8c00a60b1ce1d7e819d7a431d7c90ea0e5f
  size := 48

/-- `x` to the power of the low `k` bits of `e`, modulo `m`. -/
def powMod (m : Nat) : Nat → Nat → Nat → Nat
  | 0, _, _ => 1 % m
  | k + 1, x, e => (if e % 2 = 1 then x else 1) * powMod m k (x * x % m) (e / 2) % m

/-- The inverse modulo a prime. -/
def invMod (m x : Nat) : Nat := powMod m 400 (x % m) (m - 2)

/-- A point in Jacobian coordinates, (x/z², y/z³); z = 0 is the point at infinity. -/
structure JPoint where
  x : Nat
  y : Nat
  z : Nat
deriving DecidableEq, Repr

/-- Twice a point. -/
def Curve.twice (c : Curve) (q : JPoint) : JPoint :=
  let p := c.p
  let a := q.y * q.y % p
  let v := 4 * q.x * a % p
  let w := q.z * q.z % p
  let m := (3 * q.x * q.x + (p - 3) * (w * w % p)) % p
  let x := (m * m + 2 * (p - v)) % p
  ⟨x, (m * (v + p - x) + 8 * (p - a * a % p)) % p, 2 * q.y * q.z % p⟩

/-- The sum of two points. -/
def Curve.add (c : Curve) (q r : JPoint) : JPoint :=
  let p := c.p
  if q.z = 0 then r
  else if r.z = 0 then q
  else
    let zq := q.z * q.z % p
    let zr := r.z * r.z % p
    let u := q.x * zr % p
    let h := (r.x * zq + (p - u)) % p
    let t := q.y * zr % p * r.z % p
    let d := (r.y * zq % p * q.z + (p - t)) % p
    if h = 0 then (if d = 0 then c.twice q else ⟨1, 1, 0⟩)
    else
      let hh := h * h % p
      let e := hh * h % p
      let v := u * hh % p
      let x := (d * d + (p - e) + 2 * (p - v)) % p
      ⟨x, (d * (v + p - x) + (p - t * e % p)) % p, h * q.z % p * r.z % p⟩

/-- A multiple of a point, over the low `k` bits of the factor. -/
def Curve.mul (c : Curve) : Nat → Nat → JPoint → JPoint
  | 0, _, _ => ⟨1, 1, 0⟩
  | k + 1, e, q => c.add (if e % 2 = 1 then q else ⟨1, 1, 0⟩) (c.mul k (e / 2) (c.twice q))

/-- The coordinates of a point; none for the point at infinity. -/
def Curve.affine (c : Curve) (q : JPoint) : Option (Nat × Nat) :=
  if q.z = 0 then none
  else
    let i := invMod c.p q.z
    let ii := i * i % c.p
    some (q.x * ii % c.p, q.y * ii % c.p * i % c.p)

/-- A multiple of the base point, and its coordinates. -/
def Curve.times (c : Curve) (e : Nat) : JPoint := c.mul (8 * c.size) e ⟨c.gx, c.gy, 1⟩
def Curve.base (c : Curve) (e : Nat) : Option (Nat × Nat) := c.affine (c.times e)

/-- Whether a pair of coordinates is a point of the curve. -/
def Curve.has (c : Curve) (x y : Nat) : Bool :=
  decide (x < c.p) && decide (y < c.p) && y * y % c.p == (x * x * x + (c.p - 3) * x + c.b) % c.p

/-- ECDSA verification of a digest: the leftmost bits of the digest, and a signature of r then s. -/
def ecdsaVerify (c : Curve) (x y : Nat) (digest sig : List Byte) : Bool :=
  let r := beNat (sig.take c.size)
  let s := beNat ((sig.drop c.size).take c.size)
  let z := beNat (digest.take c.size)
  if c.has x y && decide (0 < r) && decide (r < c.n) && decide (0 < s) && decide (s < c.n) then
    let w := invMod c.n s
    match c.affine (c.add (c.times (z * w % c.n)) (c.mul (8 * c.size) (r * w % c.n) ⟨x, y, 1⟩)) with
    | none => false
    | some (px, _) => px % c.n == r
  else false

/-- ECDSA signature of a digest under a private scalar with a nonce. -/
def ecdsaSign (c : Curve) (d k : Nat) (digest : List Byte) : List Byte :=
  match c.base k with
  | none => List.replicate (2 * c.size) 0#8
  | some (px, _) =>
    let r := px % c.n
    let s := invMod c.n k * (beNat (digest.take c.size) + r * d) % c.n
    beBytes c.size r ++ beBytes c.size s

end Sys2Proof.Machine
end

