-- ==== Sys2Proof/Machine/Classify.lean ====
section
/-! DEFINITION. Classification (step 3): the four lookups, the built-in matches, the stateful firewall and the fragment table
(R133 to R153). -/

namespace Sys2Proof.Machine

/-- The octets of a frame that hold data: without the FCS once an Ethernet frame is complete. Of a frame still arriving none
of the octets is FCS: the FCS comes with FRAME_TAIL (log entry 117). -/
def Frame.dataEnd (f : Frame) : Nat := if f.kind = 0 && f.complete then f.octets.length - 4 else f.octets.length

/-- The parse of a frame as far as it has arrived. -/
def Frame.parse (f : Frame) : Parse :=
  let p := Sys2Proof.Machine.parse f.octets (f.kind != 0) f.complete
  if f.kind = 0 then p else { p with avtp := f.avtp / 256, busId := f.avtp / 8 % 32, acfType := f.avtp % 8 }

/-- Where offset 0 of the Stencil and of the extract fields lies (R127). -/
def Frame.base (f : Frame) : Nat := if f.kind = 0 then 0 else 32

/-- Extract field `i` (R135). -/
def extractField (s : State) (g : Gen) (i : Nat) (f : Frame) (p : Parse) : Nat :=
  if s.fldOn g 0xF045 i F.extValid then
    let anchor := s.fld g 0xF045 i F.extAnchor
    let start := if anchor = 0 then some f.base else (p.heads.find? fun h => h.1 == anchor).map fun h => h.2
    match start with
    | none => 0
    | some o =>
      let a := o + s.fld g 0xF045 i F.extOffset
      if f.base + 255 < a + 3 || f.octets.length < a + 4 then 0
      else beAt f.octets a 4 &&& s.fld g 0xF045 i F.extMask
  else 0

/-- Whether a pattern matches at a start offset. -/
def patternAt (octs pat mask : List Byte) (a : Nat) : Bool :=
  (List.range pat.length).all fun i =>
    ((octs.getD (a + i) 0#8 ^^^ pat.getD i 0#8) &&& mask.getD i 0#8) == 0#8

/-- Whether row `r` of StencilPatterns matches (R141). -/
def stencilRow (s : State) (g : Gen) (r : Nat) (f : Frame) : Bool :=
  let len := s.fld g 0xF043 r F.patLength
  let start := s.fld g 0xF043 r F.patStart
  let finish := if s.fldOn g 0xF043 r F.patAnchored then start else s.fld g 0xF043 r F.patFinish
  let pat := s.rowOctets g 0xF043 r 0 len
  let mask := s.rowOctets g 0xF043 r 64 len
  let body := (f.octets.take f.dataEnd).drop f.base
  decide (start ≤ s.fld g 0xF043 r F.patFinish) &&
    (List.range (finish + 1 - start)).any fun i =>
      let a := start + i
      decide (a + len - 1 ≤ 511) && decide (a + len ≤ body.length) && patternAt body pat mask a

/-- The Stencil's result: the lowest-numbered matching row. -/
def stencilSearch (s : State) (g : Gen) (f : Frame) : Option Nat :=
  (s.rowsWhere g 0xF043 fun r => s.fldOn g 0xF043 r F.patValid).find? fun r => stencilRow s g r f

/-- The 40-octet exact key of a profile (R139). -/
def exactKey (select : Nat) (fields : List Nat) : List Byte :=
  let chosen := ((keyWidths.zip fields).zip (List.range 22)).filterMap fun x =>
    if select.testBit x.2 then some x.1 else none
  let w := (chosen.map fun x => x.1).sum
  beBytes 40 (packFields chosen * 2 ^ (320 - w))

/-- The exact-match lookup (R140): the matching row of the lowest profile. -/
def exactLookup (s : State) (g : Gen) (fields : List Nat) : Option Nat :=
  (List.range 4).findSome? fun p =>
    if s.fldOn g 0xF042 p F.profValid then
      let key := exactKey (s.fld g 0xF042 p F.profSelect) fields
      let bucket := crc32c (BitVec.ofNat 8 p :: key) % 2 ^ 14
      (List.range 4).findSome? fun w =>
        let r := 4 * bucket + w
        if s.fldOn g 0xF041 r F.exactValid && s.fld g 0xF041 r F.exactProfile == p
            && s.rowOctets g 0xF041 r 0 40 == key then some r else none
    else none

/-- The ternary lookup (R138): the lowest-numbered valid row whose masked key equals the frame's. -/
def ternaryLookup (s : State) (g : Gen) (key : Nat) : Option Nat :=
  let k := beBytes 80 key
  (s.rowsWhere g 0xF040 fun r => s.fldOn g 0xF040 r F.ternValid).find? fun r =>
    patternAt k (s.rowOctets g 0xF040 r 0 80) (s.rowOctets g 0xF040 r 80 80) 0

/-- An endpoint of a session tuple: address and port. -/
def endpoint (addr port : Nat) : Nat := addr * 65536 + port

/-- The endpoints of a frame: the ports count for TCP and UDP only (R145). -/
def sourceEnd (p : Parse) : Nat := endpoint p.src (if p.proto = 6 || p.proto = 17 then p.l4s else 0)
def destEnd (p : Parse) : Nat := endpoint p.dst (if p.proto = 6 || p.proto = 17 then p.l4d else 0)

/-- The outer VID, 0 when untagged. -/
def Parse.outerVid (p : Parse) : Nat := if p.tags = 0 then 0 else p.outer % 4096

/-- The bucket of a session tuple (R145). -/
def sessionBucket (p : Parse) : Nat :=
  let a := sourceEnd p
  let b := destEnd p
  let lo := min a b
  let hi := max a b
  crc32c (beBytes 2 p.outerVid ++ beBytes 1 p.ip ++ beBytes 1 p.proto ++ beBytes 16 (lo / 65536) ++ beBytes 16 (hi / 65536)
    ++ beBytes 2 (lo % 65536) ++ beBytes 2 (hi % 65536)) % 2 ^ 11

/-- Whether the session lookup applies (R145). -/
def sessionsApply (s : State) (p : Parse) : Bool :=
  p.ip != 0 && !p.nonFirst && s.flag Key.firewallEnable

/-- The endpoints that a session row holds. -/
def rowInitiator (s : State) (r : Nat) : Nat :=
  endpoint (beNat (s.rowOctets .live 0xF046 r 8 16)) (s.fld .live 0xF046 r F.sessInitPort)
def rowResponder (s : State) (r : Nat) : Nat :=
  endpoint (beNat (s.rowOctets .live 0xF046 r 24 16)) (s.fld .live 0xF046 r F.sessRespPort)

/-- The session of a frame: its row and whether the frame comes from the responder. -/
def sessionLookup (s : State) (p : Parse) : Option (Nat × Bool) :=
  if sessionsApply s p then
    let b := sessionBucket p
    (List.range 8).findSome? fun w =>
      let r := 8 * b + w
      if s.fldOn .live 0xF046 r F.sessState && s.fld .live 0xF046 r F.sessVersion == p.ip
          && s.fld .live 0xF046 r F.sessProtocol == p.proto && s.fld .live 0xF046 r F.sessVid == p.outerVid then
        if rowInitiator s r == sourceEnd p && rowResponder s r == destEnd p then some (r, false)
        else if rowInitiator s r == destEnd p && rowResponder s r == sourceEnd p then some (r, true)
        else none
      else none
  else none

/-- The new state of a session (R147). DESIGN CHOICE (log entry 142): a frame that meets two rows of the table takes the state to
Closing. -/
def sessionNext (st : Nat) (reverse : Bool) (p : Parse) : Nat :=
  let syn := p.tcp.testBit 1
  let ack := p.tcp.testBit 4
  let ends := p.tcp.testBit 0 || p.tcp.testBit 2
  if p.proto = 6 then
    if (st = 1 || st = 2) && ends then 3
    else if st = 1 && reverse && syn && ack then 2
    else st
  else st

/-- A frame that its verdict does not drop updates its session (R147). -/
def sessionUpdate (r : Nat) (reverse : Bool) (p : Parse) : Act :=
  .dep fun s =>
    let st := s.fld .live 0xF046 r F.sessState
    let st' := sessionNext st reverse p
    let refresh := st != 3
    Act.all [Act.setF .live 0xF046 r F.sessState st',
      Act.when refresh (Act.setF .live 0xF046 r F.sessTime s.vns),
      Act.when refresh (.put (Rg.sessionAt r) s.now),
      Act.bumpF .live 0xF046 r (if reverse then F.sessFramesResp else F.sessFramesInit)]

/-- Whether a frame may create a session (R146). -/
def createsSession (p : Parse) : Bool :=
  if p.proto = 6 then p.tcp.testBit 1 && !p.tcp.testBit 4 else p.ip != 0 && !p.nonFirst

/-- The lowest free way of a session's bucket. -/
def freeSession (s : State) (p : Parse) : Option Nat :=
  (List.range 8).findSome? fun w =>
    let r := 8 * sessionBucket p + w
    if s.fldOn .live 0xF046 r F.sessState then none else some r

/-- A new session in a row (R146, R149). -/
def sessionCreate (r : Nat) (p : Parse) : Act :=
  .dep fun s => Act.all [
    Act.setRow .live 0xF046 r 0 (List.replicate 64 0#8),
    Act.setF .live 0xF046 r F.sessVersion p.ip,
    Act.setF .live 0xF046 r F.sessProtocol p.proto,
    Act.setF .live 0xF046 r F.sessVid p.outerVid,
    Act.setRow .live 0xF046 r 8 (beBytes 16 p.src),
    Act.setRow .live 0xF046 r 24 (beBytes 16 p.dst),
    Act.setF .live 0xF046 r F.sessInitPort (sourceEnd p % 65536),
    Act.setF .live 0xF046 r F.sessRespPort (destEnd p % 65536),
    Act.setF .live 0xF046 r F.sessTime s.vns,
    Act.setF .live 0xF046 r F.sessFramesInit 1,
    .put (Rg.sessionAt r) s.now,
    Act.setF .live 0xF046 r F.sessState (if p.proto = 6 then 1 else 4)]

/-- The valid entry of a fragment's key (R151 to R153). -/
def fragmentLookup (s : State) (p : Parse) : Option Nat :=
  (s.listedRows .live 0xF047).find? fun r =>
    s.fldOn .live 0xF047 r F.fragValid && decide (s.now < s.get (Rg.fragmentEnd r))
      && s.fldOn .live 0xF047 r F.fragIpv6 == (p.ip == 6) && s.fld .live 0xF047 r F.fragProtocol == p.proto
      && s.fld .live 0xF047 r F.fragIdent == p.ident
      && beNat (s.rowOctets .live 0xF047 r 16 16) == p.src && beNat (s.rowOctets .live 0xF047 r 32 16) == p.dst

/-- Stores the action set of a first fragment, or counts that no row is free (R151). DESIGN CHOICE (log entry 142): the protocol of an
IPv6 fragment is the last next-header value that the parser read. -/
def fragmentStore (p : Parse) (actions : Nat) : Act :=
  .dep fun s =>
    let free := (List.range 1024).find? fun r =>
      !(s.fldOn .live 0xF047 r F.fragValid && decide (s.now < s.get (Rg.fragmentEnd r)))
    match free with
    | none => Act.bump Key.fragmentTableFull
    | some r => Act.all [
      Act.setRow .live 0xF047 r 0 (leBytes 16 actions ++ beBytes 16 p.src ++ beBytes 16 p.dst ++ leBytes 4 p.ident),
      Act.setF .live 0xF047 r F.fragIpv6 (if p.ip = 6 then 1 else 0),
      Act.setF .live 0xF047 r F.fragProtocol p.proto,
      Act.setF .live 0xF047 r F.fragTime s.vns,
      .put (Rg.fragmentEnd r) (s.now + us (s.get Key.fragmentLifetime)),
      Act.setF .live 0xF047 r F.fragValid 1]

/-- A frame's verdict (R136). -/
structure Verdict where
  /-- The action set applied, layout of R143. -/
  actions : Nat := 0
  /-- A built-in match forwards to port 245 in this class. -/
  builtIn : Option Nat := none
  /-- No action set was applied: the frame is counted where it was decided, not in ClassifierDrops (R12, R144). -/
  consumed : Bool := false
  /-- An exception copy with a reason of 0x01 to 0x0F. -/
  reason : Option Nat := none
  rule : Option Nat := none
  actionSet : Option Nat := none
  stencil : Option Nat := none
  session : Option Nat := none
  acts : Act := .skip

/-- A field of an action set image. -/
def actBit (a : Nat) (f : Fld) : Nat := bits a f.bit f.width

/-- An action set without targets, with an exception copy of a reason where one is given. -/
def dropWith (reason : Option Nat) : Nat :=
  2 ^ F.actDrop.bit + match reason with
    | some r => 2 ^ F.actCopy.bit + r * 2 ^ F.actCopyReason.bit
    | none => 0

/-- The built-in matches (R137). -/
def builtInMatch (s : State) (f : Frame) (p : Parse) : Option Verdict :=
  let remote := f.kind = 0 && p.typ = 0x88B5 && p.da = s.get Key.odStationAddress
    && f.source < 64 && s.isEthernet f.source && (s.get Key.ethPortMask).testBit f.source
  let ch := s.attachment f.source - 64
  let mask := s.get Key.canChannelMaskLow + s.get Key.canChannelMaskHigh * 2 ^ 64
  let wanted := if s.get Key.canIdFormat = 0 then s.get Key.canRequestId else 2 ^ 31 + s.get Key.canRequestId
  let can := (f.kind = 1 || f.kind = 2) && s.kind f.source = 4 && mask.testBit ch && p.busIdent = wanted
  let cls := s.get Key.remoteOdClass
  if remote then
    if s.flag Key.remoteOdEnable then some { builtIn := some cls } else some { consumed := true, actions := dropWith none }
  else if can then some { builtIn := some cls }
  else if f.kind = 0 && p.typ = 0x88F7 && s.isEthernet f.source then some { consumed := true }
  else if f.kind = 0 && p.da / 16 = 0x0180C200000 then
    some { reason := some 5, consumed := true, actions := dropWith none }
  else none

/-- Whether an action set drops its frame (R144). -/
def dropsFrame (a : Nat) : Bool := actBit a F.actDrop = 1 || actBit a F.actForward = 0

/-- The verdict by the rules, the exact match and NoMatchAction, with the firewall (R136, R143 to R147). DESIGN CHOICE (log entry 156): the
verdict on an unmatched frame drops it also where NoMatchAction sends it to the exception path, so that it does not touch its session. -/
def ruleVerdict (s : State) (g : Gen) (f : Frame) (p : Parse) : Verdict :=
  let stencil := stencilSearch s g f
  let sess := sessionLookup s p
  let sessField := match sess with
    | some (r, rev) => s.fld .live 0xF046 r F.sessState * 32 + (if rev then 16 else 0)
    | none => 0
  let stField := match stencil with
    | some r => 32768 + r
    | none => 0
  let fields := keyFields p f.source f.second sessField stField (extractField s g 0 f p) (extractField s g 1 f p)
  let exact := exactLookup s g (fields 0)
  let tag := match exact with
    | some r => s.fld g 0xF041 r F.exactTag
    | none => 0
  let rule := ternaryLookup s g (keyOf (fields tag))
  let exactAction := match exact with
    | some r => if s.fld g 0xF041 r F.exactAction = 0xFFFF then none else some (s.fld g 0xF041 r F.exactAction)
    | none => none
  let aset := match rule with
    | some r => some (s.fld g 0xF040 r F.ternAction)
    | none => exactAction
  let noMatch := aset.isNone
  let reason := if noMatch && s.flag Key.noMatchAction then some 1 else none
  let actions := match aset with
    | some a => leNat (s.rowOctets g 0xF044 a 0 16)
    | none => dropWith reason
  let wantsSession := sess.isNone && sessionsApply s p && !noMatch && actBit actions F.actSessionCreate = 1
    && actBit actions F.actDrop = 0 && createsSession p
  let way := if wantsSession then freeSession s p else none
  { actions := actions
    consumed := noMatch
    reason := if wantsSession && way.isNone then some 4 else reason
    rule := rule
    actionSet := aset
    stencil := stencil
    session := match sess with
      | some (r, _) => some r
      | none => way
    acts := Act.all [
      match rule with
        | some r => Act.bumpF .live 0xF04A r F.hitsCount
        | none => .skip,
      Act.when noMatch (Act.bump Key.noMatchFrames),
      Act.when p.first (fragmentStore p actions),
      match sess with
        | some (r, rev) => Act.when (!dropsFrame actions) (sessionUpdate r rev p)
        | none => .skip,
      match way with
        | some r => sessionCreate r p
        | none => Act.when wantsSession (Act.bump Key.sessionCreateFailures)] }

/-- The verdict of step 3 (R136). DESIGN CHOICE (log entry 157): a fragment that takes a stored action set has no number of it, so that an
exception header reads 0xFFFF there (R157). -/
def classify (s : State) (f : Frame) (p : Parse) : Verdict :=
  let g := s.genOf f.tag
  if p.malformed then
    let reason := if s.flag Key.malformedAction then some 2 else none
    { actions := dropWith none, reason := reason, acts := Act.bump Key.malformedFrames, consumed := true }
  else match builtInMatch s f p with
    | some v => v
    | none =>
      if p.nonFirst then
        match fragmentLookup s p with
        | some r => { actions := s.fld .live 0xF047 r F.fragActions }
        | none =>
          if s.flag Key.fragmentOrphanAction then { actions := dropWith none, reason := some 3, consumed := true }
          else { actions := dropWith none, consumed := true }
      else if p.first then
        match fragmentLookup s p with
        | some r => { actions := s.fld .live 0xF047 r F.fragActions }
        | none => ruleVerdict s g f p
      else ruleVerdict s g f p

/-- The octets that steps 2 and 3 read (R142), and step 5 with its keys: one past the furthest. -/
def lookaheadNeed (s : State) (f : Frame) (p : Parse) : Nat :=
  let g := s.genOf f.tag
  let ext := (List.range 2).map fun i =>
    if s.fldOn g 0xF045 i F.extValid then
      let anchor := s.fld g 0xF045 i F.extAnchor
      let start := if anchor = 0 then some f.base else (p.heads.find? fun h => h.1 == anchor).map fun h => h.2
      match start with
      | some o => let e := o + s.fld g 0xF045 i F.extOffset + 4; if e ≤ f.base + 256 then e else 0
      | none => 0
    else 0
  let pats := (s.rowsWhere g 0xF043 fun r => s.fldOn g 0xF043 r F.patValid).map fun r =>
    let from' := if s.fldOn g 0xF043 r F.patAnchored then F.patStart else F.patFinish
    min 512 (s.fld g 0xF043 r from' + s.fld g 0xF043 r F.patLength)
  let need := (p.depth :: ext ++ pats).foldl max 0
  min 512 (max 64 (cdiv need 16 * 16))

/-- Whether the lookahead of a frame is complete (R28, R192). -/
def lookaheadDone (s : State) (f : Frame) (p : Parse) : Bool :=
  f.complete || (!p.starved && decide (lookaheadNeed s f p ≤ f.octets.length))

end Sys2Proof.Machine
end

