-- ==== Sys2Proof/Machine/Streams.lean ====
section
/-! DEFINITION. Stream handling (step 5): identification, filter, meters, strict policers, recovery, sequence generation and
eligibility (R237 to R247, R227, R228). -/

namespace Sys2Proof.Machine

/-- One octet in the unit of the token buckets, so that rate × time is exact. -/
def tokenOctet : Nat := 8 * 1000000000 * 65536

/-- The length of a frame as RxOctets counts it (R124). -/
def Frame.rxLength (f : Frame) : Nat := f.octets.length - f.base

/-- The VID of an Ethernet frame (R176): its outer tag's, or the PVID of its ingress port. -/
def frameVid (s : State) (g : Gen) (f : Frame) (p : Parse) : Nat :=
  if p.outerVid = 0 then s.fld g 0xF053 f.source F.pfwdPvid else p.outerVid

/-- The key of an identification method (R238); none where the method does not apply. -/
def streamKey (m : Nat) (f : Frame) (p : Parse) (vid : Nat) : Option (List Byte) :=
  let pad := fun (bs : List Byte) => some (bs ++ List.replicate (48 - bs.length) 0#8)
  match m with
  | 1 => if f.kind = 0 then pad (beBytes 6 p.da ++ beBytes 2 vid) else none
  | 2 => if f.kind = 0 then pad (beBytes 6 p.sa ++ beBytes 2 vid) else none
  | 3 =>
    if f.kind = 0 && p.ip != 0 then
      pad (beBytes 6 p.da ++ beBytes 2 vid ++ beBytes 16 p.src ++ beBytes 16 p.dst ++ beBytes 1 (p.tclass / 4)
        ++ beBytes 1 p.proto ++ beBytes 2 p.l4s ++ beBytes 2 p.l4d)
    else none
  | 4 => if f.kind != 0 then pad (beBytes 1 f.source ++ beBytes 1 f.kind ++ beBytes 4 p.busIdent) else none
  | _ => none

/-- The lowest matching row of a method's bucket (R239). -/
def streamRow (s : State) (g : Gen) (m : Nat) (key : List Byte) : Option Nat :=
  let b := crc32c (BitVec.ofNat 8 m :: key) % 2 ^ 11
  (List.range 4).findSome? fun w =>
    let r := 4 * b + w
    if s.fldOn g 0xF070 r F.sidValid && s.fld g 0xF070 r F.sidMethod == m && s.rowOctets g 0xF070 r 0 48 == key
    then some r else none

/-- The stream handle of a frame, when it names a valid context (R238, R240). -/
def identify (s : State) (g : Gen) (f : Frame) (p : Parse) : Option Nat :=
  let methods := s.fld g 0xF075 f.source F.sportMethods
  let vid := frameVid s g f p
  let row := [1, 2, 3, 4].findSome? fun m =>
    if methods.testBit (m - 1) then (streamKey m f p vid).bind fun key => streamRow s g m key else none
  match row with
  | some r =>
    let h := s.fld g 0xF070 r F.sidHandle
    if s.fldOn g 0xF071 h F.ctxValid then some h else none
  | none => none

/-- The strict policer row that serves a stream (R245). -/
def policerOf (s : State) (g : Gen) (str : Nat) : Option Nat :=
  let m := s.fld g 0xF071 str F.ctxMeter
  if s.fld g 0xF071 str F.ctxMeterKind = 2 && m < 256 && s.fld g 0xF073 m F.polStream = str then some m else none

/-- What step 5 decides. -/
structure Step5 where
  drop : Bool := false
  /-- The stream as which the frame continues. -/
  stream : Option Nat := none
  /-- The reason of an exception copy: 0x08 or 0x09. -/
  reason : Option Nat := none
  eligible : Option Nat := none
  sequence : Option Nat := none
  rtag : Option Nat := none
  acts : Act := .skip

/-- The colour of a flow meter (R244): 0 green, 1 yellow, 2 red; and its new state. -/
def flowMeter (s : State) (g : Gen) (m len : Nat) (dei : Bool) : Nat × Act :=
  if !s.fldOn g 0xF072 m F.flowValid then (0, .skip)
  else
    let dt := s.now - s.get (Rg.meterAt m)
    let capC := s.fld g 0xF072 m F.flowCbs * tokenOctet
    let capE := s.fld g 0xF072 m F.flowEbs * tokenOctet
    let c1 := capC - s.get (Rg.meterSpentC m) + s.fld g 0xF072 m F.flowCir * dt
    let surplus := c1 - capC
    let c := min c1 capC
    let e := min capE (capE - s.get (Rg.meterSpentE m) + s.fld g 0xF072 m F.flowEir * dt
      + (if s.fldOn g 0xF072 m F.flowCoupling then surplus else 0))
    let cost := len * tokenOctet
    let yellowIn := s.fldOn g 0xF072 m F.flowAware && dei
    let red := s.flag (Rg.meterRed m)
    let takesC := !red && !yellowIn && decide (cost ≤ c)
    let takesE := !red && !takesC && decide (cost ≤ e)
    let colour := if takesC then 0 else if takesE then 1 else 2
    (colour, Act.all [
      .put (Rg.meterSpentC m) (capC - (if takesC then c - cost else c)),
      .put (Rg.meterSpentE m) (capE - (if takesE then e - cost else e)),
      .put (Rg.meterAt m) s.now,
      Act.when (colour == 2 && s.fldOn g 0xF072 m F.flowMarkEnable) (.put (Rg.meterRed m) 1)])

/-- A strict policer (R245): whether the frame passes, and the new state. -/
def strictPolicer (s : State) (g : Gen) (r len : Nat) : Bool × Act :=
  if !s.fldOn g 0xF073 r F.polValid then (false, .skip)
  else
    let cap := s.fld g 0xF073 r F.polCbs * tokenOctet
    let t := min cap (cap - s.get (Rg.policerSpent r) + s.fld g 0xF073 r F.polCir * (s.now - s.get (Rg.policerAt r)))
    let passes := decide (len * tokenOctet ≤ t)
    (passes, Act.all [
      .put (Rg.policerSpent r) (cap - (if passes then t - len * tokenOctet else t)),
      .put (Rg.policerAt r) s.now])

/-- The signed distance of two sequence numbers (IEEE 802.1CB 7.4.3.4). -/
def seqDelta (a b : Nat) : Int :=
  let d := (a + 65536 - b) % 65536
  if d < 32768 then (d : Int) else (d : Int) - 65536

/-- A recovery function (R247; IEEE 802.1CB 7.4.3.4 and 7.4.3.5, log entry 8): whether the frame passes, and the new state. -/
def recovery (s : State) (g : Gen) (r : Nat) (seq : Option Nat) : Bool × Act :=
  let restart : Act := .put (Rg.recoveryAt r) s.now
  let passed : Act := Act.bumpF .live 0xF078 r F.rstPassed
  let discarded : Act := Act.bumpF .live 0xF078 r F.rstDiscarded
  let disorder : Act := Act.bumpF .live 0xF078 r F.rstOutOfOrder
  let h := s.fld g 0xF074 r F.recHistory
  match seq with
  | none =>
    let takes := s.fldOn g 0xF074 r F.recTakeNo
    (takes, Act.all [Act.bumpF .live 0xF078 r F.rstTagless, if takes then passed else discarded])
  | some n =>
    let begin' := Act.all [.put (Rg.recoveryOn r) 1, .put (Rg.recoverySeq r) n,
      .put (Rg.recoveryHistory r) (2 ^ h - 1), passed, restart]
    if !s.flag (Rg.recoveryOn r) then (true, begin')
    else
      let d := seqDelta n (s.get (Rg.recoverySeq r))
      if s.fldOn g 0xF074 r F.recMatch then
        if d = 0 then (false, discarded)
        else (true, Act.all [Act.when (d != 1) disorder, .put (Rg.recoverySeq r) n, passed, restart])
      else
        let hist := s.get (Rg.recoveryHistory r)
        if (h : Int) ≤ d ∨ d ≤ -(h : Int) then
          (false, Act.all [Act.bumpF .live 0xF078 r F.rstRogue, discarded])
        else if d ≤ 0 then
          let i := d.natAbs
          if hist.testBit i then (false, discarded)
          else (true, Act.all [.put (Rg.recoveryHistory r) (hist + 2 ^ i), disorder, passed, restart])
        else
          let n' := d.natAbs
          let lost := ((List.range n').filter fun i => !hist.testBit (h - 1 - i)).length
          (true, Act.all [Act.when (d != 1) disorder, Act.bumpF .live 0xF078 r F.rstLost lost,
            .put (Rg.recoveryHistory r) (hist * 2 ^ n' % 2 ^ h + 1), .put (Rg.recoverySeq r) n, passed, restart])

/-- The duration of `octets` at a rate in bit/s, in 2^-16 ns, rounded up (log entry 9). -/
def serialTime (octets rate : Nat) : Nat := cdiv (octets * 8 * 1000000000 * 65536) rate

/-- The bucket empty time of a shaper; a shaper that nothing has used is full from time 0 (R235). -/
def bucketEmptyTime (s : State) (g : Gen) (k : Nat) : Int :=
  let v := s.get (Rg.bucketEmpty k)
  if v = 0 then -(serialTime (s.fld g 0xF063 k F.atsCbs) (s.fld g 0xF063 k F.atsCir) : Int) else (v : Int) - 2 ^ 100

/-- The eligibility time of a frame (R227), none when the shaper drops it; and the shaper's new state. -/
def shape (s : State) (g : Gen) (k : Nat) (arrival len : Nat) : Option Nat × Act :=
  let cir := s.fld g 0xF063 k F.atsCir
  let grp := s.fld g 0xF063 k F.atsGroup
  let empty := bucketEmptyTime s g k
  let sched := empty + serialTime len cir
  let full := empty + serialTime (s.fld g 0xF063 k F.atsCbs) cir
  let elig := max (max (arrival : Int) (s.get (Rg.groupElig grp))) sched
  if (arrival : Int) + ns (s.fld g 0xF064 grp F.atsgResidence) < elig then
    (none, Act.bumpF .live 0xF065 k F.atssDiscards)
  else
    let next := if elig < full then sched else sched + elig - full
    (some elig.toNat, Act.all [.put (Rg.groupElig grp) elig.toNat, .put (Rg.bucketEmpty k) (next + 2 ^ 100).toNat,
      Act.setF .live 0xF065 k F.atssBucket (next.toNat / 65536), Act.bumpF .live 0xF065 k F.atssShaped])

/-- A GroupPorts row as a port set (R179). -/
def groupPorts (s : State) (g : Gen) (row : Nat) : Nat := s.fld g 0xF054 row F.grpPorts

/-- From the stream as which the frame continues: sequence number, eligibility, R-tag set (R246, R227); `len` is the length that
the shaper takes (R228, R274). -/
def step5Finish (s : State) (g : Gen) (f : Frame) (ident str len : Nat) (before : Act) : Step5 :=
  let gen := s.fldOn g 0xF071 str F.ctxGenerate
  let seq := s.fld .live 0xF077 str F.stSequence
  let seqAct := Act.when gen (Act.setF .live 0xF077 str F.stSequence ((seq + 1) % 65536))
  let k := s.fld g 0xF071 str F.ctxShaper
  let shaped := s.fldOn g 0xF071 str F.ctxShaperValid && s.fldOn g 0xF063 k F.atsValid
  let (elig, shapeAct) := if shaped then shape s g k f.stamp len else (none, .skip)
  let rtag := if s.fldOn g 0xF071 str F.ctxRtagValid then groupPorts s g (s.fld g 0xF071 str F.ctxRtag) else 0
  let base : Step5 := { stream := some str, rtag := some rtag, sequence := if gen then some seq else none }
  if shaped && elig.isNone then { base with drop := true, acts := Act.all [before, seqAct, shapeAct] }
  else { base with
    eligible := elig
    acts := Act.all [before, seqAct, shapeAct, Act.bumpF .live 0xF077 ident F.stPassed] }

/-- Step 5 for a frame with a forwarding target (R241); `shaped` is the length that the shaper takes. A frame longer than MaxSdu
blocks its stream whatever else the filter finds (R242). -/
def step5 (s : State) (g : Gen) (f : Frame) (p : Parse) (shaped : Nat) : Step5 :=
  match identify s g f p with
  | none => {}
  | some str =>
    let matched := Act.bumpF .live 0xF077 str F.stMatched
    let pol := policerOf s g str
    let filterReason := match pol with
      | some r => if s.fldOn g 0xF073 r F.polReport && s.fldOn g 0xF073 r F.polValid then some 9 else none
      | none => none
    let filtered : Act → Step5 := fun extra =>
      let gone := Act.all [matched, Act.bumpF .live 0xF077 str F.stFiltered, extra]
      { drop := true, stream := some str, reason := filterReason, acts := gone }
    let ingress := s.fld g 0xF071 str F.ctxIngress
    let sdu := s.fld g 0xF071 str F.ctxMaxSdu
    let long := f.complete && decide (sdu < f.rxLength)
    let block := Act.when (long && s.fldOn g 0xF071 str F.ctxBlockOversize) (Act.setF .live 0xF077 str F.stBlocked 1)
    if (ingress != 0xFFFF && ingress != f.source) || s.fld g 0xF071 str F.ctxCls != f.cls
        || s.fldOn .live 0xF077 str F.stBlocked || long then filtered block
    else
      let len := if f.complete then f.rxLength else sdu
      let kind := s.fld g 0xF071 str F.ctxMeterKind
      let dei := decide (0 < p.tags) && p.outer.testBit 12
      let (colour, flowAct) := if kind = 1 then flowMeter s g (s.fld g 0xF071 str F.ctxMeter) len dei else (0, .skip)
      let yellowDrop := colour == 1 && s.fldOn g 0xF072 (s.fld g 0xF071 str F.ctxMeter) F.flowDropYellow
      let (ok, polAct) := match pol with
        | some r => strictPolicer s g r len
        | none => (true, .skip)
      let counts := Act.all [matched, flowAct, polAct,
        Act.when (colour == 1) (Act.bumpF .live 0xF077 str F.stYellow),
        Act.when (colour == 2 || !ok) (Act.bumpF .live 0xF077 str F.stRed)]
      if colour == 2 || yellowDrop then { drop := true, stream := some str, acts := counts }
      else if !ok then
        let rep := match pol with
          | some r => if s.fldOn g 0xF073 r F.polReport && s.fldOn g 0xF073 r F.polValid then some 8 else none
          | none => none
        { drop := true, stream := some str, reason := rep, acts := counts }
      else
        let rf := s.fld g 0xF071 str F.ctxRecovery
        if s.fldOn g 0xF071 str F.ctxMember && s.fldOn g 0xF071 str F.ctxRecoveryValid && s.fldOn g 0xF074 rf F.recValid then
          let out := s.fld g 0xF074 rf F.recOutput
          let (pass, recAct) := recovery s g rf (if p.rtagAt = 0 then none else some p.rtagSeq)
          let sofar := Act.all [counts, recAct]
          if !pass then { drop := true, stream := some str, acts := sofar }
          else if s.fldOn g 0xF071 out F.ctxMember then
            { drop := true, stream := some str, acts := Act.all [sofar, Act.bumpF .live 0xF077 str F.stFiltered] }
          else step5Finish s g f str out shaped sofar
        else step5Finish s g f str str shaped counts

end Sys2Proof.Machine
end

