-- ==== Sys2Proof/Machine/Fabric.lean ====
section
/-! DEFINITION. The shared operations on frames and copies: the logs that keep the oldest entries, the fault collector's log,
delivery faults, gateway failures, the end of a copy and the release of a frame (R184, R262, R280, R388). -/

namespace Sys2Proof.Machine

/-- Stores a row in a log that fills from row 0 and keeps the oldest entries (R59): the entry or the overflow count, and the
act that signals it; a later overflow is not signalled. -/
def storeEntry (idx rows countKey overflowKey : Nat) (image : List Byte) (signal : Act) : Act :=
  .dep fun s =>
    let n := s.get countKey
    if n < rows then Act.all [Act.setRow .live idx n 0 image, .put countKey (n + 1), signal]
    else Act.all [Act.when (!s.flag overflowKey) signal, Act.bump overflowKey]

/-- Empties a log (R59, R262, R280, R371, R388). -/
def emptyLog (idx countKey overflowKey : Nat) : Act :=
  Act.all [Act.clearTable .live idx, .put countKey 0, .put overflowKey 0]

/-- The mismatches in the preceding second (R388, R396). -/
def State.mismatchesNear (s : State) : Nat :=
  ([0, 1, 2].filter fun i => s.flag (Rg.mismatchAt i) && decide (s.now ≤ s.get (Rg.mismatchAt i) - 1 + ms 1000)).length

/-- A stored report of the fault collector (R386, R388). -/
def faultEntry (source reaction unit od row address : Nat) : Act :=
  .dep fun s => storeEntry 0xF0B0 32 Key.faultLogCount Key.faultLogOverflow
    (leBytes 8 s.vns ++ leBytes 1 source ++ leBytes 1 reaction ++ leBytes 1 unit ++ leBytes 1 (min 3 s.mismatchesNear) ++ leBytes 2 od
      ++ leBytes 3 row ++ leBytes 3 0 ++ leBytes 8 address ++ leBytes 4 0) (Act.vectorOf Key.faultVector)

/-- A delivery fault (R262): counted, logged, signalled and reported to the fault collector. -/
def deliveryFault (stream port kind sojourn bound : Nat) : Act :=
  .dep fun s =>
    let image := leBytes 8 s.vns ++ leBytes 2 stream ++ leBytes 1 port ++ leBytes 1 kind
      ++ leBytes 4 (min sojourn (2 ^ 32 - 1)) ++ leBytes 4 bound ++ leBytes 12 0
    Act.all [Act.bumpF .live 0xF077 stream F.stFaults, Act.bump Key.deliveryFaultTotal,
      if s.get Key.deliveryFaultLogCount < 16 then
        Act.all [Act.setRow .live 0xF07A (s.get Key.deliveryFaultLogCount) 0 image, Act.bump Key.deliveryFaultLogCount]
      else Act.bump Key.deliveryFaultOverflow,
      Act.vectorOf Key.deliveryFaultVector,
      faultEntry 0x30 0x06 port stream 0 0]

/-- The counter of a failure reason in a row of RouteCounters (R292). -/
def reasonField (reason : Nat) : Fld := ⟨(16 + 4 * (reason - 1)) * 8, 32, .any, 0, true⟩

/-- The failure log (R280): a new entry, a merge with the entry stored last, or an overflow. -/
def failureEntry (ident source target reason : Nat) (whole : Bool) (cls kind route : Nat) : Act :=
  .dep fun s =>
    let n := s.get Key.gatewayFailureCount
    let l := n - 1
    let same := n != 0 && s.fld .live 0xF082 l F.gwlogSource == source && s.fld .live 0xF082 l F.gwlogIdent == ident
      && s.fld .live 0xF082 l F.gwlogTarget == target && s.fld .live 0xF082 l F.gwlogReason == reason
    if same then
      Act.all [Act.bumpF .live 0xF082 l F.gwlogRepeats, Act.setF .live 0xF082 l F.gwlogLast s.vns]
    else
      storeEntry 0xF082 64 Key.gatewayFailureCount Key.gatewayFailureOverflow
        (leBytes 8 s.vns ++ leBytes 4 ident ++ leBytes 1 source ++ leBytes 1 target ++ leBytes 1 reason
          ++ leBytes 1 ((if whole then 128 else 0) + cls) ++ leBytes 1 kind ++ leBytes 1 0 ++ leBytes 2 route
          ++ leBytes 2 1 ++ leBytes 2 0 ++ leBytes 8 s.vns)
        (Act.vectorOf Key.gatewayFailureVector)

/-- The identifier of a bus frame cell as received (R106). -/
def Frame.ident (f : Frame) : Nat := if f.kind = 0 then 0 else leNat (octetsAt f.octets 4 4)

/-- A gateway failure of one copy to a port (R279). -/
def failCopy (f : Frame) (route : Option Nat) (port cls reason : Nat) : Act :=
  Act.all [
    match route with
      | some r => Act.bumpF .live 0xF083 r (reasonField reason)
      | none => .skip,
    Act.when (reason == 1) (Act.bump Key.lifetimeExpiries),
    Act.when (reason == 5) (Act.bump Key.transformFailures),
    failureEntry f.ident f.source port reason false (gatewayClass cls) f.kind (route.getD 0xFFFF)]

/-- A gateway failure of a whole routed frame (R279, reasons 0x03 and 0x07). -/
def failFrame (f : Frame) (route cls reason : Nat) : Act :=
  Act.all [Act.bumpF .live 0xF083 route (reasonField reason),
    failureEntry f.ident f.source 0 reason true (gatewayClass cls) f.kind route]

/-- A routed copy is lost for a reason; any other copy records nothing. -/
def loseCopy (c : Copy) (reason : Nat) : Act :=
  .dep fun s =>
    match c.pair, s.frame? c.frame with
    | some (r, _), some f => failCopy f (some r) c.port c.tc reason
    | _, _ => .skip

/-- Releases the stored frames that no copy holds and whose last octet has arrived (R184). -/
def settleFrames : Act :=
  .dep fun s => .setFrames (s.frames.filter fun f =>
    !(f.stage == .stored && f.complete && (s.copiesOf f.id).isEmpty))

/-- Ends the copies that a test picks (R184). -/
def endCopies (p : Copy → Bool) : Act :=
  .seq (.dep fun s => .setCopies (s.copies.filter fun c => !p c)) settleFrames

/-- Ends one copy. -/
def endCopy (c : Copy) : Act := endCopies fun d => d.seq == c.seq

/-- Replaces one copy. -/
def setCopy (seq : Nat) (f : Copy → Copy) : Act :=
  .dep fun s => .setCopies (s.copies.map fun c => if c.seq = seq then f c else c)

/-- Replaces one frame. -/
def setFrame (id : Nat) (f : Frame → Frame) : Act :=
  .dep fun s => .setFrames (s.frames.map fun x => if x.id = id then f x else x)

/-- Removes a frame that holds no descriptor. -/
def dropFrame (id : Nat) : Act := .dep fun s => .setFrames (s.frames.filter fun x => x.id != id)

end Sys2Proof.Machine
end

