-- ==== Sys2Proof/Machine/Keyring.lean ====
section
/-! DEFINITION. What the users of the key table see of it (R330 to R333). -/

namespace Sys2Proof.Machine

/-- State and Generation of a slot. -/
def State.slotState (s : State) (n : Nat) : Nat := s.fld .live 0xF098 n F.keyState
def State.slotGeneration (s : State) (n : Nat) : Nat := s.fld .live 0xF098 n F.keyGeneration

/-- Whether a slot is usable (R333): Loaded, and slot 0 or under a usable parent of the recorded generation. A chain of
parents has at most 8 slots (Depth 0 to 7). -/
def usableWithin (s : State) : Nat → Nat → Bool
  | 0, _ => false
  | fuel + 1, n =>
    s.slotState n == 1 && (n == 0 ||
      (let p := s.fld .live 0xF098 n F.keyParent
       usableWithin s fuel p && s.fld .live 0xF098 n F.keyParentGen == s.slotGeneration p))

/-- R333. -/
def State.usable (s : State) (n : Nat) : Bool := usableWithin s 8 n

/-- The kind of a slot (R331). -/
def State.slotKind (s : State) (n : Nat) : Nat := s.fld .live 0xF098 n F.keyKind

/-- The material of the slots from `n` on, `len` octets. -/
def State.material (s : State) (n len : Nat) : List Byte :=
  ((List.range (cdiv len 32)).flatMap fun i => s.rowOctets .live 0xF098 (n + i) 0 32).take len

/-- The AES key of a slot for a user of R332; none when the slot is unusable for it. -/
def State.aesKey (s : State) (n user : Nat) : Option (List Byte) :=
  if s.usable n && (s.fld .live 0xF098 n F.keyUsage).testBit user then
    match s.slotKind n with
    | 1 => some (s.material n 16)
    | 2 => some (s.material n 32)
    | _ => none
  else none

end Sys2Proof.Machine
end

