-- ==== Sys2Proof/Machine/Secy.lean ====
section
/-! DEFINITION. The SecYs of ports 0 to 47 (R296 to R303). -/

namespace Sys2Proof.Machine

/-- The MacsecSecY row in force on a port (R321, R112): 0 for a port without a SecY. -/
def State.secyImage (s : State) (p : Nat) : Nat :=
  if p < 48 && (s.kind p == 1 || s.kind p == 2) then s.get (Rg.secyRow p) - 1 else 0

/-- A field of an image. -/
def imageField (image : Nat) (f : Fld) : Nat := bits image f.bit f.width

/-- ValidateFrames in force: 0 while the SecY is not enabled. -/
def State.secyValidates (s : State) (p : Nat) : Nat :=
  let r := s.secyImage p
  if imageField r F.secyEnable = 1 then imageField r F.secyValidate else 0

/-- Whether the cipher suite takes a 256-bit key, and whether it is an XPN suite (R321). -/
def suiteLong (suite : Nat) : Bool := suite % 2 == 1
def suiteXpn (suite : Nat) : Bool := decide (2 ≤ suite)

/-- The key of an SA under a suite: in use, not restored without its key slot (R326), with a usable slot of the suite's length. -/
def State.saKey (s : State) (row suite : Nat) : Option (List Byte) :=
  if s.fldOn .live 0xF092 row F.saInUse && !s.flag (Rg.staleSa row) then
    (s.aesKey (s.fld .live 0xF092 row F.saKeySlot) 1).bind fun k =>
      if k.length = (if suiteLong suite then 32 else 16) then some k else none
  else none

/-- The IV of a GMAC (IEEE 802.1AE): SCI and PN, or SSCI and PN under the salt. -/
def State.saIv (s : State) (row suite : Nat) (sci : List Byte) (pn : Nat) : List Byte :=
  if suiteXpn suite then
    xorBytes (beBytes 4 (s.fld .live 0xF092 row F.saSsci) ++ beBytes 8 pn) (s.rowOctets .live 0xF092 row 16 12)
  else sci ++ beBytes 4 pn

/-- Whether the octets of an Ethernet frame carry a SecTAG directly after the SA. -/
def hasSecTag (bs : List Byte) : Bool := beAt bs 12 2 == 0x88E5

/-- The octets of the SecTAG with its EtherType. -/
def secTagLength (bs : List Byte) : Nat := if (bs.getD 14 0#8).toNat.testBit 5 then 16 else 8

/-- The receive SC of a frame (R297): its index, none without a valid one; and the SCI. -/
def State.receiveSc (s : State) (p : Nat) (bs : List Byte) : Option (Nat × List Byte) :=
  let tci := (bs.getD 14 0#8).toNat
  let named : Option (List Byte) :=
    if tci.testBit 5 then some (octetsAt bs 20 8)
    else if tci.testBit 6 then some (octetsAt bs 6 6 ++ [0#8, 1#8]) else none
  match named with
  | some sci =>
    ((List.range 4).find? fun c => s.fldOn .live 0xF091 (4 * p + c) F.rxscValid
      && s.rowOctets .live 0xF091 (4 * p + c) 8 8 == sci).map fun c => (c, sci)
  | none => if s.fldOn .live 0xF091 (4 * p) F.rxscValid then some (0, s.rowOctets .live 0xF091 (4 * p) 8 8) else none

/-- The 64-bit PN of an XPN frame (IEEE 802.1AE 10.6.2). -/
def recoverPn (lowest low32 : Nat) : Nat :=
  let up := if lowest.testBit 31 && !low32.testBit 31 then lowest / 2 ^ 32 + 1 else lowest / 2 ^ 32
  up * 2 ^ 32 + low32

/-- The outcomes of R298 for a frame with a SecTAG. -/
inductive SecOutcome where
  | verified (row pn : Nat)
  | failed
  | late
  | noSa
deriving DecidableEq, Repr

/-- Verification of a complete frame on a port (R297, R298); `bs` runs from the DA to the ICV. -/
def State.secVerify (s : State) (p : Nat) (bs : List Byte) : SecOutcome :=
  let suite := imageField (s.secyImage p) F.secySuite
  let tci := (bs.getD 14 0#8).toNat
  if tci.testBit 3 || tci.testBit 2 then .failed
  else match s.receiveSc p bs with
    | none => .noSa
    | some (c, sci) =>
      let row := 192 + 4 * (4 * p + c) + tci % 4
      match s.saKey row suite with
      | none => .noSa
      | some key =>
        let lowest := s.fld .live 0xF092 row F.saPn
        let low32 := beAt bs 16 4
        let pn := if suiteXpn suite then recoverPn lowest low32 else low32
        if decide (pn < lowest) && imageField (s.secyImage p) F.secyReplay == 1 then .late
        else
          let n := bs.length - 16
          if decide (12 + secTagLength bs ≤ n) && gmac key (s.saIv row suite sci pn) (bs.take n) == bs.drop n then
            .verified row pn
          else .failed

/-- The SecY's part of a frame's tail (R298, R299): whether the frame is found bad, and the act. -/
def State.secTail (s : State) (p : Nat) (bs : List Byte) : Bool × Act :=
  let strict := s.secyValidates p == 2
  match s.secVerify p bs with
  | .verified row pn =>
    let low := max (s.fld .live 0xF092 row F.saPn) (pn + 1 - s.fld .live 0xF090 p F.secyWindow)
    (false, Act.all [Act.bump (Key.inVerified p), Act.setF .live 0xF092 row F.saPn low,
      Act.bumpF .live 0xF092 row F.saFrames])
  | .failed => (strict, Act.bump (Key.inFailed p))
  | .late => (true, Act.bump (Key.inLate p))
  | .noSa => (strict, Act.bump (Key.inNoSa p))

/-- Whether the SecY of a port protects what leaves it. -/
def State.secyProtects (s : State) (p : Nat) : Bool :=
  let r := s.secyImage p
  imageField r F.secyEnable == 1 && imageField r F.secyProtect == 1

/-- The encoding SA of a port (R302). -/
def State.encodingSa (s : State) (p : Nat) : Nat := 4 * p + s.fld .live 0xF090 p F.secyEncoding

/-- Whether an encoding SA can protect a copy (R302). -/
def State.saSends (s : State) (p row : Nat) : Bool :=
  (s.saKey row (imageField (s.secyImage p) F.secySuite)).isSome && !s.fldOn .live 0xF092 row F.saExhausted

/-- The last PN of a suite. -/
def lastPn (suite : Nat) : Nat := if suiteXpn suite then 2 ^ 64 - 1 else 2 ^ 32 - 1

/-- A copy takes the next PN of an SA (R302). -/
def takePn (p row : Nat) : Act :=
  .dep fun s =>
    let r := s.secyImage p
    let last := lastPn (imageField r F.secySuite)
    let pn := s.fld .live 0xF092 row F.saPn
    let warns := decide (last - pn ≤ imageField r F.secyWarnAt) && !s.fldOn .live 0xF092 row F.saWarned
    Act.all [Act.bump (Key.outProtected p), Act.bumpF .live 0xF092 row F.saFrames,
      if last ≤ pn then Act.setF .live 0xF092 row F.saExhausted 1 else Act.setF .live 0xF092 row F.saPn (pn + 1),
      Act.when warns (Act.all [Act.setF .live 0xF092 row F.saWarned 1, Act.vectorOf Key.integrityEventVector])]

/-- The SCI of a port's transmit SC (R321). -/
def State.ownSci (s : State) (p : Nat) : List Byte :=
  octetsAt (leBytes 32 (s.secyImage p)) 16 6 ++ beBytes 2 (imageField (s.secyImage p) F.secyPortIdent)

/-- The protection that an SA gives a copy that begins to leave a port (R302, R303); none where its key cannot be used. -/
def State.secUse (s : State) (p row : Nat) : Option SecUse :=
  let suite := imageField (s.secyImage p) F.secySuite
  let pn := s.fld .live 0xF092 row F.saPn
  (s.saKey row suite).map fun key => ⟨row, pn, s.fld .live 0xF092 row F.saKeySlot, key, s.saIv row suite (s.ownSci p) pn⟩

/-- A frame protected on a port (R300): SecTAG after the SA, ICV at the end. `bs` has no FCS. -/
def State.protect (s : State) (p : Nat) (u : SecUse) (bs : List Byte) : List Byte :=
  let sc := imageField (s.secyImage p) F.secyIncludeSci == 1
  let body := bs.drop 12
  let tci := (if sc then 32 else 0) + u.row % 4
  let tagged := bs.take 12 ++ beBytes 2 0x88E5 ++ beBytes 1 tci
    ++ beBytes 1 (if body.length < 48 then body.length else 0) ++ beBytes 4 u.pn ++ (if sc then s.ownSci p else []) ++ body
  tagged ++ gmac u.key u.iv tagged

/-- A frame without the SecTAG and ICV that its ingress SecY handled (R300). -/
def stripSec (bs : List Byte) : List Byte :=
  let body := bs.take 12 ++ bs.drop (12 + secTagLength bs)
  body.take (body.length - 16)

end Sys2Proof.Machine
end

