-- ==== Sys2Proof/Machine/Gate.lean ====
section
/-! DEFINITION. The gate engine (R212 to R217): operational lists, gate states at an instant, how long a gate stays open,
the change to a new list, and preemption's conditions (R222, R223). -/

namespace Sys2Proof.Machine

/-- One entry of a gate control list within a cycle, in ns from the cycle's start (R214). -/
structure Span where
  entry : Nat
  start : Nat
  finish : Nat
  states : Nat
  op : Nat
deriving DecidableEq, Repr

/-- The spans of a cycle: entries cut at the end of the cycle, the last one held until it (R214). -/
def spansFrom (cycle : Nat) (entry : Nat → Nat) : Nat → Nat → Nat → List Span
  | 0, _, _ => []
  | n + 1, i, start =>
    if cycle ≤ start then []
    else
      let img := entry i
      let fin := if n = 0 then cycle else min cycle (start + imageField img F.gclInterval)
      ⟨i, start, fin, imageField img F.gclStates, imageField img F.gclOperation⟩ :: spansFrom cycle entry n (i + 1) fin

/-- The spans of the running list of a port, and of the list that waits for ConfigChangeTime. -/
def State.spans (s : State) (p : Nat) : List Span :=
  let r := s.get (Rg.gateRow p)
  spansFrom (imageField r F.ptimCycle) (fun i => s.get (Rg.gateList p i)) (imageField r F.ptimLength) 0 0
def State.nextSpans (s : State) (p : Nat) : List Span :=
  let r := s.get (Rg.gateNextRow p)
  spansFrom (imageField r F.ptimCycle) (fun i => s.get (Rg.gateNextList p i)) (imageField r F.ptimLength) 0 0

/-- Where an instant lies in the cycle of a PortTiming row, in 2^-16 ns. -/
def cycleOffset (row t : Nat) : Nat :=
  (((t : Int) - ns (imageField row F.ptimBase)) % (ns (imageField row F.ptimCycle) : Int)).toNat

/-- The span of an offset. -/
def spanAt (l : List Span) (off : Nat) : Option Span := l.find? fun x => decide (off < ns x.finish)

/-- How long after an offset the gate of a class is first closed; none when no span closes it. -/
def closesAfter (l : List Span) (cycle tc off : Nat) : Option Nat :=
  let shut := l.filter fun x => !x.states.testBit tc
  match shut.find? fun x => decide (off < ns x.finish) with
  | some x => some (ns x.start - off)
  | none => shut.head?.map fun x => ns cycle - off + ns x.start

/-- Whether a class is open in a running list throughout an interval. -/
def listOpen (l : List Span) (row tc a b : Nat) : Bool :=
  match closesAfter l (imageField row F.ptimCycle) tc (cycleOffset row a) with
  | none => true
  | some d => decide (b ≤ a + d)

/-- The exact ConfigChangeTime in 2^-16 ns, when one is pending. -/
def State.changeAt (s : State) (p : Nat) : Option Nat :=
  match s.get (Rg.gateChange p) with
  | 0 => none
  | t + 1 => some t

/-- The first old cycle start that R217 does not make, when there is one before the change. -/
def State.lastStart (s : State) (p cct : Nat) : Option Nat :=
  let r := s.get (Rg.gateRow p)
  let ext := ns (imageField r F.ptimExtension)
  let lim := max (s.get (Rg.gateSwap p)) (cct + 1 - ext)
  let off := cycleOffset r lim
  let first := if off = 0 then lim else lim + ns (imageField r F.ptimCycle) - off
  if ext ≠ 0 ∧ first < cct then some first else none

/-- Whether the old list of a port keeps a class open throughout an interval that ends by the change (R217). -/
def State.oldOpen (s : State) (p tc a b cct : Nat) : Bool :=
  let l := s.spans p
  let r := s.get (Rg.gateRow p)
  match s.lastStart p cct with
  | none => listOpen l r tc a b
  | some x =>
    let lastOpen := match l.getLast? with
      | some y => y.states.testBit tc
      | none => true
    if b ≤ x then listOpen l r tc a b
    else if a < x then listOpen l r tc a x && lastOpen
    else lastOpen

/-- Whether the gate of a class is open throughout [a, b), in vehicle time (R218). -/
def State.gateOpen (s : State) (p tc a b : Nat) : Bool :=
  match s.get (Key.gateOperState p), s.changeAt p with
  | 1, _ => listOpen (s.spans p) (s.get (Rg.gateRow p)) tc a b
  | 2, some c =>
    if b ≤ c then s.oldOpen p tc a b c
    else (decide (c ≤ a) || s.oldOpen p tc a c c)
      && listOpen (s.nextSpans p) (s.get (Rg.gateNextRow p)) tc (max a c) b
  | 3, some c =>
    (decide (c ≤ a) || (imageField (s.get (Rg.gateNextRow p)) F.ptimAdminStates).testBit tc)
      && (decide (b ≤ c) || listOpen (s.nextSpans p) (s.get (Rg.gateNextRow p)) tc (max a c) b)
  | _, _ => true

/-- The entry that applies at an instant of a running list; none between lists. -/
def State.entryAt (s : State) (p t : Nat) : Option Span :=
  let l := s.spans p
  let off := cycleOffset (s.get (Rg.gateRow p)) t
  match s.get (Key.gateOperState p), s.changeAt p with
  | 1, _ => spanAt l off
  | 2, some c =>
    match s.lastStart p c with
    | some x => if x ≤ t then l.getLast? else spanAt l off
    | none => spanAt l off
  | _, _ => none

/-- A PortTiming field of the Fair copy. -/
def State.timing (s : State) (p : Nat) (f : Fld) : Nat := s.fld .fair 0xF060 p f

/-- Whether preemption is supported on a port (R222). -/
def State.preemptable (s : State) (p : Nat) : Bool :=
  s.kind p == 1 || (s.kind p == 2 && s.inForce (Key.t1Speed p) == 2)

/-- Whether preemption is active on a port (R222). -/
def State.preempting (s : State) (p : Nat) : Bool :=
  s.preemptable p && s.timing p F.ptimPreempt == 1 && s.isUp p
    && (s.get (Key.verifyStatus p) == 3 || s.inForce (Key.verifyDisable p) == 1)

/-- The longest that a preemption takes on a port (R223), for an AddFragSize. -/
def State.preemptionTime (s : State) (p a : Nat) : Nat := serialTime (64 * (1 + a) + 63) (s.rate p)

/-- HoldAdvance (R223), in ns; 0 while preemption is not active. -/
def State.holdAdvance (s : State) (p : Nat) : Nat :=
  if s.preempting p then cdiv (s.preemptionTime p (s.timing p F.ptimAddFrag)) 65536 else 0

/-- The hold or release entry of a list that started last by an instant (R223): its start, and whether it holds. -/
def lastHold (l : List Span) (row t : Nat) : Option (Nat × Bool) :=
  let ops := l.filter fun x => x.op == 1 || x.op == 2
  let off := cycleOffset row t
  match (ops.filter fun x => decide (ns x.start ≤ off)).getLast? with
  | some x => some (t - (off - ns x.start), x.op == 1)
  | none =>
    let back := off + ns (imageField row F.ptimCycle)
    (ops.getLast?.filter fun x => decide (back - ns x.start ≤ t)).map fun x => (t - (back - ns x.start), x.op == 1)

/-- Whether hold applies at an instant not before now (R223): as the hold or release entry says that started last by then, of those
that really start (R216, R217) and that the gate engine has not acted upon yet; else as it stands. Without preemption none applies
(R214). -/
def State.holdsAt (s : State) (p t : Nat) : Bool :=
  let since := fun l row lo hi => (lastHold l row hi).filter fun x => decide (lo ≤ x.1)
  let seen := s.get (Rg.gateSeen p)
  let old := fun hi => since (s.spans p) (s.get (Rg.gateRow p)) seen hi
  let new := fun c => since (s.nextSpans p) (s.get (Rg.gateNextRow p)) (max c seen) t
  let found := match s.get (Key.gateOperState p), s.changeAt p with
    | 1, _ => old t
    | 2, some c =>
      let made := fun hi => old (match s.lastStart p c with
        | some x => min hi (x - 1)
        | none => hi)
      if c ≤ t then (new c).or (made (c - 1)) else made t
    | 3, some c => if c ≤ t then new c else none
    | _, _ => none
  s.preempting p && (found.map fun x => x.2).getD (s.flag (Rg.gateHold p))

/-- The gate engine has acted on every entry that has started by now. -/
def gateActs (p : Nat) : Act :=
  .dep fun s => .seq (.put (Rg.gateHold p) (if s.holdsAt p s.vtime then 1 else 0)) (.put (Rg.gateSeen p) (s.vtime + 1))

/-- Preemption may become active on a port: the entries that have started act as SetGateStates (R214). -/
def gateArms (p : Nat) : Act :=
  .dep fun s => Act.when (s.preemptable p)
    (.seq (.put (Rg.gateHold p) 0) (.put (Rg.gateSeen p) (max (s.get (Rg.gateSeen p)) s.vtime)))

/-- A copy on the wire whose class's gate closes is counted once (R221). A preemptable transmission is not an overrun where it
ends within the bound of R223 after the close: the close is noted, and `overrunEnds` counts it if it does not. -/
def countOverrun (p states : Nat) : Act :=
  .dep fun s =>
    Act.each (s.copies.filter fun c => c.port == p && c.phase == .wire && !s.notStarted c) fun c =>
      Act.when (!states.testBit c.tc && s.get (Rg.overrun p) != c.seq + 1)
        (if s.flag (Rg.fragmentFrom p) then
          Act.when (s.get (Rg.closing p) != c.seq + 1) (.seq (.put (Rg.closing p) (c.seq + 1)) (.put (Rg.closingAt p) s.now))
        else Act.all [.put (Rg.overrun p) (c.seq + 1), Act.bump (Key.transmissionOverruns p)])

/-- A preemptable transmission ends or is preempted (R221): it is counted where it ran beyond the bound of R223. -/
def overrunEnds (c : Copy) : Act :=
  .dep fun s =>
    let p := c.port
    Act.when (s.get (Rg.closing p) == c.seq + 1) (.seq (.put (Rg.closing p) 0)
      (Act.when (s.get (Rg.overrun p) != c.seq + 1
          && decide (s.get (Rg.closingAt p) + s.preemptionTime p (s.get (Rg.fragmentSize p)) < s.now))
        (Act.all [.put (Rg.overrun p) (c.seq + 1), Act.bump (Key.transmissionOverruns p)])))

/-- A CAN copy that is staged but not on the bus when its gate closes returns to its queue (R220, R229). -/
def unstage (p states : Nat) : Act :=
  .dep fun s => .setCopies (s.copies.map fun c =>
    if c.port == p && c.phase == .staged && !states.testBit c.tc then { c with phase := .waiting } else c)

/-- Gate states take effect (R214, R221). -/
def applyStates (p states : Nat) : Act :=
  Act.all [.put (Key.currentGateStates p) states, countOverrun p states, unstage p states]

/-- The gate engine finds its place and applies the entry that runs at this instant (R207, R214, R223). -/
def gateRefresh (p : Nat) : Act :=
  .dep fun s =>
    match s.entryAt p s.vtime with
    | none => .skip
    | some x => Act.all [.put (Key.currentEntry p) x.entry, gateActs p, applyStates p x.states]

/-- The gate engine finds its place from a new vehicle time (R207): of the entries before it only the one that runs there has an
effect. -/
def gateLands (p : Nat) : Act :=
  .dep fun s =>
    let into := match s.entryAt p s.vtime with
      | some x => cycleOffset (s.get (Rg.gateRow p)) s.vtime - ns x.start
      | none => 0
    .seq (.put (Rg.gateSeen p) (s.vtime - into)) (gateRefresh p)

/-- GateOperState changes, with its vector (R230), and the change is noted for the copies that are on their way (R250). -/
def gateState (p v : Nat) : Act :=
  .seq (Act.putNotify (Key.gateOperState p) v (Key.gateEventVector p)) (.dep fun s =>
    let n := s.get (Rg.gateMoves p)
    Act.all [.put (Rg.gateMoves p) (n + 1), .put (Rg.gateMoveAt p n) s.now,
      .put (Rg.gateMoveOn p n) (if v = 2 ∨ v = 3 then 1 else 0), .put (Rg.gateMoveFirst p n) (s.get (Rg.gateFirst p))])

/-- Whether a copy that leaves a port at a true time, with a given egress timestamp, leaves in a transition of its gates or in the first
cycle of a new list (R250). -/
def State.movesAt (s : State) (p at' stamp : Nat) : Bool :=
  match (List.range (s.get (Rg.gateMoves p))).reverse.find? fun i => decide (s.get (Rg.gateMoveAt p i) ≤ at') with
  | some i => s.flag (Rg.gateMoveOn p i) || decide (stamp < s.get (Rg.gateMoveFirst p i))
  | none => false

/-- The image of a PortTiming row and of its list's entries in a generation. -/
def State.timingImage (s : State) (g : Gen) (p : Nat) : Nat := leNat (s.rowOctets g 0xF060 p 0 32)
def State.listImage (s : State) (g : Gen) (p i : Nat) : Nat := leNat (s.rowOctets g 0xF061 (1024 * p + i) 0 8)

/-- A new list waits for its ConfigChangeTime from the swap instant on (R216). -/
def gateConfigure (p : Nat) : Act :=
  .dep fun s =>
    let r := s.timingImage .fair p
    let t := s.vtime
    let base := ns (imageField r F.ptimBase)
    let cycle := ns (imageField r F.ptimCycle)
    if imageField r F.ptimGate = 0 then
      Act.all [.put (Rg.gateOn p) 0, .put (Rg.gateChange p) 0, .put (Rg.gateHold p) 0, .put (Key.configChangeTime p) 0,
        .put (Key.operCycleTime p) 0, .put (Key.currentEntry p) 0, .put (Key.currentGateStates p) 255, gateState p 0]
    else
      let cct := if t ≤ base then base else base + cdiv (t - base) cycle * cycle
      let n := imageField r F.ptimLength
      Act.all [.put (Rg.gateNextRow p) r,
        Act.each (List.range n) fun i => .put (Rg.gateNextList p i) (s.listImage .fair p i),
        .put (Rg.gateChange p) (cct + 1), .put (Rg.gateSwap p) t, .put (Key.configChangeTime p) (cct / 65536),
        if s.flag (Rg.gateOn p) then gateState p 2
        else Act.all [gateState p 3, .put (Key.currentEntry p) 0, .put (Key.operCycleTime p) 0,
          applyStates p (imageField r F.ptimAdminStates)]]

/-- At ConfigChangeTime the new list starts at entry 0 (R216). -/
def gateChangeOver (p cct : Nat) : Act :=
  .dep fun s =>
    let r := s.get (Rg.gateNextRow p)
    let cycle := imageField r F.ptimCycle
    Act.all [gateActs p, .put (Rg.gateRow p) r,
      Act.each (List.range (imageField r F.ptimLength)) fun i => .put (Rg.gateList p i) (s.get (Rg.gateNextList p i)),
      .put (Rg.gateOn p) 1, .put (Rg.gateChange p) 0, .put (Key.configChangeTime p) 0, .put (Key.operCycleTime p) cycle,
      .put (Rg.gateFirst p) (cct + ns cycle), Act.bump (Key.configChanges p), gateState p 1, gateRefresh p]

/-- Whether two generations differ in a row. -/
def State.rowDiffers (s : State) (g h : Gen) (idx row stride : Nat) : Bool :=
  s.rowOctets g idx row 0 stride != s.rowOctets h idx row 0 stride

/-- The rows of a table in which two generations differ. -/
def State.changedRows (s : State) (g h : Gen) (idx stride : Nat) : List Nat :=
  (s.listedRows g idx ++ s.listedRows h idx).dedup.filter fun r => s.rowDiffers g h idx r stride

/-- The ports whose PortTiming row or list differs between the previous generation and the Fair copy (R216). -/
def State.retimedPorts (s : State) : List Nat :=
  (s.changedRows .prev .fair 0xF060 32 ++ (s.changedRows .prev .fair 0xF061 8).map fun r => r / 1024).dedup

end Sys2Proof.Machine
end

