-- ==== Sys2Proof/Machine/Gateway.lean ====
section
/-! DEFINITION. The bus gateway (step 6 for bus frame cells): the route lookup, identifiers and formats (R267 to R275). -/

namespace Sys2Proof.Machine

/-- A bus frame cell (R105) from its parts; `stamp` is the ingress timestamp in 2^-16 ns. -/
def mkCell (kind source ident flags sdt vcid dlc af stamp : Nat) (data : List Byte) : List Byte :=
  leBytes 1 (kind * 16) ++ leBytes 1 source ++ leBytes 2 data.length ++ leBytes 4 ident ++ leBytes 1 flags ++ leBytes 1 sdt
    ++ leBytes 1 vcid ++ leBytes 1 dlc ++ leBytes 4 af ++ leBytes 8 (stamp / 65536) ++ leBytes 2 (stamp % 65536)
    ++ leBytes 1 (cellsOf (32 + data.length)) ++ leBytes 5 0 ++ data

/-- Fields of a cell. -/
def cellKind (c : List Byte) : Nat := leNat (octetsAt c 0 1) / 16
def cellSource (c : List Byte) : Nat := leNat (octetsAt c 1 1)
def cellIdent (c : List Byte) : Nat := leNat (octetsAt c 4 4)
def cellFlags (c : List Byte) : Nat := leNat (octetsAt c 8 1)
def cellAf (c : List Byte) : Nat := leNat (octetsAt c 12 4)
def cellStamp (c : List Byte) : Nat := leNat (octetsAt c 16 8) * 65536 + leNat (octetsAt c 24 2)
def cellData (c : List Byte) : List Byte := c.drop 32

/-- The identifier that matching and every computation takes: a LIN cell's without the received parity (R268). -/
def routeIdent (c : List Byte) : Nat := if cellKind c = 4 then cellIdent c % 64 else cellIdent c

/-- The matching route of a cell: the lowest-numbered row (R268). -/
def routeLookup (s : State) (g : Gen) (c : List Byte) : Option Nat :=
  (s.rowsWhere g 0xF080 fun r => s.fldOn g 0xF080 r F.routeValid).find? fun r =>
    s.fld g 0xF080 r F.routeSource == cellSource c
      && (s.fld g 0xF080 r F.routeKinds).testBit (cellKind c - 1)
      && ((routeIdent c ^^^ s.fld g 0xF080 r F.routeIdent) &&& s.fld g 0xF080 r F.routeMask) == 0

/-- A bitwise choice: the bits of `i` where the mask is set, of `x` where it is clear. -/
def mergeBits (w x i mask : Nat) : Nat := (x &&& (2 ^ w - 1 - mask % 2 ^ w)) ||| (i &&& mask)

/-- The identifier of a copy (R272). -/
def idMode (mode sIdent mask ident : Nat) : Nat :=
  match mode with
  | 0 => sIdent
  | 1 => ident
  | 2 => mergeBits 32 sIdent ident mask
  | 3 => setBits sIdent 0 8 ident
  | _ =>
    let v := setBits sIdent 0 8 ident
    if bits sIdent 16 8 < 0xF0 then setBits v 8 8 (bits ident 8 8) else v

/-- The CAN FD data lengths in the order of their DLC. -/
def fdLengths : List Nat := [0, 1, 2, 3, 4, 5, 6, 7, 8, 12, 16, 20, 24, 32, 48, 64]

/-- The DLC of the smallest CAN FD data length that holds `n` octets. -/
def fdDlc (n : Nat) : Nat := (fdLengths.takeWhile fun l => decide (l < n)).length

/-- Octets padded to a length. -/
def padTo (n : Nat) (b : Byte) (bs : List Byte) : List Byte := bs ++ List.replicate (n - bs.length) b

/-- An ACF message (R274; IEEE 1722-2016, log entry 7) for a cell with the identifier of R272. -/
def acfMessage (c : List Byte) (ident busId : Nat) : List Byte :=
  let data := cellData c
  let n := cdiv data.length 4 * 4
  let pad := n - data.length
  let fl := cellFlags c
  if cellKind c = 4 then
    beBytes 2 (3 * 512 + (12 + n) / 4) ++ beBytes 1 (pad * 64 + 32 + busId) ++ beBytes 1 ident
      ++ beBytes 8 (cellStamp c / 65536) ++ padTo n 0#8 data
  else
    let fdf := if cellKind c = 1 then 0 else 1
    let rtr := if cellKind c = 1 then fl % 2 else 0
    let brs := if cellKind c = 2 then fl / 2 % 2 else 0
    let esi := if cellKind c = 2 then fl / 4 % 2 else 0
    beBytes 2 (1 * 512 + (16 + n) / 4)
      ++ beBytes 1 (pad * 64 + 32 + rtr * 16 + ident / 2 ^ 31 % 2 * 8 + brs * 4 + fdf * 2 + esi) ++ beBytes 1 busId
      ++ beBytes 8 (cellStamp c / 65536) ++ beBytes 4 (ident % 2 ^ 29) ++ padTo n 0#8 data

/-- The IEEE 1722 frame of a copy (R274), without its FCS and with sequence_num 0. -/
def acfFrame (s : State) (g : Gen) (x : Nat) (tscf : Bool) (c : List Byte) (ident : Nat) : List Byte :=
  let msg := acfMessage c ident (s.fld g 0xF081 x F.xpBusId)
  let tag := if s.fldOn g 0xF081 x F.xpTagged then
      beBytes 2 0x8100 ++ beBytes 2 (s.fld g 0xF081 x F.xpPcp * 2 ^ 13 + s.fld g 0xF081 x F.xpVid)
    else []
  let sid := s.rowOctets g 0xF081 x 16 8
  let avtp := if tscf then
      beBytes 2 (0x05 * 256 + 0x81) ++ beBytes 1 0 ++ beBytes 1 0 ++ sid
        ++ beBytes 4 (cellStamp c / 65536 + s.fld g 0xF081 x F.xpOffset) ++ beBytes 4 0 ++ beBytes 2 msg.length ++ beBytes 2 0
    else beBytes 1 0x82 ++ beBytes 2 (0x8000 + msg.length) ++ beBytes 1 0 ++ sid
  padTo 60 0#8 (s.rowOctets g 0xF081 x 4 6 ++ s.rowOctets g 0xF081 x 10 6 ++ tag ++ beBytes 2 0x22F0 ++ avtp ++ msg)

/-- Where sequence_num lies in such a frame, which may carry an R-tag (R246). -/
def acfSequenceAt (fr : List Byte) : Nat :=
  let a := if beAt fr 12 2 = 0x8100 then 18 else 14
  let o := if beAt fr (a - 2) 2 = 0xF1C1 then a + 6 else a
  if beAt fr o 1 = 0x82 then o + 3 else o + 2

/-- The form that a pair gives a cell (R273), none when the format cannot carry it. -/
def convert (s : State) (g : Gen) (r j : Nat) (c : List Byte) : Option (List Byte) :=
  let fmt := s.fld g 0xF080 r (F.routePairFormat j)
  let x := s.fld g 0xF080 r (F.routePairProfile j)
  let mode := s.fld g 0xF080 r (F.routePairIdMode j)
  let ident := idMode mode (routeIdent c) (s.fld g 0xF080 r F.routeMask) (s.fld g 0xF080 r (F.routePairIdent j))
  let k := cellKind c
  let data := cellData c
  let n := data.length
  let ok := s.fldOn g 0xF081 x F.xpValid
  let pad : Byte := if ok then BitVec.ofNat 8 (s.fld g 0xF081 x F.xpPad) else 0#8
  let remote := k = 1 && cellFlags c % 2 = 1
  let src := cellSource c
  let stamp := cellStamp c
  let canLin := 1 ≤ k && k ≤ 4
  match fmt with
  | 0 =>
    if mode = 0 then some c
    else some (overlay c 4 (leBytes 4 ident))
  | 1 => if canLin && n ≤ 8 then some (mkCell 1 src ident (if remote then 1 else 0) 0 0 n 0 stamp data) else none
  | 2 =>
    if canLin && n ≤ 64 && !remote then
      let dlc := fdDlc n
      let brs := if ok then s.fld g 0xF081 x F.xpBrs else if k = 2 then cellFlags c / 2 % 2 else 0
      let esi := if k = 2 then cellFlags c / 4 % 2 else 0
      some (mkCell 2 src ident (brs * 2 + esi * 4) 0 0 dlc 0 stamp (padTo (fdLengths.getD dlc 64) pad data))
    else none
  | 3 =>
    if canLin && n ≤ 2048 && !remote then
      if k = 3 then
        some (mkCell 3 src ident (cellFlags c) (leNat (octetsAt c 9 1)) (leNat (octetsAt c 10 1)) 0 (cellAf c) stamp
          (padTo 1 pad data))
      else
        some (mkCell 3 src (s.fld g 0xF081 x F.xpXlId) (s.fld g 0xF081 x F.xpXlSec * 8) (s.fld g 0xF081 x F.xpSdt)
          (s.fld g 0xF081 x F.xpVcid) 0 ident stamp (padTo 1 pad data))
    else none
  | 4 => if canLin && (k != 3 || n ≤ 64) then some (acfFrame s g x false c ident) else none
  | 5 => if canLin && (k != 3 || n ≤ 64) then some (acfFrame s g x true c ident) else none
  | _ =>
    if canLin && n ≤ 8 then some (mkCell 4 src (ident % 64) 0 0 0 0 0 stamp (padTo 1 pad data)) else none

/-- A forwarding target of step 6. -/
structure Target where
  port : Nat
  pair : Option (Nat × Nat) := none
  /-- The lifetime it carries, in units of 100 µs (R277). -/
  lifetime : Option Nat := none
  form : Option (List Byte) := none
  profile : Option Nat := none
  /-- The block built the frame: R182 does not act on the copy. -/
  asIs : Bool := false
deriving DecidableEq, Repr

/-- Whether the gateway channel of a bus attachment is Enabled (R282); other ports have none. -/
def State.channelEnabled (s : State) (p : Nat) : Bool := !s.isBus p || s.get (Key.gatewayChannelState p) == 2

/-- What a lookup of step 6 gives: the forwarding targets, the GatewayRoutes row, the reason of an exception copy, whether step 6
drops the frame, so that no replication target is added (R12, R248), and what it changes. -/
structure Lookup where
  targets : List Target := []
  route : Option Nat := none
  reason : Option Nat := none
  discarded : Bool := false
  act : Act := .skip

/-- What the routing table gives a cell (R268, R269). A cell that finds no route has no forwarding target, replication included
(log entry 118). -/
def route (s : State) (g : Gen) (f : Frame) : Lookup :=
  let src := cellSource f.octets
  if !s.channelEnabled src then { discarded := true, act := Act.bump (Key.gatewayDisabledDrops src) }
  else match routeLookup s g f.octets with
    | none => { reason := if s.flag Key.noRouteAction then some 0x0C else none, discarded := true, act := Act.bump Key.noRouteFrames }
    | some r =>
      let life := s.fld g 0xF080 r F.routeLifetime
      let pairs := (List.range 8).filter fun j => s.fldOn g 0xF080 r (F.routePairValid j)
      let found := pairs.map fun j => (j, convert s g r j f.octets)
      let good := found.filterMap fun x => x.2.map fun form =>
        let fmt := s.fld g 0xF080 r (F.routePairFormat x.1)
        ({ port := s.fld g 0xF080 r (F.routePairPort x.1), pair := some (r, x.1), lifetime := some life, form := some form,
           profile := if fmt = 4 || fmt = 5 then some (s.fld g 0xF080 r (F.routePairProfile x.1)) else none } : Target)
      let bad := found.filter fun x => x.2.isNone
      { targets := good, route := some r
        act := Act.all [Act.bumpF .live 0xF083 r F.rcntMatched, Act.bump Key.routedFrames,
          Act.each bad fun x => failCopy f (some r) (s.fld g 0xF080 r (F.routePairPort x.1)) f.cls 5] }

end Sys2Proof.Machine
end

