-- ==== Sys2Proof/Machine/Forward.lean ====
section
/-! DEFINITION. Bridging (step 6 for Ethernet frames): VLAN classification, learning and the destination lookup
(R174 to R182). -/

namespace Sys2Proof.Machine

/-- The bucket of a VID and address (R178). -/
def fdbBucket (vid addr : Nat) : Nat := crc32c (beBytes 2 vid ++ beBytes 6 addr) % 2 ^ 13

/-- The row of the forwarding database that holds a VID and address. -/
def fdbLookup (s : State) (vid addr : Nat) : Option Nat :=
  (List.range 4).findSome? fun w =>
    let r := 4 * fdbBucket vid addr + w
    if s.fldOn .live 0xF052 r F.fdbValid && s.fld .live 0xF052 r F.fdbVid == vid
        && beNat (s.rowOctets .live 0xF052 r 0 6) == addr then some r else none

/-- Learning (R180). -/
def learn (s : State) (g : Gen) (port vid addr : Nat) : Act :=
  match fdbLookup s vid addr with
  | some r =>
    if s.fldOn .live 0xF052 r F.fdbStatic then Act.setF .live 0xF052 r F.fdbHit 1
    else Act.all [Act.setF .live 0xF052 r F.fdbHit 1,
      Act.when (!s.flag Rg.fdbFlushing) (Act.setF .live 0xF052 r F.fdbTarget port)]
  | none =>
    if s.flag Rg.fdbFlushing || !s.fldOn g 0xF053 port F.pfwdLearning || addr / 2 ^ 40 % 2 = 1 then .skip
    else
      let free := (List.range 4).findSome? fun w =>
        let r := 4 * fdbBucket vid addr + w
        if s.fldOn .live 0xF052 r F.fdbValid then none else some r
      match free with
      | none => Act.bump Key.learnFailures
      | some r =>
        Act.setRow .live 0xF052 r 0 (beBytes 6 addr ++ leBytes 2 (2 ^ 15 + 2 ^ 12 + vid) ++ leBytes 8 port)

/-- The frame's form is one that AcceptedFrames refuses, or its VID does not admit it (R176). -/
def vlanDiscard (s : State) (g : Gen) (f : Frame) (p : Parse) (vid : Nat) : Bool :=
  let acc := s.fld g 0xF053 f.source F.pfwdAccepted
  let tagged := p.outerVid != 0
  (acc == 1 && !tagged) || (acc == 2 && tagged) || vid == 0xFFF || !s.fldOn g 0xF051 vid F.vlanValid
    || (s.fldOn g 0xF053 f.source F.pfwdIngressFilter && !(s.fld g 0xF051 vid F.vlanMembers).testBit f.source)

/-- The target set of the destination lookup (R181). -/
def destinations (s : State) (g : Gen) (f : Frame) (p : Parse) (vid : Nat) : Nat :=
  let members := s.fld g 0xF051 vid F.vlanMembers
  let raw := match fdbLookup s vid p.da with
    | some r =>
      let t := s.fld .live 0xF052 r F.fdbTarget
      if s.fldOn .live 0xF052 r F.fdbGroup then groupPorts s g t else 2 ^ (t % 256)
    | none =>
      if p.da / 2 ^ 40 % 2 = 1 || s.flag Key.floodUnknownUnicast then members else 0
  setBits (raw &&& members) f.source 1 0

/-- What bridging gives an Ethernet frame (R176 to R181). -/
def bridge (s : State) (g : Gen) (f : Frame) (p : Parse) : Lookup :=
  let vid := frameVid s g f p
  if vlanDiscard s g f p vid then { discarded := true, act := Act.bump Key.vlanDiscards }
  else
    let set := destinations s g f p vid
    { targets := (members 256 set).map fun q => { port := q }
      act := Act.all [learn s g f.source vid p.sa, Act.when (set == 0) (Act.bump Key.bridgeFiltered)] }

/-- What R182 does to the outer tag of a forwarded copy: 0 nothing, 1 removes it, 2 sets its VID, 3 inserts a C-tag. -/
def tagEdit (s : State) (g : Gen) (p : Parse) (vid port : Nat) : Nat :=
  let untag := (s.fld g 0xF051 vid F.vlanUntagged).testBit port
  let tagged := p.tags != 0
  if untag then (if tagged then 1 else 0) else if tagged then 2 else 3

end Sys2Proof.Machine
end

