-- ==== Sys2Proof/Machine/Queue.lean ====
section
/-! DEFINITION. The Palette (step 4) and step 7: queue entries, the gateway's buffer checks, pools, push-out and the
guaranteed floor (R170, R171, R183, R186, R210, R251, R284). -/

namespace Sys2Proof.Machine

/-- The priority of a frame (R210). -/
def priorityOf (s : State) (g : Gen) (f : Frame) (p : Parse) (actions : Nat) : Nat :=
  if actBit actions F.actOverride = 1 then actBit actions F.actPriority
  else if f.kind = 0 && p.tags != 0 then p.outer / 8192
  else s.fld g 0xF062 f.source F.palPriority

/-- The class that the Palette gives a priority (R211). -/
def paletteClass (s : State) (g : Gen) (port prio : Nat) : Nat := bits (s.fld g 0xF062 port F.palMap) (3 * prio) 3

/-- The targets of an admitted stream in the Fair copy: its TargetSet and ReplicationSet. -/
def streamTargets (s : State) (g : Gen) (str : Nat) : Nat :=
  (if s.fldOn g 0xF071 str F.ctxTargetValid then groupPorts s g (s.fld g 0xF071 str F.ctxTarget) else 0)
    ||| (if s.fldOn g 0xF071 str F.ctxReplicationValid then groupPorts s g (s.fld g 0xF071 str F.ctxReplication) else 0)

/-- The admitted streams (R257). -/
def admittedStreams (s : State) : List Nat := s.rowsWhere .live 0xF077 fun r => s.fldOn .live 0xF077 r F.stAdmitted

/-- The guaranteed floor of a port (R251): the lowest class of an admitted stream with that target. -/
def floorOf (s : State) (p : Nat) : Option Nat :=
  ((admittedStreams s).filter fun r => (streamTargets s .fair r).testBit p).foldl
    (fun m r => let c := s.fld .fair 0xF071 r F.ctxCls; some (min c (m.getD 7))) none

/-- The bound in ns of an admitted stream that is not suspended, in the generation of a tag (R249, R257). -/
def boundOf (s : State) (tag str : Nat) : Option Nat :=
  if tag = s.get Rg.generation then
    if s.fldOn .live 0xF077 str F.stAdmitted && !s.fldOn .live 0xF077 str F.stSuspended then
      some (s.fld .live 0xF077 str F.stBound)
    else none
  else if s.flag (Rg.prevBound str) then some (s.get (Rg.prevBound str) - 1) else none

/-- A target of step 7. -/
structure Entry where
  port : Nat
  tc : Nat
  role : Role
  target : Target
deriving DecidableEq, Repr

/-- Removes the entries for which a rule gives an act. -/
def sift (rule : Entry → Option Act) (es : List Entry) : List Entry × Act :=
  (es.filter fun e => (rule e).isNone, Act.all (es.filterMap rule))

/-- A removal of a routed target is a gateway failure; of any other target it is not. -/
def siftFail (f : Frame) (e : Entry) (reason : Nat) : Act :=
  match e.target.pair with
  | some (r, _) => failCopy f (some r) e.port f.cls reason
  | none => .skip

/-- R183 item 1 with R251 and R282. -/
def siftUp (s : State) (f : Frame) (control : Bool) (e : Entry) : Option Act :=
  if !s.isUp e.port then some (Act.all [Act.bump (Key.notUpDiscards e.port), siftFail f e 4])
  else if e.target.pair.isSome && !s.channelEnabled e.port then some (siftFail f e 8)
  else
    let admitted := match f.stream with
      | some str => s.fldOn .live 0xF077 str F.stAdmitted
      | none => false
    match floorOf s e.port with
    | some fl =>
      if fl ≤ e.tc && !admitted && (!control || fl = 0) then some (Act.bump (Key.unadmittedRemovals e.port)) else none
    | none => none

/-- A control frame at or above the floor is queued one class below it (R251). -/
def demote (s : State) (control : Bool) (e : Entry) : Entry :=
  match floorOf s e.port with
  | some fl => if control && decide (fl ≤ e.tc) && fl != 0 then { e with tc := fl - 1 } else e
  | none => e

/-- The tokens of a reason's bucket and of the aggregate bucket (R155). -/
def reasonTokens (s : State) (r : Nat) : Nat := if s.flag (Rg.reasonTok r) then s.get (Rg.reasonTok r) - 1 else 64000
def aggregateTokens (s : State) : Nat := if s.flag Rg.aggregateTok then s.get Rg.aggregateTok - 1 else 512000

/-- R183 item 2: whether an exception copy fails its buckets, and what its test changes (R155). -/
def bucketTest (s : State) (e : Entry) : Bool × Act :=
  match e.role with
  | .exception r =>
    if reasonTokens s r < 1000 then (false, Act.bumpF .live 0xF049 r F.excDroppedReason)
    else if aggregateTokens s < 1000 then
      (false, Act.all [Act.bumpF .live 0xF049 r F.excDroppedAggregate, Act.bump Key.exceptionAggregateDrops])
    else (true, Act.all [.put (Rg.reasonTok r) (reasonTokens s r - 999), .put Rg.aggregateTok (aggregateTokens s - 999)])
  | _ => (true, .skip)

/-- R183 item 3. -/
def siftQueue (s : State) (f : Frame) (n : Nat) (e : Entry) : Option Act :=
  if s.get (Key.queueLimit e.port e.tc) < s.depthCells e.port e.tc + n then
    some (Act.all [Act.bump (Key.queueFullDrops e.port e.tc), siftFail f e 7])
  else none

/-- R284 item 1. -/
def siftOutbound (s : State) (f : Frame) (e : Entry) : Option Act :=
  let g := gatewayClass f.cls
  if e.target.pair.isSome && s.isBus e.port && s.get (Key.outboundLimit e.port g) ≤ s.outboundUse e.port g then
    some (Act.all [Act.bump (Key.outboundFullDrops e.port), siftFail f e 2])
  else none

/-- R284 item 2: whether a routed frame takes an inbound entry, and whether its buffer is full. Cells of an ACF split, which alone
carry AvtpInfo, and cells of internal ports take none (R283). -/
def needsInbound (s : State) (f : Frame) (es : List Entry) : Bool :=
  f.avtp == 0 && s.isBus f.source && es.any fun e => e.target.pair.isSome && e.role == .forward
def inboundFull (s : State) (f : Frame) : Bool :=
  s.get (Key.inboundLimit f.source (gatewayClass f.cls)) ≤ s.inboundUse f.source (gatewayClass f.cls)

/-- R183 item 4: at most 255 entries. -/
def siftCount (f : Frame) (es : List Entry) : List Entry × Act :=
  let kept := es.filter fun e => 246 ≤ e.port
  let rest := sortBy (fun a b => decide (a.port ≤ b.port)) (es.filter fun e => e.port < 246)
  let room := 255 - kept.length
  (rest.take room ++ kept, Act.each (rest.drop room) fun e => Act.all [Act.bump Key.refCountOverflow, siftFail f e 7])

/-- R183 item 5: the free queue entries, highest port first to go. -/
def siftEntries (s : State) (f : Frame) (es : List Entry) : List Entry × Act :=
  let free := 131072 - s.copies.length
  let sorted := sortBy (fun a b => decide (a.port ≤ b.port)) es
  (sorted.take free, Act.each (sorted.drop free) fun e =>
    if e.role == .recirculate then Act.bump Key.recirculationDrops else Act.all [Act.bump Key.queueEntryDrops, siftFail f e 7])

/-- The frames that R186 may evict for a frame of a class, in its order. -/
def candidates (s : State) (pool cls : Nat) : List Frame :=
  let prot := s.fld .fair 0xF050 pool F.poolProtected
  (List.range cls).flatMap fun tc =>
    if prot.testBit tc then []
    else
      let fs := s.frames.filter fun v => v.stage == .stored && s.poolOf v.cls == pool && v.cls == tc && v.complete
        && !((s.copiesOf v.id).any Copy.begun)
      sortBy (fun a b => decide (b.order ≤ a.order)) fs

/-- The victims that cover a shortfall, none when 64 do not (R186). -/
def victims (cells desc : Nat) : Nat → List Frame → Nat → Nat → Option (List Frame)
  | 0, _, _, _ => none
  | _ + 1, [], _, _ => none
  | fuel + 1, v :: vs, freed, n =>
    let freed' := freed + v.charge
    if cells ≤ freed' && desc ≤ n + 1 then some [v]
    else (victims cells desc fuel vs freed' (n + 1)).map fun l => v :: l

/-- Evicts a victim (R186, R279). -/
def evict (v : Frame) : Act :=
  .dep fun s =>
    Act.all [Act.each (s.copiesOf v.id) fun c => Act.all [Act.bump (Key.pushedOut c.port c.tc), loseCopy c 7],
      Act.bump Key.pushOutEvictions, endCopies fun c => c.frame == v.id]

/-- Admission to the pool of a frame's class (R186): the victims, or none for a refusal; and whether cells were short. -/
def stepSeven (s : State) (cls n : Nat) : Option (List Frame) × Bool :=
  let pool := s.poolOf cls
  let shortCells := s.poolUse pool + n - s.fld .fair 0xF050 pool F.poolQuota
  let shortDesc := if 65536 ≤ s.descriptors then 1 else 0
  if shortCells = 0 && shortDesc = 0 then (some [], false)
  else (victims shortCells shortDesc 64 (candidates s pool cls) 0 0, decide (0 < shortCells))

/-- The copy of an entry. -/
def copyOf (s : State) (f : Frame) (p : Parse) (seq : Nat) (e : Entry) : Copy :=
  let g := s.genOf f.tag
  let fwd := e.role == .forward
  let life := match e.target.lifetime with
    | some l => some l
    | none => if s.isBus e.port then some (s.get Key.defaultLifetime) else none
  let bound := if fwd then f.stream.bind fun str => boundOf s f.tag str else none
  { frame := f.id, port := e.port, tc := e.tc, seq := seq, role := e.role
    phase := if e.role == .recirculate && !f.complete then .held else .waiting
    pair := e.target.pair
    expiry := life.map fun l => f.stamp + us (l * 100)
    eligible := f.eligible
    outbound := e.target.pair.isSome && s.isBus e.port
    egress := none, cut := false, sent := [], sec := none, bad := false, reported := false
    stream := if fwd then f.stream else none
    bound := bound
    edit := if fwd && f.kind = 0 && !e.target.asIs then tagEdit s g p f.vid e.port else 0
    form := e.target.form
    profile := e.target.profile
    deferred := false, waited := false }

/-- Moves a recirculated copy into the reserve of its port (R158): a frame of its own for the second pass, or a drop. -/
def enterReserve (c : Copy) : Act :=
  .dep fun s =>
    match s.frame? c.frame with
    | none => endCopy c
    | some f =>
      if 512 < s.recircUse c.port + cellsOf f.octets.length then Act.all [Act.bump Key.recirculationDrops, endCopy c]
      else
        let id := s.get Rg.frameCount
        Act.all [.put Rg.frameCount (id + 1),
          .setFrames (s.frames ++ [{ f with id := id, port := c.port, stage := .recirculating, charge := 0, inbound := false }]),
          setCopy c.seq fun d => { d with frame := id, phase := .waiting }, settleFrames]

/-- Step 7 (R183, R186, R284) for a frame whose class, stream and targets are known. -/
def step7 (f : Frame) (p : Parse) (es0 : List Entry) (control : Bool) : Act :=
  .dep fun s =>
    let n := chargeFor s f
    let (es1, a1) := sift (siftUp s f control) es0
    let es1 := es1.map (demote s control)
    let es2 := es1.filter fun e => (bucketTest s e).1
    let a2 := Act.each es1 fun e => (bucketTest s e).2
    let (es3, a3) := sift (siftQueue s f n) es2
    let (es4, a4) := sift (siftOutbound s f) es3
    let wants := needsInbound s f es4
    let full := wants && inboundFull s f
    let es5 := if full then es4.filter fun e => e.target.pair.isNone else es4
    let a5 := if full then
        Act.all [Act.bump (Key.inboundFullDrops f.source), match f.route with
          | some r => failFrame f r f.cls 3
          | none => .skip]
      else .skip
    let (es6, a6) := siftCount f es5
    let (es7, a7) := siftEntries s f es6
    let removals := Act.all [a1, a2, a3, a4, a5, a6, a7]
    let stored := es7.any fun e => e.role != .recirculate
    if es7.isEmpty then
      Act.all [removals, if f.complete then dropFrame f.id else setFrame f.id fun x => { x with stage := .draining }]
    else
      let (adm, shortCells) := if stored then stepSeven s f.cls n else (some [], false)
      match adm with
      | none =>
        Act.all [removals, Act.bump (if shortCells then Key.poolFullDrops else Key.descriptorDrops),
          match f.route with
            | some r => Act.when (es7.any fun e => e.target.pair.isSome) (failFrame f r f.cls 7)
            | none => .skip,
          if f.complete then dropFrame f.id else setFrame f.id fun x => { x with stage := .draining }]
      | some vs =>
        let first := s.get Rg.entryCount
        let copies := (es7.zip (List.range es7.length)).map fun x => copyOf s f p (first + x.2) x.1
        Act.all [removals, Act.each vs evict,
          .put Rg.entryCount (first + es7.length),
          setFrame f.id fun x => { x with
            stage := if stored then .stored else .draining
            charge := if stored then n else 0
            order := first
            inbound := wants && !full && es7.any fun e => e.target.pair.isSome },
          .dep fun s' => .setCopies (s'.copies ++ copies),
          Act.each es7 fun e => match e.role with
            | .exception r => Act.bumpF .live 0xF049 r F.excDelivered
            | _ => .skip,
          Act.when f.complete (Act.each (copies.filter fun c => c.role == .recirculate) enterReserve),
          Act.when (f.complete && !stored) (dropFrame f.id)]

/-- The entry of an exception copy (R155, R157). -/
def exceptionEntry (s : State) (reason : Nat) : Entry :=
  { port := 252 + s.fld .live 0xF048 reason F.exrPort, tc := s.fld .live 0xF048 reason F.exrTc
    role := .exception reason, target := { port := 252 } }

end Sys2Proof.Machine
end

