-- ==== Sys2Proof/Machine/Egress.lean ====
section
/-! DEFINITION. Steps 8 and 9: the form in which a copy leaves, its duration, the Brim test and the selection of the next
frame (R218 to R223), the start of a transmission with its timestamps and samples (R208, R260, R261), and the end of one. -/

namespace Sys2Proof.Machine

/-- The tags after the SA, walked: the VLAN tags, the received R-tag (R246), and the octets from the EtherType on. -/
def tagWalk : Nat → List Byte → Option (List Byte) → List Byte × Option (List Byte) × List Byte
  | 0, bs, r => ([], r, bs)
  | n + 1, bs, r =>
    if beAt bs 0 2 = 0x8100 || beAt bs 0 2 = 0x88A8 then
      let w := tagWalk n (bs.drop 4) r
      (bs.take 4 ++ w.1, w.2)
    else if beAt bs 0 2 = 0xF1C1 && r.isNone then tagWalk n (bs.drop 6) (some (bs.take 6))
    else ([], r, bs)

/-- Where the outer VLAN tag of a tagged frame begins: behind the R-tags and SecTAGs from octet `o` on, which are 6 and 8 or 16 octets
long with their EtherType (R128). -/
def outerTagAt : Nat → List Byte → Nat → Nat
  | 0, _, o => o
  | n + 1, bs, o =>
    if beAt bs o 2 = 0xF1C1 then outerTagAt n bs (o + 6)
    else if beAt bs o 2 = 0x88E5 then outerTagAt n bs (o + if (bs.getD (o + 2) 0#8).toNat.testBit 5 then 16 else 8)
    else o

/-- The tag handling of R182 on the octets from the DA on. -/
def editTag (edit vid prio : Nat) (bs : List Byte) : List Byte :=
  let o := outerTagAt 16 bs 12
  match edit with
  | 1 => bs.take o ++ bs.drop (o + 4)
  | 2 => overlay bs (o + 2) (beBytes 2 (setBits (beAt bs (o + 2) 2) 0 12 vid))
  | 3 => bs.take 12 ++ beBytes 2 0x8100 ++ beBytes 2 (prio % 8 * 2 ^ 13 + vid) ++ bs.drop 12
  | _ => bs

/-- The R-tag handling of R246 on the octets after R182: the R-tag goes behind the last VLAN tag. -/
def editRtag (f : Frame) (port : Nat) (bs : List Byte) : List Byte :=
  match f.rtag with
  | none => bs
  | some set =>
    let w := tagWalk 32 (bs.drop 12) none
    let tag := if set.testBit port then
        match f.sequence, w.2.1 with
        | some n, some r => if beAt r 4 2 = n then r else beBytes 2 0xF1C1 ++ beBytes 2 0 ++ beBytes 2 n
        | some n, none => beBytes 2 0xF1C1 ++ beBytes 2 0 ++ beBytes 2 n
        | none, _ => []
      else []
    bs.take 12 ++ w.1 ++ tag ++ w.2.2

/-- The octets of a received Ethernet frame without its FCS. -/
def Frame.data (f : Frame) : List Byte := f.octets.take f.dataEnd

/-- FairCopyGeneration of a frame's tag (R157). -/
def State.tagGeneration (s : State) (f : Frame) : Nat :=
  s.get Key.fairCopyGeneration - (s.get Rg.generation - f.tag)

/-- A field of 16 bits that reads 0xFFFF for none. -/
def orNone16 : Option Nat → List Byte
  | some v => leBytes 2 v
  | none => leBytes 2 0xFFFF

/-- The exception header (R157) before `n` octets of frame. -/
def exceptionHeader (s : State) (f : Frame) (reason n : Nat) : List Byte :=
  leBytes 1 reason ++ leBytes 1 f.source ++ leBytes 1 (f.verdict + (if f.second then 4 else 0)) ++ leBytes 1 f.headers
    ++ leBytes 4 (s.tagGeneration f) ++ leBytes 8 (f.stamp / 65536) ++ leBytes 2 (f.stamp % 65536) ++ orNone16 f.rule
    ++ orNone16 f.actionSet ++ orNone16 f.stencil ++ orNone16 f.session ++ leBytes 2 n ++ leBytes 4 0

/-- An Ethernet frame's octets with the FCS that an attachment computes. -/
def withFcs (bs : List Byte) : List Byte := bs ++ fcsOf bs

/-- A frame as received (R157, R182), less the SecTAG and ICV that its ingress SecY handled (R300). -/
def Frame.received (f : Frame) : List Byte :=
  if f.kind = 0 && f.secured then withFcs (stripSec f.data) else f.octets

/-- Whether a copy leaves as an Ethernet frame: as received, or in the form of R274. -/
def Copy.ethernet (c : Copy) (f : Frame) : Bool := if c.form.isSome then c.profile.isSome else f.kind == 0

/-- What a forwarded copy carries: the form of its pair (R273, R274), or the frame with the tag handling of R182 and R246. -/
def forwardOctets (c : Copy) (f : Frame) : List Byte :=
  match c.form with
  | some fr => if c.profile.isSome then editRtag f c.port fr else fr
  | none =>
    if f.kind = 0 then editRtag f c.port (editTag c.edit f.vid f.priority (if f.secured then stripSec f.data else f.data))
    else f.octets

/-- The octets with which a copy leaves, before the SecY. An external attachment appends the FCS; a copy to an internal port has
it. What is delivered to ports 252 to 255 stands behind the header of R157: a forwarded copy with the tag handling of R182 or in the
form of its pair (R273), with 0x00, the code that no exception uses, for its reason (R154; log entry 135). -/
def copyOctets (s : State) (c : Copy) (f : Frame) : List Byte :=
  let headed := fun r bs => exceptionHeader s f r bs.length ++ bs
  let whole := fun bs => if 224 ≤ c.port && c.ethernet f then withFcs bs else bs
  match c.role with
  | .exception r => headed r f.received
  | .forward =>
    if 252 ≤ c.port then headed 0 (whole (forwardOctets c f)) else whole (forwardOctets c f)
  | .mirror => f.received
  | .recirculate => f.octets

/-- Whether an egress attachment can send a copy as it stands (R108). -/
def State.sendable (s : State) (c : Copy) (f : Frame) : Bool :=
  let k := cellKind (c.form.getD f.octets)
  match s.kind c.port with
  | 7 => true
  | 4 => !c.ethernet f && decide (1 ≤ k) && decide (k ≤ s.inForce (Key.canMode c.port))
  | 5 => !c.ethernet f && k == 4
  | 6 => !c.ethernet f && k == (if s.inForce (Key.serialProtocol c.port) = 2 then 6 else 5)
  | _ => c.ethernet f

/-- The length of a copy from the DA through the FCS, as R182 leaves it (R219, R189). -/
def copyLength (c : Copy) (f : Frame) : Nat :=
  match c.form with
  | some fr => fr.length + 4
  | none =>
    if f.complete then
      (if c.edit = 3 then f.octets.length + 4 else if c.edit = 1 then f.octets.length - 4 else f.octets.length)
    else f.charge * 256

/-- `n` bits at a rate, in 2^-16 ns, rounded up (log entry 9). -/
def bitTime (n rate : Nat) : Nat := cdiv (n * 1000000000 * 65536) rate

/-- The bits of a cell on its bus with `o` octets of overhead (R219), as two bit counts each with its rate, under the option
objects that `opt` gives. LIN counts tenths of a bit. The counts for CAN FD and CAN XL are those of ISO 11898-1 and CiA 610-1
(log entry 10). -/
def State.cellBits (s : State) (opt : Nat → Nat) (p : Nat) (cell : List Byte) (o : Nat) : (Nat × Nat) × (Nat × Nat) :=
  let n := (cellData cell).length
  let nominal := opt (Key.nominalBitRate p)
  let fast := opt (Key.dataBitRate p)
  match s.kind p with
  | 4 =>
    let long := (cellIdent cell).testBit 31
    match cellKind cell with
    | 1 =>
      let g := if long then 54 else 34
      ((g + 8 * n + 13 + (g + 8 * n - 1) / 4 + 8 * o, nominal), (0, 1))
    | 2 =>
      let a := if long then 36 else 17
      let d := 5 + 8 * n
      let stuffA := (a - 1) / 4
      let crc := if n ≤ 16 then 4 + 17 + 6 else 4 + 21 + 7
      let dataBits := d + ((a + d - 1) / 4 - stuffA) + crc + 1
      ((a + stuffA + 12 + 8 * o, nominal), (dataBits, if (cellFlags cell).testBit 1 then fast else nominal))
    | _ =>
      let d := 3 + 8 + 1 + 11 + 3 + 13 + 8 + 32 + 8 * n + 32
      ((17 + 4 + 2 + 4 + 12 + 8 * o, nominal), (d + d / 10 + 4, fast))
  | 5 =>
    let tenths := if opt (Key.linRole p) = 1 then 14 * (34 + 10 * (n + 1)) else 14 * 10 * (n + 1)
    ((tenths + 80 * o, 10 * opt (Key.linBitRate p)), (0, 1))
  | _ =>
    ((10 * (n + 1) + 8 * o, if opt (Key.serialProtocol p) = 2 then opt (Key.serialBitRate p) else 9600), (0, 1))

/-- The duration of a cell on its bus with `o` octets of overhead (R219). -/
def State.cellTime (s : State) (p : Nat) (cell : List Byte) (o : Nat) : Nat :=
  let b := s.cellBits s.inForce p cell o
  bitTime b.1.1 b.1.2 + bitTime b.2.1 b.2.2

/-- When the frame that is being received on a CAN bus ends, at its worst-case bit count (R219, log entry 120); now, on an idle
bus. -/
def State.busFree (s : State) (p : Nat) : Nat :=
  ((s.frames.filter fun f => f.port == p && !f.complete).map fun f => f.stamp + s.cellTime p f.octets 0).foldl max s.vtime

/-- Whether a 10BASE-T1S port runs PLCA. -/
def State.plca (s : State) (p : Nat) : Bool := s.kind p == 3 && s.inForce (Key.plcaEnable p) == 1

/-- The gap of 12 octets behind a frame on an Ethernet port begins (R95). -/
def gapBegins (p : Nat) : Act :=
  .dep fun s => Act.when (s.isEthernet p) (.put (Rg.gapUntil p) (s.now + serialTime 12 (s.rate p)))

/-- The instant at which a frame selected now would start (R219): on Ethernet not before the gap is over (R95), and under PLCA at the
port's next transmit opportunity, which is open (log entry 120); on CAN the next frame start. -/
def State.startAt (s : State) (p : Nat) : Nat :=
  if s.kind p = 4 then s.busFree p
  else if s.isEthernet p then s.vtime + (s.get (Rg.gapUntil p) - s.now) + (if s.plca p then Config.freeValue s.free else 0)
  else s.vtime

/-- What is left of the idle wait before a message on a serial line (R103, R219): 10 bit times and 2 for each step of J1708Priority on
J1708; on K-line the idle time with which the message before ends. -/
def State.idleWait (s : State) (p : Nat) : Nat :=
  if s.kind p = 6 then
    s.get (Rg.lineIdle p) + (if s.inForce (Key.serialProtocol p) = 2 then us (s.inForce (Key.messageGap p))
      else bitTime (10 + 2 * s.inForce (Key.j1708Priority p)) 9600) - s.now
  else 0

/-- A serial line becomes idle. -/
def lineFrees (p : Nat) : Act := .dep fun s => Act.when (s.kind p == 6) (.put (Rg.lineIdle p) s.now)

/-- Whether a copy may leave before its frame is complete (R188). -/
def State.cutsThrough (s : State) (c : Copy) (f : Frame) : Bool :=
  f.stage == .stored && f.kind == 0 && !f.second && decide (1 ≤ s.kind f.port) && decide (s.kind f.port ≤ 3)
    && decide (1 ≤ s.kind c.port) && decide (s.kind c.port ≤ 3) && s.flag (Key.cutThroughEnable c.port)
    && decide (s.rate c.port ≤ s.rate f.port)

/-- The copy that is on the wire or in the transmit stage of a port. -/
def State.sending (s : State) (p : Nat) : Option Copy :=
  s.copies.find? fun c => c.port == p && (c.phase == .wire || c.phase == .staged)

/-- The paused copy of a port (R223). -/
def State.paused (s : State) (p : Nat) : Option Copy := s.copies.find? fun c => c.port == p && c.phase == .paused

/-- The preemptable classes of a port while preemption is active. -/
def State.preemptMask (s : State) (p : Nat) : Nat := if s.preempting p then s.timing p F.ptimPreemptMask else 0

/-- The Brim test of a copy that would start at vehicle time `t` (R218, R219); `pre` for the preemptable path. -/
def State.brim (s : State) (p : Nat) (pre : Bool) (t : Nat) (c : Copy) (f : Frame) : Bool :=
  let o := s.timing p F.ptimOverhead
  match s.kind p with
  | 7 => s.gateOpen p c.tc t (t + 1)
  | k =>
    if 4 ≤ k then
      let t0 := t + s.idleWait p
      s.gateOpen p c.tc t0 (t0 + s.cellTime p (c.form.getD f.octets) o)
    else
      let left := copyLength c f - (if c.phase = .paused then s.get (Rg.fragmentSent p) else 0)
      let r := s.rate p
      let a := if c.phase = .paused then s.get (Rg.fragmentSize p) else s.timing p F.ptimAddFrag
      s.gateOpen p c.tc t (t + serialTime (left + o) r)
        || (pre && s.preempting p && decide (64 * (1 + a) + 64 ≤ left) && s.gateOpen p c.tc t (t + serialTime (64 * (1 + a) + o) r))

/-- The head of a class on a path: on the preemptable path a paused copy comes before every other (R223). -/
def State.candidate (s : State) (p : Nat) (pre : Bool) (tc : Nat) : Option (Copy × Frame) :=
  let h := match (if pre then s.paused p else none) with
    | some c => if c.tc = tc then some c else none
    | none => s.head? p tc
  h.bind fun c => (s.frame? c.frame).map fun f => (c, f)

/-- A copy waits for its eligibility time, or fails the Brim test: each is counted once (R218, R231). -/
def noteWaited (c : Copy) : Act :=
  Act.when (!c.waited) (.seq (setCopy c.seq fun d => { d with waited := true }) (Act.bump (Key.eligibilityHolds c.port)))
def noteDeferred (c : Copy) : Act :=
  Act.when (!c.deferred) (.seq (setCopy c.seq fun d => { d with deferred := true }) (Act.bump (Key.brimDeferrals c.port)))

/-- The selection over some classes, highest first (R218): the copy, and what the passing over counts. -/
def State.pick (s : State) (p : Nat) (pre : Bool) (t : Nat) : List Nat → Option (Copy × Frame) × Act
  | [] => (none, .skip)
  | tc :: rest =>
    match s.candidate p pre tc with
    | none => s.pick p pre t rest
    | some (c, f) =>
      if decide (s.vtime < c.eligible.getD 0) && c.phase != .paused then
        let (r, a) := s.pick p pre t rest
        (r, Act.all [noteWaited c, a])
      else if !f.complete && !s.cutsThrough c f then s.pick p pre t rest
      else if s.brim p pre t c f then (some (c, f), .skip)
      else
        let (r, a) := s.pick p pre t rest
        (r, Act.all [Act.when (s.kind p != 7) (noteDeferred c), a])

/-- The classes of a path, highest first. -/
def classesOf (mask : Nat) (pre : Bool) : List Nat := [7, 6, 5, 4, 3, 2, 1, 0].filter fun tc => mask.testBit tc == pre

/-- The preemption point of the preemptable copy on the wire (R223): its true time and the octets sent by then; none when
fewer than 64 octets would remain. The fragment holds at least 64 × (1 + a) octets, for the AddFragSize with which its frame
started (R222), and ends with a 4-octet mCRC (log entry 11). -/
def State.preemptionPoint (s : State) (p : Nat) (c : Copy) (f : Frame) : Option (Nat × Nat) :=
  let r := s.rate p
  let from' := s.get (Rg.fragmentFrom p) - 1
  let gone := (s.now - from') * r / (8 * 1000000000 * 65536) - 8
  let x := max gone (64 * (1 + s.get (Rg.fragmentSize p)))
  let done := s.get (Rg.fragmentSent p)
  if copyLength c f < done + x + 64 then none else some (from' + serialTime (x + 12) r, done + x)

/-- Whether a port selects frames by R218: Up, not held by a self-test (R419), not in listen-only mode, not on a half-duplex medium
on which another node sends (R103, R219), and of a kind whose queues a selection serves. -/
def State.selects (s : State) (p : Nat) : Bool :=
  s.isUp p && !s.flag (Rg.testedBy p) && p != 244 && p != 246 && p != 247 && s.kind p != 5
    && !(s.kind p == 4 && s.inForce (Key.listenOnly p) == 1) && !((s.kind p == 3 || s.kind p == 6) && s.receiving p)

/-- What R218 decides. -/
inductive Pick where
  | idle
  /-- A copy starts, on the preemptable path if `pre`, at vehicle time `t`. -/
  | start (c : Copy) (f : Frame) (pre : Bool) (t : Nat)
  /-- The preemptable copy on the wire stops at a preemption point. -/
  | preempt (point sent : Nat)
deriving DecidableEq, Repr

/-- The selection of a port (R218). A preempted frame goes on before any other preemptable one, whatever has become of its class and of
preemption since; without preemption nothing is preempted (R222). -/
def State.choose (s : State) (p : Nat) : Pick × Act :=
  if !s.selects p then (.idle, .skip)
  else
    let mask := s.preemptMask p
    let express := classesOf mask false
    match s.sending p with
    | some c =>
      if !s.preempting p || !s.flag (Rg.fragmentFrom p) || s.flag (Rg.preemptAt p) then (.idle, .skip)
      else match s.frame? c.frame with
        | none => (.idle, .skip)
        | some f =>
          match s.preemptionPoint p c f with
          | none => (.idle, .skip)
          | some (pt, sent) =>
            if s.holdsAt p s.vtime then (.preempt pt sent, .skip)
            else
              match s.pick p false (s.vtime + (pt - s.now) + serialTime 12 (s.rate p)) express with
              | (some _, a) => (.preempt pt sent, a)
              | (none, a) => (.idle, a)
    | none =>
      let t := s.startAt p
      let lower := match s.paused p with
        | some c => [c.tc]
        | none => classesOf mask true
      match s.pick p false t express with
      | (some (c, f), a) => (.start c f false t, a)
      | (none, a) =>
        if lower.isEmpty || s.holdsAt p t then (.idle, a)
        else
          match s.pick p true t lower with
          | (some (c, f), b) => (.start c f true t, Act.all [a, b])
          | (none, b) => (.idle, Act.all [a, b])

/-- A copy is lost at its egress attachment (R108). -/
def formatDrop (c : Copy) : Act := Act.all [Act.bump (Key.egressFormatDrops c.port), loseCopy c 5, endCopy c]

/-- The bound in ns of a stream that is admitted in the generation of a tag, suspended or not (R257, R261). -/
def State.admittedBound (s : State) (tag str : Nat) : Option Nat :=
  if tag = s.get Rg.generation then
    if s.fldOn .live 0xF077 str F.stAdmitted then some (s.fld .live 0xF077 str F.stBound) else none
  else if s.flag (Rg.prevAdmitted str) then some (s.get (Rg.prevAdmitted str) - 1) else none

/-- A copy is removed when its lifetime expires (R278): a failure, of a copy without a route too (R280), and a delivery fault where its
stream is admitted (R261). -/
def expireCopy (c : Copy) : Act :=
  .dep fun s =>
    match s.frame? c.frame with
    | none => endCopy c
    | some f =>
      let fault := match c.stream with
        | some str => match c.bound.or (s.admittedBound f.tag str) with
          | some b => deliveryFault str c.port 3 ((s.vtime - f.stamp) / 65536) b
          | none => .skip
        | none => .skip
      Act.all [failCopy f (c.pair.map fun x => x.1) c.port c.tc 1, fault, endCopy c]

/-- The bin of a sojourn in ns (R260). -/
def sojournBin (t : Nat) : Nat := if t < 128 then 0 else min 15 (Nat.log2 t - 6)

/-- A sample of a copy's sojourn in ns (R260). -/
def sampleSojourn (p tc t : Nat) : Act :=
  .dep fun s =>
    let row := 8 * p + tc
    let n := s.get (Rg.sampled p tc)
    Act.all [.put (Rg.sampled p tc) (n + 1),
      Act.when (n % 2 ^ s.get (Key.sojournSampleExponent p) == 0) (Act.all [
        Act.bumpF .live 0xF07B row ⟨32 * sojournBin t, 32, .any, 0, true⟩,
        Act.bumpF .live 0xF07B row F.histSamples,
        Act.when (decide (s.get (Key.sojournMax p tc) < t)) (.put (Key.sojournMax p tc) (min t (2 ^ 32 - 1))),
        Act.when (decide (s.fld .live 0xF07B row F.histMax < t)) (Act.all [
          Act.setF .live 0xF07B row F.histMax (min t (2 ^ 32 - 1)),
          Act.setF .live 0xF07B row F.histMaxTime s.vns])])]

/-- What an egress timestamp of a true time `at'` changes: the sample, MaxSojourn, the exemptions and a late departure (R250, R260,
R261). -/
def departure (c : Copy) (f : Frame) (stamp at' : Nat) : Act :=
  .dep fun s =>
    let p := c.port
    let span := stamp - f.stamp
    let t := span / 65536
    let promise := match c.stream, c.bound with
      | some str, some b =>
        let stepped := f.stepAt.any fun x => decide (x ≤ at')
        let moving := s.movesAt p at' stamp
        Act.all [Act.when stepped (Act.bump Key.stepExemptions), Act.when moving (Act.bump Key.transitionExemptions),
          Act.when (decide (ns b < span) && !stepped && !moving && !c.reported) (deliveryFault str p 1 t b)]
      | _, _ => .skip
    let longest := match c.stream with
      | some str =>
        Act.when (s.fldOn .live 0xF077 str F.stAdmitted && decide (s.fld .live 0xF077 str F.stMaxSojourn < t))
          (Act.setF .live 0xF077 str F.stMaxSojourn (min t (2 ^ 32 - 1)))
      | none => .skip
    Act.all [sampleSojourn p c.tc t, longest, promise]

/-- The residence of a CAN copy that found its target idle (R287), from the instant at which its frame was valid: it leaves for its
stage in the step that queued it. While a pipeline is in failover it decides nothing (R400). -/
def residence (c : Copy) (f : Frame) : Act :=
  .dep fun s =>
    Act.when (s.kind f.port == 4 && s.kind c.port == 4 && c.pair.isSome && c.profile.isNone && !f.second
        && f.decided == some s.now && (s.queue c.port c.tc).length == 1)
      (.put Key.gatewayResidenceMax (max (s.get Key.gatewayResidenceMax) (min ((s.now - f.valid) / 65536) (2 ^ 32 - 1))))

/-- Whether a copy on a bus may still be removed once it was taken for sending, so that its departure is sure only at the end
(R103, R249, R278). -/
def State.retries (s : State) (p : Nat) : Bool := s.isBus p

/-- The egress timestamp of a copy that starts at vehicle time `t` (R208): on Ethernet, the destination address follows 8 octets of
preamble and start-of-frame delimiter (log entry 14); on LIN, the break field came before; on a serial line, the idle wait comes first. -/
def State.egressStamp (s : State) (p t : Nat) : Nat :=
  if s.isEthernet p then t + serialTime 8 (s.rate p)
  else if s.kind p = 5 then s.get (Rg.linBreak p)
  else t + s.idleWait p

/-- The true time of the egress timestamp `stamp` of a copy that starts now or later; the break field of LIN came before. Vehicle time is
taken to run as true time does until then (log entry 144). -/
def State.egressTime (s : State) (p stamp : Nat) : Nat :=
  if s.kind p = 5 then s.get (Rg.linBreakAt p) else s.now + (stamp - s.vtime)

/-- The selected copy begins to leave at vehicle time `t`, or resumes (R168, R208, R218, R223). On a CAN bus on which another node
sends it waits in the transmit stage (R99). The SA and PN are those of R302. What has been sent of a frame that stands preempted stays as
an express frame begins. -/
def beginLeave (c : Copy) (f : Frame) (pre : Bool) (sa : Option Nat) (t : Nat) : Act :=
  .dep fun s =>
    let p := c.port
    let stamp := s.egressStamp p t
    let at' := s.egressTime p stamp
    let mark := .put (Rg.fragmentFrom p) (if pre then s.now + (t - s.vtime) + 1 else 0)
    if c.phase = .paused then Act.all [mark, setCopy c.seq fun d => { d with phase := .wire }]
    else
      let sec := sa.bind (s.secUse p)
      let plain := match c.profile, copyOctets s c f with
        | some x, fr => overlay fr (acfSequenceAt fr) (beBytes 1 (s.get (Rg.profileSeq x)))
        | none, bs => bs
      let out := match sec with
        | some u => s.protect p u plain
        | none => plain
      let waits := s.kind p == 4 && s.receiving p
      Act.all [mark, .put (Rg.preemptAt p) 0, .put (Rg.stagedFrom p) s.now,
        Act.when pre (.seq (.put (Rg.fragmentSent p) 0) (.put (Rg.fragmentSize p) (s.timing p F.ptimAddFrag))),
        match c.profile with
          | some x => .put (Rg.profileSeq x) ((s.get (Rg.profileSeq x) + 1) % 256)
          | none => .skip,
        match sa with
          | some row => takePn p row
          | none => .skip,
        Act.when (!f.complete) (Act.bump (Key.cutThroughFrames p)),
        residence c f,
        setCopy c.seq fun d => { d with phase := if waits then .staged else .wire, egress := if waits then none else some stamp,
                                        leftAt := at', cut := !f.complete, sec := sec, sent := if f.complete then out else [] },
        Act.when (!s.retries p) (departure c f stamp at')]

/-- The EtherType of a frame's octets behind its tags. -/
def innerType (bs : List Byte) : Nat := beAt (tagWalk 32 (bs.drop 12) none).2.2 0 2

/-- A selection that met a copy it cannot send goes on with the next (R108, R278, R302). -/
def selectWithin : Nat → Nat → Act
  | 0, _ => .skip
  | fuel + 1, p =>
    .dep fun s =>
      match s.choose p with
      | (.idle, a) => a
      | (.preempt pt sent, a) => Act.all [a, .put (Rg.preemptAt p) (pt + 1), .put (Rg.fragmentNext p) sent]
      | (.start c f pre t, a) =>
        if c.phase = .paused then .seq a (beginLeave c f pre none t)
        else if !s.sendable c f then Act.all [a, formatDrop c, selectWithin fuel p]
        else if s.expired c then Act.all [a, expireCopy c, selectWithin fuel p]
        else if s.secyProtects p && innerType (copyOctets s c f) != 0x888E then
          let row := s.encodingSa p
          if s.saSends p row then .seq a (beginLeave c f pre (some row) t)
          else Act.all [a, Act.bump (Key.outSaDrops p), endCopy c, selectWithin fuel p]
        else .seq a (beginLeave c f pre none t)

/-- The copies that a LIN attachment cannot send; the selection of R218 does not serve its queues (R108). -/
def State.linForeign (s : State) (p : Nat) : List Copy :=
  if s.kind p = 5 && s.isUp p && !s.flag (Rg.testedBy p) then
    s.copies.filter fun c => c.port == p && c.phase == .waiting && !(s.frame? c.frame).any (s.sendable c)
  else []

/-- They leave the queues. -/
def purgeLin (p : Nat) : Act := .dep fun s => Act.each (s.linForeign p) formatDrop

/-- R218 at a port. Each selection under PLCA meets a transmit opportunity of its own. -/
def selectPort (p : Nat) : Act :=
  .dep fun s => Act.all [purgeLin p, selectWithin (s.copies.length + 1) p, Act.when (s.plca p) .drawn]

/-- What a selection of a port depends on: the head of each class and whether it is complete, and what is being sent. -/
def State.heads (s : State) (p : Nat) : List (Option (Nat × Bool)) × Option (Nat × Phase) :=
  ((List.range 8).map fun tc => (s.head? p tc).map fun c =>
      (c.seq, match s.frame? c.frame with
        | some f => f.complete
        | none => false),
    (s.sending p).map fun c => (c.seq, c.phase))

/-- An act, and then the selections of R218 at the ports whose heads or transmitter it changed. -/
def reselect (a : Act) : Act :=
  .dep fun s => .seq a (.dep fun t =>
    let ports := ((s.copies ++ t.copies).map fun c => c.port).dedup
    Act.each (ports.filter fun p => s.heads p != t.heads p || s.linForeign p != t.linForeign p) selectPort)

/-- The octets of a copy that has begun to leave: those fixed when it began, or, where it was cut through, those of its frame as far
as it has come. -/
def State.leaving (s : State) (c : Copy) (f : Frame) : List Byte :=
  if c.cut then
    let plain := copyOctets s c f
    match c.sec with
    | some u => s.protect c.port u plain
    | none => plain
  else c.sent

/-- The octets of a copy that have left by now (R117): of a preemptable one, those of the fragments before and of the one that is on
the wire behind its 8 octets of preamble (R223). -/
def State.leftOf (s : State) (c : Copy) : List Byte :=
  let gone := fun t => (s.now - t) * s.rate c.port / (8 * 1000000000 * 65536)
  let n := match s.get (Rg.fragmentFrom c.port) with
    | 0 => gone c.leftAt
    | t + 1 => s.get (Rg.fragmentSent c.port) + (gone t - 8)
  match s.frame? c.frame with
  | some f => (s.leaving c f).take n
  | none => []

/-- A copy that has begun to leave is ended with an inverted FCS behind the octets given (R190). -/
def varnish (c : Copy) (octets : List Byte) : Act :=
  Act.all [Act.bump (Key.varnishedFrames c.port), .emit (.frame c.port octets true), overrunEnds c, gapBegins c.port, endCopy c]

/-- The copies of a frame found bad (R190): one that has begun to leave is ended with an inverted FCS behind what has arrived of
the frame, every other is removed. -/
def spoilCopies (id : Nat) : Act :=
  .dep fun s => Act.all [
    Act.each ((s.copiesOf id).filter Copy.begun) fun c => Act.all [Act.bump (Key.varnishedFrames c.port),
      .dep fun t => .emit (.frame c.port (match t.frame? id with
        | some f => t.leaving c f
        | none => []) true),
      overrunEnds c, gapBegins c.port],
    .dep fun t => .setCopies (t.copies.filter fun c => c.frame != id)]

/-- A frame found bad after its descriptor exists (R190). Cells and descriptor go with the last of its copies (R184). -/
def frameFoundBad (id : Nat) : Act := .seq (spoilCopies id) settleFrames

/-- A copy that was cut through gets its octets when its frame is complete. -/
def completeCuts (id : Nat) : Act :=
  .dep fun s =>
    match s.frame? id with
    | none => .skip
    | some f => Act.each ((s.copiesOf id).filter fun c => c.begun && c.cut) fun c =>
      setCopy c.seq fun d => { d with sent := s.leaving c f }

/-- The length that TxOctets counts (R124). -/
def State.txLength (s : State) (c : Copy) : Nat :=
  match s.kind c.port with
  | 7 => c.sent.length
  | k => if 4 ≤ k then c.sent.length - 32 else c.sent.length + 4

/-- A copy cut off at its egress port (R117, R303): it carries the Varnish behind the octets that have left. -/
def abortCopy (c : Copy) : Act := .dep fun s => .seq (Act.bump (Key.egressAborts c.port)) (varnish c (s.leftOf c))

/-- Whether the key slot under which a copy began to leave is still usable; its SA may have changed since (R303). -/
def State.secAlive (s : State) (c : Copy) : Bool :=
  match c.sec with
  | some u => (s.aesKey u.slot 1).isSome
  | none => true

/-- The protected identifier of a LIN frame ID (ISO 17987, log entry 121). -/
def linPid (ident : Nat) : Nat :=
  let b := fun i => if ident.testBit i then 1 else 0
  ident % 64 + 64 * ((b 0 + b 1 + b 2 + b 4) % 2) + 128 * ((1 + b 1 + b 3 + b 4 + b 5) % 2)

/-- The LIN checksum (log entry 121): the inverted sum with carry of the data and, where it is enhanced, of the protected
identifier. -/
def linCheck (enhanced : Bool) (ident : Nat) (data : List Byte) : Nat :=
  255 - (data.map fun b => b.toNat).foldl (fun a b => let x := a + b; if 255 < x then x - 255 else x)
    (if enhanced then linPid ident else 0)

/-- The check octet that a LIN or serial channel appends (R100, R103; log entry 121): none on CAN, whose CRC is the controller's. -/
def busCheck (cell : List Byte) : List Byte :=
  let data := cellData cell
  let sum := (data.map fun b => b.toNat).sum
  match cellKind cell with
  | 4 => beBytes 1 (linCheck ((cellFlags cell).testBit 4) (cellIdent cell) data)
  | 5 => beBytes 1 (256 - sum % 256)
  | 6 => beBytes 1 sum
  | _ => []

/-- The output of a copy that has been sent. -/
def sentOut (s : State) (c : Copy) : Out :=
  if s.isBus c.port then
    .bus c.port (cellKind c.sent) (cellIdent c.sent) (cellFlags c.sent) (cellData c.sent) (busCheck c.sent)
  else .frame c.port c.sent false

/-- A copy has been sent (R124, R184, R292). -/
def finishCopy (c : Copy) : Act :=
  .dep fun s => Act.all [
    Act.bump (Key.txFrames c.port), Act.bump (Key.txOctets c.port) (s.txLength c),
    match c.pair with
      | some (r, _) => Act.bumpF .live 0xF083 r F.rcntSent
      | none => .skip,
    overrunEnds c, gapBegins c.port, lineFrees c.port, .put (Rg.fragmentFrom c.port) 0, .put (Rg.preemptAt c.port) 0,
    .emit (sentOut s c), endCopy c]

/-- The end of a transmission (R124): a copy that was cut through ends only after its frame. -/
def transmissionEnds (p : Nat) : Act :=
  .dep fun s =>
    match s.sending p with
    | none => .skip
    | some c =>
      match s.frame? c.frame with
      | none => endCopy c
      | some f =>
        if !f.complete || (c.phase = .staged && s.receiving p) then .skip
        else if !s.secAlive c then abortCopy c
        else if c.phase = .staged then
          Act.drawIn 0 (s.now - s.get (Rg.stagedFrom p)) fun back =>
            .seq (departure c f (s.vtime - back) (s.now - back)) (finishCopy c)
        else .seq (Act.when (s.retries p) (departure c f (c.egress.getD s.vtime) c.leftAt)) (finishCopy c)

/-- A frame start on a CAN bus (R99, R220, R278): the staged copy competes, unless its lifetime is over or the Brim test no longer
lets it, and the stage is chosen again. -/
def canStarts (p : Nat) : Act :=
  .dep fun s =>
    match s.copies.find? fun c => c.port == p && c.phase == .staged with
    | none => .skip
    | some c =>
      match s.frame? c.frame with
      | none => endCopy c
      | some f =>
        if s.receiving p then .skip
        else if s.expired c then .seq (expireCopy c) (selectPort p)
        else if decide (s.vtime < c.eligible.getD 0) || !s.brim p false s.vtime c f then
          .seq (setCopy c.seq fun d => { d with phase := .waiting }) (selectPort p)
        else setCopy c.seq fun d => { d with phase := .wire, egress := some s.vtime, leftAt := s.now }

/-- The copies once a message begins on a serial line: one whose idle wait is not over competes again (R103). -/
def State.withdrawn (s : State) (p : Nat) : List Copy :=
  s.copies.map fun c => if s.kind p == 6 && c.port == p && s.notStarted c then { c with phase := .waiting, egress := none } else c

/-- A message begins on a serial line. -/
def lineTaken (p : Nat) : Act := .dep fun s => Act.when (s.kind p == 6) (.setCopies (s.withdrawn p))

/-- A frame that was received has ended, and the medium is free: the next frame start on CAN, and a selection on 10BASE-T1S and a serial line
(R103, R219). -/
def mediumFree (p : Nat) : Act :=
  .dep fun s =>
    if s.receiving p then .skip
    else match s.kind p with
      | 4 => canStarts p
      | 3 => .seq (gapBegins p) (selectPort p)
      | 6 => .seq (lineFrees p) (selectPort p)
      | _ => .skip

end Sys2Proof.Machine
end

