-- ==== Sys2Proof/Machine/Path.lean ====
section
/-! DEFINITION. The frame path, steps 1 to 7 (R10 to R17): the decision of a frame whose lookahead is complete, its tail, and
recirculation. -/

namespace Sys2Proof.Machine

/-- The pipeline that takes the decisions of a port (R191, R400, R403) under the map of a generation; none while they are
interrupted. -/
def State.servedBy (s : State) (g : Gen) (port : Nat) : Option Nat :=
  let n := s.fld g 0xF053 port F.pfwdPipeline
  match s.get (Key.pipelineState n) with
  | 1 => some n
  | 3 => some 4
  | _ => if s.get Key.spareHosts = n && s.get (Key.pipelineState 4) = 1 then some 4 else none

/-- The longest time that a frame holds a decision slot: 48 fabric cycles (R192). -/
def slotHold : Nat := 48 * 8 * 65536 / 10

/-- A frame takes a decision slot of a pipeline, or finds all 64 in use (R192); how long it holds it within 48 cycles is
open. While it does, its decision is in flight (R400). -/
def takeSlot (n id : Nat) (granted overrun : Act) : Act :=
  .dep fun s =>
    match (List.range 64).find? fun i => decide (s.get (Rg.slotUntil n i) ≤ s.now) with
    | none => .seq (Act.bump Key.decisionOverruns) overrun
    | some i => Act.drawIn 0 slotHold fun d =>
      Act.all [.put (Rg.slotUntil n i) (s.now + d), .put (Rg.slotFrame n i) (id + 1), granted]

/-- Whether a frame on a port has the form of a ring message of an enabled ring (R360): on Ethernet with at most one VLAN tag and no
R-tag, and with a SecTAG only where the ingress SecY takes it off (log entry 147); on CAN a classical data frame with DLC 8. -/
def State.isRingMessage (s : State) (port : Nat) (f : Frame) (p : Parse) : Bool :=
  (List.range 32).any fun r =>
    s.flag (Key.ringState r) && decide (port < 224) && (s.fld .live 0xF0A0 r F.ringPorts).testBit port &&
      (if f.kind = 0 then p.typ == s.fld .live 0xF0A0 r F.ringEtherType && p.da == beNat (s.rowOctets .live 0xF0A0 r 46 6)
          && decide (p.tags ≤ 1) && p.rtagAt == 0 && (!p.sectag || s.secyValidates port != 0)
       else f.kind == 1 && beAt f.octets 11 1 == 8 && !(cellFlags f.octets).testBit 0 &&
        (let base := s.fld .live 0xF0A0 r F.ringBaseId + s.fld .live 0xF0A0 r F.ringFormat * 2 ^ 31
         decide (base ≤ p.busIdent) && decide (p.busIdent < base + 64)))

/-- Notes for R374 a frame that its attachment discards. -/
def noteArrival (f : Frame) : Act :=
  .dep fun s => Act.when (!f.second && !s.isRingMessage f.port f f.parse) (.put (Rg.arrivalAt f.port) (s.now + 1))

/-- Notes traffic on a port for R370 and R374. -/
def noteTraffic (port : Nat) (f : Frame) (p : Parse) : Act :=
  .dep fun s => Act.when (!s.isRingMessage port f p) (.put (Rg.trafficAt port) (s.now + 1))

/-- The forwarding targets of step 6 before R248 (R174). An answer of the OD service goes out on its request's port (R69). -/
def lookupTargets (s : State) (g : Gen) (f : Frame) (p : Parse) (actions : Nat) : Lookup :=
  if actBit actions F.actFixedPort = 1 then { targets := [{ port := actBit actions F.actPort }] }
  else match f.answerTo with
    | some q => { targets := [{ port := q, asIs := true }] }
    | none => if f.kind = 0 then bridge s g f p else route s g f

/-- The length that the shaper takes (R228): the charge while the last octet is missing; for a routed cell the greatest length of
its copies in their transformed forms (R274, log entry 122); else that of RxOctets. -/
def shaperLength (s : State) (g : Gen) (f : Frame) (actions : Nat) : Nat :=
  if !f.complete then chargeFor s f * 256
  else if f.kind = 0 || actBit actions F.actFixedPort = 1 || f.answerTo.isSome then f.rxLength
  else
    let formed := (route s g f).targets.filterMap fun t => t.form.map fun fr =>
      if t.profile.isSome then fr.length + 4 else (cellData fr).length
    if formed.isEmpty then f.rxLength else formed.foldl max 0

/-- R248: the stream's target set and replication. -/
def streamTargetsOf (s : State) (g : Gen) (str : Option Nat) (life : Option Nat) (ts : List Target) : List Target × Act :=
  match str with
  | none => (ts, .skip)
  | some x =>
    let set := groupPorts s g (s.fld g 0xF071 x F.ctxTarget)
    let filters := s.fldOn g 0xF071 x F.ctxTargetValid
    let kept := if filters then ts.filter fun t => set.testBit t.port else ts
    let gone := if filters then ts.filter fun t => !set.testBit t.port else []
    let more := if s.fldOn g 0xF071 x F.ctxReplicationValid then
        (members 256 (groupPorts s g (s.fld g 0xF071 x F.ctxReplication))).filter fun q => !(kept.any fun t => t.port == q)
      else []
    (kept ++ more.map fun q => { port := q, lifetime := life },
      Act.each gone fun t => Act.bump (Key.unadmittedRemovals t.port))

/-- R17: no forwarding target is a recirculation port. -/
def dropRecirculating (ts : List Target) : List Target × Act :=
  let ok := ts.filter fun t => t.port != 246 && t.port != 247
  (ok, Act.when (ok.length != ts.length) (Act.bump Key.internalTargetDrops))

/-- Steps 4 to 7 of a frame with its verdict (R136, R144, R210, R241, R248, R183); `blocked` where its SecY drops it at step 3
(R298). A frame is counted only where it is dropped (R12). A remote OD PDU is queued in the class of RemoteOdClass and charged by its
Palette class (R70, R170). -/
def forward (f : Frame) (p : Parse) (v : Verdict) (blocked : Bool) : Act :=
  .dep fun s =>
    let g := s.genOf f.tag
    let prio := priorityOf s g f p v.actions
    let cls := paletteClass s g f.source prio
    let recirculates := actBit v.actions F.actRecirculate = 1
    let f1 : Frame := { f with
      verdict := if p.malformed then 2 else if p.incomplete then 1 else 0
      headers := p.count, rule := v.rule, actionSet := v.actionSet, actions := v.actions, stencil := v.stencil
      session := v.session, vid := frameVid s g f p, priority := prio, cls := cls, decided := some s.now
      split := actBit v.actions F.actMode == 2 }
    let refused := v.builtIn.isNone && dropsFrame v.actions
    let drops := blocked || refused
    let st5 : Step5 := if drops then {} else step5 s g f1 p (shaperLength s g f1 v.actions)
    let seqNo := match st5.sequence with
      | some n => some n
      | none => if p.rtagAt = 0 then none else some p.rtagSeq
    let f2 : Frame := { f1 with
      stream := st5.stream, sequence := seqNo, rtag := if st5.drop then none else st5.rtag, eligible := st5.eligible }
    let found : Lookup :=
      if drops || st5.drop then { discarded := true }
      else if v.builtIn.isSome then { targets := [{ port := 245 }] }
      else lookupTargets s g f2 p v.actions
    let life := found.route.map fun r => s.fld g 0xF080 r F.routeLifetime
    let (ts1, a1) := if found.discarded then (found.targets, Act.skip) else streamTargetsOf s g st5.stream life found.targets
    let (ts2, a2) := dropRecirculating ts1
    let raised := match v.reason with
      | some r => some r
      | none => match st5.reason with
        | some r => some r
        | none => found.reason
    let reason := match raised with
      | some r => some r
      | none => if actBit v.actions F.actCopy = 1 then some (actBit v.actions F.actCopyReason) else none
    let f3 : Frame := { f2 with route := found.route, reason := reason }
    let mirror : List Entry := if actBit v.actions F.actMirror = 1 then
        let q := 248 + actBit v.actions F.actMirrorTarget
        [{ port := q, tc := cls, role := .mirror, target := { port := q } }] else []
    let again : List Entry := if recirculates && !f.second then
        let q := 246 + f.source % 2
        [{ port := q, tc := cls, role := .recirculate, target := { port := q } }] else []
    let excepted : List Entry := match reason with
      | some r => [exceptionEntry s r]
      | none => []
    let fwd := ts2.map fun t => ({ port := t.port, tc := v.builtIn.getD cls, role := .forward, target := t } : Entry)
    Act.all [
      Act.when (refused && !blocked && !v.consumed) (Act.bump Key.classifierDrops),
      Act.when (recirculates && f.second) (Act.bump Key.recirculationDrops),
      st5.acts, found.act, a1, a2,
      setFrame f.id fun _ => f3,
      step7 f3 p (fwd ++ mirror ++ excepted ++ again) f.answerTo.isSome]

/-- A frame without a SecTAG at a SecY (R298): whether step 3 drops it, and the count. -/
def untaggedAt (s : State) (f : Frame) (p : Parse) : Bool × Act :=
  let v := s.secyValidates f.port
  if f.second || f.kind != 0 || v = 0 || hasSecTag f.octets then (false, .skip)
  else (v == 2 && p.typ != 0x88F7 && p.typ != 0x888E, Act.bump (Key.inUntagged f.port))

/-- A frame that is discarded at its decision (R192, R400). What is still to come of it is received and checked (R95). -/
def discardFrame (f : Frame) (secured : Bool) : Act :=
  if f.complete then dropFrame f.id else setFrame f.id fun x => { x with stage := .draining, secured := secured }

/-- A frame whose lookahead is complete: it is noted as received (R370, R374); then its decision slot, steps 2 and 3, and what follows
(R192, R298, R400). -/
def decideFrame (id : Nat) : Act :=
  .dep fun s =>
    match s.frame? id with
    | none => .skip
    | some f =>
      let g := s.genOf f.tag
      let p := f.parse
      let secured := f.secured || (!f.second && f.kind == 0 && s.secyValidates f.port != 0 && hasSecTag f.octets)
      let (bad, secAct) := if secured && !f.second && f.complete then s.secTail f.port f.data else (false, .skip)
      let heard := Act.seq secAct (Act.when (!f.second) (noteTraffic f.port f p))
      if bad then .seq heard (dropFrame id)
      else .seq heard (match s.servedBy g f.port with
        | none => .seq (Act.bump Key.interruptionDiscards) (discardFrame f secured)
        | some n =>
          takeSlot n id (.dep fun s1 =>
            let (blocked, untagged) := untaggedAt s1 f p
            Act.all [untagged, Act.when p.incomplete (Act.bump Key.parseIncompleteFrames),
              .dep fun s2 =>
                let v := classify s2 f p
                .seq v.acts (forward { f with secured := secured, pipeline := n } p v blocked)])
            (discardFrame f secured))

/-- A new frame in the fabric. -/
def newFrame (s : State) (port source kind : Nat) (octets : List Byte) (pre complete : Bool) : Frame where
  id := s.get Rg.frameCount
  port := port
  source := source
  kind := kind
  octets := octets
  preemptable := pre
  complete := complete
  stage := .arriving
  tag := s.get Rg.generation
  stamp := s.vtime
  arrived := s.now
  decided := none
  pipeline := 0
  second := false
  split := false
  verdict := 0
  headers := 0
  rule := none
  actionSet := none
  actions := 0
  stencil := none
  session := none
  reason := none
  vid := 0
  priority := 0
  cls := 0
  stream := none
  sequence := none
  rtag := none
  eligible := none
  charge := 0
  order := 0
  route := none
  inbound := false
  secured := false
  avtp := 0
  valid := if complete then s.now else 0
  answerTo := none

/-- ArrivalCellsPeak (R194). -/
def notePeak : Act := .dep fun t => Act.when (decide (t.get Key.arrivalCellsPeak < t.arrivalUse)) (.put Key.arrivalCellsPeak t.arrivalUse)

/-- Puts a frame into the fabric. -/
def addFrame (f : Frame) : Act :=
  .dep fun s => Act.all [.put Rg.frameCount (f.id + 1), .setFrames (s.frames ++ [f]), notePeak]

/-- The cell of a received bus frame (R105, R106): fields outside their kind and reserved bits are 0. The MID of a J1708 message is
its first octet (log entry 123). -/
def busCell (b : BusFrame) (p stamp : Nat) : List Byte :=
  let k := b.kind.toNat
  let i := b.ident.toNat
  let fl := b.flags.toNat
  let xl := fun n => if k = 3 then n else 0
  let ident := match k with
    | 3 => i % 2 ^ 11
    | 4 => i % 256
    | 5 => beAt b.data 0 1
    | 6 => beAt b.data 1 2
    | _ => if i.testBit 31 then 2 ^ 31 + i % 2 ^ 29 else i % 2 ^ 11
  let flags := match k with
    | 1 => fl &&& 1
    | 2 => fl &&& 6
    | 3 => fl &&& 9
    | 4 => fl &&& 16
    | _ => 0
  mkCell k p ident flags (xl b.sdt.toNat) (xl b.vcid.toNat) (if k = 1 || k = 2 then b.dlc.toNat % 16 else 0) (xl b.af.toNat) stamp b.data

/-- What a bus controller does with a frame (R96, R101 to R103): 0 it ignores it, 1 it hands it over, 2 its length is wrong, 3 its
check octet is. A LIN node takes the response to the header for which it waits, of the row's length and checksum. -/
def State.acceptsBus (s : State) (p : Nat) (b : BusFrame) : Nat :=
  let k := b.kind.toNat
  match s.kind p with
  | 4 => if 1 ≤ k && k ≤ s.inForce (Key.canMode p) then 1 else 0
  | 5 =>
    if k != 4 || s.get (Rg.linExpect p) != b.ident.toNat % 64 + 1 || s.get (Rg.linDue p) < s.now then 0
    else if b.data.length != s.get (Rg.linLength p) then 2
    else if b.flags.getLsbD 4 != s.flag (Rg.linEnhanced p) then 3
    else 1
  | 6 =>
    let kline := s.inForce (Key.serialProtocol p) = 2
    if k = (if kline then 6 else 5) then (if (if kline then 259 else 20) < b.data.length then 2 else 1) else 0
  | 7 => if 1 ≤ k && k ≤ 6 then 1 else 0
  | _ => 0

/-- The step of vehicle time since a true time, if one has been made (R250). -/
def State.stepSince (s : State) (t : Nat) : Option Nat :=
  if s.flag Rg.steppedAt && decide (t < s.get Rg.steppedAt - 1) then some (s.get Rg.steppedAt - 1) else none

/-- What has come of a frame at its first word. -/
def firstWord (s : State) (p : Nat) : Rx → Frame
  | .eth bs => newFrame s p p 0 bs false false
  | .preemptable _ bs => newFrame s p p 0 bs true false
  | .bus b => newFrame s p p b.kind.toNat (busCell b p s.vtime) false false

/-- A frame's first word arrives (R10, R17, R95, R105, R114, R160, R208, R224). A frame that goes no further has arrived for R374. -/
def arrive (p : Nat) (rx : Rx) : Act :=
  .dep fun s =>
    if s.flag (Rg.isolated p) || p == 246 || p == 247 then .skip
    else if !s.isUp p then .seq (Act.bump (Key.ingressDiscards p)) (noteArrival (firstWord s p rx))
    else match rx with
      | .eth bs => Act.when (s.isEthernet p || s.kind p == 7) (addFrame (newFrame s p p 0 bs false false))
      | .preemptable n bs =>
        if s.preemptable p && s.timing p F.ptimPreempt == 1 then
          .seq (Act.bump (Key.fragmentsReceived p) n) (addFrame (newFrame s p p 0 bs true false))
        else .seq (Act.bump (Key.rxCheckErrors p)) (noteArrival (firstWord s p rx))
      | .bus b =>
        let lin := s.kind p == 5
        let answered := Act.when lin (.put (Rg.linExpect p) 0)
        let freed := .seq (.put (Rg.arrivalAt p) (s.now + 1)) (Act.when (s.kind p == 6) (.seq (lineTaken p) (mediumFree p)))
        match s.acceptsBus p b with
        | 0 => .skip
        | 2 => Act.all [Act.bump (Key.rxLengthErrors p), answered, freed]
        | 3 => Act.all [Act.bump (Key.rxCheckErrors p), answered, freed]
        | _ =>
          let stamp := if lin then s.get (Rg.linBreak p) else s.vtime
          Act.all [answered, lineTaken p,
            addFrame { newFrame s p p b.kind.toNat (busCell b p stamp) false false with
              stamp := stamp, stepAt := if lin then s.stepSince (s.get (Rg.linBreakAt p)) else none }]

/-- Whether a frame is longer than its ingress attachment takes (R95, R121). -/
def State.overlong (s : State) (f : Frame) : Bool :=
  (f.kind == 0 || s.kind f.port == 7) && decide (s.inForce (Key.maxFrameLength f.port) < f.octets.length)

/-- Whether a frame that arrives is one that its attachment does not hand on, whatever still comes of it: a MAC control frame, or one
that is already too long (R95). -/
def State.refusedAt (s : State) (f : Frame) : Bool :=
  f.kind == 0 && (beAt f.octets 12 2 == 0x8808 || (!f.complete && s.overlong f))

/-- More octets of a frame; when its lookahead is complete, its decision (R142, R192). A bus frame cell and a reassembled
frame enter step 2 only whole (R14, R224). -/
def look (id : Nat) (more : List Byte) : Act :=
  .dep fun s =>
    match s.frame? id with
    | none => .skip
    | some f =>
      if f.stage != .arriving then .skip
      else
        let f' := { f with octets := f.octets ++ more }
        let p := f'.parse
        let whole := f'.complete || (f'.kind == 0 && !f'.preemptable)
        Act.all [setFrame id fun _ => f', notePeak,
          if whole && lookaheadDone s f' p then
            (if s.refusedAt f' then .seq (noteArrival f')
              (if f'.complete then dropFrame id else setFrame id fun x => { x with stage := .draining })
            else decideFrame id)
          else .skip]

/-- The octets that a tail brings. -/
def rxOctets : Rx → List Byte
  | .eth bs => bs
  | .preemptable _ bs => bs
  | .bus _ => []

/-- The fragments that it brings (R231). -/
def rxFragments : Rx → Nat
  | .preemptable n _ => n
  | _ => 0

/-- Why a frame fails its ingress attachment (R95, R103, R121, R224): the counter, none for a good frame. A frame whose reassembly
failed never came to step 1. DESIGN CHOICE (log entry 155): an Ethernet frame from an internal port meets the checks of R95 like any
other. -/
def ingressFault (s : State) (f : Frame) (how : RxEnd) : Option Nat :=
  if f.preemptable && how == .badAssembly then some (Key.assemblyErrors f.port)
  else if (f.kind == 0 && decide (f.octets.length < 64)) || s.overlong f then some (Key.rxLengthErrors f.port)
  else if how != .good then some (Key.rxCheckErrors f.port)
  else if f.kind == 0 && beAt f.octets 12 2 == 0x8808 then some (Key.rxControlDiscards f.port)
  else none

/-- A frame that a port slice takes in whole (R10): one that the block's own function behind an internal port makes. -/
def enterWhole (f : Frame) (then' : Act) : Act :=
  .dep fun s =>
    match ingressFault s f .good with
    | some k => Act.bump k
    | none => Act.all [Act.bump (Key.rxFrames f.port), Act.bump (Key.rxOctets f.port) f.rxLength, addFrame f, then']

/-- A frame that is bad, wherever it stands (R190). -/
def discardBad (id : Nat) : Act :=
  .dep fun s =>
    match s.frame? id with
    | none => .skip
    | some f => if f.stage == .stored then frameFoundBad id
      else Act.all [endCopies fun c => c.frame == id, dropFrame id]

/-- The exception copy of a frame found malformed at its tail (R131). A frame that held only a copy for recirculation is stored for
it (R186). -/
def tailException (f : Frame) : Act :=
  .dep fun s =>
    let e := exceptionEntry s 2
    let n := cellsOf f.octets.length
    if !s.isUp e.port then Act.bump (Key.notUpDiscards e.port)
    else
      let (ok, a) := bucketTest s e
      if !ok then a
      else .seq a (.dep fun s1 =>
        if s1.get (Key.queueLimit e.port e.tc) < s1.depthCells e.port e.tc + n then Act.bump (Key.queueFullDrops e.port e.tc)
        else if 131072 ≤ s1.copies.length then Act.bump Key.queueEntryDrops
        else match (if f.stage == .stored then (some [], false) else stepSeven s1 f.cls n) with
          | (none, short) => Act.bump (if short then Key.poolFullDrops else Key.descriptorDrops)
          | (some vs, _) =>
            let k := s1.get Rg.entryCount
            Act.all [Act.each vs evict, .put Rg.entryCount (k + 1),
              setFrame f.id fun x => if x.stage == .stored then x else { x with stage := .stored, charge := n, order := k },
              .dep fun s2 => .setCopies (s2.copies ++ [copyOf s1 { f with complete := true } f.parse k e]),
              Act.bumpF .live 0xF049 2 F.excDelivered])

/-- What the tail checks of a frame find (R131, R242, R298): whether it is bad, and the act. A frame that step 5 has dropped is
counted there only (R12), but blocks its stream all the same. -/
def tailChecks (s : State) (f : Frame) : Bool × Act :=
  let g := s.genOf f.tag
  let p := f.parse
  let (secBad, secAct) := if f.secured then s.secTail f.port f.data else (false, .skip)
  if secBad || f.decided.isNone then (secBad, secAct)
  else if p.malformed && f.verdict != 2 then
    (true, Act.all [secAct, Act.bump Key.malformedFrames, Act.bump Key.malformedTail])
  else match (if f.stream.isSome then identify s g f p else none) with
    | some str =>
      if s.fld g 0xF071 str F.ctxMaxSdu < f.rxLength then
        (true, Act.all [secAct, Act.when f.rtag.isSome (Act.bumpF .live 0xF077 str F.stFiltered),
          Act.when (s.fldOn g 0xF071 str F.ctxBlockOversize) (Act.setF .live 0xF077 str F.stBlocked 1)])
      else (false, secAct)
    | none => (false, secAct)

/-- What an ingress attachment keeps of a frame it discards: one that is too long is cut at MaxFrameLength (R95). -/
def State.cutOff (s : State) (f : Frame) : Frame :=
  if s.overlong f then { f with octets := f.octets.take (s.inForce (Key.maxFrameLength f.port)) } else f

/-- A frame's last octet arrives (R131, R158, R171, R190). -/
def tail (id : Nat) (rx : Rx) (how : RxEnd) : Act :=
  .dep fun s =>
    match s.frame? id with
    | none => .skip
    | some f0 =>
      if f0.complete then .skip
      else
        let f := { f0 with octets := f0.octets ++ rxOctets rx, complete := true, valid := s.now }
        let fragments := Act.when f.preemptable (Act.bump (Key.fragmentsReceived f.port) (rxFragments rx))
        let settled := match ingressFault s f how with
          | some k => Act.all [Act.bump k, Act.when f.decided.isNone (noteArrival f),
            setFrame id fun _ => s.cutOff f, notePeak, discardBad id]
          | none =>
            let counted := Act.all [Act.bump (Key.rxFrames f.port), Act.bump (Key.rxOctets f.port) f.rxLength]
            let released := .dep fun t => if (t.frame? id).any fun x => x.stage == .stored then settleFrames else dropFrame id
            if f.stage == .arriving then Act.all [counted, setFrame id fun _ => f, notePeak]
            else
              let (bad, checks) := tailChecks s f
              let f' := if f.stage == .stored then { f with charge := cellsOf f.octets.length } else f
              if bad then
                let kept := f.stage == .stored || (s.copiesOf id).any fun c => c.phase == .held
                let malformed := f.parse.malformed && f.verdict != 2 && s.flag Key.malformedAction && kept
                Act.all [counted, checks, setFrame id fun _ => { f' with verdict := if f.parse.malformed then 2 else f.verdict },
                  spoilCopies id, Act.when malformed (tailException { f' with verdict := 2 }), released]
              else
                Act.all [counted, checks, setFrame id fun _ => f', completeCuts id,
                  .dep fun s1 => Act.each ((s1.copiesOf id).filter fun c => c.phase == .held) enterReserve, released]
        Act.all [fragments, settled, mediumFree f.port]

/-- One ACF message of a split (R159): its cell's kind, identifier, flags, DLC, payload and AvtpInfo; none for a type that
becomes no cell. -/
def acfCell (msg : List Byte) (subtype : Nat) : Option (Nat × Nat × Nat × Nat × List Byte × Nat) :=
  let t := beAt msg 0 1 / 2
  let b2 := beAt msg 2 1
  let pad := b2 / 64
  let can := fun (identAt from' : Nat) =>
    let data := (msg.take (msg.length - pad)).drop from'
    let fd := b2.testBit 1
    let ident := if b2.testBit 3 then beAt msg identAt 4 % 2 ^ 29 + 2 ^ 31 else beAt msg identAt 4 % 2 ^ 11
    let info := subtype * 256 + acfBusId t b2 (beAt msg 3 1) * 8 + t
    if fd then
      some (2, ident, (if b2.testBit 2 then 2 else 0) + (if b2.testBit 0 then 4 else 0), fdDlc data.length, data, info)
    else some (1, ident, if b2.testBit 4 then 1 else 0, data.length, data, info)
  match t with
  | 1 => can 12 16
  | 2 => can 4 8
  | 3 => some (4, beAt msg 3 1, 0, 0, (msg.take (msg.length - pad)).drop 12,
      subtype * 256 + acfBusId 3 b2 0 * 8 + 3)
  | _ => none

/-- The least length of an ACF message that becomes a cell: its header. -/
def acfHeader (t : Nat) : Nat := match t with
  | 1 => 16
  | 2 => 8
  | 3 => 12
  | _ => 4

/-- A message of an ACF split becomes a cell of its port's reserve, which enters step 2. -/
def splitCell (f : Frame) (made : Nat × Nat × Nat × Nat × List Byte × Nat) : Act :=
  let (kind, ident, flags, dlc, data, info) := made
  .dep fun s =>
    let cell := mkCell kind f.source ident flags 0 0 dlc 0 f.stamp data
    if 512 < s.recircUse f.port + cellsOf cell.length then Act.bump Key.recirculationDrops
    else
      let n := s.get Rg.frameCount
      Act.all [.put Rg.frameCount (n + 1),
        .setFrames (s.frames ++ [{ newFrame s f.port f.source kind cell false true with
          id := n, stage := .recirculating, tag := f.tag, stamp := f.stamp, arrived := f.arrived, stepAt := f.stepAt, second := true
          avtp := info }]),
        decideFrame n]

/-- A message with the octets of its header; those that it is too short to hold are free (log entry 136). -/
def withHeader (msg : List Byte) (use : List Byte → Act) : Act :=
  let short := acfHeader (beAt msg 0 1 / 2) - msg.length
  if short = 0 then use msg else Act.draw fun x => use (msg ++ leBytes short x)

/-- The cells of an ACF split enter step 2 in message order (R159). The messages from the first that fails its checks count as one
in MalformedFrames, and only messages that became cells count towards the 32 (log entry 136). -/
def splitFrom (f : Frame) (subtype finish : Nat) : Nat → Nat → Nat → Act
  | 0, _, _ => .skip
  | fuel + 1, o, made =>
    if finish ≤ o then .skip
    else
      let len := beAt f.octets o 2 % 512 * 4
      let msg := octetsAt f.octets o len
      if len = 0 || finish < o + len then Act.bump Key.malformedFrames
      else if (acfCell msg subtype).isNone || 32 ≤ made then
        .seq (Act.bump Key.acfSplitOverflow) (splitFrom f subtype finish fuel (o + len) made)
      else .seq (withHeader msg fun m => match acfCell m subtype with
          | some cell => splitCell f cell
          | none => .skip)
        (splitFrom f subtype finish fuel (o + len) (made + 1))

/-- A recirculation port takes a queued copy into its second pass (R158, R159, R161). -/
def recirculate (port : Nat) : Act :=
  .dep fun s =>
    if !s.isUp port then .skip
    else match s.pick port false s.vtime [7, 6, 5, 4, 3, 2, 1, 0] with
      | (none, a) => a
      | (some (c, f), a) =>
        let sent := Act.all [a, sampleSojourn port c.tc ((s.vtime - f.stamp) / 65536), Act.bump (Key.txFrames port),
          Act.bump (Key.txOctets port) f.octets.length, .setCopies (s.copies.filter fun d => d.seq != c.seq)]
        if !s.genKept f.tag then Act.all [sent, Act.bump Key.generationDrops, dropFrame f.id]
        else if f.split then
          let p := f.parse
          if p.avtp = 0x82 || p.avtp = 0x05 then
            Act.all [sent, splitFrom { f with octets := f.data } p.avtp p.acfEnd 2500 p.acfAt 0, dropFrame f.id]
          else Act.all [sent, Act.bump Key.recirculationDrops, dropFrame f.id]
        else Act.all [sent, setFrame f.id fun x => { x with second := true }, decideFrame f.id]

end Sys2Proof.Machine
end

