-- ==== Sys2Proof/Machine/Admission.lean ====
section
/-! DEFINITION. The admission checker (R252 to R258, R285): the Holren certificate, the bounds in exact fractions of a
nanosecond, the conditions of R256, and the amounts that admission takes. -/

namespace Sys2Proof.Machine

/-- Whether a context of a generation is guaranteed. -/
def State.guaranteed (s : State) (g : Gen) (x : Nat) : Bool :=
  s.fldOn g 0xF071 x F.ctxValid && s.fldOn g 0xF071 x F.ctxGuaranteed

/-- The guaranteed streams of a generation, in ascending order. -/
def State.guaranteedStreams (s : State) (g : Gen) : List Nat := s.rowsWhere g 0xF071 (s.guaranteed g)

/-- Whether a stream's role is member (R240). -/
def State.isMember (s : State) (g : Gen) (x : Nat) : Bool := s.fldOn g 0xF071 x F.ctxMember

/-- The output stream of the recovery function that a member's context names. -/
def State.outputOf (s : State) (g : Gen) (x : Nat) : Nat := s.fld g 0xF074 (s.fld g 0xF071 x F.ctxRecovery) F.recOutput

/-- Whether a member names a valid recovery function. -/
def State.recovers (s : State) (g : Gen) (x : Nat) : Bool :=
  s.fldOn g 0xF071 x F.ctxRecoveryValid && s.fldOn g 0xF074 (s.fld g 0xF071 x F.ctxRecovery) F.recValid

/-- The member streams of an output stream: the valid contexts of that role whose recovery function has it as its output (R240). -/
def State.membersOf (s : State) (g : Gen) (x : Nat) : List Nat :=
  s.rowsWhere g 0xF071 fun m => s.fldOn g 0xF071 m F.ctxValid && s.isMember g m && s.fldOn g 0xF071 m F.ctxRecoveryValid && s.outputOf g m == x

/-- Whether a stream is the output stream of a valid recovery function. -/
def State.isOutput (s : State) (g : Gen) (x : Nat) : Bool :=
  !(s.rowsWhere g 0xF074 fun r => s.fldOn g 0xF074 r F.recValid && s.fld g 0xF074 r F.recOutput == x).isEmpty

/-- The streams that have a bound of their own (R255). -/
def State.boundStreams (s : State) (g : Gen) : List Nat :=
  (s.guaranteedStreams g).filter fun x => !s.isMember g x || s.isOutput g x

/-! ### The certificate -/

/-- The tables of the covered Sketch (R254) with their rows and strides. -/
def coveredTables : List (Nat × Nat × Nat) :=
  [(0xF050, 4, 8), (0xF053, 256, 8), (0xF054, 1024, 32), (0xF060, 256, 32), (0xF061, 262144, 8), (0xF062, 256, 8),
   (0xF063, 4096, 16), (0xF064, 1024, 8), (0xF070, 8192, 64), (0xF071, 4096, 32), (0xF072, 4096, 32), (0xF073, 256, 16),
   (0xF074, 1024, 16), (0xF075, 256, 16)]

/-- The rows of tables in one memory, as R254 takes them. -/
def State.tableOctets (s : State) (g : Gen) (tables : List (Nat × Nat × Nat)) : List Byte :=
  tables.flatMap fun t => (List.range t.2.1).flatMap fun r => s.rowOctets g t.1 r 0 t.2.2

/-- The covered Sketch (R254). -/
def State.covered (s : State) : List Byte := s.tableOctets .sketch coveredTables

/-- Octets of the certificate from a row on. -/
def State.certificate (s : State) (row n : Nat) : List Byte :=
  (List.range n).flatMap fun i => s.rowOctets .sketch 0xF076 (row + i) 0 16

/-- The record count, the stream and the claimed bound of a record (R253). -/
def State.recordCount (s : State) : Nat := leNat (s.rowOctets .sketch 0xF076 0 6 2)
def State.recordStream (s : State) (i : Nat) : Nat := leNat (s.rowOctets .sketch 0xF076 (8 + i) 0 2) % 4096
def State.recordBound (s : State) (i : Nat) : Nat := leNat (s.rowOctets .sketch 0xF076 (8 + i) 4 4)

/-- The claimed bound of a stream. -/
def State.claim (s : State) (x : Nat) : Nat :=
  match (List.range (min s.recordCount 4096)).find? fun i => s.recordStream i == x with
  | some i => s.recordBound i
  | none => 0

/-- Whether the signature verifies (R254, R337): a P-256 public key in slots k and k + 1. -/
def State.certificateSigned (s : State) : Bool :=
  let k := s.get Key.certificateKeySlot
  let sig := s.certificate 4 4
  s.usable k && s.slotKind k == 5 &&
    ecdsaVerify p256 (beNat (s.material k 32)) (beNat (s.material (k + 1) 32))
      (sha256 (s.certificate 0 4 ++ s.certificate 8 (min s.recordCount 4096))) sig

/-- The conditions of the certificate, R256 0x01 to 0x04: the first that fails. -/
def State.certificateFault (s : State) (bounded : List Nat) : Option Nat :=
  if s.rowOctets .sketch 0xF076 0 0 5 ≠ [0x48#8, 0x4C#8, 0x52#8, 0x4E#8, 0x01#8] then some 1
  else if !s.certificateSigned then some 2
  else if octetsAt (s.certificate 0 4) 8 32 ≠ sha256 s.covered then some 3
  else if 4096 < s.recordCount || (List.range s.recordCount).map s.recordStream ≠ bounded then some 4
  else none

/-! ### The bound -/

/-- The kind of a port for the bound: port 244 counts as an Ethernet port (R255). -/
def State.boundKind (s : State) (e : Nat) : Nat := if e = 244 then 1 else s.kind e

/-- Whether a port is an Ethernet or a bus attachment for the bound. -/
def State.boundEthernet (s : State) (e : Nat) : Bool := 1 ≤ s.boundKind e && s.boundKind e ≤ 3
def State.boundBus (s : State) (e : Nat) : Bool := 4 ≤ s.boundKind e && s.boundKind e ≤ 6

/-- The rate of an Ethernet port for the bound. -/
def State.boundRate (s : State) (e : Nat) : Nat :=
  if e = 244 then 10000000000 else s.rateBy (s.effective e) e

/-- A duration in ns of bits at a rate. -/
def bitsNs (b : Nat × Nat) : Rat := (b.1 * 1000000000 : Nat) / (b.2 : Rat)

/-- The payload length of the smallest CAN FD frame that holds `n` octets. -/
def fdLength (n : Nat) : Nat := fdLengths.getD (fdDlc n) 64

/-- The longest payload that a kind of CAN frame carries. -/
def canCapacity (kind : Nat) : Nat := if kind = 1 then 8 else if kind = 2 then 64 else 2048

/-- dur_e(L) with `o` octets of overhead (R219, R255), in ns. A CAN port is charged for the longest frame of its mode that
carries L octets (log entry 13). -/
def State.boundDur (s : State) (e len o : Nat) : Rat :=
  let opt := s.effective e
  if s.boundEthernet e then bitsNs ((len + o) * 8, s.boundRate e)
  else if s.boundKind e = 4 then
    let mode := opt (Key.canMode e)
    let time := fun k =>
      let n := if k = 2 then fdLength len else len
      let b := s.cellBits opt e (mkCell k 0 (2 ^ 31) 0 0 0 0 0 0 (List.replicate n 0#8)) o
      bitsNs b.1 + bitsNs b.2
    (([1, 2, 3].filter fun k => decide (k ≤ mode) && (decide (len ≤ canCapacity k) || k == mode)).map time).foldl max 0
  else
    let b := s.cellBits opt e (mkCell 4 0 0 0 0 0 0 0 0 (List.replicate len 0#8)) o
    bitsNs b.1

/-- The BrimOverhead of a port in the Sketch. -/
def State.sketchTiming (s : State) (e : Nat) (f : Fld) : Nat := s.fld .sketch 0xF060 e f
def State.overhead (s : State) (e : Nat) : Nat := if e = 244 then 0 else s.sketchTiming e F.ptimOverhead
def State.durE (s : State) (e len : Nat) : Rat := s.boundDur e len (s.overhead e)

/-- What the bound takes of a stream (R255). -/
structure Traffic where
  stream : Nat
  cls : Nat
  sdu : Nat
  cir : Nat
  cbs : Nat
  ingress : Nat
  targets : Nat
  shaperNs : Nat
deriving DecidableEq, Repr

/-- CIR and CBS of the strict policer that serves a stream, or of its flow meter. -/
def State.meterTraffic (s : State) (x : Nat) : Nat × Nat :=
  match policerOf s .sketch x with
  | some m => (s.fld .sketch 0xF073 m F.polCir, s.fld .sketch 0xF073 m F.polCbs)
  | none =>
    if s.fld .sketch 0xF071 x F.ctxMeterKind = 1 then
      let m := s.fld .sketch 0xF071 x F.ctxMeter
      (s.fld .sketch 0xF072 m F.flowCir, s.fld .sketch 0xF072 m F.flowCbs)
    else (0, 0)

/-- The traffic of a stream: of an output stream, the sums over its members and the largest MaxSdu. -/
def State.traffic (s : State) (x : Nat) : Traffic :=
  let ms := s.membersOf .sketch x
  let ts := if s.isOutput .sketch x then ms.map s.meterTraffic else [s.meterTraffic x]
  let sdu := s.fld .sketch 0xF071 x F.ctxMaxSdu
  let k := s.fld .sketch 0xF071 x F.ctxShaper
  { stream := x
    cls := s.fld .sketch 0xF071 x F.ctxCls
    sdu := if s.isOutput .sketch x then (ms.map fun m => s.fld .sketch 0xF071 m F.ctxMaxSdu).foldl max 0 else sdu
    cir := (ts.map fun t => t.1).sum
    cbs := (ts.map fun t => t.2).sum
    ingress := s.fld .sketch 0xF071 x F.ctxIngress
    targets := streamTargets s .sketch x
    shaperNs := if s.fldOn .sketch 0xF071 x F.ctxShaperValid then
        s.fld .sketch 0xF064 (s.fld .sketch 0xF063 k F.atsGroup) F.atsgResidence else 0 }

/-- Whether a stream's frames are the cells of an ACF split: Bus identification on an Ethernet ingress (log entry 13). -/
def State.fromSplit (s : State) (t : Traffic) : Bool :=
  s.boundEthernet t.ingress &&
    !(s.rowsWhere .sketch 0xF070 fun r => s.fldOn .sketch 0xF070 r F.sidValid && s.fld .sketch 0xF070 r F.sidMethod == 4
        && s.fld .sketch 0xF070 r F.sidHandle == t.stream).isEmpty

/-- Din (R255). -/
def State.din (s : State) (t : Traffic) : Rat :=
  let tin := fun len => s.boundDur t.ingress len 0
  if s.fromSplit t then tin (s.effective t.ingress (Key.maxFrameLength t.ingress)) + 10546
  else if s.boundEthernet t.ingress then tin t.sdu + 5 / 4 * tin (min (cdiv t.sdu 16 * 16) 256)
  else tin t.sdu

/-- Whether a port offers preemption with PreemptionEnable 1 in the Sketch (R222). -/
def State.boundPreempts (s : State) (e : Nat) : Bool :=
  e != 244 && s.sketchTiming e F.ptimPreempt == 1
    && (s.kind e == 1 || (s.kind e == 2 && s.effective e (Key.t1Speed e) == 2))

/-- express(e, c) (R255). -/
def State.boundExpress (s : State) (e c : Nat) : Bool :=
  let mask := s.sketchTiming e F.ptimPreemptMask
  s.boundPreempts e && !mask.testBit c && (List.range c).all fun k => mask.testBit k

/-- Whether hold applies in each span of a cycle, from a state at its start. -/
def holds (h : Bool) : List Span → List Bool
  | [] => []
  | x :: xs =>
    let h' := if x.op = 1 then true else if x.op = 2 then false else h
    h' :: holds h' xs

/-- The longest run of closed time in a list of (length, open). -/
def longestClosed (run best : Nat) : List (Nat × Bool) → Nat
  | [] => max run best
  | (n, isOpen) :: xs => if isOpen then longestClosed 0 (max run best) xs else longestClosed (run + n) best xs

/-- The open time of a gate in its cycle, the cycle, and the longest continuous closed interval (R255). -/
def State.boundGate (s : State) (e c : Nat) : Nat × Nat × Nat :=
  if s.sketchTiming e F.ptimGate = 0 then (1, 1, 0)
  else
    let row := s.timingImage .sketch e
    let cycle := imageField row F.ptimCycle
    let l := spansFrom cycle (fun i => s.listImage .sketch e i) (imageField row F.ptimLength) 0 0
    let held := (s.boundPreempts e) && (s.sketchTiming e F.ptimPreemptMask).testBit c
    let first := (holds false l).getLastD false
    let seg := (l.zip (holds first l)).map fun x => (x.1.finish - x.1.start, x.1.states.testBit c && !(held && x.2))
    let opened := ((seg.filter fun x => x.2).map fun x => x.1).sum
    (opened, cycle, if opened = 0 then cycle else longestClosed 0 0 (seg ++ seg))

/-- HoldAdvance of a port under the Sketch (R223), in ns. -/
def State.boundHold (s : State) (e : Nat) : Nat :=
  cdiv (serialTime (64 * (1 + s.sketchTiming e F.ptimAddFrag) + 63) (s.boundRate e)) 65536

/-- The largest payload that a bus attachment's mode carries (R255). -/
def State.busCapacity (s : State) (e : Nat) : Nat :=
  match s.boundKind e with
  | 4 => canCapacity (s.effective e (Key.canMode e))
  | 5 => 8
  | _ => if s.effective e (Key.serialProtocol e) = 2 then 259 else 20

/-- LowerMax (R255). -/
def State.lowerMax (s : State) (e : Nat) : Nat :=
  if s.boundEthernet e then
    (((List.range 256).filter fun p => s.isEthernet p).map fun p => s.effective p (Key.maxFrameLength p)).foldl max 0 + 4
  else s.busCapacity e

/-- Whether the rates of a stream's ingress port and of a target settle that its copies cut through (R188). -/
def State.cutsByRate (s : State) (t : Traffic) (e : Nat) : Bool :=
  s.boundEthernet t.ingress && s.isEthernet e && !s.fromSplit t && s.flag (Key.cutThroughEnable e)

/-- Whether a stream's copies at a port can cut through under R188. -/
def State.boundCuts (s : State) (t : Traffic) (e : Nat) : Bool :=
  s.cutsByRate t e && decide (s.boundRate e ≤ s.boundRate t.ingress)

/-- Lc (R255): MaxSdu, or whole cells of the ingress port where the copies can cut through. -/
def State.boundLc (s : State) (t : Traffic) (e : Nat) : Nat :=
  if s.boundCuts t e then
    cdiv (s.effective t.ingress (Key.maxFrameLength t.ingress)) 256 * 256
  else t.sdu

/-- Whether a port takes part in 802.1AS (R202). -/
def State.boundPtp (s : State) (e : Nat) : Bool :=
  e != 244 && (s.kind e == 1 || s.kind e == 2)
    && [0, 1].any fun i => s.flag (Key.instanceEnable i) && s.fldOn .live 0xF066 (256 * i + e) F.gptpEnable

/-- rho and b (R255). -/
def State.rho (s : State) (t : Traffic) (e : Nat) : Rat := (t.cir : Rat) / (8 * t.sdu * 1000000000 : Nat) * s.durE e t.sdu
def State.burst (s : State) (t : Traffic) (e : Nat) : Rat := (cdiv t.cbs t.sdu : Nat) * s.durE e t.sdu

/-- B[e] (R255); none where the commit is refused with 0x0105. -/
def State.boundAt (s : State) (all : List Traffic) (t : Traffic) (e : Nat) : Option Rat :=
  let eq := all.filter fun x => x.targets.testBit e && decide (t.cls ≤ x.cls)
  let hi := eq.filter fun x => decide (t.cls < x.cls)
  let (opened, cycle, closed) := s.boundGate e t.cls
  let fraction : Rat := (opened : Rat) / cycle
  let external : Rat := (s.fld .sketch 0xF075 e F.sportShare : Rat) / 1000000
  let share := fraction - (hi.map fun x => s.rho x e).sum - external
  if share ≤ 0 || fraction < (eq.map fun x => s.rho x e).sum + external then none
  else
    let octet : Rat := bitsNs (8, s.boundRate e)
    let block : Rat := if t.cls = 0 then 0 else if s.boundExpress e t.cls then s.boundHold e + 12 * octet
      else s.durE e (s.lowerMax e)
    let closeT : Rat := if closed = 0 then 0 else closed + s.durE e ((eq.map fun x => s.boundLc x e).foldl max 0)
    let ptp : Rat := if s.boundPtp e then 2 * s.durE e 128 else 0
    let tf : Rat := if s.boundBus e then 4000 else 60
    some (s.din t + tf + t.shaperNs
      + (block + closeT + s.fld .sketch 0xF075 e F.sportBurst + ptp + (eq.map fun x => s.burst x e).sum) / share)

/-- The bound of a stream over its targets, from a start: the bound and the port that gives it, or the port that refuses. -/
def State.boundFold (s : State) (all : List Traffic) (t : Traffic) : List Nat → Rat → Nat → Except Nat (Rat × Nat)
  | [], b, p => .ok (b, p)
  | e :: es, b, p =>
    match s.boundAt all t e with
    | none => .error e
    | some x => if b < x then s.boundFold all t es x e else s.boundFold all t es b p

/-- The bound of R255 in ns, rounded up. A stream without a target is bounded by Din (log entry 13). -/
def State.boundNs (s : State) (all : List Traffic) (t : Traffic) : Except Nat (Nat × Nat) :=
  let es := members 256 t.targets
  match s.boundFold all t es (if es.isEmpty then s.din t else 0) 0xFFFF with
  | .error e => .error e
  | .ok (b, p) => .ok (b.ceil.toNat, p)

/-! ### The conditions -/

/-- A refusal of the admission checker: the detail code, the stream and the port. -/
abbrev AdmRefusal := Nat × Nat × Nat

/-- R256 0x08. -/
def State.metered (s : State) (x : Nat) : Bool :=
  (policerOf s .sketch x).isSome || (s.fld .sketch 0xF071 x F.ctxMeterKind == 1 &&
    (let m := s.fld .sketch 0xF071 x F.ctxMeter
     s.fldOn .sketch 0xF072 m F.flowValid && s.fld .sketch 0xF072 m F.flowEir == 0 && s.fld .sketch 0xF072 m F.flowEbs == 0
       && !s.fldOn .sketch 0xF072 m F.flowMarkEnable))

/-- Whether a port runs with auto-negotiation (R92, R256). -/
def State.negotiates (s : State) (p : Nat) : Bool :=
  p != 244 && s.kind p == 1 && autoNegotiates (s.effective p (Key.serdesMode p)) (s.effective p (Key.speedSelect p))

/-- R256 0x09: the port concerned, where a stream fails it. -/
def State.placeFault (s : State) (x : Nat) : Option Nat :=
  let t := s.traffic x
  let attached := fun p => p < 256 && p != 244 && (s.isEthernet p || s.isBus p)
  if !s.fldOn .sketch 0xF071 x F.ctxTargetValid || !attached t.ingress then some t.ingress
  else match (members 256 t.targets).find? fun e => e != 244 && !attached e with
    | some e => some e
    | none => (t.ingress :: members 256 t.targets).find? s.negotiates

/-- R256 0x0A, for a guaranteed output stream. -/
def State.memberFault (s : State) (x : Nat) : Bool :=
  s.isOutput .sketch x && (s.membersOf .sketch x).any fun m =>
    !s.guaranteed .sketch m || s.fld .sketch 0xF071 m F.ctxCls != s.fld .sketch 0xF071 x F.ctxCls
      || !s.recovers .sketch m || s.isMember .sketch x

/-- A stream with its bound. -/
structure Bounded where
  traffic : Traffic
  bound : Nat
deriving DecidableEq, Repr

/-- The bounds of the streams that have one (R256 0x05, 0x06). -/
def State.bounds (s : State) (all : List Traffic) : List Nat → Except AdmRefusal (List Bounded)
  | [] => .ok []
  | x :: xs =>
    let t := s.traffic x
    match s.boundNs all t with
    | .error e => .error (5, x, e)
    | .ok (b, e) =>
      if s.claim x < b then .error (6, x, e)
      else match s.bounds all xs with
        | .error r => .error r
        | .ok l => .ok (⟨t, b⟩ :: l)

/-- Frames(x) and Cells(x) of R256. -/
def Bounded.frames (b : Bounded) : Nat :=
  cdiv b.traffic.cbs b.traffic.sdu + cdiv (b.traffic.cir * b.bound) (8 * b.traffic.sdu * 1000000000)
def State.cellsPerFrame (s : State) (t : Traffic) : Nat :=
  if s.boundEthernet t.ingress && !s.fromSplit t then cellsOf (s.effective t.ingress (Key.maxFrameLength t.ingress))
  else 1 + cdiv (t.sdu - 224) 256
def State.admCells (s : State) (b : Bounded) : Nat := b.frames * s.cellsPerFrame b.traffic

/-- The pool of a class in the Sketch. -/
def State.sketchPool (s : State) (tc : Nat) : Nat :=
  ((List.range 4).find? fun r => (s.fld .sketch 0xF050 r F.poolClasses).testBit tc).getD 0

/-- R256 0x07: the stream concerned, 0xFFFF for a pool that is too small. -/
def State.poolFault (s : State) (l : List Bounded) : Option Nat :=
  match l.find? fun b => !(s.fld .sketch 0xF050 (s.sketchPool b.traffic.cls) F.poolProtected).testBit b.traffic.cls with
  | some b => some b.traffic.stream
  | none =>
    if (List.range 4).any fun r => decide (s.fld .sketch 0xF050 r F.poolQuota
        < ((l.filter fun b => s.sketchPool b.traffic.cls == r).map s.admCells).sum) then some 0xFFFF else none

/-- The admitted streams of the Sketch with their bounds: a member takes that of its output stream (log entry 13). -/
def State.withMembers (s : State) (guar : List Nat) (l : List Bounded) : List Bounded :=
  guar.filterMap fun x =>
    match l.find? fun b => b.traffic.stream == x with
    | some b => some b
    | none => some ⟨s.traffic x, match l.find? fun b => b.traffic.stream == s.outputOf .sketch x with
        | some b => b.bound
        | none => 0⟩

/-- The admission check of the Sketch (R256): what it admits, or the refusal. -/
def State.admission (s : State) : Except AdmRefusal (List Bounded) :=
  let guar := s.guaranteedStreams .sketch
  let bounded := s.boundStreams .sketch
  let none' := 0xFFFF
  if guar.isEmpty then .ok []
  else match s.certificateFault bounded with
    | some n => .error (n, none', none')
    | none =>
      match guar.find? fun x => !s.metered x with
      | some x => .error (8, x, none')
      | none =>
        match guar.findSome? fun x => (s.placeFault x).map fun p => (x, p) with
        | some (x, p) => .error (9, x, p)
        | none =>
          match guar.find? s.memberFault with
          | some x => .error (10, x, none')
          | none =>
            match s.bounds (guar.map s.traffic) bounded with
            | .error r => .error r
            | .ok l =>
              let l := s.withMembers guar l
              match s.poolFault l with
              | some x => .error (7, x, none')
              | none => if 65536 < (l.map Bounded.frames).sum then .error (11, none', none') else .ok l

/-! ### What the bound logic read (R258) -/

/-- The rate and mode objects of a port that the bound reads. -/
def State.boundObjects (s : State) (p : Nat) : List Nat :=
  match s.boundKind p with
  | 1 => [Key.maxFrameLength p, Key.serdesMode p, Key.speedSelect p]
  | 2 => [Key.maxFrameLength p, Key.t1Speed p]
  | 3 => [Key.maxFrameLength p]
  | 4 => [Key.canMode p, Key.nominalBitRate p, Key.dataBitRate p]
  | 5 => [Key.linRole p, Key.linBitRate p]
  | 6 => [Key.serialProtocol p, Key.serialBitRate p]
  | _ => []

/-- The ports whose rate and mode objects a stream's bound reads. -/
def Traffic.reads (t : Traffic) : List Nat := (t.ingress :: members 256 t.targets).filter fun p => p != 244

/-- Whether a stream's bound reads LowerMax of an Ethernet port, and with it every MaxFrameLength (R255). -/
def State.readsLower (s : State) (t : Traffic) : Bool :=
  t.cls != 0 && (members 256 t.targets).any fun e => s.boundEthernet e && !s.boundExpress e t.cls

/-- The streams whose Lc a stream's bound reads, with the target where it does (R255): those of its class or above, where its gate
closes. -/
def State.readsLc (s : State) (all : List Traffic) (t : Traffic) : List (Traffic × Nat) :=
  (members 256 t.targets).flatMap fun e =>
    if (s.boundGate e t.cls).2.2 = 0 then []
    else (all.filter fun x => x.targets.testBit e && decide (t.cls ≤ x.cls)).map fun x => (x, e)

/-- The ports of other streams whose rates a stream's bound reads (R255): the cut-through test of Lc compares them. -/
def State.readsRates (s : State) (all : List Traffic) (t : Traffic) : List Nat :=
  ((s.readsLc all t).filter fun y => s.cutsByRate y.1 y.2).map fun y => y.1.ingress

/-- The ports whose MaxFrameLength a stream's bound reads beside (R255): in Din of an ACF split, and in Lc of the streams of its ports. -/
def State.readsLengths (s : State) (all : List Traffic) (t : Traffic) : List Nat :=
  let lc := ((s.readsLc all t).filter fun y => s.boundCuts y.1 y.2).map fun y => y.1.ingress
  if s.fromSplit t then t.ingress :: lc else lc

end Sys2Proof.Machine
end

