-- ==== Sys2Proof/Machine/LoopCheck.lean ====
section
/-! DEFINITION. The gateway check (R288, R289): consistency of the pairs, loops, and lifetimes against bounds. -/

namespace Sys2Proof.Machine

/-- The kinds of a route's KindMask. -/
def routeKindList (s : State) (r : Nat) : List Nat :=
  (List.range 7).filter fun k => k != 0 && (s.fld .sketch 0xF080 r F.routeKinds).testBit (k - 1)

/-- Whether an attachment carries a cell kind (R96, R100, R103). -/
def State.carries (s : State) (p k : Nat) : Bool :=
  match s.kind p with
  | 4 => decide (k ≤ s.effective p (Key.canMode p))
  | 5 => k == 4
  | 6 => k == (if s.effective p (Key.serialProtocol p) = 2 then 6 else 5)
  | 7 => true
  | _ => false

/-- The valid pairs of a route. -/
def validPairs (s : State) (r : Nat) : List Nat := (List.range 8).filter fun j => s.fldOn .sketch 0xF080 r (F.routePairValid j)

/-- R288, 0x0202, for one valid pair. -/
def pairConsistent (s : State) (r j : Nat) : Bool :=
  let port := s.fld .sketch 0xF080 r (F.routePairPort j)
  let fmt := s.fld .sketch 0xF080 r (F.routePairFormat j)
  let mode := s.fld .sketch 0xF080 r (F.routePairIdMode j)
  let kinds := routeKindList s r
  let k := s.kind port
  let suits := match fmt with
    | 0 => kinds.all fun x => s.carries port x
    | 1 => k == 4 || k == 7
    | 2 => k == 4 || k == 7
    | 3 => k == 4 || k == 7
    | 4 => s.isEthernet port
    | 5 => s.isEthernet port
    | _ => k == 5 || k == 7
  port != 246 && port != 247
    && !((validPairs s r).any fun i => i != j && s.fld .sketch 0xF080 r (F.routePairPort i) == port)
    && suits
    && (!(kinds.contains 5 || kinds.contains 6) || fmt == 0)
    && (!(mode == 3 || mode == 4) || ((s.fld .sketch 0xF080 r F.routeIdent).testBit 31
          && (s.fld .sketch 0xF080 r F.routeMask).testBit 31))
    && (!(fmt == 3 || fmt == 4 || fmt == 5)
        || s.fldOn .sketch 0xF081 (s.fld .sketch 0xF080 r (F.routePairProfile j)) F.xpValid)

/-- A set of identifiers at a port (R289): the kinds, and the values with their masks. `carried` for the ACF messages that an edge puts
into frames on an Ethernet port: the cells of a split there may be any. -/
structure Flow where
  port : Nat
  kinds : List Nat
  idents : List (Nat × Nat)
  carried : Bool
deriving DecidableEq, Repr

/-- in(e) of R289. -/
def flowIn (s : State) (r : Nat) : Flow :=
  ⟨s.fld .sketch 0xF080 r F.routeSource, routeKindList s r, [(s.fld .sketch 0xF080 r F.routeIdent, s.fld .sketch 0xF080 r F.routeMask)], false⟩

/-- (V', M') of R289 by IdMode. -/
def identsOut (mode v m i : Nat) : Nat × Nat :=
  let sa := (setBits (v &&& m) 0 8 (bits i 0 8), m ||| 0xFF)
  match mode with
  | 0 => (v, m)
  | 1 => (i, 2 ^ 32 - 1)
  | 2 => (i &&& m, m)
  | 3 => sa
  | _ =>
    if bits m 16 8 = 0xFF then
      if bits v 16 8 < 0xF0 then (setBits sa.1 8 8 (bits i 8 8), sa.2 ||| 0xFF00) else sa
    else (sa.1, setBits sa.2 8 8 0)

/-- out(e) of R289. Format 0x3 from kind 3 keeps the identifiers of the IdMode (R273). -/
def flowOut (s : State) (r j : Nat) : Flow :=
  let kinds := routeKindList s r
  let fmt := s.fld .sketch 0xF080 r (F.routePairFormat j)
  let out := match fmt with
    | 0 => kinds
    | 6 => [4]
    | 4 => (kinds.filterMap fun k => if k = 1 then some 1 else if k = 2 || k = 3 then some 2 else if k = 4 then some 4 else none).dedup
    | 5 => (kinds.filterMap fun k => if k = 1 then some 1 else if k = 2 || k = 3 then some 2 else if k = 4 then some 4 else none).dedup
    | n => [n]
  let byMode := identsOut (s.fld .sketch 0xF080 r (F.routePairIdMode j)) (s.fld .sketch 0xF080 r F.routeIdent)
    (s.fld .sketch 0xF080 r F.routeMask) (s.fld .sketch 0xF080 r (F.routePairIdent j))
  let xl := (s.fld .sketch 0xF081 (s.fld .sketch 0xF080 r (F.routePairProfile j)) F.xpXlId, 2 ^ 32 - 1)
  let idents := if fmt = 3 then
      (if kinds.any (fun k => k != 3) then [xl] else []) ++ (if kinds.contains 3 then [byMode] else [])
    else [byMode]
  ⟨s.fld .sketch 0xF080 r (F.routePairPort j), out, idents, fmt = 4 || fmt = 5⟩

/-- Whether an edge with in-set `i` follows one with out-set `o` (R289): one of format 0x4 or 0x5 meets any row whose source is its
port. -/
def follows (o i : Flow) : Bool :=
  o.port == i.port && (o.carried || ((o.kinds.any fun k => i.kinds.contains k)
    && (o.idents.any fun d => i.idents.any fun e => ((d.1 ^^^ e.1) &&& d.2 &&& e.2) == 0)))

/-- An edge of R289 with its sets. -/
structure RouteEdge where
  row : Nat
  pair : Nat
  into : Flow
  out : Flow
deriving DecidableEq, Repr

/-- Whether an edge can be reached from some edges by one step or more. -/
def reaches (es : List RouteEdge) (goal : Nat × Nat) : Nat → List RouteEdge → List (Nat × Nat) → Bool
  | 0, _, _ => false
  | fuel + 1, frontier, seen =>
    let next := es.filter fun e => frontier.any fun d => follows d.out e.into
    if next.any (fun e => (e.row, e.pair) == goal) then true
    else
      let fresh := next.filter fun e => !seen.contains (e.row, e.pair)
      if fresh.isEmpty then false else reaches es goal fuel fresh (seen ++ fresh.map fun e => (e.row, e.pair))

/-- The streams that R288's last condition holds lifetimes against: port, kind, identifier and bound of a guaranteed stream
that Bus identification names. -/
def busBounds (s : State) (l : List Bounded) : List (Nat × Nat × Nat × Nat) :=
  (s.rowsWhere .sketch 0xF070 fun r => s.fldOn .sketch 0xF070 r F.sidValid && s.fld .sketch 0xF070 r F.sidMethod == 4).filterMap fun r =>
    let key := s.rowOctets .sketch 0xF070 r 0 48
    if streamRow s .sketch 4 key != some r then none
    else (l.find? fun b => b.traffic.stream == s.fld .sketch 0xF070 r F.sidHandle).map fun b =>
      let kind := beAt key 1 1
      let ident := beAt key 2 4
      (beAt key 0 1, kind, if kind = 4 then ident % 64 else ident, b.bound)

/-- The gateway check of the Sketch (R288): the refusal code with the row and pair concerned, or none. -/
def State.gatewayCheck (s : State) (l : List Bounded) : Option (Nat × Nat × Nat) :=
  let rows := s.rowsWhere .sketch 0xF080 fun r => s.fldOn .sketch 0xF080 r F.routeValid
  let pairs := rows.flatMap fun r => (validPairs s r).map fun j => (r, j)
  match pairs.find? fun x => !pairConsistent s x.1 x.2 with
  | some (r, j) => some (0x0202, r, j)
  | none =>
    let es := pairs.map fun x => (⟨x.1, x.2, flowIn s x.1, flowOut s x.1 x.2⟩ : RouteEdge)
    match es.find? fun e => reaches es (e.row, e.pair) (es.length + 1) [e] [] with
    | some e => some (0x0201, e.row, e.pair)
    | none =>
      let bs := busBounds s l
      (rows.find? fun r => bs.any fun b =>
        s.fld .sketch 0xF080 r F.routeSource == b.1 && (routeKindList s r).contains b.2.1
          && ((b.2.2.1 ^^^ s.fld .sketch 0xF080 r F.routeIdent) &&& s.fld .sketch 0xF080 r F.routeMask) == 0
          && decide (s.fld .sketch 0xF080 r F.routeLifetime * 100000 < b.2.2.2)).map fun r => (0x0203, r, 0xFF)

end Sys2Proof.Machine
end

