-- ==== Sys2Proof/Machine/Time.lean ====
section
/-! DEFINITION. Vehicle time (R201 to R207) and the 802.1AS instances (R202, R203, R233, R234). -/

namespace Sys2Proof.Machine

/-- The type of the time messages that a port sends. -/
def gptpSync : Nat := 0
def gptpFollowUp : Nat := 1
def gptpPdelayRequest : Nat := 2
def gptpPdelayResponse : Nat := 3
def gptpAnnounce : Nat := 4
def gptpPdelayFollowUp : Nat := 5

/-- Whether an attachment can take part in 802.1AS (R202). -/
def State.timeAware (s : State) (p : Nat) : Bool := s.kind p == 1 || s.kind p == 2

/-- Whether an instance runs (R203): from the start of the device on (R235). -/
def State.instRuns (s : State) (i : Nat) : Bool :=
  decide (2 ≤ s.get Key.startupState) && s.flag (Key.instanceEnable i)
    && !(i == 1 && s.flag (Key.instanceEnable 0) && s.get (Key.domainNumber 0) == s.get (Key.domainNumber 1))

/-- AsCapable (R234; IEEE 802.1AS-2020, log entry 12): the measurements of the port allow it, and outside domain 0 its neighbour has
said in the last 9 s that it runs gPTP. -/
def State.asCapable (s : State) (i p : Nat) : Bool :=
  s.flag (Rg.pdelayOk p) && (s.get (Key.domainNumber i) == 0
    || (s.flag (Rg.neighborAt i p) && decide (s.now < s.get (Rg.neighborAt i p) - 1 + ms 9000)))

/-- Whether a row of GptpPorts may send time messages on its port (R234). -/
def State.sendsTime (s : State) (i p : Nat) : Bool := s.isUp p && s.asCapable i p

/-- Whether it does so now: nothing leaves an isolated port (R419). -/
def State.emitsTime (s : State) (i p : Nat) : Bool := s.sendsTime i p && !s.flag (Rg.isolated p)

/-! ### The best master clock algorithm (R202; IEEE 802.1AS-2020 10.3, log entry 12)

A priority vector is one number: the system identity of the grandmaster (priority 1, clock quality, priority 2, clock identity: 112
bits), the steps removed (16), the identity of the sending port (80) and the receiving port (16). The least is the best. -/

/-- The clock identity of the device, and of its port `p`. -/
def ownClock : Nat := Config.clockIdentity % 2 ^ 64
def ownPort (p : Nat) : Nat := ownClock * 2 ^ 16 + p + 1

/-- A priority vector from its parts. -/
def priorityVector (root steps source port : Nat) : Nat := ((root * 2 ^ 16 + steps) * 2 ^ 80 + source) * 2 ^ 16 + port
def vectorRoot (v : Nat) : Nat := v / 2 ^ 112
def vectorSteps (v : Nat) : Nat := v / 2 ^ 96 % 2 ^ 16

/-- The system identity of an instance. -/
def State.systemIdentity (s : State) (i : Nat) : Nat :=
  s.get (Key.priority1 i) * 2 ^ 104 + Config.clockQuality % 2 ^ 32 * 2 ^ 72 + s.get (Key.priority2 i) * 2 ^ 64 + ownClock

/-- The priority vector of the Announce that a port holds: until three announce intervals of 1 s have passed without another. -/
def State.announced (s : State) (i p : Nat) : Option Nat :=
  if s.sendsTime i p && s.flag (Rg.annVector i p) && decide (s.now < s.get (Rg.annAt i p) + ms 3000) then
    some (s.get (Rg.annVector i p) - 1)
  else none

/-- Whether a port takes part in an instance (R202, R234). -/
def State.partOf (s : State) (i p : Nat) : Bool := s.timeAware p && s.fldOn .live 0xF066 (256 * i + p) F.gptpEnable

/-- The path vector of a port that holds an Announce: one step further. -/
def State.pathVector (s : State) (i p : Nat) : Option Nat := (s.announced i p).map fun v => v + 2 ^ 96

/-- The vector of the best grandmaster that an instance knows, itself included. Under external port configuration it is the one that
its slave port hears. -/
def State.bestVector (s : State) (i : Nat) : Nat :=
  let own := priorityVector (s.systemIdentity i) 0 (ownClock * 2 ^ 16) 0
  let ports := (List.range 256).filter (s.partOf i)
  if s.flag (Key.externalPortConfiguration i) then
    ((ports.filter fun p => s.fld .live 0xF066 (256 * i + p) F.gptpRole == 2).findSome? (s.pathVector i)).getD own
  else (ports.filterMap (s.pathVector i)).foldl min own

/-- The vector that an instance announces on a port. -/
def State.masterVector (s : State) (i p : Nat) : Nat :=
  let best := s.bestVector i
  priorityVector (vectorRoot best) (vectorSteps best) (ownPort p) p

/-- The role in use of a port in an instance (R202, R234): 0 disabled, 1 master, 2 slave, 3 passive. -/
def State.gptpRole (s : State) (i p : Nat) : Nat :=
  if !s.instRuns i || !s.partOf i p then 0
  else if s.flag (Key.externalPortConfiguration i) then s.fld .live 0xF066 (256 * i + p) F.gptpRole
  else if !s.sendsTime i p then 0
  else match s.announced i p with
    | none => 1
    | some v =>
      if s.pathVector i p == some (s.bestVector i) then 2 else if s.masterVector i p < v then 1 else 3

/-- The ports of an instance with a role. -/
def State.gptpPorts (s : State) (i role : Nat) : List Nat := (List.range 256).filter fun p => s.gptpRole i p == role

/-- Whether an instance is the grandmaster of its domain (R205): it runs, it may be one (R233), and no port is a slave. -/
def State.isGrandmaster (s : State) (i : Nat) : Bool :=
  s.instRuns i && s.get (Key.priority1 i) != 255 && (s.gptpPorts i 2).isEmpty

/-- The time without a Sync after which a source loses it (R205). -/
def State.syncTimeout (s : State) (i : Nat) : Nat :=
  let log : Int := if s.flag (Rg.syncInterval i) then (s.get (Rg.syncInterval i) : Int) - 128
    else toSigned 32 (s.get (Key.logSyncInterval i))
  let one := ms 1000
  s.get (Key.syncReceiptTimeout i) * (if 0 ≤ log then one * 2 ^ log.toNat else one / 2 ^ (-log).toNat)

/-- InstanceState (R233). -/
def State.instanceState (s : State) (i : Nat) : Nat :=
  if !s.instRuns i then 0
  else if s.isGrandmaster i then 3
  else if s.flag (Rg.syncAt i) && decide (s.now < s.get (Rg.syncAt i) - 1 + s.syncTimeout i) then 1
  else 2

/-- Saturates to the range of I32. -/
def sat32 (v : Int) : Nat := ofSigned 32 (max (-2147483647) (min 2147483647 v))

/-- TimeStatus changes (R205, R206), with its vector and what the entered state does. -/
def timeStatusTo (v : Nat) : Act :=
  .dep fun s =>
    if s.get Key.timeStatus = v then .skip
    else Act.all [.put Key.timeStatus v, Act.vectorOf Key.timeEventVector,
      match v with
      | 2 => Act.all [Act.bump Key.syncLossEvents, .put Rg.holdoverAt s.now, .put Rg.slewUp 0, .put Rg.slewDown 0,
        .put Key.frequencyAdjust (s.get Rg.servoAdjust)]
      | 4 => Act.all [.put Rg.slewUp 0, .put Rg.slewDown 0, .put Key.frequencyAdjust 0,
        .put (Rg.syncInterval (s.get Key.timeSourceInstance)) 0]
      | _ => .skip]

/-- The source instance ceases to be the grandmaster of its domain (R205). -/
def timeReview : Act :=
  .dep fun s =>
    Act.when (s.get Key.timeStatus == 4 && !s.isGrandmaster (s.get Key.timeSourceInstance)) (timeStatusTo 2)

/-- A time moved by a step, never below 0. -/
def moved (d : Int) (t : Nat) : Nat := ((t : Int) + d).toNat

/-- Eligibility and bucket times are moved by a step (R207), and so is the egress timestamp of a message that waits for an idle line: it
has yet to come. The frames in the block keep that a step was made since their ingress timestamp (R250). -/
def moveShaping (d : Int) : Act :=
  .dep fun s => Act.all [
    .setFrames (s.frames.map fun f => { f with eligible := f.eligible.map (moved d), stepAt := f.stepAt.or (some s.now) }),
    .setCopies (s.copies.map fun c => { c with
      eligible := c.eligible.map (moved d)
      egress := if s.kind c.port = 6 && s.notStarted c then c.egress.map (moved d) else c.egress }),
    Act.each (List.range 1024) fun g => Act.when (s.flag (Rg.groupElig g)) (.put (Rg.groupElig g) (moved d (s.get (Rg.groupElig g)))),
    Act.each (List.range 4096) fun k => Act.when (s.flag (Rg.bucketEmpty k)) (Act.all [
      .put (Rg.bucketEmpty k) (moved d (s.get (Rg.bucketEmpty k))),
      Act.setF .live 0xF065 k F.atssBucket ((moved d (s.get (Rg.bucketEmpty k)) - 2 ^ 100) / 65536)])]

/-- The gate engine of a port after a step: a change whose ConfigChangeTime was jumped over is made (R207). -/
def gateAfterStep (p : Nat) : Act :=
  .dep fun s =>
    match s.changeAt p with
    | some c =>
      if c ≤ s.vtime then Act.all [.put (Rg.gateSeen p) (s.vtime + 1), gateChangeOver p c, gateLands p] else gateLands p
    | none => Act.when (s.get (Key.gateOperState p) == 1) (gateLands p)

/-- A step of vehicle time (R207); `swapNow` makes a scheduled swap that the step jumped over. -/
def timeStep (d : Int) (swapNow : Act) : Act :=
  .dep fun s => Act.all [
    .clock s.now (vehicle (s.vtime + d)), .put Rg.slewUp 0, .put Rg.slewDown 0,
    Act.bump Key.timeSteps, .put Key.lastStepSize (sat32 (d / 65536)), .put Rg.steppedAt (s.now + 1),
    Act.vectorOf Key.timeEventVector, moveShaping d,
    Act.each (List.range 256) gateAfterStep,
    .dep fun t => Act.when (t.get Key.commitState == 3 && decide (t.get Rg.swapAt ≤ t.vtime)) swapNow,
    .dep fun t => Act.each ((t.copies.map fun c => c.port).dedup) fun p => selectPort p]

/-- The slaves' offset of vehicle time from a grandmaster (R204, R209): `carried` is the time that Sync and Follow_Up carry. -/
def State.offsetOf (s : State) (p carried : Nat) : Int :=
  (s.vtime + ns (s.get (Key.ingressLatency p)) : Int) - (carried + ns (s.get (Key.meanLinkDelay p)) : Int)

/-- The Follow_Up information TLV (R202; IEEE 802.1AS-2020 11.4.4.3) of a grandmaster: no rate offset, no phase change. -/
def followInfo : List Byte := beBytes 2 3 ++ beBytes 2 28 ++ beBytes 3 0x0080C2 ++ beBytes 3 1 ++ beBytes 22 0

/-- Sync and Follow_Up on a port (R202, R208, R209): two-step, so that Follow_Up carries the time at the sending of Sync. -/
def sendTime (p value : Nat) (tlv : List Byte) : Act :=
  .seq (.emit (.gptp p gptpSync 0 [])) (.emit (.gptp p gptpFollowUp value tlv))

/-- A grandmaster's Sync on the master ports of its instance (R202): the egress timestamp at the MDI (R209). -/
def sendSync (i : Nat) : Act :=
  .dep fun s => Act.each ((s.gptpPorts i 1).filter (s.emitsTime i)) fun p =>
    sendTime p (s.vtime - ns (s.get (Key.egressLatency p))) followInfo

/-- A Sync that came on port `p` is relayed on the master ports (R202, R209): the residence time, between the timestamps at the MDI,
and the link delay are added. How long the relay takes, and its measure of the neighbour's rate, are open. -/
def relaySync (i p carried : Nat) : Act :=
  .dep fun s => Act.each ((s.gptpPorts i 1).filter (s.emitsTime i)) fun q =>
    Act.draw fun d => Act.draw fun rate =>
      let tlv := match s.get (Rg.followTlv i) with
        | 0 => followInfo
        | v + 1 => beBytes 32 v
      sendTime q (carried + ns (s.get (Key.meanLinkDelay p)) + d - ns (s.get (Key.egressLatency q)) - ns (s.get (Key.ingressLatency p)))
        (overlay tlv 10 (beBytes 4 rate))

/-- Announce on the master ports, with the path trace TLV (R202). -/
def sendAnnounce (i : Nat) : Act :=
  .dep fun s =>
    let hops := ((List.range 256).find? fun p => s.gptpRole i p == 2).map fun p =>
      beBytes (8 * s.get (Rg.annHops i p)) (s.get (Rg.annPath i p))
    let path := hops.getD [] ++ beBytes 8 ownClock
    .seq (.put (Rg.annSent i) (s.now + 1)) (Act.each ((s.gptpPorts i 1).filter (s.emitsTime i)) fun p =>
      .emit (.gptp p gptpAnnounce (s.masterVector i p / 2 ^ 16) (beBytes 2 8 ++ beBytes 2 path.length ++ path)))

/-- A Sync on the slave port of an instance (R203, R204, R205): the source instance's servo acts on it; either instance relays
it. -/
def syncArrives (i p carried : Nat) (logInterval : Int) (swapNow : Act) : Act :=
  .dep fun s =>
    if s.gptpRole i p != 2 || s.flag (Rg.isolated p) then .skip
    else Act.all [
      timeReview,
      .put (Rg.syncAt i) (s.now + 1), .put (Rg.syncInterval i) (logInterval + 128).toNat,
      Act.when (i == s.get Key.timeSourceInstance) (
        let off := s.offsetOf p carried
        Act.all [.put Key.offsetFromMaster (sat32 (off / 65536)),
          Act.drawIn 0 600000 fun f => .seq (.put Key.frequencyAdjust (ofSigned 32 ((f : Int) - 300000)))
            (.put Rg.servoAdjust (ofSigned 32 ((f : Int) - 300000))),
          .put Rg.slewUp 0, .put Rg.slewDown 0,
          if ns (s.get Key.stepThreshold) < off.natAbs then timeStep (-off) swapNow
          else if off < 0 then .put Rg.slewUp off.natAbs
          else .put Rg.slewDown off.natAbs,
          timeStatusTo 1]),
      relaySync i p carried]

/-- No Sync within the receipt timeout (R205). -/
def syncLost : Act :=
  .dep fun s =>
    let i := s.get Key.timeSourceInstance
    Act.when (s.get Key.timeStatus == 1 && decide (s.get (Rg.syncAt i) - 1 + s.syncTimeout i ≤ s.now)) (timeStatusTo 2)

/-- HoldoverLimit has elapsed (R205). -/
def holdoverEnds : Act :=
  .dep fun s =>
    Act.when (s.get Key.timeStatus == 2 && decide (s.get Rg.holdoverAt + ms (s.get Key.holdoverLimit) ≤ s.now)) (timeStatusTo 3)

/-- The source instance becomes the grandmaster of its domain (R205). -/
def grandmasterEnters : Act :=
  .dep fun s =>
    let i := s.get Key.timeSourceInstance
    Act.when (s.isGrandmaster i && s.get Key.timeStatus != 4)
      (.seq (timeStatusTo 4) (.put (Key.grandmasterIdentity i) (leNat (beBytes 8 ownClock))))

/-- A peer-delay measurement (R202, R209): the responder's turn-around from `t2` to `t3` in the requester's time. One
measurement serves both instances. -/
def measureDelay (p t1 t2 t3 t4 : Nat) : Act :=
  .dep fun s =>
    let sent : Int := (t1 : Int) - ns (s.get (Key.egressLatency p))
    let got : Int := (t4 : Int) + ns (s.get (Key.ingressLatency p))
    let d := ((got - sent) - ((t3 : Int) - t2)) / 2
    Act.all [.put (Rg.pdelayLost p) 0, .put (Key.meanLinkDelay p) (d / 65536).toNat,
      .put (Rg.pdelayOk p) (if d ≤ Config.linkDelayLimit (s.kind p) then 1 else 0)]

/-- A peer-delay request is answered (R202, R209): the response carries its reception, the follow-up the sending of the response,
which comes an open time later. -/
def answerDelay (p : Nat) : Act :=
  .dep fun s => Act.draw fun d => .seq
    (.emit (.gptp p gptpPdelayResponse (s.vtime + ns (s.get (Key.ingressLatency p))) []))
    (.emit (.gptp p gptpPdelayFollowUp (s.vtime + d - ns (s.get (Key.egressLatency p))) []))

/-- A missing peer-delay response: after 9 in succession the port is no longer asCapable (log entry 12). -/
def missDelay (p : Nat) : Act :=
  .dep fun s => .seq (.put (Rg.pdelayLost p) (s.get (Rg.pdelayLost p) + 1))
    (Act.when (decide (9 < s.get (Rg.pdelayLost p) + 1)) (.put (Rg.pdelayOk p) 0))

/-- Whether a port takes part in 802.1AS at all. -/
def State.takesPart (s : State) (p : Nat) : Bool := s.isUp p && [0, 1].any fun i => s.instRuns i && s.partOf i p

/-- An Announce with a priority vector (R202). One from the device itself, or that has passed it or 255 clocks, is discarded; so is one
that is worse than what the port holds from another sender, or than what it announces itself. -/
def announceArrives (i p root steps source : Nat) (path : List (BitVec 64)) : Act :=
  .dep fun s =>
    let v := priorityVector root steps source p
    let own := source / 2 ^ 16 == ownClock || decide (255 ≤ steps) || path.any fun x => x.toNat == ownClock
    let kept := s.flag (Key.externalPortConfiguration i) || match s.announced i p with
      | none => decide (v < s.masterVector i p)
      | some old => decide (v ≤ old) || old / 2 ^ 16 % 2 ^ 80 == source
    Act.when (s.instRuns i && s.partOf i p && s.sendsTime i p && !own && kept) (Act.all [
      .put (Rg.annVector i p) (v + 1), .put (Rg.annAt i p) s.now, .put (Rg.annHops i p) path.length,
      .put (Rg.annPath i p) (beNat (path.flatMap fun x => beBytes 8 x.toNat)),
      .dep fun t => Act.when (t.gptpRole i p == 2) (.put (Key.grandmasterIdentity i) (leNat (beBytes 8 (root % 2 ^ 64)))),
      timeReview])

/-- Whether a message has come over the line; a response that is missed has not. -/
def overLine : GptpMsg → Bool
  | .pdelayLost => false
  | _ => true

/-- An 802.1AS message other than Sync (R202); an isolated port receives none (R419). -/
def gptpArrives (i p : Nat) (m : GptpMsg) : Act :=
  .dep fun s =>
    if !s.takesPart p || (overLine m && s.flag (Rg.isolated p)) then .skip
    else match m with
      | .announce p1 quality p2 gm steps source path =>
        announceArrives i p (((p1.toNat * 2 ^ 32 + quality.toNat) * 2 ^ 8 + p2.toNat) * 2 ^ 64 + gm.toNat) steps.toNat source.toNat path
      | .pdelayRequest => answerDelay p
      | .pdelayResponse t1 t2 t3 t4 => measureDelay p t1 t2 t3 t4
      | .pdelayLost => missDelay p
      | .followUp tlv => Act.when (s.gptpRole i p == 2) (.put (Rg.followTlv i) (tlv.toNat + 1))
      | .signaling capable => Act.when capable (.put (Rg.neighborAt i p) (s.now + 1))

/-- A port starts a peer-delay measurement (R202), unless it is isolated (R419). -/
def requestDelay (p : Nat) : Act :=
  .dep fun s => Act.when (s.takesPart p && !s.flag (Rg.isolated p)) (.emit (.gptp p gptpPdelayRequest s.vtime []))

/-- The sync interval of an instance (R202, R203): the source instance originates Sync as the grandmaster of its domain; the other
only relays. Announce goes out once in a second. -/
def transmitSync (i : Nat) : Act :=
  .dep fun s => Act.when (s.instRuns i) (.seq
    (Act.when (!s.flag (Rg.annSent i) || decide (s.get (Rg.annSent i) - 1 + ms 1000 ≤ s.now)) (sendAnnounce i))
    (Act.when (s.isGrandmaster i && i == s.get Key.timeSourceInstance) (sendSync i)))

/-- TimeCountersClear (R232). -/
def clearTimeCounters : Act :=
  .seq (Act.zero [Key.timeSteps, Key.syncLossEvents]) (.dep fun s =>
    Act.each (s.listedRows .live 0xF065) fun k =>
      .seq (Act.setF .live 0xF065 k F.atssShaped 0) (Act.setF .live 0xF065 k F.atssDiscards 0))

end Sys2Proof.Machine
end

