-- ==== Sys2Proof/Machine/Commit.lean ====
section
/-! DEFINITION. The commit (R43 to R47): the checks and their verdict, the swap with what every staged table does at it
(R101, R161, R173, R216, R222, R228, R242 to R246, R257, R258, R274, R285), and Realigning. -/

namespace Sys2Proof.Machine

/-- What a check that approves holds for the swap (R257, R258). -/
def holdAdmission (s : State) (l : List Bounded) : Act :=
  Act.all [
    .keepRegs fun k => !(43 ≤ Rg.numberOf k && Rg.numberOf k ≤ 45),
    Act.each l fun b => Act.all [
      .put (Rg.pendBound b.traffic.stream) (b.bound + 1), .put (Rg.pendFrames b.traffic.stream) b.frames,
      .put (Rg.pendCells b.traffic.stream) (s.admCells b),
      Act.each (b.traffic.reads ++ s.readsRates (l.map Bounded.traffic) b.traffic) fun p => .seq (.put (Rg.pendReads b.traffic.stream p) 1)
        (Act.each (s.boundObjects p) fun k => .put (Rg.pendValue k) (s.effective p k + 1)),
      Act.when (s.readsLower b.traffic) (.put (Rg.pendReads b.traffic.stream 256) 1),
      Act.each (s.readsLengths (l.map Bounded.traffic) b.traffic) fun p => .put (Rg.pendReads b.traffic.stream (512 + p)) 1],
    Act.when (!l.isEmpty) (Act.each ((List.range 256).filter fun p => s.isEthernet p) fun p =>
      .put (Rg.pendValue (Key.maxFrameLength p)) (s.effective p (Key.maxFrameLength p) + 1))]

/-- A write of SketchCommit that starts the checks (R43, R288): they read the bindings and objects in force at their start. -/
def startCommit : Act :=
  .dep fun s =>
    let refuse := fun (code x p r j : Nat) => Act.all [.put (Rg.verdict 0) code, .put (Rg.verdict 1) x, .put (Rg.verdict 2) p,
      .put (Rg.verdict 3) r, .put (Rg.verdict 4) j]
    Act.all [.put Key.commitState 2, .put Key.sketchCommit 3,
      match s.admission with
      | .error (n, x, p) => refuse (0x0100 + n) x p 0xFFFF 0xFF
      | .ok l =>
        match s.gatewayCheck l with
        | some (code, r, j) => refuse code 0xFFFF 0xFFFF r j
        | none => .seq (refuse 0 0xFFFF 0xFFFF 0xFFFF 0xFF) (holdAdmission s l)]

/-- Whether SketchCommit can start (R43, R252). -/
def State.commitStarts (s : State) : Bool :=
  s.safetyRuns && !(2 ≤ s.get Key.commitState && s.get Key.commitState ≤ 4)

/-- The instant that CommitTime and CommitTimeFrac give. -/
def State.commitInstant (s : State) : Nat := s.get Key.commitTime * 65536 + s.get Key.commitTimeFrac

/-- A commit is refused (R43). -/
def refuseCommit (code : Nat) : Act :=
  Act.all [.put Key.commitRefusal code, .put Key.commitState 5, .put Key.sketchCommit 4]

/-- The checks end (R43, R252, R288); their durations in microseconds are within 40 ms and 30 ms. -/
def checksEnd (adm gw : Nat) : Act :=
  .dep fun s =>
    if s.get Key.commitState != 2 then .skip
    else
      let code := s.get (Rg.verdict 0)
      let gateway := code = 0 || 0x0200 ≤ code
      Act.all [
        .put Key.lastCheckDuration (min adm 40000),
        .put Key.refusalStream (s.get (Rg.verdict 1)), .put Key.refusalPort (s.get (Rg.verdict 2)),
        Act.when gateway (Act.all [.put Key.lastGatewayCheckDuration (min gw 30000),
          .put Key.refusalRoute (s.get (Rg.verdict 3)), .put Key.refusalPair (s.get (Rg.verdict 4))]),
        if code != 0 then refuseCommit code
        else if s.get Key.commitTime = 0 then .seq (.put Key.commitState 3) (.put Rg.swapAt s.vtime)
        else if s.commitInstant < s.vtime then refuseCommit 0x0301
        else .seq (.put Key.commitState 3) (.put Rg.swapAt s.commitInstant)]

/-! ### The swap -/

/-- The bounds of the admitted streams, and of those not suspended, under which copies of the old generation are checked
(R257, R261). -/
def keepBounds : Act :=
  .dep fun s => .seq (.keepRegs fun k => Rg.numberOf k != 38)
    (Act.each (admittedStreams s) fun x =>
      let b := s.fld .live 0xF077 x F.stBound + 1
      .seq (.put (Rg.prevAdmitted x) b) (Act.when (!s.fldOn .live 0xF077 x F.stSuspended) (.put (Rg.prevBound x) b)))

/-- Meters, policers, shapers, groups, sequence counters and blocked streams whose rows changed (R228, R242, R244 to R246). -/
def resetChanged : Act :=
  .dep fun s => Act.all [
    Act.each (s.changedRows .prev .fair 0xF072 32) fun m =>
      Act.zero [Rg.meterSpentC m, Rg.meterSpentE m, Rg.meterRed m],
    Act.each (s.changedRows .prev .fair 0xF073 16) fun r => .put (Rg.policerSpent r) 0,
    Act.each (s.changedRows .prev .fair 0xF063 16) fun k =>
      let full : Int := (s.vtime : Int) - serialTime (s.fld .fair 0xF063 k F.atsCbs) (s.fld .fair 0xF063 k F.atsCir)
      .seq (.put (Rg.bucketEmpty k) (full + 2 ^ 100).toNat) (Act.setF .live 0xF065 k F.atssBucket (full.toNat / 65536)),
    Act.each (s.changedRows .prev .fair 0xF064 8) fun g => .put (Rg.groupElig g) 0,
    Act.each (s.changedRows .prev .fair 0xF071 32) fun x =>
      .seq (Act.setF .live 0xF077 x F.stSequence 0) (Act.setF .live 0xF077 x F.stBlocked 0),
    Act.each (s.changedRows .prev .fair 0xF081 64) fun x => .put (Rg.profileSeq x) 0]

/-- The keys of AdmittedCells. -/
def isAdmittedCells (k : Nat) : Bool :=
  k / 0x100000 == 2 && k / 256 % 16 == 7 && decide (0x13 ≤ k % 256) && decide (k % 256 ≤ 0x1A)

/-- The sums of R257 and R285 over the streams that a swap admits. -/
def admittedSum (s : State) (l : List Nat) (p : Nat → Bool) (amount : Nat → Nat) : Nat :=
  ((l.filter p).map fun x => s.get (amount x)).sum

/-- Admission at the swap (R257, R258, R285). -/
def admitStreams : Act :=
  .dep fun s =>
    let l := (s.guaranteedStreams .fair).filter fun x => s.flag (Rg.pendBound x)
    let cls := fun x => s.fld .fair 0xF071 x F.ctxCls
    let aims := fun x e => (streamTargets s .fair x).testBit e
    let from' := fun x => s.fld .fair 0xF071 x F.ctxIngress
    let ports := (l.flatMap fun x => members 256 (streamTargets s .fair x)).dedup
    let sources := ((l.map from').filter fun p => decide (p < 256)).dedup
    Act.all [
      Act.each (s.rowsWhere .live 0xF077 fun x => s.fldOn .live 0xF077 x F.stAdmitted) fun x =>
        Act.all [Act.setF .live 0xF077 x F.stBound 0, Act.setF .live 0xF077 x F.stAdmitted 0,
          Act.setF .live 0xF077 x F.stSuspended 0],
      Act.each l fun x => Act.all [Act.setF .live 0xF077 x F.stBound (s.get (Rg.pendBound x) - 1),
        Act.setF .live 0xF077 x F.stAdmitted 1],
      .put Key.admittedStreams l.length,
      .keepRegs fun k => !isAdmittedCells k && !(k / 0x100000 == 2 && k / 256 % 16 == 7 && k % 256 == 0x12)
        && Rg.numberOf k != 28 && Rg.numberOf k != 29 && !(Rg.numberOf k == 31 && decide (8 ≤ (k - 2 ^ 24) % 2 ^ 20)),
      Act.each ports fun e => Act.each (List.range 8) fun c =>
        let n := admittedSum s l (fun x => aims x e && cls x == c) Rg.pendCells
        Act.when (n != 0) (.seq (.put (Key.admittedCells e c) n)
          (.put (Key.queueLimit e c) (max (s.get (Key.queueLimit e c)) n))),
      Act.each (sources.filter fun p => s.isBus p) fun p => Act.each (List.range 4) fun g =>
        let n := admittedSum s l (fun x => from' x == p && gatewayClass (cls x) == g) Rg.pendFrames
        Act.when (n != 0) (.seq (.put (Rg.limitMin p g) n)
          (.put (Key.inboundLimit p g) (max (s.get (Key.inboundLimit p g)) n))),
      Act.each (ports.filter fun p => s.isBus p) fun p => Act.each (List.range 4) fun g =>
        let n := admittedSum s l (fun x => aims x p && gatewayClass (cls x) == g) Rg.pendFrames
        Act.when (n != 0) (.seq (.put (Rg.limitMin p (4 + g)) n)
          (.put (Key.outboundLimit p g) (max (s.get (Key.outboundLimit p g)) n))),
      Act.each (s.regs.filter fun c => Rg.numberOf c.1 == 44) fun c => .put (Rg.recorded (c.1 % 2 ^ 20)) c.2,
      Act.each (s.regs.filter fun c => Rg.numberOf c.1 == 45) fun c =>
        .put (Rg.boundReads (Rg.elementOf c.1) ((c.1 - 2 ^ 24) % 2 ^ 20)) c.2]

/-- A change of PreemptionEnable starts or ends verification, and may make preemption active (R214, R222). -/
def reverify : Act :=
  .dep fun s => Act.each (s.changedRows .prev .fair 0xF060 32) fun p =>
    let on := s.fld .fair 0xF060 p F.ptimPreempt
    Act.when (on != s.fld .prev 0xF060 p F.ptimPreempt && s.preemptable p)
      (Act.all [.put (Key.verifyStatus p) (if on = 1 && s.inForce (Key.verifyDisable p) = 0 then 1 else 0),
        .put (Rg.verifyTries p) 0, gateArms p])

/-- The LIN channels take their new schedule at the end of the slot that runs, from its first valid row (R101). -/
def relist : Act :=
  .dep fun s => Act.each ((List.range 256).filter fun p => s.kind p == 5) fun p => .put (Rg.linRestart p) 1

/-- The swap (R43, R46): every staged table takes the Sketch as its Fair copy. -/
def swapNow : Act :=
  Act.all [keepBounds, .swap,
    .dep fun s => Act.all [.put Rg.generation (s.get Rg.generation + 1), .put Rg.prevHeld 1,
      .put Key.fairCopyGeneration (s.get Key.fairCopyGeneration + 1), .put Key.commitState 4, .put Rg.realignFrom s.now,
      .put Key.sketchCommit 0, .put Key.commitRefusal 0, Act.each s.retimedPorts gateConfigure],
    resetChanged, admitStreams, reverify, relist,
    .dep fun s => Act.each ((s.copies.map fun c => c.port).dedup) fun p => selectPort p]

/-- The swap instant of an Approved commit (R43, R46). -/
def swapDue : Act :=
  .dep fun s => Act.when (s.get Key.commitState == 3 && decide (s.get Rg.swapAt ≤ s.vtime)) swapNow

/-- Realigning ends (R46, R161). -/
def realigned : Act :=
  .dep fun s => Act.when (s.get Key.commitState == 4 && !s.flag Rg.prevHeld) (.put Key.commitState 0)

/-- A frame in steps 2 to 3 or in a recirculation queue under the previous generation (R161). -/
def State.straggler (s : State) (f : Frame) : Bool :=
  f.tag != s.get Rg.generation && (f.stage == .arriving || f.stage == .recirculating)

/-- The previous generation is retired (R161). -/
def retire : Act :=
  reselect <| .dep fun s =>
    let late := s.frames.filter s.straggler
    Act.when (s.flag Rg.prevHeld && (late.isEmpty || decide (s.get Rg.realignFrom + us 50 ≤ s.now))) (Act.all [
      Act.each late fun f => Act.all [Act.bump Key.generationDrops,
        .dep fun t => .setCopies (t.copies.filter fun c => c.frame != f.id), dropFrame f.id],
      .put Rg.prevHeld 0])

/-- SketchDiscard in a state that allows it (R47). -/
def discardSketch : Act :=
  .dep fun s => Act.all [Act.when (s.get Key.commitState == 3) (.put Key.sketchCommit 3),
    .discard, .put Key.commitState 4, .put Rg.realignFrom s.now]

/-- The safety partition stops while a commit is Checking (R399): it ends without a swap. -/
def abandonCommit : Act :=
  .dep fun s => Act.when (s.get Key.commitState == 2) (.seq (.put Key.commitState 1) (.put Key.sketchCommit 3))

/-- A write of CommitTime or CommitTimeFrac while Approved moves the swap (R45). -/
def moveSwap : Act :=
  .dep fun s => Act.when (s.get Key.commitState == 3)
    (.put Rg.swapAt (if s.get Key.commitTime = 0 then s.vtime else s.commitInstant))

end Sys2Proof.Machine
end

