-- ==== Sys2Proof/Machine/RingMsg.lean ====
section
/-! DEFINITION. Frames that the block itself sends (R72, R251, R361): they enter at step 7 with one target. -/

namespace Sys2Proof.Machine

/-- A frame that the block itself makes whole in a port slice, its octets read as received there (R10). -/
def ownFrame (s : State) (source kind : Nat) (octets : List Byte) : Frame := newFrame s source source kind octets false true

/-- A ring message enters at step 7 with one target port, in a class (R361). -/
def inject (source kind port tc : Nat) (octets : List Byte) : Act :=
  reselect <| .dep fun s =>
    let f := { ownFrame s source kind octets with cls := tc, priority := tc, decided := some s.now }
    enterWhole f (step7 f f.parse
      [{ port := port, tc := tc, role := .forward, target := { port := port, asIs := true } }] true)

/-- An answer of the OD service enters the fabric from port 245 and passes steps 2 to 7 (R10, R69, R70; log entry 15). -/
def answerFrame (kind port : Nat) (octets : List Byte) : Act :=
  reselect <| .dep fun s =>
    let f := { ownFrame s 245 kind octets with answerTo := some port }
    enterWhole f (decideFrame f.id)

/-- An Ethernet frame that the block makes: padded to 60 octets, and the FCS. -/
def ownEthernet (da sa typ : Nat) (payload : List Byte) : List Byte :=
  withFcs (padTo 60 0#8 (beBytes 6 da ++ beBytes 6 sa ++ beBytes 2 typ ++ payload))

/-- A field of RingConfig. -/
def State.ring (s : State) (r : Nat) (f : Fld) : Nat := s.fld .live 0xF0A0 r f

/-- Whether a port belongs to a ring (R358): ports 224 to 255 never do. -/
def State.inRing (s : State) (r p : Nat) : Bool := decide (p < 224) && (s.ring r F.ringPorts).testBit p

/-- The ports of a ring. -/
def State.ringPorts (s : State) (r : Nat) : List Nat := members 224 (s.ring r F.ringPorts)

/-- The ring that is not Disabled and holds a port (R358). -/
def State.ringOf (s : State) (p : Nat) : Option Nat := (List.range 32).find? fun r => s.flag (Key.ringState r) && s.inRing r p

/-- The payload of the ring's own message (R360, R361). -/
def State.ringPayload (s : State) (r : Nat) (wake : Bool) : List Byte :=
  let window := s.get (Key.ringState r) == 2
  let ready := if window then 1 else s.get (Key.localConsent r)
  leBytes 1 (s.ring r F.ringLocalId)
    ++ leBytes 1 (ready * 128 + (if wake then 64 else 0) + (if window then 32 else 0))
    ++ leBytes 1 r ++ leBytes 1 (s.get (Rg.ringSeq r)) ++ leBytes 4 0

/-- Sends the ring's message on one port that carries it (R360, R361): a CAN-family port, or an Ethernet port. -/
def ringSendOn (r p : Nat) : Act :=
  .dep fun s =>
    let tc := s.ring r F.ringCls
    let body := s.ringPayload r (s.flag (Rg.wakeSend p))
    .seq (.put (Rg.wakeSend p) 0)
      (if s.kind p = 4 then
        let ident := s.ring r F.ringBaseId + s.ring r F.ringLocalId + s.ring r F.ringFormat * 2 ^ 31
        inject 240 1 p tc (mkCell 1 240 ident 0 0 0 8 0 s.vtime body)
      else inject 240 0 p tc (ownEthernet (beNat (s.rowOctets .live 0xF0A0 r 46 6)) (s.get Key.odStationAddress)
        (s.ring r F.ringEtherType) body))

/-- Whether a port carries ring messages now (R360, R361). -/
def State.carriesRing (s : State) (p : Nat) : Bool := s.isUp p && (s.kind p == 4 || s.isEthernet p)

/-- Sends one message of the ring on the ports that carry it (R361); Sequence rises with each message that goes out (R360). -/
def ringSendTo (r : Nat) (ports : List Nat) : Act :=
  .dep fun s =>
    let on := ports.filter s.carriesRing
    Act.when (!on.isEmpty) (.seq (Act.each on (ringSendOn r)) (.put (Rg.ringSeq r) ((s.get (Rg.ringSeq r) + 1) % 256)))

/-- Sends the ring's message on every port of the ring. -/
def ringSend (r : Nat) : Act := .dep fun s => ringSendTo r (s.ringPorts r)

/-- A ring port becomes Up: after a wake it sends a message with WakeRequest 1 (R369), also where the ring has reached its commit
window by then. -/
def ringPortUp (p : Nat) : Act :=
  .dep fun s =>
    match s.ringOf p with
    | none => .skip
    | some r => Act.when (s.flag (Rg.wakeSend p) && (s.get (Key.ringState r) == 1 || s.get (Key.ringState r) == 2))
        (ringSendTo r [p])

end Sys2Proof.Machine
end

