-- ==== Sys2Proof/Machine/Ports.lean ====
section
/-! DEFINITION. The states of a port (R88, R98, R109 to R118, R258): binding, Starting, Up, Flushing and Disabled. -/

namespace Sys2Proof.Machine

/-- PortState changes, with its vector (R122). -/
def portStateTo (p v : Nat) : Act := Act.putNotify (Key.portState p) v (Key.linkEventVector p)

/-- The option objects of a port that take effect when it enters Starting (R112). -/
def State.optionKeys (s : State) (p : Nat) : List Nat :=
  [Key.maxFrameLength p, Key.serdesMode p, Key.speedSelect p, Key.fecMode p, Key.t1Speed p, Key.t1Role p, Key.verifyTime p,
   Key.verifyDisable p] ++
  match s.kind p with
  | 3 => [Key.plcaEnable p, Key.plcaNodeId p, Key.plcaNodeCount p, Key.plcaToTimer p, Key.plcaBurstCount p, Key.plcaBurstTimer p]
  | 4 => [Key.canMode p, Key.nominalBitRate p, Key.nominalSamplePoint p, Key.dataBitRate p, Key.dataSamplePoint p,
      Key.tdcEnable p, Key.autoBusOffRecovery p, Key.xlPwmEnable p, Key.listenOnly p]
  | 5 => [Key.linRole p, Key.linBitRate p]
  | 6 => [Key.serialProtocol p, Key.serialBitRate p, Key.j1708Priority p, Key.klineInit p, Key.klineTargetAddress p,
      Key.messageGap p]
  | _ => []

/-- R113: the condition under which an internal port is Up. -/
def State.servingRuns (s : State) (p : Nat) : Bool :=
  if p < 232 then s.flag (Key.portEnable p) && s.flag Rg.pcieLink && s.flag Rg.busMaster
  else if p < 240 || p = 245 || 252 ≤ p then s.flag Rg.appRunning
  else if p < 244 then s.safetyRuns
  else if p = 244 then decide (2 ≤ s.get Key.recordSealState)
  else s.flag Rg.portsEnabled

/-- Whether a port in Starting is Up at once (R111, R113). -/
def State.upAtOnce (s : State) (p : Nat) : Bool :=
  !s.flag (Rg.lowPower p) && !s.flag (Rg.testedBy p) && !s.flag Rg.sleepFlushed &&
  match s.kind p with
  | 3 => s.inForce (Key.plcaEnable p) == 0
  | 5 => true
  | 6 => s.inForce (Key.serialProtocol p) == 1 || s.inForce (Key.klineInit p) == 0
  | 7 => s.servingRuns p
  | _ => false

/-- A port enters Up (R109, R122). -/
def enterUp (p : Nat) : Act :=
  .dep fun s => Act.all [.put (Key.linkUpTime p) s.vns, portStateTo p 2, .put (Rg.linRow p) 0, .put (Rg.linExpect p) 0,
    gateArms p, lineFrees p, ringPortUp p, selectPort p]

/-- A port in Starting enters Up where nothing has to be waited for. -/
def tryUp (p : Nat) : Act := .dep fun s => Act.when (s.portState p == 1 && s.upAtOnce p) (enterUp p)

/-- R258 at entry to Starting: the recorded values that differ from those now in effect, and the streams they suspend. -/
def compareRecorded (p : Nat) : Act :=
  .dep fun s =>
    let keys := s.boundObjects p
    let differs := fun k => s.flag (Rg.recorded k) && s.get (Rg.recorded k) != s.inForce k + 1
    let changed := keys.filter differs
    let longer := changed.contains (Key.maxFrameLength p)
    let mode := changed.any fun k => k != Key.maxFrameLength p
    let hit := (admittedStreams s).filter fun x => !s.fldOn .live 0xF077 x F.stSuspended
      && ((mode && s.flag (Rg.boundReads x p))
        || (longer && (s.flag (Rg.boundReads x 256) || s.flag (Rg.boundReads x (512 + p)))))
    Act.when (!changed.isEmpty) (Act.all [.put (Key.admissionMismatch p) 1,
      Act.each hit fun x => .seq (Act.setF .live 0xF077 x F.stSuspended 1)
        (deliveryFault x p 4 0 (s.fld .live 0xF077 x F.stBound))])

/-- A port enters Starting (R112): the stored options take effect. -/
def enterStarting (p : Nat) : Act :=
  .dep fun s => Act.all [
    portStateTo p 1,
    Act.each (s.optionKeys p) fun k => .put (Rg.inForce k) (s.get k + 1),
    .put (Rg.secyRow p) (leNat (s.rowOctets .live 0xF090 p 0 32) + 1),
    .put (Rg.linkSpeed p) 0,
    .dep fun t => Act.when (t.get (Rg.busOff p) == 3) (.put (Rg.busOff p) (if t.inForce (Key.autoBusOffRecovery p) = 1 then 1 else 2)),
    .dep fun t => Act.all [
      .put (Key.verifyStatus p)
        (if t.preemptable p && t.timing p F.ptimPreempt == 1 && t.inForce (Key.verifyDisable p) == 0 then 1 else 0),
      .put (Rg.verifyTries p) 0],
    compareRecorded p, tryUp p]

/-! ### Flushing -/

/-- One entry released by the flush (R115, R279). -/
def releaseEntry (c : Copy) : Act :=
  Act.all [Act.bump (Key.flushDiscards c.port), loseCopy c 6, endCopy c]

/-- The frame in transmission when a port leaves Up (R117, R229): `canSend` where the bus can still carry it. A frame in a transmit
stage that is not on the bus is not in transmission (R99). -/
def abortSending (p : Nat) (linkUp canSend : Bool) : Act :=
  .dep fun s => Act.each (s.copies.filter fun c =>
      c.port == p && (c.phase == .wire || c.phase == .paused) && !s.notStarted c) fun c =>
    if c.phase = .paused then Act.all [Act.bump (Key.egressAborts p), releaseEntry c]
    else if s.isBus p then
      if canSend then .skip else Act.all [Act.bump (Key.egressAborts p), loseCopy c 6, endCopy c]
    else if linkUp then Act.all [loseCopy c 6, abortCopy c]
    else Act.all [Act.bump (Key.egressAborts p), loseCopy c 6, endCopy c]

/-- The frames being received when a port leaves Up end truncated or incomplete (R95, R117), those in reassembly as reassembly errors
(R224). -/
def truncateArrivals (p : Nat) : Act :=
  reselect <| .dep fun s => Act.each (s.frames.filter fun f => f.port == p && !f.complete) fun f =>
    Act.all [Act.bump (if f.preemptable then Key.assemblyErrors p else Key.rxLengthErrors p), Act.when f.decided.isNone (noteArrival f),
      setFrame f.id fun x => { x with complete := true }, discardBad f.id]

/-- The entries of a port in the order in which the flush releases them (R116): all but what is being sent. -/
def State.flushOrder (s : State) (p : Nat) : List Copy :=
  ([7, 6, 5, 4, 3, 2, 1, 0].flatMap fun tc => s.queue p tc).filter fun c => c.phase != .wire || s.notStarted c

/-- A port that leaves Up awaits no response any more (R101); one that did not come in time is counted. -/
def countMissed (p : Nat) : Act :=
  .dep fun s => .seq (Act.when (s.linMissed p == 1) (Act.bump (Key.linNoResponse p))) (.put (Rg.linExpect p) 0)

/-- A port enters Flushing (R110, R115 to R117): every entry queued on it is released. -/
def enterFlushing (p reason : Nat) (linkUp canSend : Bool) : Act :=
  .dep fun s => Act.all [
    .put (Key.linkDownReason p) reason, Act.bump (Key.linkDownEvents p), portStateTo p 4,
    .put (Rg.flushFrom p) s.now, countMissed p,
    Act.zero [Rg.pdelayOk p, Rg.neighborAt 0 p, Rg.neighborAt 1 p],
    abortSending p linkUp canSend,
    .put (Rg.preemptAt p) 0, .put (Rg.fragmentFrom p) 0, .put (Rg.fragmentSent p) 0,
    .dep fun t => Act.each (t.flushOrder p) releaseEntry,
    truncateArrivals p]

/-- The flush of a port ends (R110, R116). -/
def flushEnds (p : Nat) : Act :=
  .dep fun s =>
    if s.portState p != 4 then .skip
    else .seq (.put (Key.flushDuration p) ((s.now - s.get (Rg.flushFrom p)) / 65536))
      (if s.flag (Key.portEnable p) then enterStarting p else portStateTo p 0)

/-- PortEnable takes a value (R110, R118). -/
def enablePort (p v : Nat) : Act :=
  .dep fun s => .seq (.put (Key.portEnable p) v)
    (match s.portState p with
    | 0 => Act.when (v == 1) (.seq (Act.when (decide (2 ≤ s.get (Rg.busOff p))) (.put (Rg.busOff p) 1)) (enterStarting p))
    | 1 => Act.when (v == 0) (portStateTo p 0)
    | 2 => Act.when (v == 0) (enterFlushing p 1 true true)
    | _ => .skip)

/-- The attachment of a port reports its link (R92, R98, R111). -/
def linkComesUp (p reported : Nat) : Act :=
  .dep fun s =>
    if s.portState p != 1 || s.kind p == 7 || s.flag (Rg.lowPower p) || s.get (Rg.busOff p) == 2
        || s.flag (Rg.testedBy p) || s.flag Rg.sleepFlushed then .skip
    else Act.all [
      Act.when (s.isEthernet p) (.put (Rg.linkSpeed p) reported),
      Act.when (s.get (Rg.busOff p) == 1) (Act.all [.put (Rg.busOff p) 0, .put (Key.canErrorState p) 0,
        .put (Key.transmitErrorCount p) 0, .put (Key.receiveErrorCount p) 0]),
      enterUp p]

/-- The attachment of a port reports loss of link (R111); during a self-test the rule is suspended (R419). -/
def linkGoes (p : Nat) : Act :=
  .dep fun s => Act.when (s.isUp p && s.kind p != 7 && !s.flag (Rg.testedBy p)) (enterFlushing p 2 false true)

/-- A CAN controller goes bus-off (R98, R110, R117, R281). While its port flushes it releases the frame that is still being sent.
The kind of recovery is settled on the entry to Starting (`enterStarting`). -/
def goesBusOff (p : Nat) : Act :=
  .dep fun s =>
    let off := Act.all [.put (Key.canErrorState p) 2, Act.bump (Key.busOffCount p), .put (Rg.busOff p) 3]
    if s.kind p != 4 then .skip
    else if s.isUp p then .seq off (enterFlushing p 3 true false)
    else if s.portState p == 4 && !s.flag (Rg.busOff p) then .seq off (abortSending p true false)
    else .skip

/-- An internal port whose condition no longer holds enters Flushing (R113). -/
def servingStops (p : Nat) : Act :=
  .dep fun s => Act.when (s.isUp p && s.kind p == 7 && !s.servingRuns p) (enterFlushing p 4 true true)

/-- Every internal port takes up a change of its condition: one that lost it enters Flushing. -/
def servingReview (stop : Bool) : Act :=
  Act.each ((List.range 32).map fun i => 224 + i) fun p => .seq (if stop then servingStops p else .skip) (tryUp p)

/-- The function behind an internal port stops (R113). What no other command reports is that the PCIe link leaves L0 and L1: that
takes all host ports down. -/
def functionStops (p : Nat) : Act :=
  .dep fun s =>
    if s.isUp p && decide (224 ≤ p) && decide (p < 232) && s.flag Rg.pcieLink then .seq (.put Rg.pcieLink 0) (servingReview true)
    else servingStops p

/-- The port to which an attachment is bound. -/
def State.holderOf (s : State) (x : Nat) : Nat := ((List.range 224).find? fun q => s.attachment q == x).getD 0

/-- A write of AttachmentBinding that is allowed swaps two bindings (R88). DESIGN CHOICE (log entry 141): the bus-off state and the error
counters of a CAN controller stay with the slice. -/
def swapBindings (p x : Nat) : Act :=
  .dep fun s =>
    let q := s.holderOf x
    Act.all [.put (Key.attachmentBinding q) (s.attachment p), .put (Key.attachmentBinding p) x]

end Sys2Proof.Machine
end

