-- ==== Sys2Proof/Machine/Glove.lean ====
section
/-! DEFINITION. The Gloves (R304 to R313, R319): submission, dispatch and completion of their jobs, and the freshness
counters. -/

namespace Sys2Proof.Machine

/-- A field of a job slot, of a page's binding and of a freshness counter. -/
def State.job (s : State) (row : Nat) (f : Fld) : Nat := s.fld .live 0xF096 row f
def State.page (s : State) (p : Nat) (f : Fld) : Nat := s.fld .live 0xF095 p f
def State.fresh (s : State) (c : Nat) (f : Fld) : Nat := s.fld .live 0xF094 c f

/-- The job slots in a state of R308. -/
def State.jobsIn (s : State) (st : Nat) : List Nat := s.rowsWhere .live 0xF096 fun r => s.job r F.jobState == st

/-- JobsInFlight, JobsRunning and PageJobsInFlight (R305, R322). -/
def State.jobsInFlight (s : State) : Nat := (s.jobsIn 1).length + (s.jobsIn 2).length
def State.jobsRunning (s : State) : Nat := (s.jobsIn 2).length
def State.pageJobs (s : State) (p : Nat) : Nat := ((s.jobsIn 1 ++ s.jobsIn 2).filter fun r => r / 16 == p).length

/-- Octets of a page's data buffer (R304). -/
def State.gloveData (s : State) (p off len : Nat) : List Byte :=
  (List.range len).map fun i => s.octet .live (cellKey 0xF097 (64 * p + (off + i) / 64) ((off + i) % 64))

/-- The user code of R320 of an access path; none for a remote session. -/
def pathUser : Path → Option Nat
  | .safety => some 1
  | .application => some 2
  | .pcie => some 3
  | .spi => some 3
  | .remote _ => none

/-- Whether a path is bound to a page (R304). -/
def State.ownsPage (s : State) (path : Path) (p : Nat) : Bool := pathUser path == some (s.page p F.pageUser)

/-- A job becomes Done (R305, R309). -/
def endJob (row status result : Nat) : Act :=
  .dep fun s =>
    let v := s.page (row / 16) F.pageVector
    Act.all [Act.setF .live 0xF096 row F.jobState 3, Act.setF .live 0xF096 row F.jobStatus status,
      Act.setF .live 0xF096 row F.jobResult result, Act.setF .live 0xF096 row F.jobTime s.vns,
      Act.when (v != 255) (.emit (.vector v))]

/-- A job whose key slot became unusable (R309). -/
def spoilJob (row : Nat) : Act := .seq (Act.setRow .live 0xF096 row 24 (List.replicate 16 0#8)) (endJob row 2 0)

/-- Whether an operation is one of the freshness operations (R307). -/
def isFresh (op : Nat) : Bool := op == 3 || op == 4

/-- JobSubmit (R305): the status and the effect. The condition on the counter holds for every Op (log entry 20). -/
def submitJob (s : State) (p v : Nat) : Nat × Act :=
  let row := 16 * p + v
  let key := s.job row F.jobKeySlot
  let ctr := s.job row F.jobCounter
  let base := s.page p F.pageKeyBase
  let fresh := s.page p F.pageFreshBase
  if s.get (Key.pageState p) != 2 then (2, .skip)
  else if s.page p F.pageQuota ≤ v then (1, .skip)
  else if s.job row F.jobState != 0 then (3, .skip)
  else if key < base || base + s.page p F.pageKeyCount ≤ key
      || ctr < fresh || fresh + s.page p F.pageFreshCount ≤ ctr then (2, .skip)
  else if 256 ≤ s.jobsInFlight then (3, Act.bump Key.submitBusyRefusals)
  else (0, Act.all [Act.setF .live 0xF096 row F.jobState 1, Act.setF .live 0xF096 row F.jobStatus 0,
    Act.setF .live 0xF096 row F.jobResult 0, .put (Rg.jobOrder row) (s.get Rg.jobsSubmitted),
    .put Rg.jobsSubmitted (s.get Rg.jobsSubmitted + 1)])

/-! ### Freshness -/

/-- The last value of a counter (R310). -/
def State.freshLast (s : State) (c : Nat) : Nat := 2 ^ s.fresh c F.freshWidth - 1

/-- Whether a key is exhausted for the freshness operations (R310): a counter bound to its slot was exhausted under the
slot's present generation, be it loaded under that or under an earlier one. -/
def State.keyExhausted (s : State) (slot : Nat) : Bool :=
  !(s.rowsWhere .live 0xF094 fun c => s.fldOn .live 0xF094 c F.freshExhausted && s.fresh c F.freshKeySlot == slot
    && s.get (Rg.exhaustedGen c) == s.slotGeneration slot + 1).isEmpty

/-- The warning of a counter that a job leaves nearly used up (R312). -/
def warnFresh (c : Nat) : Act :=
  .dep fun s => Act.when (decide (s.freshLast c - s.fresh c F.freshValue ≤ s.get Key.freshnessWarnRemaining)
      && !s.fldOn .live 0xF094 c F.freshWarned)
    (.seq (Act.setF .live 0xF094 c F.freshWarned 1) (Act.vectorOf Key.freshnessEventVector))

/-- A job takes the next freshness value at dispatch (R310), or ends. A counter that is Exhausted already is not set so again: it does
not exhaust a key that its slot has been given since (log entry 145). -/
def takeFresh (row c : Nat) (run : Act) : Act :=
  .dep fun s =>
    let v := s.fresh c F.freshValue
    if s.freshLast c ≤ v then Act.all [
      Act.when (!s.fldOn .live 0xF094 c F.freshExhausted)
        (Act.all [Act.setF .live 0xF094 c F.freshExhausted 1, .put (Rg.exhaustedGen c) (s.slotGeneration (s.fresh c F.freshKeySlot) + 1),
          Act.vectorOf Key.freshnessEventVector]),
      warnFresh c, endJob row 5 0]
    else if s.keyExhausted (s.job row F.jobKeySlot) then endJob row 5 0
    else Act.all [Act.setF .live 0xF094 c F.freshValue (v + 1), .put (Rg.jobValue row) (v + 1), warnFresh c, run]

/-! ### Dispatch and completion -/

/-- The page whose turn it is among those with queued jobs, round-robin (R306). -/
def State.nextPage (s : State) : Option Nat :=
  let pages := (s.jobsIn 1).map fun r => r / 16
  ((List.range 64).map fun i => (s.get Rg.pageServed + i) % 64).find? fun p => pages.contains p

/-- The queued job of a page that was submitted first. -/
def State.nextJob (s : State) (p : Nat) : Option Nat :=
  (sortBy (fun a b => decide (s.get (Rg.jobOrder a) ≤ s.get (Rg.jobOrder b))) ((s.jobsIn 1).filter fun r => r / 16 == p)).head?

/-- The row of the record seal's Glove, page 62, through which it seals its records (R304, R346). -/
def sealRow : Nat := 992

/-- The user of R332 for which the key of a job serves: the seal's chain key on page 62. -/
def jobUser (row : Nat) : Nat := if row = sealRow then 3 else 0

/-- Dispatch of a queued job to a free context of a CMAC unit (R306, R307, R310, R313, R326). An Op that no write has set has no
stated outcome: its status is open (log entry 21). -/
def dispatchJob (unit : Nat) : Act :=
  .dep fun s =>
    if 16 ≤ ((s.jobsIn 2).filter fun r => s.get (Rg.jobUnit r) == unit + 1).length then .skip
    else match s.nextPage with
      | none => .skip
      | some p => match s.nextJob p with
        | none => .skip
        | some row =>
          let key := s.job row F.jobKeySlot
          let c := s.job row F.jobCounter
          let op := s.job row F.jobOp
          let run := Act.all [Act.setF .live 0xF096 row F.jobState 2, .put (Rg.jobUnit row) (unit + 1)]
          .seq (.put Rg.pageServed ((p + 1) % 64))
            (if (s.aesKey key (jobUser row)).isNone then endJob row 2 0
            else if op = 0 then Act.draw fun x => endJob row (x % 256) 0
            else if isFresh op && (s.fresh c F.freshKeySlot != key || !s.fldOn .live 0xF094 c F.freshLoaded
                || s.flag (Rg.staleFresh c)) then endJob row 2 0
            else if 4096 < s.job row F.jobOffset + s.job row F.jobLength then endJob row 1 0
            else if op = 3 then takeFresh row c run
            else if op = 4 && s.keyExhausted key then endJob row 5 0
            else run)

/-- The CMAC of a job's message followed by `tail` (R307). -/
def State.jobMac (s : State) (row : Nat) (tail : List Byte) : List Byte :=
  match s.aesKey (s.job row F.jobKeySlot) 0 with
  | some k => cmac k (s.gloveData (row / 16) (s.job row F.jobOffset) (s.job row F.jobLength) ++ tail)
  | none => List.replicate 16 0#8

/-- A freshness value as the message carries it (R307). -/
def State.freshOctets (s : State) (c v : Nat) : List Byte := beBytes (cdiv (s.fresh c F.freshWidth) 8) v

/-- Writes the MAC of a job (R307). -/
def writeMac (row : Nat) (mac : List Byte) : Act :=
  .dep fun s => Act.setRow .live 0xF096 row 24 (octetsAt (mac.take (s.job row F.jobMacLength)) 0 16)

/-- Whether the MAC of a job matches the one it names (R307). -/
def State.macMatches (s : State) (row : Nat) (mac : List Byte) : Bool :=
  let n := s.job row F.jobMacLength
  (s.rowOctets .live 0xF096 row 24 16).take n == mac.take n

/-- A running job of one operation completes; any other command leaves the slot as it is. -/
def State.completes (s : State) (row op : Nat) : Bool := s.job row F.jobState == 2 && s.job row F.jobOp == op

/-- MacGenerate (R307). -/
def generates (row : Nat) : Act :=
  .dep fun s => Act.when (s.completes row 1 && row != sealRow) (.seq (writeMac row (s.jobMac row [])) (endJob row 0 0))

/-- MacVerify (R307). -/
def verifies (row : Nat) : Act :=
  .dep fun s => Act.when (s.completes row 2) (endJob row 0 (if s.macMatches row (s.jobMac row []) then 1 else 2))

/-- MacGenerateFresh (R307, R310). -/
def generatesFresh (row : Nat) : Act :=
  .dep fun s =>
    let v := s.get (Rg.jobValue row)
    Act.when (s.completes row 3)
      (if s.keyExhausted (s.job row F.jobKeySlot) then endJob row 5 0
       else Act.all [writeMac row (s.jobMac row (s.freshOctets (s.job row F.jobCounter) v)),
         Act.setF .live 0xF096 row F.jobFresh v, endJob row 0 0])

/-- MacVerifyFresh (R311). -/
def verifiesFresh (row : Nat) : Act :=
  .dep fun s =>
    let c := s.job row F.jobCounter
    let v := s.job row F.jobFresh
    let stored := s.fresh c F.freshValue
    Act.when (s.completes row 4)
      (if s.keyExhausted (s.job row F.jobKeySlot) || decide (s.freshLast c ≤ stored) then .seq (warnFresh c) (endJob row 5 0)
       else if v ≤ stored || s.freshLast c < v then .seq (warnFresh c) (endJob row 0 3)
       else if !s.macMatches row (s.jobMac row (s.freshOctets c v)) then .seq (warnFresh c) (endJob row 0 2)
       else Act.all [Act.setF .live 0xF094 c F.freshValue v, warnFresh c, endJob row 0 1])

/-- A Done slot is freed (R308). -/
def freeJob (row : Nat) : Act :=
  .dep fun s => Act.when (s.job row F.jobState == 3) (Act.setF .live 0xF096 row F.jobState 0)

/-! ### Closing -/

/-- PageEnable takes a value (R319). -/
def enablePage (p v : Nat) : Act :=
  .dep fun s => .seq (.put (Key.pageEnable p) v)
    (match s.get (Key.pageState p) with
    | 0 => Act.when (v == 1) (.put (Key.pageState p) 2)
    | 1 => .put (Key.pagePendingEnable p) v
    | _ => Act.when (v == 0) (.seq (.put (Key.pageState p) 1)
        (Act.each ((s.jobsIn 1).filter fun r => r / 16 == p) fun r => endJob r 3 0)))

/-- Closing ends once no job of the page runs (R319). -/
def pageCloses (p : Nat) : Act :=
  .dep fun s => Act.when (s.get (Key.pageState p) == 1 && !((s.jobsIn 2).any fun r => r / 16 == p)) (Act.all [
    Act.clearTable .live 0xF096 fun r => r / 16 == p,
    Act.clearTable .live 0xF097 fun r => r / 64 == p,
    .put (Key.pageState p) (if s.flag (Key.pagePendingEnable p) then 2 else 0),
    .put (Key.pagePendingEnable p) 0])

/-! ### The counters' rows -/

/-- Whether Value, Width and KeySlot of a counter can be written (R313). -/
def State.freshWritable (s : State) (c : Nat) : Bool :=
  !s.fldOn .live 0xF094 c F.freshLoaded || s.slotGeneration (s.fresh c F.freshKeySlot) != s.fresh c F.freshGeneration

/-- A write of a counter's fields that was accepted loads it (R313). -/
def loadFresh (c : Nat) : Act :=
  .dep fun s => Act.all [Act.setF .live 0xF094 c F.freshLoaded 1,
    Act.setF .live 0xF094 c F.freshGeneration (s.slotGeneration (s.fresh c F.freshKeySlot)),
    Act.setF .live 0xF094 c F.freshWarned 0, Act.setF .live 0xF094 c F.freshExhausted 0,
    Act.zero [Rg.exhaustedGen c, Rg.staleFresh c]]

/-- FreshnessWarned and FreshnessExhausted (R322). -/
def State.freshCount (s : State) (f : Fld) : Nat := (s.rowsWhere .live 0xF094 fun c => s.fldOn .live 0xF094 c f).length

end Sys2Proof.Machine
end

