-- ==== Sys2Proof/Machine/SignUnit.lean ====
section
/-! DEFINITION. The signature unit (R341 to R343): its users, and how a job starts. -/

namespace Sys2Proof.Machine

/-- A field of a SignatureJobs row. -/
def State.sjob (s : State) (r : Nat) (f : Fld) : Nat := s.fld .live 0xF099 r f

/-- The curve and the digest of a key kind (R331, R341). -/
def curveOf (kind : Nat) : Curve := if kind = 4 || kind = 6 then p384 else p256
def digestOf (kind : Nat) (m : List Byte) : List Byte := if kind = 4 || kind = 6 then sha384 m else sha256 m

/-- Whether an operation signs, and whether it works on data (R343). -/
def signs (op : Nat) : Bool := op == 1 || op == 2
def onData (op : Nat) : Bool := op == 1 || op == 3

/-- Whether a kind suits an operation (R331, R343). -/
def suits (op kind : Nat) : Bool := if signs op then kind == 3 || kind == 4 else kind == 5 || kind == 6

/-- The private scalar and the public key of a slot (R331). -/
def State.scalarOf (s : State) (n : Nat) : Nat := beNat (s.material n (curveOf (s.slotKind n)).size)
def State.publicOf (s : State) (n : Nat) : Nat × Nat :=
  let size := (curveOf (s.slotKind n)).size
  (beNat (s.material n size), beNat (s.material (n + cdiv size 32) size))

/-- Whether a slot can sign a seal statement. -/
def State.canSign (s : State) (n : Nat) : Bool := s.usable n && (s.slotKind n == 3 || s.slotKind n == 4)

/-- Whether the seal's slots serve it (R351, R339). -/
def State.sealReady (s : State) : Bool :=
  !s.flag Key.tamperLatched && (s.aesKey (s.get Key.sealKeySlot) 3).isSome && s.canSign (s.get Key.sealSignSlot)

/-- A signature with a nonce drawn from the DRBG (R341). -/
def signWith (n : Nat) (m : List Byte) (digested : Bool) (use : List Byte → Act) : Act :=
  .dep fun s =>
    let c := curveOf (s.slotKind n)
    let d := if digested then m else digestOf (s.slotKind n) m
    Act.drawIn 1 (c.n - 1) fun k => use (ecdsaSign c (s.scalarOf n) k d)

/-- A job of a SignatureJobs row becomes done (R343). -/
def endSignJob (r status result : Nat) : Act :=
  .dep fun s => Act.all [Act.setF .live 0xF099 r F.sjobState 3, Act.setF .live 0xF099 r F.sjobStatus status,
    Act.setF .live 0xF099 r F.sjobResult result, Act.setF .live 0xF099 r F.sjobTime s.vns]

/-- Why a job cannot run (R343): its status. Row 0 is the safety partition's and row 1 the application partition's. -/
def State.signJobFault (s : State) (r : Nat) : Option Nat :=
  let op := s.sjob r F.sjobOp
  let key := s.sjob r F.sjobKeySlot
  if key = 1 || !s.usable key || !suits op (s.slotKind key)
      || (onData op && s.page (s.sjob r F.sjobPage) F.pageUser != r + 1) then some 2
  else if onData op && decide (4096 < s.sjob r F.sjobOffset + s.sjob r F.sjobLength) then some 1
  else none

/-- A queued row takes the idle unit, or ends. An Op that no write has set has no stated outcome (log entry 21). -/
def startSignJob (r : Nat) : Act :=
  .dep fun s =>
    if s.flag Rg.signUser || s.sjob r F.sjobState != 1 then .skip
    else if s.sjob r F.sjobOp = 0 then Act.draw fun x => endSignJob r (x % 256) 0
    else match s.signJobFault r with
      | some st => endSignJob r st 0
      | none => .seq (Act.setF .live 0xF099 r F.sjobState 2) (.put Rg.signUser (if r = 0 then 2 else 4))

/-- The idle unit starts the operation of its first user (R342): seal statements, row 0, attestation, row 1. -/
def kickUnit : Act := Act.all [
  .dep fun s => Act.when (!s.flag Rg.signUser && s.flag Rg.stmtKind && s.sealReady && !s.flag Rg.stmtRun)
    (.seq (.put Rg.signUser 1) (.put Rg.stmtRun 1)),
  startSignJob 0,
  .dep fun s => Act.when (!s.flag Rg.signUser && s.flag Rg.attestWanted) (.put Rg.signUser 3),
  startSignJob 1]

/-- A row is submitted (R343). -/
def submitSignJob (r : Nat) : Act :=
  Act.all [Act.setF .live 0xF099 r F.sjobState 1, Act.setF .live 0xF099 r F.sjobStatus 0, Act.setF .live 0xF099 r F.sjobResult 0,
    kickUnit]

/-- The operation of a row completes (R341, R343). -/
def finishSignJob (r : Nat) : Act :=
  .dep fun s =>
    if s.sjob r F.sjobState != 2 then .skip
    else match s.signJobFault r with
    | some st => endSignJob r st 0
    | none =>
      let op := s.sjob r F.sjobOp
      let key := s.sjob r F.sjobKeySlot
      let kind := s.slotKind key
      let size := (curveOf kind).size
      let data := s.gloveData (s.sjob r F.sjobPage) (s.sjob r F.sjobOffset) (s.sjob r F.sjobLength)
      let digest := if onData op then digestOf kind data
        else if size = 48 then s.rowOctets .live 0xF099 r 16 48 else s.rowOctets .live 0xF099 r 16 32
      if signs op then
        signWith key digest true fun sig => .seq (Act.setRow .live 0xF099 r 64 sig) (endSignJob r 0 0)
      else
        let q := s.publicOf key
        endSignJob r 0 (if ecdsaVerify (curveOf kind) q.1 q.2 digest (s.rowOctets .live 0xF099 r 64 (2 * size)) then 1 else 2)

/-! ### Attestation -/

/-- The head of a CBOR item (RFC 8949) and the items that R345 uses. -/
def cborHead (major v : Nat) : List Byte :=
  if v < 24 then beBytes 1 (32 * major + v)
  else if v < 256 then beBytes 1 (32 * major + 24) ++ beBytes 1 v
  else if v < 65536 then beBytes 1 (32 * major + 25) ++ beBytes 2 v
  else if v < 4294967296 then beBytes 1 (32 * major + 26) ++ beBytes 4 v
  else beBytes 1 (32 * major + 27) ++ beBytes 8 v
def cborUint (v : Nat) : List Byte := cborHead 0 v
def cborBytes (bs : List Byte) : List Byte := cborHead 2 bs.length ++ bs
def cborText (t : String) : List Byte := cborHead 3 t.length ++ ascii t

/-- The device UID (R353). -/
def State.deviceUid (s : State) : List Byte := leBytes 8 (s.get Key.deviceUidHigh) ++ leBytes 8 (s.get Key.deviceUidLow)

/-- The key identifier of the device (R345). -/
def State.kid (s : State) : List Byte := (sha256 (s.material 2 32 ++ s.material 3 32)).take 8

/-- The payload of the statement (R345). -/
def State.attestPayload (s : State) : List Byte :=
  let nonce := s.rowOctets .live 0xF09A 0 8 (s.fld .live 0xF09A 0 F.attNonceLength)
  cborHead 5 12 ++ cborUint 1 ++ cborBytes nonce ++ cborUint 2 ++ cborBytes s.deviceUid ++ cborUint 3 ++ cborText "PXS-256"
    ++ cborUint 4 ++ cborUint (s.get Key.siliconRevision) ++ cborUint 5 ++ cborUint s.vns
    ++ cborUint 6 ++ cborUint (s.get Key.timeStatus)
    ++ cborUint 7 ++ cborBytes (beBytes 32 (s.get Rg.bootDigest)) ++ cborUint 8 ++ cborBytes (beBytes 32 (s.get Rg.imageDigest))
    ++ cborUint 9 ++ cborBytes (sha256 (s.tableOctets .fair coveredTables))
    ++ cborUint 10 ++ cborBytes (sha256 (s.tableOctets .fair [(0xF080, 16384, 128), (0xF081, 1024, 64)]))
    ++ cborUint 11 ++ cborUint (s.get Key.fairCopyGeneration) ++ cborUint 12 ++ cborUint (s.get Key.rollbackCounter)

/-- The protected header of the statement, ES256 (R345), and what is signed (RFC 9052 4.4). -/
def protectedHeader : List Byte := [0xA1#8, 0x01#8, 0x26#8]
def toBeSigned (payload : List Byte) : List Byte :=
  cborHead 4 4 ++ cborText "Signature1" ++ cborBytes protectedHeader ++ cborBytes [] ++ cborBytes payload

/-- AttestGenerate (R344, R339): the status and the effect. DESIGN CHOICE (log entry 151): a write while an attestation waits or runs is an
execution that ends with it. -/
def startAttest (s : State) : Nat × Act :=
  if !s.usable 1 || s.flag Key.tamperLatched then (2, .skip) else (0, .seq (.put Rg.attestWanted 1) kickUnit)

/-- The statement is complete (R344, R345). -/
def finishAttest : Act :=
  .dep fun s => .seq (.put Rg.attestWanted 0)
    (if !s.usable 1 then .put Key.attestGenerate 2
     else
      let payload := s.attestPayload
      signWith 1 (toBeSigned payload) false fun sig =>
        let st := cborHead 6 18 ++ cborHead 4 4 ++ cborBytes protectedHeader ++ cborHead 5 1 ++ cborUint 4 ++ cborBytes s.kid
          ++ cborBytes payload ++ cborBytes sig
        Act.all [Act.setF .live 0xF09A 0 F.attLength st.length, Act.setRow .live 0xF09A 0 48 (octetsAt st 0 976),
          .put Key.attestGenerate 0])

end Sys2Proof.Machine
end

