-- ==== Sys2Proof/Machine/Seal.lean ====
section
/-! DEFINITION. The record seal (R346 to R352). -/

namespace Sys2Proof.Machine

/-- RecordSealState changes, with its vector; port 244 follows it (R351, R113). -/
def sealStateTo (v : Nat) : Act :=
  Act.all [Act.putNotify Key.recordSealState v Key.sealEventVector, servingStops 244, tryUp 244]

/-- The seal key's slot and generation, as one number. -/
def State.sealKeyId (s : State) : Nat := s.get Key.sealKeySlot * 65536 + s.slotGeneration (s.get Key.sealKeySlot)

/-- The flags of a seal PDU's header that time gives (R347). -/
def State.sealFlags (s : State) : Nat :=
  let st := s.get Key.timeStatus
  (if st = 1 || st = 2 || st = 4 then 128 else 0) + 4 * st

/-- A header of R347 before it takes its sequence number and Loss. -/
def sealHeader (typ flags handle time len port : Nat) : List Byte :=
  beBytes 1 (16 + typ) ++ beBytes 1 flags ++ beBytes 2 handle ++ beBytes 4 0 ++ beBytes 8 time ++ beBytes 2 len
    ++ beBytes 1 port ++ beBytes 1 0

/-- The seal's job on page 62 is given up; its record waits for the next. -/
def dropSealJob : Act := Act.setF .live 0xF096 sealRow F.jobState 0

/-- A new chain begins (R350): its chain-break statement waits for its signature. -/
def startChain (cause : Nat) : Act :=
  .dep fun s => Act.draw fun x =>
    let id := x % 2 ^ 64
    let ending := 3 ≤ cause && cause ≤ 5
    let prev := if ending then beBytes 8 (s.get Key.chainId) ++ beBytes 4 (s.get Key.lastSequence) ++ beBytes 16 (s.get Rg.sealMac)
      else beBytes 8 (s.get Key.prevChainId) ++ beBytes 4 (s.get Key.prevLastSequence)
        ++ leBytes 8 (s.get Key.prevLastMacHigh) ++ leBytes 8 (s.get Key.prevLastMacLow)
    let body := beBytes 8 id ++ beBytes 1 cause ++ beBytes 3 0 ++ prev ++ s.deviceUid
      ++ beBytes 4 (s.get Key.rollbackCounter) ++ beBytes 4 (s.get Key.fairCopyGeneration)
    Act.all [dropSealJob, .put Key.chainId id, .put Rg.sealCause 8, .put Rg.chainOpen 0, .put Rg.sealNext 0, .put Rg.sealMac 0,
      .put Rg.sealFirst 0, .put Rg.sealCount 0, .put Rg.sealDropped 0, .put Rg.sealKeyGen s.sealKeyId,
      .put Rg.stmtKind 3, .put Rg.stmtRun 0, .put Rg.stmtHeader (beNat (sealHeader 3 s.sealFlags 0xFFFF s.vns 0 0)),
      .put Rg.stmtBody (beNat body), Act.vectorOf Key.sealEventVector, kickUnit]

/-- Enters Running: a chain begins where one is due (R350). -/
def runSeal : Act :=
  .dep fun s => .seq (sealStateTo 2)
    (match s.get Rg.sealCause with
    | 8 => if s.get Rg.sealKeyGen = s.sealKeyId then kickUnit else startChain 3
    | c => startChain (if c = 0 then 1 else c))

/-- Enters Running, or Stalled where its slots do not serve (R351). -/
def enterSeal : Act := .dep fun s => if s.sealReady then runSeal else sealStateTo 3

/-- The seal takes up a change of its slots (R350, R351); while it closes, a chain that is open ends with its key. -/
def sealReview : Act :=
  .dep fun s =>
    let changed := s.get Rg.sealKeyGen != s.sealKeyId
    match s.get Key.recordSealState with
    | 1 => Act.when (s.sealReady && s.get Rg.sealCause == 8 && changed) (startChain 3)
    | 2 => if !s.sealReady then .seq dropSealJob (sealStateTo 3) else Act.when changed (startChain 3)
    | 3 => Act.when s.sealReady runSeal
    | _ => .skip

/-- The octets of a PDU with its sequence number, and Loss where it is due (R347). -/
def State.sealPatch (s : State) (bs : List Byte) : List Byte :=
  let flags := (bs.getD 1 0#8) ||| (if s.flag Rg.sealLoss then 0x20#8 else 0#8)
  overlay (overlay bs 1 [flags]) 4 (beBytes 4 (s.get Rg.sealNext))

/-- A frame that the seal emits enters at step 2 (R346). -/
def sealFrame (pdu : List Byte) : Act :=
  .dep fun s =>
    let octs := ownEthernet (s.get Key.recordDestination) (s.get Key.odStationAddress) (s.get Key.recordEtherType) pdu
    let f := ownFrame s 244 0 octs
    reselect (enterWhole f (decideFrame f.id))

/-- A PDU with its sequence number set takes its chained MAC and is emitted (R347, R348). -/
def emitPdu (pdu : List Byte) : Act :=
  .dep fun s =>
    let mac := match s.aesKey (s.get Key.sealKeySlot) 3 with
      | some k => cmac k (beBytes 16 (s.get Rg.sealMac) ++ pdu)
      | none => List.replicate 16 0#8
    Act.all [.put Key.lastSequence (s.get Rg.sealNext), .put Rg.sealNext (s.get Rg.sealNext + 1), .put Rg.sealMac (beNat mac),
      .put Rg.sealLoss 0, sealFrame (pdu ++ mac)]

/-- Whether the oldest record in process can be sealed: the chain is open and has a sequence number before its last. -/
def State.canSeal (s : State) : Bool :=
  decide (s.get Rg.recordsOut < s.get Rg.recordsTaken) && s.flag Rg.chainOpen && decide (s.get Rg.sealNext < 0xFFFFFFFF)
    && (s.aesKey (s.get Key.sealKeySlot) 3).isSome

/-- The seal unit submits the oldest record in process to its Glove, page 62 (R304, R346): one job at a time, since each MAC takes
the one before (R348). While 256 jobs are in flight it waits. -/
def submitSeal : Act :=
  .dep fun s =>
    let st := s.job sealRow F.jobState
    Act.when (s.canSeal && st != 1 && st != 2 && decide (s.jobsInFlight < 256)) (Act.all [
      Act.setF .live 0xF096 sealRow F.jobState 1, Act.setF .live 0xF096 sealRow F.jobOp 1,
      Act.setF .live 0xF096 sealRow F.jobKeySlot (s.get Key.sealKeySlot), .put (Rg.jobOrder sealRow) (s.get Rg.jobsSubmitted),
      .put Rg.jobsSubmitted (s.get Rg.jobsSubmitted + 1)])

/-- A batch is cut (R349); while a statement waits, the cut waits for it. -/
def cutBatch : Act :=
  .dep fun s =>
    if s.flag Rg.stmtKind then .skip
    else
      let first := s.get Rg.sealFirst
      let next := s.get Rg.sealNext
      let body := beBytes 8 (s.get Key.chainId) ++ beBytes 4 first ++ beBytes 4 (next - 1) ++ beBytes 4 (next - first)
        ++ beBytes 16 (s.get Rg.sealMac) ++ beBytes 8 (s.get Rg.sealDropped)
      Act.all [.put Rg.stmtKind 2, .put Rg.stmtHeader (beNat (sealHeader 2 s.sealFlags 0xFFFF s.vns 0 0)),
        .put Rg.stmtBody (beNat body), .put Rg.sealFirst next, .put Rg.sealCount 0, .put Rg.cutAt s.now, kickUnit]

/-- Whether a cut is due (R349, R350), while the seal runs or closes: at BatchSize, after 60 s, and after the last record that the chain
can hold. -/
def State.cutDue (s : State) : Bool :=
  (s.get Key.recordSealState == 1 || s.get Key.recordSealState == 2) && s.flag Rg.chainOpen && s.get Rg.stmtKind == 0 &&
    (decide (s.get Key.batchSize ≤ s.get Rg.sealCount) || decide (s.get Rg.cutAt + ms 60000 ≤ s.now)
      || decide (0xFFFFFFFF ≤ s.get Rg.sealNext))

/-- A batch is cut where one is due. -/
def cutIfDue : Act := .dep fun s => Act.when s.cutDue cutBatch

/-- The octets of a statement from its header on, without signature: 44 octets of body for a batch, 64 for a chain break. -/
def State.statement (s : State) : List Byte :=
  beBytes 20 (s.get Rg.stmtHeader) ++ beBytes (if s.get Rg.stmtKind = 3 then 64 else 44) (s.get Rg.stmtBody)

/-- The statement that waits is signed and emitted (R349, R350). -/
def emitStatement : Act :=
  .dep fun s =>
    let pdu := s.sealPatch s.statement
    let opens := s.get Rg.stmtKind = 3
    let last := s.get Rg.sealNext = 0xFFFFFFFF
    signWith (s.get Key.sealSignSlot) pdu false fun sig => Act.all [
      emitPdu (pdu ++ sig), .put Rg.stmtKind 0, .put Rg.stmtRun 0,
      Act.when opens (Act.all [.put Rg.chainOpen 1, .put Rg.sealCount 0, .put Rg.cutAt s.now]),
      if last then startChain 4 else .seq cutIfDue submitSeal]

/-- The signature unit has signed for the seal (R341). -/
def finishStatement : Act :=
  .dep fun s =>
    if !s.flag Rg.stmtRun then .skip
    else if s.sealReady then emitStatement else .put Rg.stmtRun 0

/-- An operation of the signature unit ends, and the next begins (R341, R342). -/
def signatureEnds : Act :=
  .dep fun s => Act.all [.put Rg.signUser 0,
    (match s.get Rg.signUser with
    | 1 => finishStatement
    | 2 => finishSignJob 0
    | 3 => finishAttest
    | 4 => finishSignJob 1
    | _ => .skip),
    kickUnit]

/-! ### Records -/

/-- A record leaves port 244's queue (R124, R260, R346). -/
def leaveSeal (c : Copy) (f : Frame) (octs : List Byte) : Act :=
  .dep fun s => Act.all [departure c f s.vtime s.now, Act.bump (Key.txFrames 244),
    Act.bump (Key.txOctets 244) (s.txLength { c with sent := octs }),
    match c.pair with
      | some (r, _) => Act.bumpF .live 0xF083 r F.rcntSent
      | none => .skip,
    endCopy c]

/-- What a record delivers (R347): the frame from its destination address without its FCS and without a SecTAG that its ingress SecY
handled (R300), or its cell. -/
def recordBody (c : Copy) (f : Frame) : List Byte :=
  match c.form with
  | some bs => bs
  | none => if f.secured then stripSec f.data else f.data

/-- The seal unit takes a record (R346, R347, R351); a routed copy whose lifetime is over is removed, and the next is tried (R278). -/
def takeWithin : Nat → Act
  | 0 => .skip
  | fuel + 1 => .dep fun s =>
    let held := s.get Rg.recordsTaken - s.get Rg.recordsOut
    if !s.isUp 244 || (s.get Key.recordSealState == 2 && decide (64 ≤ held)) then .skip
    else match s.pick 244 false s.vtime [7, 6, 5, 4, 3, 2, 1, 0] with
      | (none, a) => a
      | (some (c, f), a) =>
        let body := recordBody c f
        if s.expired c then Act.all [a, expireCopy c, takeWithin fuel]
        else if s.get Key.recordSealState = 3 then
          Act.all [a, leaveSeal c f body, Act.bump Key.sealDrops, .put Rg.sealDropped (s.get Rg.sealDropped + 1),
            .put Rg.sealLoss 1]
        else
          let len := if c.form.isSome then body.length else f.octets.length
          let flags := s.sealFlags + (if 1464 < body.length then 64 else 0)
          let octs := sealHeader 1 flags (f.stream.getD 0xFFFF) (f.stamp / 65536) len f.source ++ body.take 1464
          let i := s.get Rg.recordsTaken
          Act.all [a, leaveSeal c f body, .put (Rg.recordLength i) octs.length, .put (Rg.recordOctets i) (beNat octs),
            .put Rg.recordsTaken (i + 1), submitSeal]

/-- The seal unit takes the next record that it may take. -/
def takeRecord : Act := .dep fun s => takeWithin (s.copies.length + 1)

/-- The oldest record in process is sealed and emitted (R346 to R349). -/
def sealOne : Act :=
  .dep fun s => Act.when s.canSeal
    (let i := s.get Rg.recordsOut
     let octs := beBytes (s.get (Rg.recordLength i)) (s.get (Rg.recordOctets i))
     Act.all [.put Rg.recordsOut (i + 1), .put (Rg.recordLength i) 0, .put (Rg.recordOctets i) 0,
       Act.bump Key.recordsSealed, .put Rg.sealCount (s.get Rg.sealCount + 1), emitPdu (s.sealPatch octs)])

/-- A record's chained MAC is complete, and its job on page 62 with it (R346 to R349). -/
def recordDone : Act :=
  .dep fun s => Act.when (1 ≤ s.get Key.recordSealState && s.get Key.recordSealState ≤ 2)
    (.seq (Act.when (s.completes sealRow 1) (Act.all [dropSealJob, sealOne, cutIfDue])) submitSeal)

/-! ### The states of R351 -/

/-- The seal goes on until nothing is left: a statement that waits is emitted, the oldest record is sealed, and, where `final` is still to
come, a last batch that holds a PDU is cut, and its statement emitted (R349 to R352). After the last sequence of a chain, that is a chain
of cause 0x04 and what is behind it. -/
def drainSeal : Bool → Nat → Act
  | _, 0 => .skip
  | final, fuel + 1 => .dep fun s =>
    if s.flag Rg.stmtKind then .seq emitStatement (drainSeal final fuel)
    else if s.canSeal then Act.all [sealOne, cutIfDue, drainSeal final fuel]
    else if final && s.flag Rg.chainOpen && s.get Rg.sealFirst < s.get Rg.sealNext then .seq cutBatch (drainSeal false fuel)
    else .skip

/-- The seal seals what it holds, cuts a final batch and emits its statement (R349, R351, R352). Where its slots do not serve, what it
holds is dropped, and the chain-break statement of a chain that has not begun waits until they do (R350). Each record brings at most a
statement and a chain with it. -/
def finalBatch : Act :=
  .dep fun s =>
    let held := s.get Rg.recordsTaken - s.get Rg.recordsOut
    if s.sealReady then Act.all [dropSealJob, drainSeal true (4 * held + 8), dropSealJob]
    else Act.all [dropSealJob, Act.bump Key.sealDrops held, .put Rg.sealDropped (s.get Rg.sealDropped + held),
      Act.when (held != 0) (.put Rg.sealLoss 1), .put Rg.recordsOut (s.get Rg.recordsTaken),
      Act.when (s.get Rg.stmtKind != 3) (.put Rg.stmtKind 0), .put Rg.stmtRun 0]

/-- Closing ends (R351). A seal that RecordSealEnable 0 closed begins a chain of cause 0x05 (R350); one that closed for sleep goes on
with its chain (R352). -/
def sealCloses : Act :=
  .dep fun s => Act.when (s.get Key.recordSealState == 1) (Act.all [finalBatch,
    .dep fun t => Act.when (t.get Rg.signUser == 1) (.put Rg.signUser 0),
    if s.flag Key.recordSealPendingEnable then .seq (.put Key.recordSealPendingEnable 0) enterSeal
    else Act.all [sealStateTo 0, Act.when (!s.flag Key.recordSealEnable) (.put Rg.sealCause 5)],
    kickUnit])

/-- RecordSealEnable takes a value (R351). -/
def enableSeal (v : Nat) : Act :=
  .dep fun s => .seq (.put Key.recordSealEnable v)
    (match s.get Key.recordSealState with
    | 0 => Act.when (v == 1) enterSeal
    | 1 => .put Key.recordSealPendingEnable v
    | _ => Act.when (v == 0) (sealStateTo 1))

end Sys2Proof.Machine
end

