-- ==== Sys2Proof/Machine/KeyOps.lean ====
section
/-! DEFINITION. Loading, invalidating and destroying keys (R327 to R329, R334 to R339), and what the users of the slots do
when one becomes unusable (R303, R309, R337, R351). -/

namespace Sys2Proof.Machine

/-- The slots that a kind spans (R331). -/
def keySpan (kind : Nat) : Nat := match kind with
  | 4 => 2
  | 5 => 2
  | 6 => 4
  | _ => 1

/-- The slot that holds the key of which slot `n` is a Continuation; `n` itself otherwise (R331). -/
def State.keyBase (s : State) (n : Nat) : Nat :=
  if s.slotKind n != 15 then n
  else (([n - 1, n - 2, n - 3].find? fun b => s.slotKind b != 15).filter fun b => decide (n - b < keySpan (s.slotKind b))).getD n

/-- Whether a slot belongs to a key that is usable or Invalidating (R334). -/
def State.slotTaken (s : State) (n : Nat) : Bool := s.usable (s.keyBase n) || s.slotState (s.keyBase n) == 3

/-- Whether a slot that a load would span blocks it (R334). A slot of the key that the load replaces does not. -/
def State.spanBlocked (s : State) (n m : Nat) : Bool :=
  decide (1023 < m) || decide (m < 4) || (s.keyBase m != n && s.slotTaken m)

/-- The slots that the key of a slot spans beyond it. -/
def spanned (n kind : Nat) : List Nat := (List.range (keySpan kind - 1)).map fun i => n + 1 + i

/-- What a Load does (R334). -/
inductive LoadCase where
  | refuse (status : Nat)
  | hold
  | load
deriving DecidableEq, Repr

/-- The first condition of R334 that applies to a load of a row image. -/
def State.loadCase (s : State) (n image : Nat) : LoadCase :=
  let kind := imageField image F.keyKind
  let parent := imageField image F.keyParent
  if n < 4 || s.flag Key.tamperLatched then .refuse 2
  else if kind = 0 || kind = 8 || kind = 15 then .refuse 2
  else if (s.keyBase n != n && s.slotTaken n) || ((spanned n kind).any fun m => s.spanBlocked n m) then .refuse 2
  else if parent = n || !s.usable parent || (s.slotKind parent != 8 && s.slotKind parent != 9)
      || imageField image F.keyParentGen != s.slotGeneration parent || s.fld .live 0xF098 parent F.keyDepth = 7 then .refuse 2
  else if s.slotState n = 3 then .hold
  else if s.slotGeneration n = 0xFFFF then .refuse 5
  else .load

/-- A slot becomes Empty and keeps its Generation (R330, R335). -/
def emptySlot (n : Nat) : Act :=
  .dep fun s =>
    let g := s.slotGeneration n
    Act.all [Act.clearTable .live 0xF098 fun r => r == n, Act.setF .live 0xF098 n F.keyGeneration g]

/-- A slot that a load spans, the `j`-th behind the first, becomes a Continuation. The second slot of a 48-octet value holds its last
16 octets (R331). No rule says how the octets behind the first 32 come, so that they are open (log entry 22). -/
def continuation (kind m j : Nat) : Act :=
  let size := if (kind = 4 || kind = 6) && j % 2 = 1 then 16 else 32
  Act.all [emptySlot m, Act.setF .live 0xF098 m F.keyKind 15,
    Act.draw fun x => Act.setF .live 0xF098 m F.keyMaterial (x % 2 ^ (8 * size))]

/-- A load takes place (R334). -/
def applyLoad (n image : Nat) : Act :=
  .dep fun s =>
    let kind := imageField image F.keyKind
    let old := (spanned n (if s.slotKind n = 15 then 0 else s.slotKind n)).filter fun m => s.keyBase m == n
    let new := spanned n kind
    let parent := imageField image F.keyParent
    let g := s.slotGeneration n
    Act.all [
      Act.each (old.filter fun m => !new.contains m) emptySlot,
      Act.clearTable .live 0xF098 fun r => r == n,
      Act.setF .live 0xF098 n F.keyMaterial (imageField image F.keyMaterial),
      Act.setF .live 0xF098 n F.keyKind kind,
      Act.setF .live 0xF098 n F.keyUsage (imageField image F.keyUsage),
      Act.setF .live 0xF098 n F.keyParent parent,
      Act.setF .live 0xF098 n F.keyParentGen (imageField image F.keyParentGen),
      Act.setF .live 0xF098 n F.keyRetain (imageField image F.keyRetain),
      Act.setF .live 0xF098 n F.keyGeneration (g + 1),
      Act.setF .live 0xF098 n F.keyDepth (s.fld .live 0xF098 parent F.keyDepth + 1),
      Act.setF .live 0xF098 n F.keyState 1,
      Act.each new fun m => continuation kind m (m - n)]

/-- The material of a slot and of those it spans is zeroised. -/
def zeroise (n : Nat) : Act :=
  .dep fun s => Act.each (n :: (spanned n (s.slotKind n)).filter fun m => s.keyBase m == n) fun m =>
    Act.setF .live 0xF098 m F.keyMaterial 0

/-- A slot loses its key: zeroised, with the next Generation, in a new state (R335). -/
def retireSlot (n st : Nat) : Act :=
  .dep fun s => Act.all [zeroise n, Act.setF .live 0xF098 n F.keyGeneration (min (s.slotGeneration n + 1) 0xFFFF),
    Act.setF .live 0xF098 n F.keyState st]

/-! ### What the users of the slots do -/

/-- Whether the key of a job of a Glove, or of a SignatureJobs row, serves it (R332, R343). -/
def State.jobKeyed (s : State) (r : Nat) : Bool := (s.aesKey (s.job r F.jobKeySlot) (jobUser r)).isSome
def State.signKeyed (s : State) (r : Nat) : Bool :=
  s.usable (s.sjob r F.sjobKeySlot) && suits (s.sjob r F.sjobOp) (s.slotKind (s.sjob r F.sjobKeySlot))

/-- An act on the keys, and what the users of the slots that no longer serve them do at once (R303, R309, R332, R337, R350, R351). -/
def changingKeys (a : Act) : Act :=
  .dep fun s => .seq a (.dep fun t => Act.all [
    Act.each ((t.jobsIn 1 ++ t.jobsIn 2).filter fun r => r != sealRow && s.jobKeyed r && !t.jobKeyed r) spoilJob,
    Act.each ([0, 1].filter fun r => (t.sjob r F.sjobState == 1 || t.sjob r F.sjobState == 2)
        && s.signKeyed r && !t.signKeyed r) fun r => endSignJob r 2 0,
    Act.each (t.copies.filter fun c => c.begun && s.secAlive c && !t.secAlive c) abortCopy,
    sealReview, .dep fun u => Act.when (!u.jobKeyed sealRow) dropSealJob, submitSeal])

/-! ### The commands of the table -/

/-- A write with Op Load (R334, R336): the status and the effect. -/
def writeLoad (s : State) (n image : Nat) : Nat × Act :=
  match s.loadCase n image with
  | .refuse st => (st, .skip)
  | .hold => (0, .seq (.put (Rg.heldLoad n) (image + 1)) (Act.setF .live 0xF098 n F.keyPending 1))
  | .load => (0, changingKeys (applyLoad n image))

/-- A load held for a slot is cancelled (R336). -/
def cancelHeld (n : Nat) : Act := .seq (.put (Rg.heldLoad n) 0) (Act.setF .live 0xF098 n F.keyPending 0)

/-- A write with Op Invalidate (R335, R336). -/
def writeInvalidate (s : State) (n : Nat) : Nat × Act :=
  if n < 4 || s.slotKind n = 15 then (2, .skip)
  else match s.slotState n with
    | 1 => (0, changingKeys (.seq (retireSlot n 3) (.put Key.sweepActive 1)))
    | 3 => (0, cancelHeld n)
    | _ => (0, .skip)

/-- The sweep ends (R335, R336, R339): every Loaded slot that is not usable is Orphaned, every Invalidating slot is Empty, and
the held loads are tried again. -/
def sweepEnds : Act :=
  .dep fun s => Act.when (s.flag Key.sweepActive) (changingKeys (Act.all [
    .put Key.sweepActive 0,
    Act.each (s.rowsWhere .live 0xF098 fun n => s.slotState n == 1 && !s.usable n) fun n => retireSlot n 2,
    .dep fun t => Act.each (t.rowsWhere .live 0xF098 fun n => t.slotState n == 3) fun n =>
      .seq (Act.each ((spanned n (t.slotKind n)).filter fun m => t.keyBase m == n) emptySlot) (emptySlot n),
    Act.each ((List.range 1024).filter fun n => s.flag (Rg.heldLoad n)) fun n =>
      .seq (cancelHeld n) (.dep fun u => Act.when (u.loadCase n (s.get (Rg.heldLoad n) - 1) == .load)
        (applyLoad n (s.get (Rg.heldLoad n) - 1))),
    Act.when (s.flag Key.tamperLatched) (Act.all [
      .dep fun t => Act.each (t.listedRows .live 0xF098) fun n => Act.setF .live 0xF098 n F.keyMaterial 0,
      Act.each (List.range 32) fun k => .put (Rg.sessionKey k) 0]),
    Act.when (s.get Key.jtagState == 1) (Act.all [.put Key.jtagState 2, .put Key.jtagUnlock 0, .put Key.keyGuardMode 2]),
    Act.vectorOf Key.keyEventVector]))

/-- Slot 0 is invalidated (R335, R339, R446): where it is Loaded it loses its key, and a sweep runs. -/
def invalidateRoot : Act :=
  .dep fun s => .seq (Act.when (s.slotState 0 == 1) (retireSlot 0 3)) (.put Key.sweepActive 1)

/-- TAMPER_N is accepted (R338, R339, R340). In Service, whether the cleared slots read Empty or Orphaned is open (log entry 23); while
PORST_N is low the pin is not watched (R455); until a wake has restored the keys the wrapping key is lost, and slot 0 is invalidated where
it is Loaded (R335). -/
def tampered : Act :=
  .dep fun s => if s.inReset then .skip else changingKeys (Act.all [
    .put Key.tamperLatched 1, Act.vectorOf Key.keyEventVector,
    Act.when (decide (2 ≤ s.get Key.deviceState)) (.put Rg.wrapKey 0),
    if s.get Key.deviceState = 2 then .skip
    else if s.get Key.keyGuardMode = 1 then Act.all [
      Act.drawIn 0 1 fun x => Act.each (s.listedRows .live 0xF098) fun n => Act.all [
        Act.setF .live 0xF098 n F.keyMaterial 0, Act.setF .live 0xF098 n F.keyPending 0,
        Act.when (s.slotState n != 0) (Act.setF .live 0xF098 n F.keyState (2 * x))],
      Act.each ((List.range 1024).filter fun n => s.flag (Rg.heldLoad n)) fun n => .put (Rg.heldLoad n) 0,
      Act.each (List.range 32) fun k => .put (Rg.sessionKey k) 0]
    else invalidateRoot])

/-! ### The device root -/

/-- The private identity scalar of a root (R329; FIPS 186-5 A.2.1): 320 bits of key material reduced to 1 … n − 1. -/
def State.identityScalar (s : State) (root : List Byte) : Nat :=
  beNat (kdf root (ascii "SiorperIdentity") s.deviceUid 320) % (p256.n - 1) + 1

/-- A fixed slot of R329. -/
def fixedSlot (n kind depth material : Nat) : Act :=
  Act.all [Act.clearTable .live 0xF098 fun r => r == n, Act.setF .live 0xF098 n F.keyMaterial material,
    Act.setF .live 0xF098 n F.keyKind kind, Act.setF .live 0xF098 n F.keyDepth depth,
    Act.setF .live 0xF098 n F.keyState (if kind = 15 then 0 else 1)]

/-- The reversed octets of a number of 32 octets: KeyMaterial holds its most significant octet first. -/
def keyOrder (v : Nat) : Nat := leNat (beBytes 32 v)

/-- The root that helper data and a PUF readout give (R327), and its check value (R328). -/
def rootOf (puf : BitVec 65536) (helper : List Byte) : List Byte := sha256 (Config.pufCorrected puf (helper.take 1136))
def rootCheck (root : List Byte) : List Byte := (cmac root (ascii "SiorperRoot")).take 16

/-- The root is reconstructed, or not (R327 to R329): from the helper data, where the flash gave them, and the PUF readout. -/
def loadRoot (helper : Option (List Byte)) (puf : BitVec 65536) (micros : Nat) : Act :=
  .dep fun s => .seq (.put Key.pufDuration micros)
    (match helper with
    | none => .put Key.pufStatus 2
    | some h =>
      let r := rootOf puf h
      if rootCheck r != (h.drop 1136).take 16 then .put Key.pufStatus 3
      else
        let d := s.identityScalar r
        let q := (p256.base d).getD (0, 0)
        Act.all [.put Key.pufStatus 1, fixedSlot 0 8 0 (leNat (octetsAt r 0 32)), fixedSlot 1 3 1 (keyOrder d),
          fixedSlot 2 5 1 (keyOrder q.1), fixedSlot 3 15 0 (keyOrder q.2)])

end Sys2Proof.Machine
end

