-- ==== Sys2Proof/Machine/Buses.lean ====
section
/-! DEFINITION. The bus attachments' own events (R98 to R103, R220, R278): lost arbitration, error frames, collisions, LIN
slots and headers, and the K-line initialisation. -/

namespace Sys2Proof.Machine

/-- The codes of the signals that a port sends beside frames. -/
def sigLinHeader : Nat := 1
def sigFiveBaud : Nat := 2
def sigFastInit : Nat := 3
def sigVerify : Nat := 4
def sigRespond : Nat := 5
def sigWakeUpPulse : Nat := 6
def sigSleepRequest : Nat := 7
def sigSleepAck : Nat := 8
def sigSleepRefused : Nat := 9
def sigGoToSleep : Nat := 10
def sigPps : Nat := 11
def sigXspiReset : Nat := 12

/-- Whether the gateway channel of a copy's port no longer lets it be sent again: a routed copy that comes back to its queue is released
(R282). -/
def State.shutOut (s : State) (c : Copy) : Bool := c.pair.isSome && !s.channelEnabled c.port

/-- A CAN-family attempt fails (R99, R220, R278): the copy is removed if its lifetime is over; otherwise a frame of a higher class
that is now allowed takes the stage, or the copy stays in it. Either competes at the next frame start (`canStarts`). -/
def attemptFails (p : Nat) : Act :=
  .dep fun s =>
    match s.sending p with
    | none => .skip
    | some c =>
      let staged : Act := .seq (.put (Rg.stagedFrom p) s.now) (.dep fun t => .setCopies (t.copies.map fun d =>
        if d.port = p ∧ d.phase = .wire then { d with phase := .staged, egress := none } else d))
      if s.kind p != 4 then .skip
      else if s.expired c then Act.all [expireCopy c, selectPort p, staged]
      else if s.isUp p && s.shutOut c then Act.all [loseCopy c 6, endCopy c, selectPort p, staged]
      else if !s.isUp p then Act.all [loseCopy c 6, Act.bump (Key.flushDiscards p), endCopy c]
      else
        let (higher, counts) := s.pick p false (s.startAt p) ((classesOf 0 false).filter fun tc => decide (c.tc < tc))
        if higher.isSome then Act.all [setCopy c.seq fun d => { d with phase := .waiting }, selectPort p, staged]
        else Act.all [counts, staged]

/-- The error state of a CAN controller from its counters (ISO 11898-1). -/
def canErrorStateOf (tec rec' : Nat) : Nat := if 128 ≤ tec || 128 ≤ rec' then 1 else 0

/-- An error frame on a CAN bus (R278). -/
def canError (p : Nat) (transmitting : Bool) (tec rec' : Nat) : Act :=
  .dep fun s =>
    if s.kind p != 4 then .skip
    else Act.all [.put (Key.transmitErrorCount p) tec, .put (Key.receiveErrorCount p) rec',
      Act.when (s.get (Key.canErrorState p) != 2) (.put (Key.canErrorState p) (canErrorStateOf tec rec')),
      Act.when transmitting (attemptFails p)]

/-- A J1708 collision (R103, R278). -/
def collides (p : Nat) : Act :=
  .dep fun s =>
    match s.sending p with
    | none => .skip
    | some c =>
      if s.kind p != 6 || s.inForce (Key.serialProtocol p) != 1 then .skip
      else .seq (Act.bump (Key.serialCollisions p))
        (.seq (lineFrees p) (if s.expired c then .seq (expireCopy c) (selectPort p)
        else if s.isUp p && s.shutOut c then Act.all [loseCopy c 6, endCopy c, selectPort p]
        else if !s.isUp p then Act.all [loseCopy c 6, Act.bump (Key.flushDiscards p), endCopy c]
        else .seq (setCopy c.seq fun d => { d with phase := .waiting, egress := none }) (selectPort p)))

/-- The K-line initialisation (R103, R111). -/
def klineInitialises (p : Nat) (success : Bool) : Act :=
  .dep fun s =>
    let how := s.inForce (Key.klineInit p)
    if s.portState p != 1 || s.kind p != 6 || s.inForce (Key.serialProtocol p) != 2 || how = 0 || s.flag (Rg.lowPower p) then .skip
    else .seq (.emit (.signal p (if how = 1 then sigFiveBaud else sigFastInit) (s.inForce (Key.klineTargetAddress p))))
      (Act.when success (enterUp p))

/-! ### LIN -/

/-- The first row of LinSchedule of a port's channel, and a field of its row `i`. -/
def State.linBase (s : State) (p : Nat) : Nat := 64 * (s.attachment p - 160)
def State.lin (s : State) (p i : Nat) (f : Fld) : Nat := s.fld .fair 0xF010 (s.linBase p + i) f

/-- The valid rows of a channel. -/
def State.linRows (s : State) (p : Nat) : List Nat := (List.range 64).filter fun i => s.lin p i F.linValid == 1

/-- The queued copies with a frame ID, highest class first, oldest first (R101). -/
def State.linQueued (s : State) (p ident : Nat) : List (Copy × Frame) :=
  ([7, 6, 5, 4, 3, 2, 1, 0].flatMap fun tc => s.queue p tc).filterMap fun c =>
    match s.frame? c.frame with
    | some f => if c.phase = .waiting && cellIdent (c.form.getD f.octets) % 64 = ident then some (c, f) else none
    | none => none

/-- The response of a Publish row (R101, R220, R278): the first queued copy with its frame ID that may be sent now, with the row's
checksum (R100). One of the wrong length is dropped, an expired one is removed, and the next one is tried in the same slot (log entry
113). One that may not be sent yet stands back for the next at a master, and leaves a slave without a response. `header` is sent before
it, and `none'` happens when there is none. -/
def linAnswer (p len enhanced : Nat) (slave : Bool) (header none' : Act) : List (Copy × Frame) → Act
  | [] => none'
  | (c, f) :: rest =>
    .dep fun s =>
      let next := linAnswer p len enhanced slave header none' rest
      let stands := if slave then none' else next
      if (cellData (c.form.getD f.octets)).length ≠ len then .seq (formatDrop c) next
      else if s.expired c then .seq (expireCopy c) next
      else if decide (s.vtime < c.eligible.getD 0) then
        .seq (noteWaited c) stands
      else if !s.brim p false s.vtime c f then
        .seq (noteDeferred c) stands
      else Act.all [header, beginLeave c f false none s.vtime, setCopy c.seq fun d =>
        { d with sent := overlay d.sent 8 (beBytes 1 (setBits (cellFlags d.sent) 4 1 enhanced)) }]

/-- The row of the next slot (R101): the next valid row, or the first after the last or when a new schedule begins. -/
def State.nextLinRow (s : State) (p : Nat) : Option Nat :=
  let rows := s.linRows p
  if s.flag (Rg.linRestart p) then rows.head?
  else match rows.find? fun i => decide (s.get (Rg.linRow p) ≤ i) with
    | some i => some i
    | none => rows.head?

/-- The time that a LIN header of `bits` bit times takes at least, and the 1.4 times as much that it takes at most (ISO 17987, log
entry 124). -/
def State.linTime (s : State) (p bits : Nat) : Nat × Nat :=
  let r := s.inForce (Key.linBitRate p)
  (bitTime bits r, bitTime (14 * bits) (10 * r))

/-- A LIN node awaits a response until its time is over, no longer than until `limit` (R101, R102). -/
def awaitResponse (p i : Nat) (limit : Nat) : Act :=
  .dep fun s => Act.all [.put (Rg.linExpect p) (s.lin p i F.linFrameId + 1), .put (Rg.linLength p) (s.lin p i F.linLength),
    .put (Rg.linEnhanced p) (s.lin p i F.linEnhanced), .put (Rg.linDue p) limit]

/-- A LIN master's slot starts (R101): the slot that runs ends as the schedule set it when it began. When the response behind its header
can start is open within the limits of a header (R278, log entry 124). -/
def slotStarts (p : Nat) : Act :=
  .dep fun s =>
    let busy := s.flag (Rg.linRow p) && decide (s.now < s.get (Rg.linUntil p))
    if !s.isUp p || s.kind p != 5 || s.inForce (Key.linRole p) != 1 || busy || (s.sending p).isSome
        || s.flag (Rg.testedBy p) then .skip
    else
      let missed := Act.when (s.flag (Rg.linExpect p)) (.seq (Act.bump (Key.linNoResponse p)) (.put (Rg.linExpect p) 0))
      match s.nextLinRow p with
      | none => Act.all [missed, .put (Rg.linRow p) 0, .put (Rg.linRestart p) 0]
      | some i =>
        let h := s.linTime p 34
        let header := .seq (.emit (.signal p sigLinHeader (s.lin p i F.linFrameId)))
          (Act.drawIn h.1 h.2 fun d => .put (Rg.linStart p) (s.now + d))
        let finish := s.now + us (100 * s.lin p i F.linSlot)
        let due := s.now + (s.linTime p (34 + 10 * (s.lin p i F.linLength + 1))).2
        Act.all [missed, .put (Rg.linRow p) (i + 1), .put (Rg.linFrom p) s.now, .put (Rg.linUntil p) finish,
          .put (Rg.linBreak p) s.vtime, .put (Rg.linBreakAt p) s.now, .put (Rg.linRestart p) 0,
          if s.lin p i F.linPublish = 0 then .seq header (awaitResponse p i (min due finish))
          else .seq (purgeLin p) (.dep fun t =>
            linAnswer p (t.lin p i F.linLength) (t.lin p i F.linEnhanced) false header (Act.bump (Key.linSlotEmpty p))
              (t.linQueued p (t.lin p i F.linFrameId)))]

/-- A LIN slave has received a header (R102). When its break field began is open within the limits of a header (R208). -/
def headerArrives (p ident : Nat) : Act :=
  .dep fun s =>
    if !s.isUp p || s.kind p != 5 || s.inForce (Key.linRole p) != 0 || (s.sending p).isSome || s.flag (Rg.testedBy p) then .skip
    else match (s.linRows p).find? fun i => s.lin p i F.linFrameId == ident with
      | none => .skip
      | some i =>
        let h := s.linTime p 34
        Act.drawIn h.1 h.2 fun d => .seq (.seq (.put (Rg.linBreak p) (s.vtime - d)) (.put (Rg.linBreakAt p) (s.now - d)))
          (if s.lin p i F.linPublish = 0 then
            awaitResponse p i (s.now + (s.linTime p (10 * (s.lin p i F.linLength + 1))).2)
          else .seq (purgeLin p) (.dep fun t =>
            linAnswer p (t.lin p i F.linLength) (t.lin p i F.linEnhanced) true .skip .skip (t.linQueued p ident)))

end Sys2Proof.Machine
end

