-- ==== Sys2Proof/Machine/Update.lean ====
section
/-! DEFINITION. Images in the boot flash and update sessions (R431 to R443). -/

namespace Sys2Proof.Machine

/-- The first octet of a slot (R431): `kind` 1 firmware, 2 OD image; `slot` 0 A, 1 B. -/
def slotBase (kind slot : Nat) : Nat := 0x0100000 + 0x1000000 * (kind - 1) + 0x0800000 * slot

/-- The octets of a slot (R431). -/
def slotSize : Nat := 0x0800000

/-- Whether a flash octet lies in a slot. -/
def inSlot (kind slot a : Nat) : Bool := decide (slotBase kind slot ≤ a) && decide (a < slotBase kind slot + slotSize)

/-- The header of the image in a slot (R433), and its payload. -/
def State.imageHeader (s : State) (kind slot : Nat) : List Byte := s.octets .flash (slotBase kind slot) 256
def payloadLength (h : List Byte) : Nat := beAt h 12 4
def State.imagePayload (s : State) (kind slot : Nat) : List Byte :=
  s.octets .flash (slotBase kind slot + 256) (payloadLength (s.imageHeader kind slot))

/-- The SecurityVersion and the version of an image (R433). -/
def State.securityVersion (s : State) (kind slot : Nat) : Nat := beAt (s.imageHeader kind slot) 6 2
def State.imageVersion (s : State) (kind slot : Nat) : Nat := beAt (s.imageHeader kind slot) 8 4

/-- The safety segment of a firmware image (R433); none for no slot. -/
def State.safetySegment (s : State) (slot : Nat) : List Byte :=
  if slot < 2 then (s.imagePayload 1 slot).take (beAt (s.imageHeader 1 slot) 48 4) else []

/-- The measurement of an image (R434). -/
def State.measurement (s : State) (kind slot : Nat) : Nat :=
  beNat (sha256 (s.imageHeader kind slot ++ s.imagePayload kind slot))

/-! ### The records of an OD image -/

/-- An operation of R78, which is also a record of an OD image (R435). -/
structure Op where
  opcode : Nat
  flags : Nat
  idx : Nat
  sub : Nat
  row : Nat
  off : Nat
  len : Nat
  data : List Byte
deriving DecidableEq, Repr

/-- The 12 octets at the head of an operation (R78). -/
def opHead (bs : List Byte) (data : List Byte) : Op :=
  ⟨beAt bs 0 1, beAt bs 1 1, beAt bs 2 2, beAt bs 4 1, beAt bs 5 3, beAt bs 8 2, beAt bs 10 1, data⟩

/-- Whether an operation carries write data. -/
def carriesData (bs : List Byte) : Bool := beAt bs 0 1 == 2 || beAt bs 0 1 == 4

/-- The operations in a run of octets; none where the last is cut off or more than `n` are there. -/
def parseOps : Nat → List Byte → Option (List Op)
  | _, [] => some []
  | 0, _ => none
  | n + 1, bs =>
    let size := 12 + (if carriesData bs then 8 * beAt bs 10 1 else 0)
    if bs.length < size then none
    else (parseOps n (bs.drop size)).map fun l => opHead bs ((bs.take size).drop 12) :: l

/-- Whether the object or table that a record names may be written by one (R435). -/
def recordTarget (o : Op) : Bool :=
  let excluded := o.idx == 0xF098 || o.idx == 0xF094 || o.idx == 0x1F10 || o.idx == 0xF0C0 || o.idx == 0xF0C1
    || (decide (0xC000 ≤ o.idx) && decide (o.idx ≤ 0xC1FF))
  let acc := fun (a : Acc) => a == .rw || a == .rwS
  !excluded && (if o.opcode = 2 then
      let t := (template o.idx).1
      !(decide (0xF000 ≤ o.idx)) && o.sub != 0
        && (objectsAt t).all fun x => decide (o.sub < x.lo) || decide (x.hi < o.sub) || acc x.acc
    else match tables.find? fun t => t.idx == o.idx with
      | some t => acc t.acc
      | none => true)

/-- Whether a record has the form of R435: opcode 0x02 or 0x04, its generation flag, and a target that it may name. -/
def recordFits (o : Op) : Bool :=
  let staged := (tables.find? fun t => t.idx == o.idx).any fun t => t.staged
  (o.opcode == 2 || o.opcode == 4) && ((o.flags % 2 == 1) == (o.opcode == 4 && staged)) && recordTarget o

/-- The records of an OD image, where every one has the form and the target of R435. -/
def State.records (s : State) (slot : Nat) : Option (List Op) :=
  let n := beAt (s.imageHeader 2 slot) 48 4
  match parseOps n (s.imagePayload 2 slot) with
  | some l => if l.length = n && l.all recordFits then some l else none
  | none => none

/-! ### The checks of an image (R434) -/

/-- Octets of an image's public key and of half its signature: 32 for P-256, 48 for P-384, 0 for neither. -/
def keySize (h : List Byte) : Nat := match beAt h 52 1 with
  | 1 => 32
  | 2 => 48
  | _ => 0

/-- Whether the digest of an image's public key stands in a Programmed row of ImageKeys. -/
def State.keyKnown (s : State) (h : List Byte) : Bool :=
  let d := sha256 (octetsAt h 56 (2 * keySize h))
  keySize h != 0 && [0, 1].any fun r => s.fld .live 0xF0C1 r F.ikeyState == 1 && s.rowOctets .live 0xF0C1 r 0 32 == d

/-- Whether an image's signature verifies (R341). -/
def imageSigned (h : List Byte) : Bool :=
  let n := keySize h
  let kind := if n = 48 then 6 else 5
  ecdsaVerify (curveOf kind) (beAt h 56 n) (beAt h (56 + n) n) (digestOf kind (h.take 152)) (octetsAt h 152 (2 * n))

/-- The rejection code of the image in a slot; none for a valid one (R434). -/
def State.imageFault (s : State) (kind slot : Nat) : Option Nat :=
  let h := s.imageHeader kind slot
  if h.take 4 != [0x53#8, 0x52#8, 0x50#8, 0x49#8] || beAt h 4 1 != kind || beAt h 5 1 != 1 then some 1
  else if slotSize < 256 + payloadLength h || (kind == 1 && decide (524288 < beAt h 48 4)) then some 6
  else if !s.keyKnown h then some 2
  else if !imageSigned h then some 3
  else if sha256 (s.imagePayload kind slot) != octetsAt h 16 32 then some 4
  else if s.securityVersion kind slot < s.get Key.rollbackCounter then some 5
  else if kind = 2 && (s.records slot).isNone then some 7
  else none

/-! ### The boot control block (R438) -/

/-- What a boot control block holds (R438). -/
structure BootBlock where
  sequence : Nat
  firmware : Nat
  image : Nat
  firmwareTrial : Nat
  imageTrial : Nat
  starts : Nat
deriving DecidableEq, Repr

/-- The octets of a boot control block. Their layout is the model's (log entry 25): the sequence number, the preferred slots, the trial
flags, the start count, and the CRC-32C over the 12 octets before it. -/
def BootBlock.octets (b : BootBlock) : List Byte :=
  let body := beBytes 4 b.sequence ++ beBytes 1 b.firmware ++ beBytes 1 b.image ++ beBytes 1 b.firmwareTrial ++ beBytes 1 b.imageTrial
    ++ beBytes 4 b.starts
  body ++ beBytes 4 (crc32c body)

/-- The first octet of a copy of the boot control block (R431), and the octets stored there. -/
def bootBase (copy : Nat) : Nat := 0x1000 * (copy + 1)
def State.bootOctets (s : State) (copy : Nat) : List Byte := s.octets .flash (bootBase copy) 16

/-- Whether the CRC of a copy is valid. -/
def State.bootValid (s : State) (copy : Nat) : Bool := crc32c ((s.bootOctets copy).take 12) == beAt (s.bootOctets copy) 12 4

/-- The copy in force (R438): the one with a valid CRC and the higher sequence number. -/
def State.bootCopy (s : State) : Option Nat :=
  match s.bootValid 0, s.bootValid 1 with
  | true, true => some (if beAt (s.bootOctets 0) 0 4 < beAt (s.bootOctets 1) 0 4 then 1 else 0)
  | true, false => some 0
  | false, true => some 1
  | false, false => none

/-- The block in force; with neither copy valid slot A is preferred for both kinds, and there is no trial. -/
def State.bootBlock (s : State) : BootBlock :=
  match s.bootCopy with
  | some c =>
    let b := s.bootOctets c
    ⟨beAt b 0 4, beAt b 4 1, beAt b 5 1, beAt b 6 1, beAt b 7 1, beAt b 8 4⟩
  | none => ⟨0, 0, 0, 0, 0, 0⟩

/-- A boot control block is in force: the trial objects show it. -/
def holdBoot (b : BootBlock) : Act :=
  Act.all [.put (Rg.preferred 0) b.firmware, .put (Rg.preferred 1) b.image, .put (Rg.trial 0) b.firmwareTrial,
    .put (Rg.trial 1) b.imageTrial, .put Rg.trialCount b.starts, .put Rg.bootSequence b.sequence,
    .put Key.firmwareTrial b.firmwareTrial, .put Key.odTrial b.imageTrial, .put Key.trialStarts b.starts]

/-- The ROM reads the boot control blocks. -/
def loadBoot : Act := .dep fun s => holdBoot s.bootBlock

/-- A change of the boot control block is written to the copy that is not in force, with the next sequence number (R438). How long
that takes is open (log entry 137). -/
def writeBoot (fwPref odPref fwTrial odTrial starts : Nat) : Act :=
  .dep fun s =>
    let b : BootBlock := ⟨(s.get Rg.bootSequence + 1) % 2 ^ 32, fwPref, odPref, fwTrial, odTrial, starts⟩
    let c := if s.bootCopy = some 0 then 1 else 0
    Act.all [holdBoot b, Act.block .flash (bootBase c) b.octets, .put Rg.bootWriting (c + 1),
      Act.draw fun d => .put Rg.bootUntil (s.now + d)]

/-- PORST_N cuts off the write of a boot control block (R443): its copy is left erased, so that the earlier one stays in force. -/
def cutBoot : Act :=
  .dep fun s =>
    let a := bootBase (s.get Rg.bootWriting - 1)
    Act.when (s.flag Rg.bootWriting && decide (s.now < s.get Rg.bootUntil))
      (.keepCells .flash fun k => !(decide (a ≤ k) && decide (k < a + 16)))

/-! ### The session -/

/-- The code of a path in UpdateOwner (R449). -/
def ownerCode : Path → Nat
  | .safety => 1
  | .application => 2
  | .pcie => 3
  | .spi => 3
  | .remote k => 32 + k.val

/-- Whether a session is open, and whether a path owns it (R439). -/
def State.updateOpen (s : State) : Bool := 1 ≤ s.get Key.updateState && s.get Key.updateState ≤ 5
def State.ownsUpdate (s : State) (path : Path) : Bool := s.get Key.updateOwner == ownerCode path

/-- The active slot of a kind (R438). -/
def State.activeSlot (s : State) (kind : Nat) : Nat := s.get (if kind = 1 then Key.firmwareSlotActive else Key.odSlotActive)

/-- Whether the device stands in a recovery state (R444). -/
def State.recovering (s : State) : Bool := 0x10 ≤ s.get Key.startupState

/-- UpdateOpen (R439): the status and the effect. A recovery state names the paths that may open one (R444). Where no slot of
the kind is active, which is the target is open. -/
def openUpdate (s : State) (path : Path) (kind : Nat) : Nat × Act :=
  if s.recovering && !(pathUser path == some 3 || (path == .application && decide (0x12 ≤ s.get Key.startupState))) then (2, .skip)
  else if s.get Key.safetyState = 3 || s.get Key.safetyState = 4 || s.updateOpen then (3, .skip)
  else if s.flag (Rg.trial (kind - 1)) then (4, .skip)
  else
    let start := fun slot => Act.all [.keepRegs fun k => !(Rg.numberOf k == 60 && decide (1 ≤ Rg.elementOf k)),
      .put Rg.updateKind kind, .put Rg.updateSlot slot, .put Key.updateState 1, .put Key.updateOwner (ownerCode path),
      .put Key.updateReject 0, .put Key.updateQueueFree 256]
    (0, match s.activeSlot kind with
      | 0 => start 1
      | 1 => start 0
      | _ => Act.drawIn 0 1 start)

/-- The target slot has been erased (R439). -/
def eraseEnds : Act :=
  .dep fun s => Act.when (s.get Key.updateState == 1)
    (.seq (.keepCells .flash fun a => !inSlot (s.get Rg.updateKind) (s.get Rg.updateSlot) a) (.put Key.updateState 2))

/-- The program queue is emptied. -/
def emptyQueue : Act :=
  .dep fun s => .seq (.put Rg.updateTaken (s.get Rg.updateDone)) (.put Key.updateQueueFree 256)

/-- A row for the program queue (R440). -/
def queueRow (row : Nat) (data : List Byte) : Act :=
  .dep fun s =>
    let i := s.get Rg.updateTaken
    Act.all [.put (Rg.updateRow i) row, .put (Rg.updateData i) (leNat data), .put (Rg.updateWritten row) 1,
      .put Rg.updateTaken (i + 1), .put Key.updateQueueFree (256 - (i + 1 - s.get Rg.updateDone))]

/-- A full-row write to UpdateWindow (R439, R440): the status and the effect. -/
def takeRow (s : State) (path : Path) (row off : Nat) (data : List Byte) : Nat × Act :=
  if !s.ownsUpdate path then (2, .skip)
  else if s.get Key.updateState != 2 then (3, .skip)
  else if off != 0 || data.length != 256 || s.flag (Rg.updateWritten row) then (2, .skip)
  else if 256 ≤ s.get Rg.updateTaken - s.get Rg.updateDone then (3, .skip)
  else (0, queueRow row data)

/-- The row in progress, the oldest of the program queue, is still programmed (R441). -/
def finishRow : Act :=
  .dep fun s =>
    let i := s.get Rg.updateDone
    Act.when (decide (i < s.get Rg.updateTaken)) (Act.block .flash
      (slotBase (s.get Rg.updateKind) (s.get Rg.updateSlot) + 256 * s.get (Rg.updateRow i)) (leBytes 256 (s.get (Rg.updateData i))))

/-- The session ends without an image (R441): the program queue is discarded after the row in progress, and the header rows of the
target are erased. -/
def dropUpdate : Act :=
  .dep fun s =>
    let a := slotBase (s.get Rg.updateKind) (s.get Rg.updateSlot)
    Act.all [finishRow, emptyQueue, .keepCells .flash fun k => !(decide (a ≤ k) && decide (k < a + 256)), .put Key.updateState 0,
      .put Key.updateOwner 255]

/-- A session with a cause to abort ends when its check has completed (R443). -/
def endAborting : Act := .dep fun s => Act.when (s.flag Rg.updateAborting) (.seq (.put Rg.updateAborting 0) dropUpdate)

/-- A row has been programmed and read back (R440). What a row that reads back differently holds is open. -/
def rowProgrammedNow (ok : Bool) : Act :=
  .dep fun s =>
    let i := s.get Rg.updateDone
    let a := slotBase (s.get Rg.updateKind) (s.get Rg.updateSlot) + 256 * s.get (Rg.updateRow i)
    Act.when ((s.get Key.updateState == 2 || s.get Key.updateState == 3) && decide (i < s.get Rg.updateTaken)) (Act.all [
      .put Rg.updateDone (i + 1), .put Key.updateQueueFree (256 - (s.get Rg.updateTaken - (i + 1))),
      if ok then Act.block .flash a (leBytes 256 (s.get (Rg.updateData i)))
      else Act.all [Act.draw fun x => Act.block .flash a (leBytes 256 x), emptyQueue,
        Act.when (s.get Key.updateState == 3) (.put Key.updateVerify 0),
        .put Key.updateState 5, .put Key.updateReject 8, endAborting]])

/-- A cause of R439 aborts the session; during Verifying the check completes first (R443). -/
def abortUpdate : Act :=
  .dep fun s => Act.when s.updateOpen (if s.get Key.updateState = 3 then .put Rg.updateAborting 1 else dropUpdate)

/-- The session of an owner is aborted (R439). -/
def ownerGone (code : Nat) : Act := .dep fun s => Act.when (s.get Key.updateOwner == code) abortUpdate

/-- UpdateVerify (R441). -/
def verifyUpdate (s : State) : Nat × Act :=
  if s.get Key.updateState = 2 then (3, .seq (.put Key.updateState 3) (.put Key.updateVerify 3)) else (4, .skip)

/-- The check of the target ends (R434, R441, R443). -/
def updateChecked : Act :=
  .dep fun s => Act.when (s.get Key.updateState == 3 && s.get Rg.updateDone == s.get Rg.updateTaken) (Act.all [
    match s.imageFault (s.get Rg.updateKind) (s.get Rg.updateSlot) with
      | none => .put Key.updateState 4
      | some c => .seq (.put Key.updateState 5) (.put Key.updateReject c),
    .put Key.updateVerify 0,
    endAborting])

/-- UpdateActivate (R441). -/
def activateUpdate (s : State) : Nat × Act :=
  if s.get Key.updateState != 4 then (4, .skip)
  else
    let fw := s.get Rg.updateKind = 1
    let slot := s.get Rg.updateSlot
    (0, Act.all [
      if fw then writeBoot slot (s.get (Rg.preferred 1)) 1 (s.get (Rg.trial 1)) 0
      else writeBoot (s.get (Rg.preferred 0)) slot (s.get (Rg.trial 0)) 1 0,
      .put Key.updateState 6, .put Key.updateOwner 255])

/-- UpdateAbort (R441). The final status of a check that it ends is open. -/
def stopUpdate (s : State) : Nat × Act :=
  if !s.updateOpen then (4, .skip)
  else (0, .seq (Act.when (s.get Key.updateState == 3) (Act.drawIn 0 7 fun x => .put Key.updateVerify x)) dropUpdate)

/-- UpdateConfirm (R442). -/
def confirmUpdate : Act :=
  .dep fun s =>
    let fw := s.activeSlot 1
    let od := s.activeSlot 2
    let v := min 64 (min (s.securityVersion 1 fw) (s.securityVersion 2 od))
    .seq (writeBoot (s.get (Rg.preferred 0)) (s.get (Rg.preferred 1)) 0 0 0)
      (Act.when (fw < 2 && od < 2 && decide (s.get Key.rollbackCounter < v)) (.put Key.rollbackCounter v))

/-- A write of an ImageKeys row (R436): the status and the effect of the row that it would leave. -/
def writeImageKey (s : State) (row : Nat) (digestWritten : Bool) (image : List Byte) : Nat × Act :=
  let st := s.fld .live 0xF0C1 row F.ikeyState
  let new := beAt image 32 1
  if st = 0 && new = 1 && digestWritten then
    (0, .seq (Act.setRow .live 0xF0C1 row 0 (image.take 32)) (Act.setF .live 0xF0C1 row F.ikeyState 1))
  else if st = 1 && new = 2 && s.fld .live 0xF0C1 (1 - row) F.ikeyState = 1 then
    (0, Act.setF .live 0xF0C1 row F.ikeyState 2)
  else (2, .skip)

end Sys2Proof.Machine
end

