-- ==== Sys2Proof/Machine/Flash.lean ====
section
/-! DEFINITION. The boot flash at a start (R430 to R432, R467): its reset, its layout descriptor and mode, and the helper data of the
PUF. -/

namespace Sys2Proof.Machine

/-- XSPI_RESET_N takes a level (R467). Low returns the flash to 1S-1S-1S mode. -/
def driveFlashReset (high : Bool) : Act :=
  let level := if high then 1 else 0
  Act.all [.put Rg.xspiReset level, Act.when (!high) (Act.zero [Rg.flashMode, Rg.flashDummy]), .emit (.signal 0 sigXspiReset level)]

/-- The layout descriptor (R431, R432). -/
def State.layoutDescriptor (s : State) : List Byte := s.octets .flash 0 44

/-- Whether a layout descriptor is valid (R432): its magic (log entry 128), and the CRC-32C over octets 0 to 39. -/
def descriptorFits (d : List Byte) : Bool := d.take 4 == ascii "SRPL" && crc32c (d.take 40) == beAt d 40 4

/-- Entry command `i` of a layout descriptor as the flash gets it (R432): opcode, the last 0, 3 or 4 of the address octets, data. -/
def entryCommand (d : List Byte) (i : Nat) : List Byte :=
  octetsAt d (8 + 8 * i) 1 ++ (octetsAt d (10 + 8 * i) 4).drop (4 - min 4 (beAt d (9 + 8 * i) 1)) ++ octetsAt d (14 + 8 * i) 1

/-- The ROM reads the layout descriptor (R432): the entry commands in order and 8D-8D-8D mode, or 1S-1S-1S mode. -/
def readLayout : Act :=
  .dep fun s =>
    let d := s.layoutDescriptor
    if descriptorFits d then Act.all [
      Act.each (List.range (min 4 (beAt d 5 1))) fun i => .emit (.xspi (entryCommand d i)),
      .put Rg.flashMode 1, .put Rg.flashDummy (beAt d 4 1)]
    else Act.zero [Rg.flashMode, Rg.flashDummy]

/-- The helper data (R327, R431, R432): the second copy only where the first cannot be read. -/
def State.helperData (s : State) (env : StartEnv) : Option (List Byte) :=
  if env.helperFirst then some (s.octets .flash 0x3000 1152)
  else if env.helperSecond then some (s.octets .flash 0x3800 1152)
  else none

end Sys2Proof.Machine
end

