-- ==== Sys2Proof/Machine/Retention.lean ====
section
/-! DEFINITION. What the retention image holds and what the Mitten keeps (R26, R85, R126, R164, R200, R236, R266, R293, R326,
R340, R352, R355, R385, R410, R429, R444, R447, R450, R472). -/

namespace Sys2Proof.Machine

/-- Whether an object is RW or RW-S. -/
def writableObject (k : Nat) : Bool :=
  match objOfKey k with
  | some o => o.acc == .rw || o.acc == .rwS
  | none => false

/-- Whether an object is a command. A wake starts its reading anew (R491). -/
def commandObject (k : Nat) : Bool :=
  match objOfKey k with
  | some o => o.acc == .cmd || o.acc == .cmdS
  | none => false

/-- RO objects that a wake with retention restores: FairCopyGeneration (R85), AdmittedStreams and AdmittedCells with the restored
admission (R266), the seal chain (R352), and those of indices 0xC000 and 0xC100 (R450). -/
def restoredState (k : Nat) : Bool :=
  k == Key.fairCopyGeneration || k == Key.admittedStreams || k == Key.chainId || k == Key.lastSequence
    || (k / 0x100000 == 2 && k / 256 % 16 == 7 && decide (0x13 ≤ k % 256) && decide (k % 256 ≤ 0x1A))
    || k / 256 == 0xC000 || (k / 256 == 0xC100 && k != Key.updateState)

/-- The internal registers that go with them: what the admission recorded and its minima, the seal chain, the measurements, what is known
of the SAs and freshness counters beside their rows (R310, R326), and the
target of UpdateWindow with the rows written there. -/
def restoredInternal (k : Nat) : Bool :=
  let n := Rg.numberOf k
  n == 28 || n == 29 || n == 67 || n == 68 || (n == 31 && decide (8 ≤ (k - 2 ^ 24) % 2 ^ 20)) || n == 56 || n == 57
    || k == Rg.updateKind || k == Rg.updateSlot || (n == 60 && Rg.elementOf k == 2)

/-- The registers of the retention image. Chapter 12 names none of its objects, and apertures are not restored. -/
def retainedReg (k : Nat) : Bool :=
  if k < 2 ^ 24 then
    let t := k / 256
    (restoredState k && !commandObject k) || (writableObject k && t != 0x1F00 && t != 0xA000 && t != 0xA010)
  else restoredInternal k

/-- Whether the image holds the key of a slot (R340): slots 0 to 3, and every Loaded slot with Retain set, with the slots that it
spans. -/
def State.wrapped (s : State) (n : Nat) : Bool :=
  let b := s.keyBase n
  decide (n < 4) || (s.slotState b == 1 && s.fldOn .live 0xF098 b F.keyRetain)

/-- The slots that are wrapped (R340). -/
def State.wrappedSlots (s : State) : List Nat :=
  [0, 1, 2, 3] ++ (s.listedRows .live 0xF098).filter fun n => decide (4 ≤ n) && s.wrapped n

/-- The slots that are wrapped, each with its row under AES-KW. -/
def State.wrappedKeys (s : State) (key : Nat) : List (Nat × List Byte) :=
  s.wrappedSlots.map fun n => (n, aesWrap (beBytes 32 key) (s.rowOctets .live 0xF098 n 0 64))

/-- Whether an octet of a KeyTable row belongs to its Generation. -/
def inGeneration (oct : Nat) : Bool :=
  decide (F.keyGeneration.bit ≤ 8 * oct) && decide (8 * oct < F.keyGeneration.bit + F.keyGeneration.width)

/-- The octets of the live tables in the retention image. -/
def retainedCell (s : State) (a : Nat) : Bool :=
  let idx := a / 2 ^ 36
  let row := a / 2 ^ 12 % 2 ^ 24
  let oct := a % 2 ^ 12
  match idx with
  | 0xF048 => true
  | 0xF052 => s.fldOn .live 0xF052 row F.fdbStatic
  | 0xF066 => true
  | 0xF077 => decide (oct < 5)
  | 0xF090 => true
  | 0xF091 => true
  | 0xF092 => decide (oct < 32)
  | 0xF094 => true
  | 0xF095 => true
  | 0xF098 => !s.wrapped row && inGeneration oct
  | 0xF0A0 => true
  | 0xF0A1 => decide (oct < 2)
  | 0xF0A3 => oct == 0 || (decide (4 ≤ oct) && decide (oct < 8))
  | 0xF0B1 => oct == 0 || (decide (F.stbThreshold.bit ≤ 8 * oct) && decide (8 * oct < F.stbThreshold.bit + F.stbThreshold.width))
  | _ => false

/-- The objects that read the boot control block and the OTP (R450), whose values no write or swap of the configuration gave. -/
def readsBoot (k : Nat) : Bool := [Key.rollbackCounter, Key.firmwareTrial, Key.odTrial, Key.trialStarts].contains k

/-- What the Mitten, the OTP, the boot control block and the world outside keep through every sleep and through SystemRestart
(R385, R399, R410, R438, R444, R472, R339). -/
def keptReg (k : Nat) : Bool :=
  let n := Rg.numberOf k
  if k < 2 ^ 24 then
    (k / 256 == 0x9000 && ((decide (5 ≤ k % 256) && decide (k % 256 ≤ 10)) || k % 256 == 16))
      || (k / 256 == 0xA010 && decide (k % 256 ≤ 5)) || k == Key.failSafeCause || k == Key.xtalStatus || k == Key.tamperLatched
      || readsBoot k
  else n == 50 || (n == 51 && decide ((k - 2 ^ 24) % 2 ^ 20 < 7)) || k == Rg.latentBase || k == Rg.latentSince || k == Rg.overdueTold
    || k == Rg.hosted || k == Rg.fenced || (n == 60 && Rg.elementOf k == 0) || k == Rg.inhLow || k == Rg.perstHigh
    || k == Rg.tapTrst || k == Rg.wrapKey

/-- The octets of the live tables kept likewise: the state of the wake inputs (R385), and the OTP rows (R436). -/
def keptCell (a : Nat) : Bool :=
  (a / 2 ^ 36 == 0xF0A3 && a % 2 ^ 12 == 1) || a / 2 ^ 36 == 0xF0C1

/-- What PORST_N spares (R399, R459): the fail-safe record, the OTP, the levels at PCIE_PERST_N and JTAG_TRST_N, and XtalStatus, which counts from the
application of VMITTEN (R464, R472). The boot control block is read from the flash. -/
def sparedReg (k : Nat) : Bool :=
  k == Key.failSafeCause || k == Key.xtalStatus || k == Key.rollbackCounter || k == Rg.perstHigh || k == Rg.tapTrst

/-- The octets that a row layout assigns (R26). -/
def assignedOctets (idx row : Nat) : Nat :=
  ((List.range 1024).filter fun o => (rowLayout idx row).any fun f => decide (f.bit < 8 * o + 8) && decide (8 * o < f.bit + f.width)).length

/-- The octets that the rows of some octets take in the image: a table index, a row number and the assigned octets for each. DESIGN
CHOICE: the index takes 2 octets and the row number 3, as in every header of chapter 3 (log entry 114), and the Generation of a slot that is
not wrapped is charged as its whole row (log entry 26). -/
def imageRows (m : Store Byte) (q : Nat → Bool) : Nat :=
  ((((m.filter fun c => q c.1).map fun c => c.1 / 2 ^ 12).dedup).map fun r => 5 + assignedOctets (r / 2 ^ 24) (r % 2 ^ 24)).sum

/-- The octets that the wrapped slots take: the wrap adds 8 to the 64 of a row (R340). -/
def State.wrappedSize (s : State) : Nat := 72 * s.wrappedSlots.length

/-- The scalars that the image holds. -/
def State.retainedScalars (s : State) : Nat := (s.regs.filter fun c => retainedReg c.1).length

/-- RetentionImageSize (R26). Nothing says how many octets a scalar takes, so that their share and that of the measurements is open (log
entry 26). Until a swap or a write has changed what the image holds, the object reads its default 0 (R382, R385). -/
def State.imageSize (s : State) : Nat :=
  let rows := imageRows s.fair (fun _ => true) + imageRows s.live (retainedCell s)
  if rows = 0 && (s.regs.all fun c => !retainedReg c.1 || readsBoot c.1) && s.wrappedSlots.length = 4 then 0
  else rows + s.wrappedSize + (s.safetySegment (s.get Key.firmwareSlotActive)).length + Config.retentionRest s.retainedScalars

end Sys2Proof.Machine
end

