-- ==== Sys2Proof/Machine/Restart.lean ====
section
/-! DEFINITION. Closing remote sessions (R80, R439), and what resets the switched domains (R445, R459). -/

namespace Sys2Proof.Machine

/-! ### Remote sessions -/

/-- A field of a session's row. -/
def State.session (s : State) (k : Nat) (f : Fld) : Nat := s.fld .live 0xF003 k f

/-- A session is freed, and the update session that it owns is aborted (R80, R439). -/
def endRemote (k : Nat) : Act :=
  Act.all [Act.clearTable .live 0xF003 fun r => r == k,
    .keepRegs fun x => !(Rg.numberOf x == 5 && Rg.elementOf x == k && decide (2 ^ 24 ≤ x)), ownerGone (32 + k)]

/-- The sessions that a test picks are freed. -/
def endRemotes (p : Nat → Bool) : Act :=
  .dep fun s => Act.each ((s.listedRows .live 0xF003).filter fun k => s.session k F.rsessState != 0 && p k) endRemote

/-! ### Resets -/

/-- Running time since the last periodic test (R404), in 2^-16 ns. -/
def State.latentTime (s : State) : Nat :=
  s.get Rg.latentBase + (if s.get Key.deviceState = 0 && !s.inReset then s.now - s.get Rg.latentSince else 0)

/-- The switched domains are reset: registers and live octets that fail the tests take their defaults, staged tables, frames and
copies are gone, and vehicle time starts at 0. -/
def resetDomains (reg cell : Nat → Bool) : Act :=
  .dep fun s => Act.all [.keepRegs reg, .keepCells .live cell, .keepCells .sketch fun _ => false, .keepCells .fair fun _ => false,
    .keepCells .prev fun _ => false, .setFrames [], .setCopies [], .clock s.now 0]

/-- An update session that a reset cuts off: the target holds no valid image (R443). -/
def loseUpdate : Act :=
  .dep fun s =>
    let a := slotBase (s.get Rg.updateKind) (s.get Rg.updateSlot)
    Act.when (1 ≤ s.get Key.updateState && s.get Key.updateState ≤ 3)
      (.keepCells .flash fun k => !(decide (a ≤ k) && decide (k < a + 256)))

/-- SystemRestart (R445, R467): what the Mitten and the boot control block hold is kept; a cold start follows. -/
def restartSystem : Act :=
  Act.all [.dep fun s => .seq (.put Rg.latentBase s.latentTime) (.put Rg.latentSince s.now), loseUpdate, resetDomains keptReg keptCell,
    Act.zero [Rg.sleepFrom, Rg.heldSource, Rg.heldRings, Rg.wrapKey], .put Rg.startKind 6, .put Key.startupState 1, driveFlashReset false]

/-- PORST_N is asserted (R399, R438, R443, R450, R459, R467). LatentTestAge starts at 0 (R410). -/
def powerOnReset : Act :=
  Act.all [loseUpdate, cutBoot, resetDomains sparedReg fun a => a / 2 ^ 36 == 0xF0C1, .forget, driveFlashReset false, loadBoot,
    .put Rg.porstLow 1, .dep fun s => .put Rg.latentSince s.now]

/-- RecoveryRequest (R444) and JtagUnlock (R446). -/
def askRecovery : Act := .put Rg.recoveryAsked 1
def unlockJtag : Act :=
  .seq (.put Key.jtagState 1) (changingKeys invalidateRoot)

end Sys2Proof.Machine
end

