-- ==== Sys2Proof/Machine/SelfTest.lean ====
section
/-! DEFINITION. The analogue self-test (R411 to R423). -/

namespace Sys2Proof.Machine

/-- A field of a SelfTestBlocks row. -/
def State.test (s : State) (r : Nat) (f : Fld) : Nat := s.fld .live 0xF0B1 r f

/-- The rows that are not idle (TestsRunning, R426). -/
def State.busyTests (s : State) : List Nat := (List.range 66).filter fun r => s.test r F.stbState != 0

/-- Whether RefclkDeviation and JunctionTemperature allow a test (R414, R464). -/
def State.refclkInRange (s : State) : Bool :=
  s.get Key.xtalStatus != 2 && decide (-100 ≤ toSigned 32 (s.get Key.refclkDeviation))
    && decide (toSigned 32 (s.get Key.refclkDeviation) ≤ 100)
def State.temperatureInRange (s : State) : Bool :=
  decide (-40000 ≤ toSigned 32 (s.get Key.junctionTemperature)) && decide (toSigned 32 (s.get Key.junctionTemperature) ≤ 135000)

/-- Whether a port is the ingress port or a target of an admitted stream (R416). -/
def State.carriesAdmitted (s : State) (p : Nat) : Bool :=
  (admittedStreams s).any fun x => s.fld .fair 0xF071 x F.ctxIngress == p || (streamTargets s .fair x).testBit p

/-- What a start finds once the row is idle (R416): a status without effect, not started, or a start. -/
inductive TestCase where
  | refuse (status : Nat)
  | notStarted
  | start
deriving DecidableEq, Repr

def State.testCase (s : State) (r : Nat) : TestCase :=
  let p := s.holderOf r
  if (r < 64 && s.portState p == 4) || s.get Key.deviceState != 0 then .refuse 3
  else if r < 64 && s.isUp p && s.carriesAdmitted p && s.test r F.stbAllow == 0 then .refuse 4
  else if r < 64 && decide (8 ≤ (s.busyTests.filter fun x => decide (x < 64) && x != r).length) then .refuse 3
  else if !s.refclkInRange || !s.temperatureInRange then .notStarted
  else .start

/-- The line of a port is isolated (R419). -/
def isolate (p : Nat) : Act :=
  .dep fun s => Act.when (s.flag (Rg.testedBy p) && !s.flag (Rg.isolated p))
    (.seq (.put (Rg.isolated p) 1) (truncateArrivals p))

/-- A row records a verdict (R422, R427). -/
def verdictTo (r v cause : Nat) : Act :=
  .dep fun s => Act.all [Act.setF .live 0xF0B1 r F.stbVerdict v, Act.setF .live 0xF0B1 r F.stbCause cause,
    Act.setF .live 0xF0B1 r F.stbTime s.vns, Act.vectorOf Key.selfTestVector]

/-- A test starts (R417, R419): its port is held; isolation waits for the frame on the wire. -/
def startTest (r : Nat) : Act :=
  .dep fun s =>
    let p := s.holderOf r
    Act.all [Act.setF .live 0xF0B1 r F.stbState 1, Act.setF .live 0xF0B1 r F.stbPending 0, .put (Rg.testFrom r) s.now,
      .put (Rg.testThreshold r) (s.test r F.stbThreshold), .put (Rg.testCause r) 0,
      Act.when (s.get Rg.testLast == r + 1) (.put Key.selfTestRun 3),
      Act.when (decide (r < 64)) (Act.all [.put (Rg.testPort r) (p + 1), .put (Rg.testedBy p) (r + 1),
        Act.when (s.sending p).isNone (isolate p)])]

/-- A start with an idle row (R416): the status and the effect. -/
def tryTest (s : State) (r : Nat) : Nat × Act :=
  match s.testCase r with
  | .refuse st => (st, .skip)
  | .notStarted => (0, verdictTo r 5 0)
  | .start => (0, startTest r)

/-- SelfTestRun (R416). An execution that starts no test has ended with its write. -/
def runTest (s : State) (r : Nat) : Nat × Act :=
  if 66 ≤ r then (1, .skip)
  else match s.test r F.stbState with
    | 1 => (3, .skip)
    | 2 => (0, .seq (.put Rg.testLast (r + 1)) (Act.setF .live 0xF0B1 r F.stbPending 1))
    | _ =>
      let t := tryTest s r
      (t.1, .seq (Act.when (t.1 == 0) (.put Rg.testLast (if s.testCase r = .start then r + 1 else 0))) t.2)

/-- The octet that a result adds to the signature (R422). -/
def resultCode : StepResult → Byte
  | .inside => 0#8
  | .below => 1#8
  | .above => 2#8

/-- The signature of steps, as pairs of number and result (R422). -/
def stepSignature (steps : List (Byte × StepResult)) : Nat := crc32c (steps.flatMap fun c => [c.1, resultCode c.2])

/-- Some steps that an open number names: each takes an octet of it for its number, and then one of the three results. -/
def openSteps : Nat → Nat → List (Byte × StepResult)
  | 0, _ => []
  | n + 1, x => (BitVec.ofNat 8 x, [StepResult.inside, .below, .above].getD (x / 256 % 3) .inside) :: openSteps n (x / 768)

/-- The steps stop for a cause of R420. How many have run, and their numbers and result codes, are open (log entry 24); the signature
is theirs (R422). -/
def abortTest (r cause : Nat) : Act :=
  .dep fun s => Act.when (s.test r F.stbState == 1) (Act.all [Act.setF .live 0xF0B1 r F.stbState 2, .put (Rg.testCause r) cause,
    Act.drawIn 0 65535 fun n => Act.draw fun x =>
      .seq (.put (Rg.testSignature r) (stepSignature (openSteps n x))) (.put (Rg.testSteps r) n)])

/-- Every running test stops (R414, R420). -/
def abortTests (cause : Nat) (p : Nat → Bool := fun _ => true) : Act :=
  .dep fun s => Act.each (s.busyTests.filter p) fun r => abortTest r cause

/-- The test that holds a port stops (R368, R420). -/
def abortTestOf (p cause : Nat) : Act :=
  .dep fun s => Act.when (s.flag (Rg.testedBy p)) (abortTest (s.get (Rg.testedBy p) - 1) cause)

/-- SelfTestAbort (R418). DESIGN CHOICE (log entry 149): where it cancels a held start, that execution of SelfTestRun still runs (R491) until
restoring ends. -/
def stopTest (s : State) (r : Nat) : Nat × Act :=
  if 66 ≤ r then (1, .skip)
  else if s.test r F.stbState = 2 && s.test r F.stbPending = 1 then (0, Act.setF .live 0xF0B1 r F.stbPending 0)
  else (0, abortTest r 2)

/-- The steps of a test have run (R417, R422): their numbers and result codes. -/
def stepsEnd (r : Nat) (codes : List (Byte × StepResult)) : Act :=
  .dep fun s => Act.when (s.test r F.stbState == 1) (Act.all [Act.setF .live 0xF0B1 r F.stbState 2,
    .put (Rg.testSignature r) (stepSignature codes), .put (Rg.testSteps r) codes.length])

/-- The verdict of a run (R422). -/
def State.testVerdict (s : State) (r : Nat) (readBackOk : Bool) : Nat :=
  let id := s.test r F.stbTestId
  let sig := s.get (Rg.testSignature r) == s.get (Key.expectedSignature (id - 1))
  let n := s.get (Rg.testSteps r)
  let want := s.get (Key.expectedSteps (id - 1))
  if s.flag (Rg.testCause r) then 4
  else if !readBackOk || !sig || decide (want < n) then 2
  else if n < want then 3 else 1

/-- The rows of a list start in turn, up to the first that cannot: its block is busy, or 8 of rows 0 to 63 run (R423). -/
def startRows : List Nat → Act
  | [] => .skip
  | r :: rs => .dep fun t =>
    if t.test r F.stbState != 0 || (r < 64 && decide (8 ≤ (t.busyTests.filter fun x => decide (x < 64)).length)) then .skip
    else Act.all [.put (Rg.periodicRow r) (if t.testCase r = .start then 3 else 4), (tryTest t r).2, startRows rs]

/-- The rows of the periodic run that wait start in ascending order (R423). -/
def periodicStarts : Act :=
  .dep fun s => Act.when (s.flag Rg.periodicFrom) (startRows ((List.range 66).filter fun r => s.get (Rg.periodicRow r) == 1))

/-- The port of a test is released (R417, R419). -/
def releasePort (p : Nat) (linkUp : Bool) : Act :=
  .dep fun s => Act.all [.put (Rg.testedBy p) 0, .put (Rg.isolated p) 0,
    if s.isUp p then (if linkUp then selectPort p else enterFlushing p 2 false true) else tryUp p]

/-- Restoring ends (R417, R421, R422): the verdict, and a held start or the end of the hold. DESIGN CHOICE (log entry 114): a held
start that its checks now refuse leaves SelfTestRun at 0x00. -/
def restored (r : Nat) (readBackOk linkUp : Bool) : Act :=
  .dep fun s => Act.when (s.test r F.stbState == 2)
    (let p := s.get (Rg.testPort r) - 1
     let v := s.testVerdict r readBackOk
     let cause := if readBackOk then s.get (Rg.testCause r) else 8
     let last := s.get Rg.testLast == r + 1
     let release := Act.when (decide (r < 64)) (releasePort p linkUp)
     Act.all [Act.setF .live 0xF0B1 r F.stbState 0, Act.setF .live 0xF0B1 r F.stbPending 0,
       Act.setF .live 0xF0B1 r F.stbSignature (s.get (Rg.testSignature r)), Act.setF .live 0xF0B1 r F.stbSteps (s.get (Rg.testSteps r)),
       Act.setF .live 0xF0B1 r F.stbDuration ((s.now - s.get (Rg.testFrom r)) / us 1), verdictTo r v cause,
       Act.when (s.flag Rg.periodicFrom && s.get (Rg.periodicRow r) == 3) (.put (Rg.periodicRow r) (if v = 1 then 2 else 4)),
       Act.when last (.seq (.put Key.selfTestRun 0) (.put Rg.testLast 0)),
       if s.test r F.stbPending = 1 then .dep fun t =>
         match t.testCase r with
         | .start => Act.all [Act.when last (.put Rg.testLast (r + 1)), Act.when (decide (r < 64)) (.put (Rg.testedBy p) 0), startTest r]
         | .notStarted => .seq (verdictTo r 5 0) release
         | .refuse _ => release
       else release,
       periodicStarts])

/-- The queued cells of a held port reach its threshold (R420). -/
def thresholdReached (p : Nat) : Act :=
  .dep fun s =>
    let r := s.get (Rg.testedBy p) - 1
    Act.when (s.flag (Rg.testedBy p) && s.isUp p
        && decide (s.get (Rg.testThreshold r) ≤ ((List.range 8).map fun tc => s.depthCells p tc).sum)) (abortTest r 1)

/-- RefclkDeviation in ppm for a count (R414): the count against 195,312.5 cycles. -/
def refclkPpm (count : Nat) : Int := (2 * (count : Int) - 390625) * 1000000 / 390625

/-- A count of REFCLK cycles over 256 crystal ticks (R414, R464). -/
def measureRefclk (count : Nat) : Act :=
  Act.all [.put Key.refclkDeviation (ofSigned 32 (max (-2147483648) (min 2147483647 (refclkPpm count)))), .put Key.xtalStatus 0,
    .dep fun s => Act.when (!s.refclkInRange) (abortTests 3)]

/-- A measurement of the junction temperature (R414); while the sensor's own test runs, none is taken. -/
def measureTemperature (t : Int) : Act :=
  .dep fun s => Act.when (s.test 65 F.stbState == 0)
    (.seq (.put Key.junctionTemperature (ofSigned 32 (max (-2147483648) (min 2147483647 t))))
      (.dep fun u => Act.when (!u.temperatureInRange) (abortTests 4)))

end Sys2Proof.Machine
end

