-- ==== Sys2Proof/Machine/SleepSteps.lean ====
section
/-! DEFINITION. The steps of SleepEntry (R378, R379): they wait for a commit, close the seal and flush the ports. -/

namespace Sys2Proof.Machine

/-- The ports outside the rings, internal ports included, enter Flushing (R378). -/
def flushForSleep : Act :=
  .seq (.put Rg.sleepFlushed 1) (.dep fun s =>
    Act.each ((List.range 256).filter fun p => s.isUp p && (s.ringOf p).isNone) fun p =>
      enterFlushing p (if s.kind p = 7 then 4 else 2) true true)

/-- t_s: the seal enters Closing, or the flush follows at once where it is Disabled (R378). -/
def sleepSteps : Act :=
  .dep fun s => .seq (.put Rg.sleepFrom (s.now + 1))
    (match s.get Key.recordSealState with
    | 0 => flushForSleep
    | 1 => .put Key.recordSealPendingEnable 0
    | _ => sealStateTo 1)

/-- The steps of SleepEntry begin unless a commit is Checking or Realigning; one that is Approved is cancelled (R379). -/
def sleepTry : Act :=
  .dep fun s => Act.when (s.get Key.deviceState == 1 && s.get Rg.sleepFrom == 0)
    (match s.get Key.commitState with
    | 2 => .skip
    | 3 => discardSketch
    | 4 => .skip
    | _ => sleepSteps)

end Sys2Proof.Machine
end

