-- ==== Sys2Proof/Machine/Faults.lean ====
section
/-! DEFINITION. The fault collector and the reactions (R386 to R404): lockstep, fail-safe, failover, scrubbing and the periodic
test. -/

namespace Sys2Proof.Machine

/-! ### The safety partition -/

/-- What happens whenever the safety partition stops (R395, R399): SAFE_N is asserted, a commit that is
Checking ends, its update session is aborted (R439), ports 240 to 243 are not Up, and a SleepEntry that waited for the commit goes on
(R379). -/
def safetyStops (st : Nat) : Act :=
  Act.all [.put Key.safetyState st, .put Rg.safeReleased 0, abandonCommit, ownerGone 1,
    Act.each [240, 241, 242, 243] servingStops, sleepTry]

/-- Fail-safe with a cause (R399). The record keeps its cause while the partition is in fail-safe already. -/
def failSafe (cause : Nat) : Act :=
  .dep fun s => Act.when (s.get Key.safetyState != 4) (.seq (.put Key.failSafeCause cause) (safetyStops 4))

/-- A mismatch (R386, R388, R393 to R396): counted, logged, and its reaction, or fail-safe at the third in a second. There is none
while both cores are stalled in a resynchronisation; one that reaches the collector in fail-safe, such as one at the instant of a
watchdog expiry, is counted and logged and the partition stays there (R407). A resynchronisation in a start or a restart leaves
SafetyState as it is (log entry 138). -/
def mismatch (source group : Nat) (counter : Nat) : Act :=
  .dep fun s =>
    let n := s.mismatchesNear + 1
    let resync := source == 1
    let fatal := decide (3 ≤ n) || s.get Key.safetyState == 4
    let reaction := if fatal then 3 else if resync then 1 else 2
    if s.get Key.safetyState = 2 then .skip
    else Act.all [Act.bump Key.mismatches, Act.bump counter, .put Key.lastMismatchGroup group,
      .put (Rg.mismatchAt 2) (s.get (Rg.mismatchAt 1)), .put (Rg.mismatchAt 1) (s.get (Rg.mismatchAt 0)),
      .put (Rg.mismatchAt 0) (s.now + 1), faultEntry source reaction group 0xFFFF 0 0,
      if fatal then failSafe 0x40
      else if resync then Act.when (s.get Key.safetyState == 1) (.put Key.safetyState 2)
      else safetyStops 3]

/-- A report that ends in fail-safe with its own source as the cause (R386). -/
def fatal (source unit : Nat) : Act := .seq (faultEntry source 3 unit 0xFFFF 0 0) (failSafe source)

/-- The lowest compare group of a set. -/
def lowestGroup (groups : Nat) : Nat := ((List.range 8).find? fun i => groups.testBit i).getD 0

/-- The resynchronisation ends (R394). -/
def resyncEnds : Act := .dep fun s => Act.when (s.get Key.safetyState == 2) (.put Key.safetyState 1)

/-- The partition's restart (R395, R398, R407): its data memory is cleared, the digest of the resident firmware is compared with the one
that measured boot recorded, and the injection test has run. Firmware of another digest is not started, and the partition stays in its
restart (log entry 138). -/
def restartEnds (env : RestartEnv) : Act :=
  .dep fun s => Act.when (s.get Key.safetyState == 3)
    (.seq (Act.zero [Rg.safetyData, Rg.watchdogAt])
      (if env.digest.toNat ≠ s.get Rg.segmentDigest then .skip
       else if env.injectionOk then Act.all [.put Rg.injectionOk 1, .put Key.safetyState 1, Act.each [240, 241, 242, 243] tryUp]
       else .seq (.put Rg.injectionOk 0) (Act.drawIn 0 7 fun g => fatal 4 g)))

/-- SafeRelease (R399): the status and the effect. -/
def releaseSafe (s : State) : Nat × Act := if s.flag Rg.injectionOk then (0, .put Rg.safeReleased 1) else (2, .skip)

/-- WatchdogService (R399). -/
def serviceWatchdog : Act := .dep fun s => .put Rg.watchdogAt (s.now + 1)

/-- Whether the watchdog runs (R399): in Running and through a resynchronisation, and still at the very instant of a mismatch that
stops the partition, when both are logged (R407). -/
def State.watchdogRuns (s : State) : Bool :=
  s.get Key.safetyState == 1 || s.get Key.safetyState == 2 || s.get (Rg.mismatchAt 0) == s.now + 1

/-- The watchdog's interval, which begins at the first service, passes without another one (R399). -/
def watchdogExpires : Act :=
  .dep fun s => Act.when (s.flag Rg.watchdogAt && s.watchdogRuns
      && decide (s.get Rg.watchdogAt - 1 + ms (s.get Key.watchdogPeriod) < s.now)) (fatal 5 0xFF)

/-! ### Pipelines -/

/-- The ports of a pipeline under test go back to it, and P4 is Idle (R403). -/
def testEnds (n result st : Nat) : Act :=
  Act.all [.put Key.pipelineTestResult result, .put Rg.pipeTested 0, .put Key.pipelineTest 0, .put (Key.pipelineState n) st,
    Act.when (n != 4) (Act.all [.put (Key.pipelineState 4) 0, .put Key.spareHosts 255, .put Rg.hosted 0])]

/-- A running pipeline test is aborted (R403). -/
def abortPipelineTest : Act :=
  .dep fun s =>
    let n := s.get Rg.pipeTested - 1
    Act.when (s.flag Rg.pipeTested) (testEnds n 2 (if n = 4 then 0 else 1))

/-- P4 begins its take-over check for a fenced pipeline, where it is Idle (R400, R402). -/
def takeOverStarts (n : Nat) : Act :=
  .dep fun s => Act.when (s.get (Key.pipelineState 4) == 0) (Act.all [.put (Key.pipelineState 4) 4, .put Rg.fenced (n + 1),
    .put Rg.fencedAt s.now])

/-- P4 fails (R402, R403). -/
def spareFails : Act :=
  Act.all [.put (Key.pipelineState 4) 2, .put Key.spareHosts 255, .put Rg.fenced 0, .put Rg.hosted 0]

/-- PipelineTest (R403): the status and the effect. -/
def testPipeline (s : State) (n : Nat) : Nat × Act :=
  if s.get (Key.pipelineState 4) != 0 || (n < 4 && s.get (Key.pipelineState n) != 1) then (3, .skip)
  else if n < 4 then (0, Act.all [.put (Key.pipelineState n) 3, .put (Key.pipelineState 4) 1, .put Key.spareHosts n,
    .put Rg.hosted (n + 1), .put Rg.pipeTested (n + 1)])
  else (0, .seq (.put (Key.pipelineState 4) 3) (.put Rg.pipeTested 5))

/-- The tests of the periodic run go on with the first of the pipelines from `n` on that can be tested; one that cannot is passed over
(R403, R404; log entry 132). -/
def pipelinesFrom (s : State) : Nat → Nat → Act
  | 0, _ => .put Rg.pipeTurn 0
  | fuel + 1, n =>
    let t := testPipeline s n
    if t.1 = 0 then Act.all [t.2, .put Rg.pipeOwn 1, .put Rg.pipeTurn (if n = 4 then 0 else n + 2)] else pipelinesFrom s fuel (n + 1)

/-- The periodic run takes up the end of a pipeline's test, and begins the next one (R404). -/
def pipelinesGo : Act :=
  .dep fun s => Act.when (s.flag Rg.periodicFrom && !s.flag Rg.pipeTested) (Act.all [
    Act.when (s.flag Rg.pipeOwn && s.get Key.pipelineTestResult != 0) (.put Rg.pipeBad 1),
    .put Rg.pipeOwn 0,
    Act.when (s.flag Rg.pipeTurn) (pipelinesFrom s (6 - s.get Rg.pipeTurn) (s.get Rg.pipeTurn - 1))])

/-- A frame is discarded with its copies, the one for its second pass among them; what is still to come of it is then received without a
copy (R95). -/
def loseFrame (f : Frame) : Act :=
  .seq (endCopies fun c => c.frame == f.id) (if f.complete then dropFrame f.id else setFrame f.id fun x => { x with stage := .draining })

/-- A decision in flight is discarded (R400): its frame is released, unless a copy has begun to leave, which shows that the decision
was released before (log entry 57). -/
def discardDecision (id : Nat) : Act :=
  .dep fun s =>
    match s.frame? id with
    | none => .skip
    | some f => Act.when (!(s.copiesOf id).any Copy.begun) (.seq (Act.bump Key.failoverDiscards) (loseFrame f))

/-- The pipeline is fenced (R400): its decisions in flight, those whose slots are held, are discarded. -/
def fence (n : Nat) : Act :=
  reselect <| .dep fun s => Act.each ((List.range 64).filter fun i => decide (s.now < s.get (Rg.slotUntil n i)) && s.flag (Rg.slotFrame n i))
    fun i => .seq (discardDecision (s.get (Rg.slotFrame n i) - 1)) (.put (Rg.slotUntil n i) s.now)

/-- A fault in a pipeline (R386, R400, R402, R403, R407). One of a pipeline that has failed is stored, and has no reaction. -/
def pipelineFault (n mechanism : Nat) : Act :=
  .dep fun s =>
    let failed := s.get (Key.pipelineState n) == 2
    .seq (faultEntry (0x10 + mechanism) (if failed then 0 else 4) n 0xFFFF 0 0)
      (if failed then .skip
      else if s.get Rg.pipeTested = n + 1 && n != 4 then
        Act.all [.put (Key.pipelineState n) 2, .put Key.pipelineTestResult 1, .put Key.pipelineTest 0, .put Rg.pipeTested 0, pipelinesGo]
      else if n = 4 then Act.all [fence 4, abortPipelineTest, spareFails, pipelinesGo]
      else Act.all [fence n, abortPipelineTest, .put (Key.pipelineState n) 2, takeOverStarts n, pipelinesGo])

/-- P4's take-over check ends (R400, R402). -/
def tookOver (ok : Bool) : Act :=
  .dep fun s =>
    let n := s.get Rg.fenced - 1
    Act.when (s.get (Key.pipelineState 4) == 4) (if ok then Act.all [
        .put (Key.pipelineState 4) 1, .put Key.spareHosts n, .put Rg.hosted (n + 1), .put Rg.fenced 0, Act.bump Key.failovers,
        .put Key.lastInterruption (min ((s.now - s.get Rg.fencedAt) / 65536) (2 ^ 32 - 1))]
      else .seq spareFails (faultEntry 0x13 6 4 0xFFFF 0 0))

/-- A pipeline test ends (R403). The ports of a pipeline that failed its test stay on P4. -/
def pipelineTested (result : TestEnd) : Act :=
  .dep fun s =>
    let n := s.get Rg.pipeTested - 1
    Act.when (s.flag Rg.pipeTested) (.seq (match result with
      | .passed => testEnds n 0 (if n = 4 then 0 else 1)
      | .aborted => abortPipelineTest
      | .failed => Act.all [.put Key.pipelineTestResult 1, .put Key.pipelineTest 0, .put Rg.pipeTested 0, .put (Key.pipelineState n) 2,
          faultEntry 0x10 4 n 0xFFFF 0 0, Act.when (n == 4) spareFails]) pipelinesGo)

/-! ### Memories -/

/-- A table of the dictionary. -/
def tableOf (idx : Nat) : Option Tab := tables.find? fun t => t.idx == idx

/-- A row of an unstaged table found in error is set to 0 (R401), so that a client is disabled (R80) and a session freed. -/
def zeroRow (idx row : Nat) : Act :=
  match tableOf idx with
  | some t => if t.staged || t.rows ≤ row then .skip
    else
      let zeroed := Act.setRow .live idx row 0 (List.replicate t.stride 0#8)
      match idx with
      | 0xF098 => changingKeys zeroed
      | 0xF002 => .seq zeroed (.dep fun s => endRemotes fun k => s.session k F.rsessClient == row)
      | 0xF003 => .seq (endRemotes fun k => k == row) zeroed
      | _ => zeroed
  | none => .skip

/-- What a scrub pass finds (R401). -/
def scrubbed (x : ScrubFind) : Act :=
  match x with
  | .corrected => Act.bump Key.correctedErrors
  | .row t r => .dep fun s =>
    let idx := t.toNat
    let row := r.toNat
    .seq (faultEntry 0x21 5 0xFF idx row 0)
      (match tableOf idx with
      | some t => if t.rows ≤ row then .skip
        else if t.staged then Act.when (s.get Key.commitState == 0) (Act.setRow .fair idx row 0 (s.rowOctets .sketch idx row 0 t.stride))
        else zeroRow idx row
      | none => .skip)

/-- The frame whose lookup met an uncorrectable error is discarded (R401), wherever it stands; a copy of it that has begun to leave is
sent to its end (log entry 148). -/
def lookupFault (idx row frame : Nat) : Act :=
  .seq (reselect <| .dep fun s => Act.all [Act.bump Key.uncorrectedErrors, faultEntry 0x21 5 0xFF idx row 0,
    match s.frame? frame with
      | some f => if (s.copiesOf frame).any Copy.begun then endCopies fun c => c.frame == frame && !c.begun else loseFrame f
      | none => .skip]) (zeroRow idx row)

/-- A cell CRC failed at the egress read of the copy on the wire (R190, R401). -/
def cellFault (p : Nat) : Act :=
  .dep fun s => Act.all [Act.bump Key.cellCrcErrors, faultEntry 0x22 5 p 0xFFFF 0 0,
    match s.sending p with
      | some c => varnish c (s.leftOf c)
      | none => .skip]

/-- A report of a fault mechanism (R386). -/
def faultReported (x : FaultReport) : Act :=
  match x with
  | .lockstep groups edge =>
    if groups = 0x20#8 && edge then mismatch 1 5 Key.samplingDivergences
    else mismatch 2 (lowestGroup groups.toNat) Key.coreMismatches
  | .comparatorCode g => mismatch 3 g Key.comparatorFaults
  | .injectionFailed g => .seq (.put Rg.injectionOk 0) (fatal 4 g)
  | .collectorCode => fatal 6 0xFF
  | .pipeline n m => pipelineFault n m
  | .corrected => Act.bump Key.correctedErrors
  | .lookup t r f => lookupFault t.toNat r.toNat f
  | .cellCrc p => cellFault p

/-- A write that reached the gate with another identity (R22, R389, R390). -/
def violation (requester address : Nat) : Act :=
  .seq (Act.bump Key.isolationViolations) (faultEntry 0x31 6 requester 0xFFFF 0 address)

/-! ### The periodic test -/

/-- LatentTestAge (R404, R408). -/
def State.latentAge (s : State) : Nat := min (s.latentTime / ms 1000) (2 ^ 32 - 1)

/-- PeriodicTestRun (R404, R423): the rows whose InPeriodic is 1 make up its set. DESIGN CHOICE (log entry 139): a write while a run is
in progress begins a new one in its place. -/
def startPeriodic : Act :=
  .dep fun s => Act.all [.put Rg.periodicFrom (s.now + 1), .put Key.periodicTestRun 3,
    Act.each (List.range 66) fun r => .put (Rg.periodicRow r) (if s.test r F.stbPeriodic = 1 then 1 else 0),
    .put Rg.pipeTurn 1, .put Rg.pipeBad 0, .put Rg.pipeOwn 0, periodicStarts, pipelinesGo]

/-- Whether the tests of the periodic run on the pipelines and on its rows have all run and passed (R404, R423). -/
def State.periodicPassed (s : State) : Bool :=
  !s.flag Rg.pipeTurn && !s.flag Rg.pipeOwn && !s.flag Rg.pipeBad
    && (List.range 66).all fun r => s.get (Rg.periodicRow r) == 0 || s.get (Rg.periodicRow r) == 2

/-- The periodic run ends (R404, R423); `digitalOk` is the outcome of its injection tests. -/
def periodicEnds (digitalOk : Bool) : Act :=
  .dep fun s => Act.when (s.flag Rg.periodicFrom)
    (Act.all [.put Rg.periodicFrom 0, .put Key.periodicTestRun 0,
       .put Key.periodicTestResult (if digitalOk && s.periodicPassed then 0 else 1),
       Act.each (List.range 66) fun r => .put (Rg.periodicRow r) 0,
       Act.zero [Rg.pipeTurn, Rg.pipeOwn, Rg.pipeBad],
       Act.when digitalOk (.put Rg.injectionOk 1),
       .put Rg.latentBase 0, .put Rg.latentSince s.now, .put Rg.overdueTold 0])

/-- The periodic run reaches its limit of 20 ms (R423): its tests that run are aborted, and those that wait do not start. -/
def periodicLimit : Act :=
  .dep fun s => Act.when (s.flag Rg.periodicFrom && decide (s.get Rg.periodicFrom - 1 + ms 20 ≤ s.now))
    (.seq (Act.each ((List.range 66).filter fun r => s.get (Rg.periodicRow r) == 1) fun r => .put (Rg.periodicRow r) 4)
      (abortTests 7 fun r => s.get (Rg.periodicRow r) == 3))

/-- LatentTestAge reaches 8 h (R404): reported once. -/
def latentOverdue : Act :=
  .dep fun s => Act.when (decide (28800 ≤ s.latentAge) && !s.flag Rg.overdueTold)
    (.seq (.put Rg.overdueTold 1) (faultEntry 0x32 6 0xFF 0xFFFF 0 0))

end Sys2Proof.Machine
end

