-- ==== Sys2Proof/Machine/Rings.lean ====
section
/-! DEFINITION. Consent rings and wake inputs (R358 to R376). -/

namespace Sys2Proof.Machine

/-- RingState changes, with its vector (R382). -/
def ringStateTo (r v : Nat) : Act := Act.putNotify (Key.ringState r) v Key.sleepEventVector

/-- A field of a member row and of a wake input. -/
def State.member (s : State) (r m : Nat) (f : Fld) : Nat := s.fld .live 0xF0A1 (64 * r + m) f
def State.wakeIn (s : State) (i : Nat) (f : Fld) : Nat := s.fld .live 0xF0A3 i f

/-- Whether a member or an input is in holders(r) (R365); `kind` is the kind of LastHolder (R371). -/
def State.holds (s : State) (kind r id : Nat) : Bool :=
  if kind = 1 then
    s.member r id F.memberValid == 1 && id != s.ring r F.ringLocalId && s.member r id F.memberSilent == 0
      && s.member r id F.memberReady == 0
  else s.wakeIn id F.wakeEnable == 1 && (s.wakeIn id F.wakeRings).testBit r && s.wakeIn id F.wakeActive == 1
    && s.wakeIn id F.wakeMasked == 0

/-- The members and inputs by kind and number. -/
def holderIds : List (Nat × Nat) := ((List.range 64).map fun m => (1, m)) ++ (List.range 16).map fun i => (2, i)

/-- Whether holders(r) is empty (R365), and HolderCount (R383). -/
def State.holderCount (s : State) (r : Nat) : Nat :=
  (holderIds.filter fun h => s.holds h.1 r h.2).length + (if s.flag (Key.localConsent r) then 0 else 1)

/-! ### Who kept the ring awake -/

/-- Counts held time up to now (R371): while LocalConsent is 1. -/
def accrue (r kind id : Nat) : Act :=
  .dep fun s =>
    let since := s.get (Rg.holdSince kind r id)
    let total := s.get (Rg.holdTotal kind r id) + (if since = 0 then 0 else s.now - (since - 1))
    let span := if since = 0 then 0 else s.now - (since - 1)
    Act.all [.put (Rg.holdTotal kind r id) total,
      Act.when (kind == 1 && span != 0)
        (.dep fun t =>
          let all := t.get (Rg.holdAll r id) + span
          .seq (.put (Rg.holdAll r id) all)
            (Act.setF .live 0xF0A1 (64 * r + id) F.memberHeld (min (all / 65536) (2 ^ 64 - 1)))),
      if s.flag (Key.localConsent r) then Act.all [
        Act.when (since == 0 && s.get (Rg.holdTotal kind r id) == 0) (.put (Rg.holdStart kind r id) s.vns),
        .put (Rg.holdSince kind r id) (s.now + 1)]
      else .put (Rg.holdSince kind r id) 0]

/-- A holding period ends (R371). -/
def endHolding (r kind id reason : Nat) : Act :=
  .seq (accrue r kind id) (.dep fun s =>
    let total := s.get (Rg.holdTotal kind r id)
    Act.all [.put (Rg.isHolding kind r id) 0, .put (Rg.holdSince kind r id) 0, .put (Rg.holdTotal kind r id) 0,
      Act.when (kind == 1) (Act.setF .live 0xF0A1 (64 * r + id) F.memberHolding 0),
      .put (Key.lastHolder r) (256 * kind + id),
      Act.when (decide (ms (100 * s.ring r F.ringThreshold) ≤ total))
        (storeEntry 0xF0A2 32 Key.keepAwakeLogCount Key.keepAwakeLogOverflow
          (leBytes 8 (if total = 0 then s.vns else s.get (Rg.holdStart kind r id)) ++ leBytes 8 (total / 65536) ++ leBytes 1 r
            ++ leBytes 1 kind ++ leBytes 1 id ++ leBytes 1 reason ++ leBytes 12 0) (Act.vectorOf Key.sleepEventVector))])

/-- A holding period begins (R371). -/
def startHolding (r kind id : Nat) : Act :=
  Act.all [.put (Rg.isHolding kind r id) 1, .put (Rg.holdTotal kind r id) 0, .put (Rg.holdSince kind r id) 0,
    Act.when (kind == 1) (Act.setF .live 0xF0A1 (64 * r + id) F.memberHolding 1), accrue r kind id]

/-- Holding is brought up to date for a ring that is enabled and not Closing (R371). -/
def holdReview (r : Nat) : Act :=
  .dep fun s => Act.when (decide (1 ≤ s.get (Key.ringState r)) && decide (s.get (Key.ringState r) ≤ 4))
    (Act.each holderIds fun h =>
      let is := s.holds h.1 r h.2
      let was := s.flag (Rg.isHolding h.1 r h.2)
      if is && was then accrue r h.1 h.2
      else if is then startHolding r h.1 h.2
      else Act.when was (endHolding r h.1 h.2
        (if h.1 = 1 then (if s.member r h.2 F.memberSilent = 1 then 2 else 1) else if s.wakeIn h.2 F.wakeMasked = 1 then 3 else 1)))

/-- Every holding period of a ring ends for one reason (R370, R372). -/
def endHoldings (r reason : Nat) : Act :=
  .dep fun s => Act.each (holderIds.filter fun h => s.flag (Rg.isHolding h.1 r h.2)) fun h => endHolding r h.1 h.2 reason

/-! ### Waking and sleeping -/

/-- A ring port leaves low power (R369, R372). -/
def powerPort (p : Nat) (wake : Bool) : Act :=
  .dep fun s => Act.all [.put (Rg.lowPower p) 0, .put (Rg.stepDone p) 0,
    Act.when wake (.seq (.put (Rg.wakeSend p) 1) (Act.when (s.kind p == 2) (.emit (.signal p sigWakeUpPulse 0)))),
    tryUp p]

/-- An ordinary wake (R369). -/
def ordinaryWake (r : Nat) : Act :=
  .dep fun s => Act.all [ringStateTo r 1, .put (Rg.ringHeld r) 0, .put (Rg.consentSince r) 0, .put (Rg.ringWoke r) (s.now + 1),
    Act.each (s.ringPorts r) fun p => powerPort p true, holdReview r]

/-- A wake request (R357, R365, R367). -/
def wakeRequest (r : Nat) : Act :=
  .dep fun s =>
    match s.get (Key.ringState r) with
    | 2 =>
      if s.now ≤ s.get (Rg.windowEnd r) then Act.all [
        Act.each (s.ringPorts r) fun p => .put (Rg.wakeSend p) 1,
        ringStateTo r 1, .put (Rg.consentSince r) 0, Act.bump (Key.abortedCommits r), ringSend r]
      else .put (Rg.ringHeld r) 1
    | 3 => .put (Rg.ringHeld r) 1
    | 4 => if s.get Key.deviceState = 0 then ordinaryWake r
      else .put Rg.heldRings (s.get Rg.heldRings ||| 2 ^ r)
    | _ => .skip

/-- Consent holds long enough, and the commit window begins (R365). -/
def enterWindow (r : Nat) : Act :=
  .dep fun s => Act.all [ringStateTo r 2, .put (Rg.windowEnd r) (s.now + ms (s.ring r F.ringWindow)), ringSend r]

/-- The logic of R365 for a ring that is Awake. -/
def evaluateRing (r : Nat) : Act :=
  .dep fun s => Act.when (s.get (Key.ringState r) == 1)
    (let since := if s.holderCount r = 0 then (if s.flag (Rg.consentSince r) then s.get (Rg.consentSince r) else s.now + 1) else 0
     .seq (.put (Rg.consentSince r) since)
       (Act.when (since != 0 && decide (since - 1 + ms (s.ring r F.ringPeriod) ≤ s.now)) (enterWindow r)))

/-- Whether every port of a ring has completed its sleep step. -/
def State.stepsDone (s : State) (r : Nat) : Bool := (s.ringPorts r).all fun p => s.flag (Rg.stepDone p)

/-- BusSleep once every step is complete (R365, R368); a held wake request follows at once. -/
def reachBusSleep (r : Nat) : Act :=
  .dep fun s => Act.when (s.get (Key.ringState r) == 3 && s.stepsDone r) (Act.all [
    ringStateTo r 4, Act.bump (Key.busSleeps r),
    Act.when (s.flag (Rg.ringHeld r)) (ordinaryWake r)])

/-- The go-to-sleep command of ISO 17987 (R368): the header of the master request frame and its response. -/
def goToSleep (p : Nat) : Act :=
  let data : List Byte := 0x00#8 :: List.replicate 7 0xFF#8
  .seq (.emit (.signal p sigGoToSleep 0x3C)) (.emit (.bus p 4 0x3C 0 data (beBytes 1 (linCheck false 0x3C data))))

/-- The sleep step of a port begins (R368, R376). A port that is not Up has nothing to complete (DEDUCED: log
entry 158). -/
def sleepPort (p : Nat) : Act :=
  .dep fun s =>
    let up := s.isUp p
    Act.all [.put (Rg.lowPower p) 1, .put (Rg.stepDone p) (if up then 0 else 1), abortTestOf p 5,
      Act.when (up && s.kind p == 5 && s.inForce (Key.linRole p) == 1) (goToSleep p),
      Act.when (up && s.kind p == 2) (.emit (.signal p sigSleepRequest 0)),
      Act.when up (enterFlushing p 2 true true)]

/-- BusSleepEntry begins (R365, R368, R370). -/
def enterBusSleep (r : Nat) : Act :=
  .dep fun s => Act.all [ringStateTo r 3, .put (Rg.ringWoke r) 0, .put (Rg.windowEnd r) s.now,
    Act.each (s.ringPorts r) sleepPort, reachBusSleep r]

/-- The commit window ends (R365). -/
def windowEnds (r : Nat) : Act :=
  .dep fun s => Act.when (s.get (Key.ringState r) == 2 && decide (s.get (Rg.windowEnd r) ≤ s.now)) (enterBusSleep r)

/-- Whether a ring has sleep steps in progress: BusSleepEntry, or Closing that began in it (R372). -/
def State.stepping (s : State) (r : Nat) : Bool :=
  s.get (Key.ringState r) == 3 || (s.get (Key.ringState r) == 5 && s.flag (Rg.closingEntry r))

/-- A port completes its sleep step (R368). -/
def stepCompletes (r p : Nat) : Act :=
  .dep fun s => Act.when (s.stepping r && s.inRing r p) (.seq (.put (Rg.stepDone p) 1) (reachBusSleep r))

/-- The steps not completed 20 ms after WindowEnd are forced (R368). -/
def forceSleep (r : Nat) : Act :=
  .dep fun s => Act.when (s.stepping r && decide (s.get (Rg.windowEnd r) + ms 20 ≤ s.now))
    (.seq (Act.each ((s.ringPorts r).filter fun p => !s.flag (Rg.stepDone p)) fun p =>
        .seq (.put (Rg.stepDone p) 1) (Act.bump (Key.busSleepsForced r))) (reachBusSleep r))

/-- Whether a frame other than a ring message has come to a ring since its wake (R367, R370): one that was decided, or one that arrives
at this instant and is not known for a ring message (log entry 130). -/
def State.heardSince (s : State) (r woke : Nat) : Bool :=
  ((s.ringPorts r).any fun p => decide (woke ≤ s.get (Rg.trafficAt p)))
    || s.frames.any fun f => s.inRing r f.port && !f.second && f.decided.isNone && decide (woke ≤ f.arrived + 1)
        && !s.isRingMessage f.port f f.parse

/-- FalseWakeTimeout after an ordinary wake (R370). -/
def falseWake (r : Nat) : Act :=
  .dep fun s =>
    let woke := s.get (Rg.ringWoke r)
    Act.when ((s.get (Key.ringState r) == 1 || s.get (Key.ringState r) == 2) && woke != 0
        && decide (woke - 1 + ms (s.ring r F.ringFalseWake) ≤ s.now))
      (if s.heardSince r woke || !s.flag (Key.localConsent r) then
        .put (Rg.ringWoke r) 0
      else Act.all [Act.bump (Key.falseWakes r), endHoldings r 4, enterBusSleep r])

/-! ### Enabling and messages -/

/-- A ring becomes Awake on being enabled (R365). -/
def awakenRing (r : Nat) : Act :=
  .dep fun s => Act.all [ringStateTo r 1, .put (Rg.consentSince r) 0, .put (Rg.ringWoke r) 0, .put (Rg.ringHeld r) 0,
    Act.each (List.range 64) fun m => Act.all [
      Act.setF .live 0xF0A1 (64 * r + m) F.memberReady 0, Act.setF .live 0xF0A1 (64 * r + m) F.memberSilent 0,
      Act.setF .live 0xF0A1 (64 * r + m) F.memberLast s.vns, .put (Rg.memberSeen (64 * r + m)) s.now],
    holdReview r]

/-- Whether a port of a ring belongs to another ring that is not Disabled (R358). -/
def State.ringConflict (s : State) (r : Nat) : Bool :=
  (s.ringPorts r).any fun p => (List.range 32).any fun q => q != r && s.flag (Key.ringState q) && s.inRing q p

/-- The RO fields of a ring's member rows are set to 0 (R372). -/
def clearMembers (r : Nat) : Act :=
  Act.each (List.range 64) fun m => Act.all [
    Act.setF .live 0xF0A1 (64 * r + m) F.memberReady 0, Act.setF .live 0xF0A1 (64 * r + m) F.memberSilent 0,
    Act.setF .live 0xF0A1 (64 * r + m) F.memberHolding 0, Act.setF .live 0xF0A1 (64 * r + m) F.memberSeq 0,
    Act.setF .live 0xF0A1 (64 * r + m) F.memberLast 0, Act.setF .live 0xF0A1 (64 * r + m) F.memberHeld 0, .put (Rg.holdAll r m) 0]

/-- RingEnable takes a value (R358, R372): the status and the effect. -/
def enableRing (s : State) (r v : Nat) : Nat × Act :=
  let stored := Act.put (Key.ringEnable r) v
  match s.get (Key.ringState r) with
  | 0 => if v = 0 then (0, stored) else if s.ringConflict r then (4, .skip) else (0, .seq stored (awakenRing r))
  | 5 => (0, .seq stored (.put (Key.ringPendingEnable r) v))
  | st => if v = 1 then (0, stored) else (0, Act.all [stored, ringStateTo r 5,
      .put (Rg.closingEntry r) (if st = 3 then 1 else 0), endHoldings r 5, clearMembers r,
      Act.when (st != 3) (Act.each (s.ringPorts r) fun p => powerPort p false)])

/-- Closing ends (R372). -/
def ringCloses (r : Nat) : Act :=
  .dep fun s => Act.when (s.get (Key.ringState r) == 5 && (!s.flag (Rg.closingEntry r) || s.stepsDone r)) (Act.all [
    Act.when (s.flag (Rg.closingEntry r)) (.seq (Act.bump (Key.busSleeps r)) (Act.each (s.ringPorts r) fun p => powerPort p false)),
    .put (Rg.closingEntry r) 0, clearMembers r,
    if s.flag (Key.ringPendingEnable r) then awakenRing r else ringStateTo r 0,
    .put (Key.ringPendingEnable r) 0])

/-- LocalConsent takes a value (R365, R366). -/
def consentTo (r v : Nat) : Act :=
  Act.all [.dep fun s => Act.each (holderIds.filter fun h => s.flag (Rg.isHolding h.1 r h.2)) fun h => accrue r h.1 h.2,
    .put (Key.localConsent r) v, Act.when (v == 0) (wakeRequest r), holdReview r, evaluateRing r]

/-- Whether a ring message is valid (R362). -/
def State.validMessage (s : State) (r p sender : Nat) (bs : List Byte) : Bool :=
  let m := beAt bs 0 1 % 64
  s.inRing r p && (s.isEthernet p || sender == m) && beAt bs 2 1 % 32 == r && m != s.ring r F.ringLocalId
    && s.member r m F.memberValid == 1 && (s.member r m F.memberAnyPort == 1 || s.member r m F.memberPort == p)

/-- A ring message arrives (R362, R365); a port that a test isolates receives nothing (R419). -/
def ringArrives (r p sender : Nat) (bs : List Byte) : Act :=
  .dep fun s =>
    if !s.isUp p || s.flag (Rg.isolated p) then .skip
    else if !s.validMessage r p sender bs then Act.bump (Key.badRingMessages r)
    else
      let m := beAt bs 0 1 % 64
      let row := 64 * r + m
      let flags := beAt bs 1 1
      Act.all [Act.setF .live 0xF0A1 row F.memberReady (flags / 128), Act.setF .live 0xF0A1 row F.memberSilent 0,
        Act.setF .live 0xF0A1 row F.memberSeq (beAt bs 3 1), Act.setF .live 0xF0A1 row F.memberLast s.vns,
        .put (Rg.memberSeen row) s.now,
        Act.when (flags / 128 == 0 || flags.testBit 6) (wakeRequest r), holdReview r, evaluateRing r]

/-- A RingPeriod tick (R361, R365). -/
def ringTick (r : Nat) : Act :=
  .dep fun s => Act.when (s.get (Key.ringState r) == 1 || s.get (Key.ringState r) == 2)
    (Act.all [ringSend r, holdReview r, evaluateRing r])

/-- A member falls silent (R365). -/
def fallsSilent (r m : Nat) : Act :=
  .dep fun s => Act.when (decide (1 ≤ s.get (Key.ringState r)) && decide (s.get (Key.ringState r) ≤ 4) && s.member r m F.memberValid == 1
      && decide (s.get (Rg.memberSeen (64 * r + m)) + s.ring r F.ringSilence * ms (s.ring r F.ringPeriod) < s.now))
    (.seq (Act.setF .live 0xF0A1 (64 * r + m) F.memberSilent 1) (holdReview r))

/-- RingCountersClear (R383). -/
def clearRing (r : Nat) : Act :=
  Act.all [Act.zero [Key.abortedCommits r, Key.falseWakes r, Key.busSleepsForced r, Key.badRingMessages r, Key.busSleeps r],
    .dep fun s => Act.each (List.range 64) fun m => Act.all [
      Act.when (s.flag (Rg.isHolding 1 r m)) (accrue r 1 m), .put (Rg.holdAll r m) 0,
      Act.setF .live 0xF0A1 (64 * r + m) F.memberHeld 0]]

/-! ### TC10 -/

/-- A wake-up pulse on a sleeping T1 port, or a wake-up request (R366, R376). An isolated MDI neither hears nor answers (R419). -/
def tc10Wake (p : Nat) (pulse : Bool) : Act :=
  .dep fun s =>
    match s.ringOf p with
    | some r => Act.when (s.kind p == 2 && !s.flag (Rg.isolated p)
        && (if pulse then s.get Key.deviceState == 0 && s.flag (Rg.lowPower p) else s.operates)) (wakeRequest r)
    | none => .skip

/-- A link partner's sleep request (R376). -/
def tc10Sleep (p : Nat) : Act :=
  .dep fun s => Act.when (s.kind p == 2 && !s.flag (Rg.isolated p))
    (match s.ringOf p with
    | some r => .emit (.signal p (if s.get (Key.ringState r) = 3 then sigSleepAck else sigSleepRefused) 0)
    | none => .emit (.signal p sigSleepRefused 0))

/-! ### Wake inputs -/

/-- The rings that an input names. -/
def State.inputRings (s : State) (i : Nat) : List Nat := members 32 (s.wakeIn i F.wakeRings)

/-- The wakes of an input in the preceding 60 s (R374). -/
def State.recentWakes (s : State) (i : Nat) : Nat :=
  ((List.range 16).filter fun n => s.flag (Rg.inputWake i n) && decide (s.now ≤ s.get (Rg.inputWake i n) - 1 + ms 60000)).length

/-- The slot of the history that a new wake takes. -/
def State.wakeSlot (s : State) (i : Nat) : Nat :=
  ((List.range 16).find? fun n => !(s.flag (Rg.inputWake i n) && decide (s.now ≤ s.get (Rg.inputWake i n) - 1 + ms 60000))).getD 0

/-- The rings of an input take up its change (R365, R371). -/
def inputReview (i : Nat) : Act := .dep fun s => Act.each (s.inputRings i) fun r => .seq (holdReview r) (evaluateRing r)

/-- An input is masked (R374). -/
def maskInput (i cause : Nat) : Act :=
  Act.all [Act.setF .live 0xF0A3 i F.wakeMasked 1, Act.setF .live 0xF0A3 i F.wakeCause cause,
    Act.bumpF .live 0xF0A3 i F.wakeMaskEvents, Act.vectorOf Key.sleepEventVector, inputReview i]

/-- Whether a frame other than a ring message has arrived on a ring's port since a true time plus 1 (R374), decided or not. -/
def State.arrivedSince (s : State) (r on : Nat) : Bool :=
  s.heardSince r on || (s.ringPorts r).any fun p => decide (on ≤ s.get (Rg.arrivalAt p))

/-- A stuck input (R374): Active for 10 s, and no frame other than a ring message on the ports of its rings. -/
def inputStuck (i : Nat) : Act :=
  .dep fun s =>
    let on := s.get (Rg.inputOn i)
    Act.when (s.wakeIn i F.wakeEnable == 1 && s.wakeIn i F.wakeActive == 1 && s.wakeIn i F.wakeMasked == 0
        && decide (on - 1 + ms 10000 ≤ s.now)
        && !((s.inputRings i).any fun r => s.arrivedSince r on)) (maskInput i 2)

/-- A masked input that has been inactive for 100 ms (R374). -/
def inputUnmask (i : Nat) : Act :=
  .dep fun s => Act.when (s.wakeIn i F.wakeMasked == 1 && s.wakeIn i F.wakeActive == 0
      && decide (s.get (Rg.inputOff i) - 1 + ms 100 ≤ s.now))
    (Act.all [Act.setF .live 0xF0A3 i F.wakeMasked 0, Act.setF .live 0xF0A3 i F.wakeCause 0, inputReview i])

/-- A deactivation (R373). -/
def inputOffNow (i : Nat) : Act :=
  .dep fun s => Act.when (s.wakeIn i F.wakeEnable == 1 && s.wakeIn i F.wakeActive == 1)
    (Act.all [Act.setF .live 0xF0A3 i F.wakeActive 0, .put (Rg.inputOff i) (s.now + 1), inputReview i])

end Sys2Proof.Machine
end

