-- ==== Sys2Proof/Machine/Schedule.lean ====
section
/-! DEFINITION. Events of the egress schedule: gates, eligibility, preemption and its verification, expiry, overdue heads,
depth samples and the exception buckets (R155, R214, R216, R218, R222, R223, R259, R261, R278). -/

namespace Sys2Proof.Machine

/-- A head's eligibility time arrives (R218). -/
def eligibilityArrives (p : Nat) : Act := selectPort p

/-- A gate control list entry or cycle starts (R214). At ConfigChangeTime the new list starts, and the old entry does not begin
(R229). -/
def entryStarts (p : Nat) : Act :=
  .dep fun s =>
    match s.changeAt p with
    | some c =>
      if c ≤ s.vtime then .seq (gateChangeOver p c) (selectPort p)
      else Act.when (s.flag (Rg.gateOn p)) (.seq (gateRefresh p) (selectPort p))
    | none => Act.when (s.flag (Rg.gateOn p)) (.seq (gateRefresh p) (selectPort p))

/-- ConfigChangeTime (R216). -/
def configChanges (p : Nat) : Act :=
  .dep fun s =>
    match s.changeAt p with
    | none => .skip
    | some c => Act.when (decide (c ≤ s.vtime)) (.seq (gateChangeOver p c) (selectPort p))

/-- A preemptable frame stops at the preemption point that is due (R223), unless preemption has ended since (R222) or the
port is held for a test, which selects no other frame (R419); the express frame starts after the gap. -/
def preemptionComes (p : Nat) : Act :=
  .dep fun s =>
    if !s.flag (Rg.preemptAt p) || decide (s.now + 1 < s.get (Rg.preemptAt p)) then .skip
    else match (if s.preempting p && !s.flag (Rg.testedBy p) then s.sending p else none) with
      | none => .put (Rg.preemptAt p) 0
      | some c => Act.all [overrunEnds c, gapBegins p,
          .put (Rg.fragmentSent p) (s.get (Rg.fragmentNext p)), .put (Rg.preemptAt p) 0, .put (Rg.fragmentFrom p) 0,
          Act.bump (Key.fragmentsSent p), setCopy c.seq fun d => { d with phase := .paused }, selectPort p]

/-- A verify attempt (R222): up to 3, at intervals of VerifyTime; the one that is due after the third failed finds
verification failed. An isolated port makes none (R419). -/
def verifyAttempts (p : Nat) : Act :=
  .dep fun s =>
    let st := s.get (Key.verifyStatus p)
    if !s.isUp p || !s.preemptable p || s.timing p F.ptimPreempt = 0 || s.inForce (Key.verifyDisable p) = 1
        || !(st == 1 || st == 2) || s.flag (Rg.isolated p) then .skip
    else if s.get (Rg.verifyTries p) < 3 then
      Act.all [.put (Key.verifyStatus p) 2, .put (Rg.verifyTries p) (s.get (Rg.verifyTries p) + 1),
        .emit (.signal p sigVerify 0)]
    else .put (Key.verifyStatus p) 4

/-- A verify or respond mPacket arrives (R222). -/
def mpacketArrives (p : Nat) (respond : Bool) : Act :=
  .dep fun s =>
    if !s.isUp p || !s.preemptable p || s.flag (Rg.isolated p) then .skip
    else if respond then Act.when (s.get (Key.verifyStatus p) == 2) (Act.all [.put (Key.verifyStatus p) 3, gateArms p, selectPort p])
    else .emit (.signal p sigRespond 0)

/-- Copies with no attempt running whose expiry instant has come are removed (R278). -/
def lifetimesExpire (p : Nat) : Act :=
  reselect <| .dep fun s => Act.each (s.copies.filter fun c => c.port == p && (c.phase == .waiting || s.notStarted c) && s.expired c)
    expireCopy

/-- The heads of a port whose bound has passed (R261): reported once, and still sent. -/
def overdueHeads (p : Nat) : Act :=
  .dep fun s => Act.each ((List.range 8).filterMap fun tc => s.head? p tc) fun c =>
    match c.stream, c.bound, s.frame? c.frame with
    | some str, some b, some f =>
      let stepped := f.stepAt.isSome
      let moving := s.get (Key.gateOperState p) == 2 || s.get (Key.gateOperState p) == 3
        || decide (s.vtime < s.get (Rg.gateFirst p))
      Act.when (!c.reported && !stepped && !moving && decide (f.stamp + ns b < s.vtime))
        (.seq (setCopy c.seq fun d => { d with reported := true })
          (deliveryFault str p 2 ((s.vtime - f.stamp) / 65536) b))
    | _, _, _ => .skip

/-- The depth of every queue is sampled (R259). -/
def sampleDepths : Act :=
  .dep fun s => Act.each ((s.copies.map fun c => (c.port, c.tc)).dedup) fun q =>
    let n := s.depthCells q.1 q.2
    Act.when (decide (s.get (Key.queueDepthPeak q.1 q.2) < n)) (.put (Key.queueDepthPeak q.1 q.2) n)

/-- A bucket's refill: `full` is what a register at 0 stands for. -/
def refill (reg tokens rate cap full : Nat) : Act :=
  .dep fun s =>
    let v := min (tokens + rate) cap
    Act.when (s.flag reg || v != full) (.put reg (v + 1))

/-- The exception buckets are refilled (R155). -/
def refillExceptions : Act :=
  .dep fun s => .seq
    (Act.each (List.range 32) fun r =>
      refill (Rg.reasonTok r) (reasonTokens s r) (s.fld .live 0xF048 r F.exrRate) (1000 * s.fld .live 0xF048 r F.exrBurst) 64000)
    (refill Rg.aggregateTok (aggregateTokens s) (s.get Key.exceptionAggregateRate) (1000 * s.get Key.exceptionAggregateBurst)
      512000)

end Sys2Proof.Machine
end

