-- ==== Sys2Proof/Machine/Tables.lean ====
section
/-! DEFINITION. The firewall's and the bridge's own upkeep (R148, R150, R153, R180, R198): freeing, expiry and ageing. -/

namespace Sys2Proof.Machine

/-- The freeing of every session begins (R150, R162). -/
def startFreeing : Act := .put Rg.freeing 1

/-- A write of FirewallEnable (R150): while the sessions are being freed, a write of 1 is held. -/
def enableFirewall (v : Nat) : Act :=
  .dep fun s =>
    if s.flag Rg.freeing then
      if v = 0 then .seq (.put Key.firewallEnable 0) (.put Key.firewallPendingEnable 0)
      else Act.when (!s.flag Key.firewallEnable) (.put Key.firewallPendingEnable 1)
    else .seq (.put Key.firewallEnable v) (Act.when (v == 0) startFreeing)

/-- The freeing of the sessions ends (R150): the table is empty, and a held enable resumes the firewall. -/
def freeingEnds : Act :=
  .dep fun s => Act.when (s.flag Rg.freeing)
    (Act.all [Act.clearTable .live 0xF046, .put Rg.freeing 0, Act.when (s.get Key.sessionFlush == 3) (.put Key.sessionFlush 0),
      Act.when (s.flag Key.firewallPendingEnable) (.put Key.firewallEnable 1), .put Key.firewallPendingEnable 0])

/-- The idle timeout of a session's state (R148), in 2^-16 ns. -/
def State.sessionTimeout (s : State) (st : Nat) : Nat :=
  ms (s.get (match st with
    | 1 => Key.openingTimeout
    | 2 => Key.establishedTimeout
    | 3 => Key.closingTimeout
    | _ => Key.activeTimeout))

/-- The sweep frees a session whose idle time has reached its timeout (R148). -/
def sessionExpires (r : Nat) : Act :=
  .dep fun s =>
    let st := s.fld .live 0xF046 r F.sessState
    Act.when (st != 0 && decide (s.get (Rg.sessionAt r) + s.sessionTimeout st ≤ s.now)) (Act.clearTable .live 0xF046 fun x => x == r)

/-- A fragment entry ends (R153). -/
def fragmentExpires (r : Nat) : Act :=
  .dep fun s => Act.when (s.fldOn .live 0xF047 r F.fragValid && decide (s.get (Rg.fragmentEnd r) ≤ s.now))
    (Act.clearTable .live 0xF047 fun x => x == r)

/-- The dynamic entries of the forwarding database. -/
def State.dynamicRows (s : State) : List Nat :=
  s.rowsWhere .live 0xF052 fun r => s.fldOn .live 0xF052 r F.fdbValid && !s.fldOn .live 0xF052 r F.fdbStatic

/-- The ageing sweep (R180). -/
def age : Act :=
  .dep fun s =>
    let old := s.dynamicRows.filter fun r => !s.fldOn .live 0xF052 r F.fdbHit
    .seq (Act.clearTable .live 0xF052 fun r => old.contains r)
      (.dep fun t => Act.each (t.rowsWhere .live 0xF052 fun r => t.fldOn .live 0xF052 r F.fdbValid) fun r =>
        Act.setF .live 0xF052 r F.fdbHit 0)

/-- The dynamic flush begins (R198). -/
def startFdbFlush : Act := .put Rg.fdbFlushing 1

/-- The dynamic flush ends, and no dynamic entry remains (R198). -/
def fdbFlushEnds : Act :=
  .dep fun s => Act.when (s.flag Rg.fdbFlushing)
    (let rows := s.dynamicRows
     Act.all [Act.clearTable .live 0xF052 fun r => rows.contains r, .put Rg.fdbFlushing 0, .put Key.fdbFlushDynamic 0])

/-- A stream is unblocked (R242). -/
def unblock (x : Nat) : Act := Act.setF .live 0xF077 x F.stBlocked 0

/-- A recovery function's reset timeout expires (R247; IEEE 802.1CB 7.4.3.3): its history is reset. -/
def recoveryResets (r : Nat) : Act :=
  .dep fun s =>
    let g : Gen := .fair
    Act.when (s.fldOn g 0xF074 r F.recValid && s.flag (Rg.recoveryOn r)
        && decide (s.get (Rg.recoveryAt r) + ms (s.fld g 0xF074 r F.recTimeout) ≤ s.now))
      (Act.all [.put (Rg.recoveryOn r) 0, .put (Rg.recoveryHistory r) 0, Act.bumpF .live 0xF078 r F.rstResets])

/-! ### The gateway channel -/

/-- The channel of a port shuts down (R282): its routed copies are released, and its inbound buffers are emptied. -/
def shutChannel (p : Nat) : Act :=
  reselect <| .dep fun s =>
    let routed := (s.flushOrder p).filter fun c => c.pair.isSome
    Act.all [.put (Key.gatewayChannelState p) 1, .put (Key.gatewayPendingEnable p) 0, .put (Rg.shutFrom p) s.now,
      Act.each routed fun c => .seq (loseCopy c 6) (endCopy c),
      .dep fun t => .setFrames (t.frames.map fun f => if f.source = p then { f with inbound := false } else f)]

/-- A write of GatewayChannelEnable (R282). -/
def enableChannel (p v : Nat) : Act :=
  .dep fun s => .seq (.put (Key.gatewayChannelEnable p) v)
    (match s.get (Key.gatewayChannelState p) with
    | 0 => Act.when (v == 1) (.put (Key.gatewayChannelState p) 2)
    | 1 => .put (Key.gatewayPendingEnable p) v
    | _ => Act.when (v == 0) (shutChannel p))

/-- The shut-down of a channel ends (R282). -/
def shutDownEnds (p : Nat) : Act :=
  .dep fun s => Act.when (s.get (Key.gatewayChannelState p) == 1) (Act.all [
    .put (Key.shutDownDuration p) ((s.now - s.get (Rg.shutFrom p)) / 65536),
    .put (Key.gatewayChannelState p) (if s.flag (Key.gatewayPendingEnable p) then 2 else 0),
    .put (Key.gatewayPendingEnable p) 0])

end Sys2Proof.Machine
end

