-- ==== Sys2Proof/Machine/Values.lean ====
section
/-! DEFINITION. Reading the object dictionary: which objects there are, what they read as, and the slot images of R34. -/

namespace Sys2Proof.Machine

/-- Whether a template's objects depend on the attachment kind (groups 8 and 9, R123). -/
def byKindGroup (t : Nat) : Bool := t == 0x2008 || t == 0x2009

/-- The object at an index and subindex; none where there is none (R30). -/
def State.objAt (s : State) (idx sub : Nat) : Option Obj :=
  let t := template idx
  (objectsAt t.1).find? fun o => decide (o.lo ≤ sub) && decide (sub ≤ o.hi) && (!byKindGroup t.1 || o.kind == s.kind t.2)

/-- The key of an object. -/
def State.keyAt (s : State) (idx sub : Nat) : Nat :=
  let t := template idx
  if byKindGroup t.1 then idx * 256 + 16 * s.kind t.2 + sub else idx * 256 + sub

/-- The highest subindex of an index; none where it holds no scalar object (R31). -/
def State.highestSub (s : State) (idx : Nat) : Option Nat :=
  let t := template idx
  match (objectsAt t.1).filter fun o => !byKindGroup t.1 || o.kind == s.kind t.2 with
  | [] => none
  | l => some ((l.map fun o => o.hi).foldl max 0)

/-- Whether an object of groups 2 or 10 belongs to the port's attachment (R121, R290). -/
def State.belongs (s : State) (idx : Nat) (o : Obj) : Bool :=
  let t := template idx
  if t.1 = 0x2002 then
    if o.kind = 0 then s.isEthernet t.2 || (s.kind t.2 == 7 && t.2 != 246 && t.2 != 247) else o.kind == s.kind t.2
  else if t.1 = 0x200A then s.isBus t.2
  else true

/-! ### The values that are computed at the read -/

/-- The number of a path in R38: the OD service is one path. -/
def pathNumber : Path → Nat
  | .safety => 0
  | .application => 1
  | .pcie => 2
  | .spi => 3
  | .remote _ => 4

/-- VehicleTimeNowFrac on a path (R201). -/
def State.fraction (s : State) (path : Path) : Nat :=
  match s.get (Rg.fracLatch (pathNumber path)) with
  | 0 => s.vtime % 65536
  | f + 1 => f

/-- The valid rows of a table by a flag or state field. -/
def State.rowsInUse (s : State) (idx : Nat) (f : Fld) : Nat := (s.rowsWhere .live idx fun r => s.fldOn .live idx r f).length

/-- The row stride of the table that an aperture is bound to; 0 for none (R55, R57). -/
def State.apertureStride (s : State) (a : Nat) : Nat :=
  match tableOf (s.get (Key.apertureBinding a) % 65536) with
  | some t => t.stride
  | none => 0

/-- The levels at the GPIO pins (R469): outputs as they are driven, inputs at an open level (log entry 4). -/
def State.gpioLevels (s : State) : Nat :=
  let pulse := s.get Key.ppsOutput
  let out := s.get Key.gpioOutput
  let high := if s.flag Rg.ppsFrom then s.get Rg.ppsPins else 0
  let driven := (out &&& (2 ^ 32 - 1 - pulse)) ||| (high &&& pulse)
  let dir := s.get Key.gpioDirection
  (dir &&& driven) ||| ((2 ^ 32 - 1 - dir) &&& Config.freeValue s.free)

/-- What an object reads as (R34): a stored value, or one of those that a rule computes from the state. -/
def State.objectValue (s : State) (path : Path) (idx sub : Nat) : Nat :=
  let t := template idx
  let p := t.2
  match t.1 with
  | 0x1D00 => if sub = 3 then (s.rowsWhere .live 0xF003 fun r => s.fld .live 0xF003 r F.rsessState == 2).length else s.get (s.keyAt idx sub)
  | 0x1F01 => s.apertureStride (sub - 1)
  | 0x2000 => if sub = 1 then s.kind p else s.get (s.keyAt idx sub)
  | 0x2001 => if sub = 2 then (if s.portState p = 4 && s.flag (Key.portEnable p) then 1 else 0) else s.get (s.keyAt idx sub)
  | 0x2003 =>
    if 9 ≤ sub && sub ≤ 16 then s.depthCells p (sub - 9)
    else if 17 ≤ sub && sub ≤ 24 then s.depthFrames p (sub - 17) else s.get (s.keyAt idx sub)
  | 0x2005 =>
    if sub = 1 then (if s.preempting p then 1 else 0) else if sub = 5 then s.holdAdvance p else s.get (s.keyAt idx sub)
  | 0x2009 => if sub = 1 then min (s.get (s.keyAt idx sub) + s.linMissed p) (regMod (s.keyAt idx sub) - 1) else s.get (s.keyAt idx sub)
  | 0x200A =>
    if 12 ≤ sub && sub ≤ 15 then s.inboundUse p (sub - 12)
    else if 16 ≤ sub && sub ≤ 19 then s.outboundUse p (sub - 16) else s.get (s.keyAt idx sub)
  | 0x3000 =>
    match sub with
    | 1 => s.cellsFree
    | 2 => 65536 - s.descriptors
    | 3 => 131072 - s.copies.length
    | 7 => s.dynamicRows.length
    | _ => s.get (s.keyAt idx sub)
  | 0x3010 => s.poolUse (sub - 1)
  | 0x4000 => if sub = 5 then s.rowsInUse 0xF047 F.fragValid else s.get (s.keyAt idx sub)
  | 0x4100 => if sub = 6 then s.rowsInUse 0xF046 F.sessState else s.get (s.keyAt idx sub)
  | 0x5000 => if sub = 1 then s.vns else if sub = 2 then s.fraction path else s.get (s.keyAt idx sub)
  | 0x5010 => if sub = 9 then s.instanceState p else s.get (s.keyAt idx sub)
  | 0x8000 => if sub = 1 then s.jobsInFlight else if sub = 2 then s.jobsRunning else s.get (s.keyAt idx sub)
  | 0x8020 =>
    if sub = 2 then s.freshCount F.freshWarned else if sub = 3 then s.freshCount F.freshExhausted else s.get (s.keyAt idx sub)
  | 0x8100 => if sub = 5 then s.pageJobs p else s.get (s.keyAt idx sub)
  | 0x9000 => if sub = 15 then s.imageSize else s.get (s.keyAt idx sub)
  | 0x9100 => if sub = 5 then (if s.flag (Key.ringState p) then s.holderCount p else 0) else s.get (s.keyAt idx sub)
  | 0xA000 => if sub = 22 then s.latentAge else s.get (s.keyAt idx sub)
  | 0xB000 => if sub = 10 then s.busyTests.length else s.get (s.keyAt idx sub)
  | 0xC200 => if sub = 5 then s.gpioLevels else s.get (s.keyAt idx sub)
  | _ => s.get (s.keyAt idx sub)

/-! ### Slots -/

/-- The number in a slot image, little-endian, that a value of a type gives (R34): MAC48 puts its first-transmitted octet, the
most significant of the stored number, at offset 0. -/
def slotOf (ty : Ty) (v : Nat) : Nat := if ty = .mac then leNat (beBytes 6 v) else v % 2 ^ ty.bits

/-- The value in a slot image; octets and bits that the type does not use are ignored (R34). -/
def ofSlot (ty : Ty) (slot : Nat) : Nat := if ty = .mac then beNat (leBytes 6 slot) else slot % 2 ^ ty.bits

/-! ### Tables -/

/-- The rows in use of a table (R32): its subindex 0x02. -/
def State.tableUse (s : State) (t : Tab) : Nat :=
  match t.idx with
  | 0xF001 => s.get Key.postedErrorCount
  | 0xF07A => s.get Key.deliveryFaultLogCount
  | 0xF082 => s.get Key.gatewayFailureCount
  | 0xF0A2 => s.get Key.keepAwakeLogCount
  | 0xF0B0 => s.get Key.faultLogCount
  | 0xF003 => s.rowsInUse 0xF003 F.rsessState
  | 0xF046 => s.rowsInUse 0xF046 F.sessState
  | 0xF047 => s.rowsInUse 0xF047 F.fragValid
  | 0xF052 => s.rowsInUse 0xF052 F.fdbValid
  | _ => t.rows

/-- The octets of a row as they are stored, or as a rule computes them: the target's flash, where the row has been written (R440), the
role in use and AsCapable (R234), and the recent wakes (R375). Key material and Op read 0 (R330). -/
def State.rowImageNow (s : State) (g : Gen) (t : Tab) (row : Nat) : List Byte :=
  let bs := s.rowOctets g t.idx row 0 t.stride
  let patch := fun (f : Fld) (v : Nat) => leBytes t.stride (setBits (leNat bs) f.bit f.width v)
  match t.idx with
  | 0xF066 =>
    let now' := setBits (leNat bs) F.gptpInUse.bit F.gptpInUse.width (s.gptpRole (row / 256) (row % 256))
    leBytes t.stride (setBits now' F.gptpAsCapable.bit F.gptpAsCapable.width (if s.asCapable (row / 256) (row % 256) then 1 else 0))
  | 0xF098 =>
    let kind := s.fld .live 0xF098 row F.keyKind
    let hidden := !(kind == 5 || kind == 6 || (kind == 15 && (s.slotKind (s.keyBase row) == 5 || s.slotKind (s.keyBase row) == 6)))
    leBytes t.stride (setBits (if hidden then setBits (leNat bs) F.keyMaterial.bit F.keyMaterial.width 0 else leNat bs)
      F.keyOp.bit F.keyOp.width 0)
  | 0xF0A3 => patch F.wakeRecent (min (s.recentWakes row) 31)
  | 0xF0C0 =>
    if !s.flag (Rg.updateWritten row) then List.replicate 256 0xFF#8
    else s.octets .flash (slotBase (s.get Rg.updateKind) (s.get Rg.updateSlot) + 256 * row) 256
  | _ => bs

end Sys2Proof.Machine
end

