-- ==== Sys2Proof/Machine/Clamp.lean ====
section
/-! DEFINITION. Legal values and clamping (R35, R36, R97, R123, R257, R285). -/

namespace Sys2Proof.Machine

/-- How far two values lie apart. -/
def distance (a b : Nat) : Nat := (a - b) + (b - a)

/-- The value of a list that is numerically nearest, the lower on a tie; `v` itself where the list is empty. -/
def nearestOf (l : List Nat) (v : Nat) : Nat :=
  match l with
  | [] => v
  | x :: xs => xs.foldl (fun a b =>
      if distance b v < distance a v || (distance b v == distance a v && decide (b < a)) then b else a) x

/-- The value of an interval that is nearest. -/
def intoInterval (lo hi v : Nat) : Nat := if v < lo then lo else if hi < v then hi else v

/-- The value that a clamp rule stores for `v`, of `w` bits, with a default (R35). -/
def clampTo (l : Legal) (w dflt v : Nat) : Nat :=
  match l with
  | .any => v
  | .segs l => nearestOf (l.map fun x => intoInterval x.1 x.2 v) v
  | .signed lo hi => ofSigned w (max lo (min hi (toSigned w v)))
  | .toDefault l => if l.any fun x => decide (x.1 ≤ v) && decide (v ≤ x.2) then v else dflt
  | .keep hi k => if v = k || v ≤ hi then v else hi

/-! ### CAN rates and sample points (R97) -/

/-- The whole numbers by which 160 MHz divides: 2^11 × 5^7. -/
def busDivisors : List Nat := (List.range 12).flatMap fun a => (List.range 8).map fun b => 2 ^ a * 5 ^ b

/-- The legal bit rates from `lo` to `hi`. -/
def legalRates (lo hi : Nat) : List Nat :=
  (busDivisors.map fun n => 160000000 / n).filter fun r => decide (lo ≤ r) && decide (r ≤ hi)

def nominalRates : List Nat := legalRates 10000 1000000

/-- The legal data rates under a CanMode. -/
def dataRates (mode : Nat) : List Nat := legalRates 1000000 (if mode = 2 then 8000000 else 20000000)

/-- The legal sample points of a rate. -/
def samplePoints (rate : Nat) : List Nat :=
  let n := 160000000 / rate
  ((List.range (n + 1)).map fun k => 1000 * k / n).filter fun p => decide (500 ≤ p) && decide (p ≤ 900)

/-! ### Objects whose range other state gives -/

/-- The greatest identifier of a CanIdFormat code. -/
def idMax (format : Nat) : Nat := if format = 0 then 0x7FF else 0x1FFFFFFF

/-- The value that a write of `v` stores in an object (R36). -/
def State.legalValue (s : State) (idx sub : Nat) (o : Obj) (v : Nat) : Nat :=
  let t := template idx
  let p := t.2
  let x := clampTo o.legal o.ty.bits (regDefault (s.keyAt idx sub)) v
  match t.1 with
  | 0x1D00 =>
    if sub = 6 then setBits x 40 1 0 else if sub = 10 || sub = 11 then min x (idMax (s.get Key.canIdFormat)) else x
  | 0x1F00 =>
    let table := if x % 65536 < 0xF000 then 0 else x % 65536
    x / 2 ^ 40 * 2 ^ 40 + x / 65536 % 2 * 65536 + table
  | 0x2003 => if 1 ≤ sub && sub ≤ 8 then max x (s.get (Key.admittedCells p (sub - 1))) else x
  | 0x2008 =>
    if s.kind p = 4 then
      match sub with
      | 2 => nearestOf nominalRates x
      | 3 => nearestOf (samplePoints (s.get (Key.nominalBitRate p))) x
      | 4 => nearestOf (dataRates (s.get (Key.canMode p))) x
      | 5 => nearestOf (samplePoints (s.get (Key.dataBitRate p))) x
      | _ => x
    else x
  | 0x200A =>
    if 4 ≤ sub && sub ≤ 7 then max x (s.get (Rg.limitMin p (sub - 4)))
    else if 8 ≤ sub && sub ≤ 11 then max x (s.get (Rg.limitMin p (4 + (sub - 8)))) else x
  | _ => x

/-- Whether storing `x` for a written `v` is a clamp: reserved bits of an ApertureBinding do not count (R36, R57). -/
def isClamp (idx v x : Nat) : Bool :=
  if template idx = (0x1F00, 0) then v % 65536 != x % 65536 else v != x

/-- The clamp counter of an object rises (R37). -/
def countClamp (idx sub : Nat) : Act := Act.bumpF .live 0xF000 (idx * 256 + sub) F.clampCount

/-- A stored value that R97 moves, counted as a clamp of its own object. -/
def moveStored (idx sub k x : Nat) : Act :=
  .dep fun s => Act.when (s.get k != x) (.seq (.put k x) (countClamp idx sub))

/-- What a changed bit rate does to the sample point of its phase (R97). -/
def refitPoint (p sub : Nat) : Act :=
  .dep fun s =>
    let rate := s.get ((0x2008 + 16 * p) * 256 + 64 + sub - 1)
    let k := (0x2008 + 16 * p) * 256 + 64 + sub
    moveStored (0x2008 + 16 * p) sub k (nearestOf (samplePoints rate) (s.get k))

/-- A write of a CAN option (R97): the value is stored, a narrowed range moves DataBitRate, and a changed rate its point. -/
def storeCan (p sub x : Nat) : Act :=
  let idx := 0x2008 + 16 * p
  .seq (.put (idx * 256 + 64 + sub) x)
    (match sub with
    | 1 => .dep fun s => moveStored idx 4 (Key.dataBitRate p) (nearestOf (dataRates x) (s.get (Key.dataBitRate p)))
    | _ => .skip)

/-- Stores a CAN option and refits the points of the phases whose rate it changed. -/
def writeCan (p sub x : Nat) : Act :=
  .dep fun s => .seq (storeCan p sub x) (.dep fun t => Act.all [
    Act.when (t.get (Key.nominalBitRate p) != s.get (Key.nominalBitRate p)) (refitPoint p 3),
    Act.when (t.get (Key.dataBitRate p) != s.get (Key.dataBitRate p)) (refitPoint p 5)])

end Sys2Proof.Machine
end

