-- ==== Sys2Proof/Machine/Clears.lean ====
section
/-! DEFINITION. The commands that set counters to 0 (R124, R162, R197, R198, R230 to R232, R263 to R265, R290, R291, R323). -/

namespace Sys2Proof.Machine

/-- The objects of an index from subindex `lo` to `hi` are set to 0. -/
def zeroSpan (idx lo hi : Nat) : Act := Act.each (List.range (hi + 1 - lo)) fun i => .put (idx * 256 + lo + i) 0

/-- Fields of every row of a table are set to 0. -/
def zeroFields (idx : Nat) (fs : List Fld) : Act :=
  .dep fun s => Act.each (s.listedRows .live idx) fun r => Act.each fs fun f => Act.setF .live idx r f 0

/-- CountersClear of group 6 (R124). -/
def clearPort (p : Nat) : Act := zeroSpan (0x2006 + 16 * p) 1 13

/-- CountersClear of 0x4000 (R162). -/
def clearClassifier : Act :=
  Act.all [zeroSpan 0x4000 6 6, zeroSpan 0x4000 9 17, Act.clearTable .live 0xF049, Act.clearTable .live 0xF04A]

/-- QueueCountersClear (R197). -/
def clearQueues (p : Nat) : Act := .seq (zeroSpan (0x2003 + 16 * p) 25 40) (zeroSpan (0x2003 + 16 * p) 42 43)

/-- CountersClear of 0x3000 (R198). -/
def clearForwarding : Act := zeroSpan 0x3000 8 17

/-- GateCountersClear (R230) and ShapingCountersClear (R231). -/
def clearGate (p : Nat) : Act := zeroSpan (0x2004 + 16 * p) 6 8
def clearShaping (p : Nat) : Act := zeroSpan (0x2005 + 16 * p) 6 9

/-- StreamCountersClear (R263): the counter fields of StreamState and RecoveryState, and the exemptions. -/
def clearStreams : Act :=
  Act.all [
    zeroFields 0xF077 [F.stMatched, F.stPassed, F.stFiltered, F.stYellow, F.stRed, F.stFaults, F.stMaxSojourn],
    Act.clearTable .live 0xF078, .put Key.stepExemptions 0, .put Key.transitionExemptions 0]

/-- SamplingClear (R264): sampling restarts. -/
def clearSampling (p : Nat) : Act :=
  Act.all [zeroSpan (0x2007 + 16 * p) 1 16, .put (Key.unadmittedRemovals p) 0, Act.clearTable .live 0xF07B fun r => r / 8 == p,
    Act.each (List.range 8) fun tc => .put (Rg.sampled p tc) 0]

/-- GatewayPortCountersClear (R290) and GatewayCountersClear (R291). -/
def clearGatewayPort (p : Nat) : Act := zeroSpan (0x200A + 16 * p) 20 22
def clearGateway : Act :=
  Act.all [zeroSpan 0x7000 2 3, zeroSpan 0x7000 8 9, .put Key.gatewayResidenceMax 0, Act.clearTable .live 0xF083]

/-- MacsecCountersClear (R323). -/
def clearMacsec (p : Nat) : Act := zeroSpan (0x200B + 16 * p) 1 7

/-- The logs that a command empties (R59, R262, R280, R371, R388), and ClampCountersClear (R62). -/
def clearPosted : Act := emptyLog 0xF001 Key.postedErrorCount Key.postedErrorOverflow
def clearDelivery : Act := emptyLog 0xF07A Key.deliveryFaultLogCount Key.deliveryFaultOverflow
def clearFailures : Act := emptyLog 0xF082 Key.gatewayFailureCount Key.gatewayFailureOverflow
def clearKeepAwake : Act := emptyLog 0xF0A2 Key.keepAwakeLogCount Key.keepAwakeLogOverflow
def clearFaults : Act := emptyLog 0xF0B0 Key.faultLogCount Key.faultLogOverflow
def clearClamps : Act := Act.clearTable .live 0xF000

end Sys2Proof.Machine
end

