-- ==== Sys2Proof/Machine/Scalar.lean ====
section
/-! DEFINITION. Accesses to scalar objects (R8, R9, R20 to R22, R30 to R41, R491) and what a write of each object does. -/

namespace Sys2Proof.Machine

/-- What a write does: its status, its effect, and whether its value was taken, so that a clamp of it counts. -/
structure Wrote where
  status : Nat
  effect : Act
  taken : Bool

/-- What a read does: its status, its octets, and its effect. -/
structure Got where
  status : Nat
  data : List Byte
  effect : Act

/-- A write or read that ends with a status and has no effect. -/
def Wrote.ends (status : Nat) : Wrote := ⟨status, .skip, false⟩
def Got.ends (status : Nat) : Got := ⟨status, [], .skip⟩

/-! ### Who is served -/

/-- Whether a path is the host's (R18). -/
def isHost : Path → Bool
  | .pcie => true
  | .spi => true
  | _ => false

/-- Whether the OD core serves a path: the device works, for the host safety firmware runs (R437), and over PCIe the endpoint is not in
reset (R465). -/
def State.serves (s : State) (path : Path) : Bool :=
  s.operates && !(isHost path && decide (s.get Key.startupState < 7)) && !(path == .pcie && !s.flag Rg.perstHigh)

/-- Whether a path is a remote session whose client row is ReadOnly (R79). -/
def State.readOnlyClient (s : State) : Path → Bool
  | .remote k => s.fldOn .live 0xF002 (s.session k.val F.rsessClient % 64) F.clientReadOnly
  | _ => false

/-- The owner of a port's objects (R120), and whether the owner of an object is the application partition. -/
def safetyPort (p : Nat) : Bool := 240 ≤ p && p ≤ 244
def applicationOwns (idx : Nat) (o : Obj) : Bool :=
  match o.own with
  | .application => true
  | .safety => false
  | .port => !safetyPort (template idx).2

/-- Whether an object is a command. -/
def isCommand (o : Obj) : Bool := o.acc == .cmd || o.acc == .cmdS

/-- Whether an access of 0xC100:03 to 0xC100:05 comes from another path than the owner of the open session (R439). -/
def State.foreignUpdate (s : State) (path : Path) (idx sub : Nat) : Bool :=
  idx == 0xC100 && decide (3 ≤ sub) && decide (sub ≤ 5) && s.updateOpen && !s.ownsUpdate path

/-- Whether R439 or the page binding of R304 turns a read of an object away. -/
def State.foreignRead (s : State) (path : Path) (idx sub : Nat) : Bool :=
  s.foreignUpdate path idx sub || ((template idx).1 == 0x8100 && sub == 1 && !s.ownsPage path (template idx).2)

/-- Whether R8 lets a path write an object, with the rows of R88, R121, R304, R319, R399, R439 and R79 that narrow it. -/
def State.mayWrite (s : State) (path : Path) (idx sub : Nat) (o : Obj) : Bool :=
  let t := template idx
  let byAccess := match o.acc with
    | .ro => false
    | .rw => true
    | .cmd => true
    | .rwS => path == .safety && s.get Key.safetyState != 4
    | .cmdS => path == .safety && s.get Key.safetyState != 4
  let fixed := (t.1 == 0x2000 && sub == 2 && decide (224 ≤ t.2)) || (t.1 == 0x2000 && sub == 3 && decide (232 ≤ t.2))
    || (t.1 == 0x8100 && sub == 3 && decide (62 ≤ t.2))
  byAccess && !fixed && !(t.1 == 0x8100 && sub == 1 && !s.ownsPage path t.2) && !s.foreignUpdate path idx sub
    && !s.readOnlyClient path

/-- Whether a self-test holds the port of an index (R119, R421). -/
def State.underTest (s : State) (idx : Nat) : Bool := idx / 0x1000 == 2 && s.flag (Rg.testedBy (template idx).2)

/-- Whether the function of an object is busy for a write (R21, R40, R45, R421). -/
def State.writeBusy (s : State) (idx sub : Nat) (o : Obj) : Bool :=
  s.underTest idx
    || (idx == 0x1F10 && (sub == 2 || sub == 3) && (s.get Key.commitState == 2 || s.get Key.commitState == 4))
    || (isCommand o && applicationOwns idx o && !s.flag Rg.appRunning)

/-- Whether the function of an object is busy for a read (R421). -/
def State.readBusy (s : State) (idx sub : Nat) : Bool :=
  let g := idx % 16
  (s.underTest idx && (g == 2 || decide (8 ≤ g))) || (idx == 0xB000 && sub == 5 && s.test 65 F.stbState != 0)

/-! ### Reads -/

/-- A read of a scalar slot (R31, R32, R34, R201, R304). -/
def readScalarAt (s : State) (path : Path) (idx sub : Nat) : Got :=
  let slot := fun n => (⟨0, leBytes 8 n, .skip⟩ : Got)
  if !s.serves path then .ends 3
  else match tableOf idx with
    | some t =>
      match sub with
      | 0 => slot t.rows
      | 1 => slot t.stride
      | 2 => slot (s.tableUse t)
      | _ => .ends 1
    | none =>
      if sub = 0 then (match s.highestSub idx with
        | some n => slot n
        | none => .ends 1)
      else match s.objAt idx sub with
        | none => .ends 1
        | some o =>
          if s.foreignRead path idx sub then .ends 2
          else if s.readBusy idx sub then .ends 3
          else if !s.belongs idx o then slot 0
          else ⟨0, leBytes 8 (slotOf o.ty (s.objectValue path idx sub)),
            .seq (Act.when (s.keyAt idx sub == Key.vehicleTimeNow) (.put (Rg.fracLatch (pathNumber path)) (s.vtime % 65536 + 1)))
              (Act.when (s.keyAt idx sub == Key.gpioInput) .drawn)⟩

/-! ### Commands -/

/-- What the write of a command does: its status, whether it is an execution, and the effect. -/
structure Ran where
  status : Nat
  executes : Bool
  effect : Act

/-- A command that ends at once, one that still runs, one answered without being started, and the form that a rule gives it. -/
def Ran.done (a : Act) : Ran := ⟨0, true, a⟩
def Ran.runs (a : Act) : Ran := ⟨3, true, a⟩
def Ran.refused (status : Nat) : Ran := ⟨status, false, .skip⟩
def Ran.answers (r : Nat × Act) : Ran := ⟨r.1, r.1 == 0, r.2⟩
/-- A command that is answered 0x03 where it starts. -/
def Ran.starts (r : Nat × Act) : Ran := if r.1 = 0 then .runs r.2 else ⟨r.1, false, r.2⟩

/-- UpdateVerify answers 0x03 both where it starts and where it cannot (R441). -/
def Ran.verifies (r : Nat × Act) : Ran := if r.1 = 3 then .runs r.2 else ⟨r.1, false, r.2⟩

/-- SelfTestRun (R416, R491): a start, or a held one, still runs when its write ends. A test that is not started has ended. -/
def runSelfTest (s : State) (r : Nat) : Ran :=
  let t := runTest s r
  if t.1 != 0 then .refused t.1
  else if s.test r F.stbState = 0 && s.testCase r = .notStarted then .done t.2
  else .runs t.2

/-- The commands of the dictionary (R43, R47, R59, R62, R83, R162, R198, R230 to R232, R263, R264, R290, R291, R305, R317, R323, R344,
R371, R383, R388, R399, R403, R404, R416, R418, R441, R442, R444 to R446). DESIGN CHOICE (log entry 150): UpdateConfirm and UpdateActivate
have ended with their write, while the boot control block that they change is still being written. -/
def runCommand (s : State) (path : Path) (idx sub v : Nat) : Ran :=
  let t := template idx
  let p := t.2
  match t.1, sub with
  | 0x1F10, 1 => if s.commitStarts && s.get Key.deviceState = 0 then .runs startCommit else .refused 3
  | 0x1F10, 7 => if s.get Key.commitState = 2 || s.get Key.commitState = 4 then .refused 3 else .done discardSketch
  | 0x1E10, 3 => .done clearPosted
  | 0x1E20, 1 => .done clearClamps
  | 0x1D00, 19 => .done (endRemotes fun k => k == v)
  | 0x2006, 14 => .done (clearPort p)
  | 0x4000, 18 => .done clearClassifier
  | 0x4100, 8 => .runs startFreeing
  | 0x2003, 44 => .done (clearQueues p)
  | 0x3000, 18 => .runs startFdbFlush
  | 0x3000, 19 => .done clearForwarding
  | 0x2004, 14 => .done (clearGate p)
  | 0x2005, 10 => .done (clearShaping p)
  | 0x5000, 14 => .done clearTimeCounters
  | 0x6000, 11 => .done clearDelivery
  | 0x6000, 14 => .done clearStreams
  | 0x6000, 15 => .done (unblock v)
  | 0x2007, 28 => .done (clearSampling p)
  | 0x200A, 24 => .done (clearGatewayPort p)
  | 0x7000, 6 => .done clearFailures
  | 0x7000, 15 => .done clearGateway
  | 0x8010, 12 => .done (clearStarvation v)
  | 0x8100, 1 => .answers (submitJob s p v)
  | 0x200B, 8 => .done (clearMacsec p)
  | 0x8300, 1 => .starts (startAttest s)
  | 0x9000, 14 => .done clearKeepAwake
  | 0x9100, 12 => .done (clearRing p)
  | 0xA000, 12 => .done clearFaults
  | 0xA000, 13 => .answers (releaseSafe s)
  | 0xA000, 14 => .done (failSafe 0x41)
  | 0xA000, 15 => .done serviceWatchdog
  | 0xA000, 17 => .runs startPeriodic
  | 0xA010, 12 => .starts (testPipeline s v)
  | 0xB000, 1 => runSelfTest s v
  | 0xB000, 2 => .answers (stopTest s v)
  | 0xC000, 9 => .done confirmUpdate
  | 0xC000, 10 => .done askRecovery
  | 0xC000, 11 => if s.now < s.get Rg.bootUntil then .refused 3 else .done restartSystem
  | 0xC000, 12 => .runs unlockJtag
  | 0xC100, 1 => .answers (openUpdate s path v)
  | 0xC100, 3 => .verifies (verifyUpdate s)
  | 0xC100, 4 => .answers (activateUpdate s)
  | 0xC100, 5 => .answers (stopUpdate s)
  | _, _ => .done .skip

/-! ### Writes -/

/-- A write of AttachmentBinding (R88): the status and the effect. -/
def bindAttachment (s : State) (p x : Nat) : Nat × Act :=
  let q := s.holderOf x
  if s.attachment p = x then (0, .skip)
  else if s.portState p = 0 && s.portState q = 0 && !s.flag (Rg.testedBy p) && !s.flag (Rg.testedBy q) then (0, swapBindings p x)
  else (3, .skip)

/-- A write of PortEnable (R110); in a recovery state ports 0 to 231 stay Disabled (R444). -/
def writePortEnable (s : State) (p x : Nat) : Act :=
  if s.recovering && decide (p < 232) then .put (Key.portEnable p) x else enablePort p x

/-- A write of RemoteOdEnable (R83). -/
def enableRemote (x : Nat) : Act :=
  .seq (.put Key.remoteOdEnable x) (Act.when (x == 0) (endRemotes fun _ => true))

/-- A pin that no longer carries the pulse per second does not join the pulse that runs again (R470). -/
def dropPulse : Act := .dep fun s => .put Rg.ppsPins (s.get Rg.ppsPins &&& s.get Key.gpioDirection &&& s.get Key.ppsOutput)

/-- A write of an RW object (R8, R36): the status and the effect of the value `x`. DESIGN CHOICE (log entry 114): a write of
CanIdFormat leaves CanRequestId and CanResponseId as they are, also where they exceed 11 bits; the next write of one clamps it. -/
def storeObject (s : State) (idx sub x : Nat) : Nat × Act :=
  let t := template idx
  let p := t.2
  let k := s.keyAt idx sub
  let then' := fun a => (0, Act.seq (.put k x) a)
  match t.1, sub with
  | 0x1F10, _ => then' moveSwap
  | 0x1D00, 1 => (0, enableRemote x)
  | 0x2000, 2 => bindAttachment s p x
  | 0x2000, 3 => (0, writePortEnable s p x)
  | 0x2008, _ => (0, if s.kind p = 4 then writeCan p sub x else .put k x)
  | 0x200A, 1 => (0, enableChannel p x)
  | 0x4100, 1 => (0, enableFirewall x)
  | 0x5000, 4 => then' timeReview
  | 0x5010, _ => then' timeReview
  | 0x8100, 3 => (0, enablePage p x)
  | 0x8400, 1 => (0, enableSeal x)
  | 0x8400, 4 => then' sealReview
  | 0x8400, 5 => then' sealReview
  | 0x9100, 1 => enableRing s p x
  | 0x9100, 4 => (0, consentTo p x)
  | 0xC200, 3 => then' dropPulse
  | 0xC200, 7 => then' dropPulse
  | _, _ => (0, .put k x)

/-- An access of the safety partition ends a resynchronisation first (R394). -/
def afterResync (s : State) (path : Path) : Act := Act.when (path == .safety && s.get Key.safetyState == 2) resyncEnds

/-- A write of a value to an object that R8 and R40 allow. -/
def writeValue (s : State) (path : Path) (idx sub x : Nat) (o : Obj) : Wrote :=
  if isCommand o then
    let r := runCommand s path idx sub x
    ⟨r.status, if r.executes then .seq (.put (s.keyAt idx sub) r.status) r.effect else r.effect, r.executes⟩
  else
    let r := storeObject s idx sub x
    ⟨r.1, r.2, r.1 == 0⟩

/-- A write of a slot image to a scalar slot (R8, R9, R30 to R41), its clamp counted (R36). DESIGN CHOICE (log entry 140): where there is
no object (R30) a write ends with 0x01, a ReadOnly client's too (R79). DESIGN CHOICE (log entry 152): a command whose argument was clamped
(R9) and whose execution still runs (R491) ends its write with 0x03. -/
def writeScalarAt (s : State) (path : Path) (idx sub slot : Nat) : Wrote :=
  if !s.serves path then .ends 3
  else match tableOf idx with
    | some _ => .ends (if sub < 3 then 2 else 1)
    | none =>
      if sub = 0 then .ends (if (s.highestSub idx).isSome then 2 else 1)
      else match s.objAt idx sub with
        | none => .ends 1
        | some o =>
          if !s.mayWrite path idx sub o then .ends 2
          else if s.writeBusy idx sub o then .ends 3
          else if !s.belongs idx o then .ends 0
          else
            let v := ofSlot o.ty slot
            let x := s.legalValue idx sub o v
            let w := writeValue s path idx sub x o
            ⟨w.status, Act.all [Act.when (w.taken && isClamp idx v x) (countClamp idx sub), w.effect], w.taken⟩

end Sys2Proof.Machine
end

