-- ==== Sys2Proof/Machine/Rows.lean ====
section
/-! DEFINITION. Accesses to table rows (R32, R33, R36, R39, R40, R42, R44) and what a write of each table does. -/

namespace Sys2Proof.Machine

/-! ### Merging a write into a row -/

/-- Whether a write of `n` octets from octet `off` on touches a field. -/
def Fld.touched (f : Fld) (off n : Nat) : Bool := decide (f.bit < 8 * (off + n)) && decide (8 * off < f.bit + f.width)

/-- The fields of a write taken into a row image, clamped (R33, R35, R36): reserved and RO bits stay. The flag says that a field
was clamped. DESIGN CHOICE (log entry 114): a write that touches nothing but such bits of a writable table is ignored and ends with
0x00. -/
def mergeFields (fs : List Fld) (old new off n : Nat) : Nat × Bool :=
  fs.foldl (fun a f =>
    if f.ro || !f.touched off n then a
    else
      let v := bits new f.bit f.width
      let x := clampTo f.legal f.width f.dflt v
      (setBits a.1 f.bit f.width x, a.2 || x != v)) (old, false)

/-- A field of a row image set to a value, with the flag of a clamp. -/
def pin (img : Nat × Bool) (f : Fld) (x : Nat) (counts : Bool := true) : Nat × Bool :=
  (setBits img.1 f.bit f.width x, img.2 || (counts && x != imageField img.1 f))

/-- Stores the octets of a row image that differ from the old one. -/
def Act.setImage (g : Gen) (idx row stride old new : Nat) : Act :=
  let a := leBytes stride old
  let b := leBytes stride new
  Act.each ((List.range stride).filter fun i => a[i]? != b[i]?) fun i => .cell g (cellKey idx row i) (b.getD i 0#8)

/-! ### Clamps that a rule gives beside its layout -/

/-- FieldSelect (R139): bit 20 is cleared, and selected bits from bit 21 downwards until the fields fit in 320 bits. -/
def fitSelect (select : Nat) : Nat :=
  let width := fun x => ((keyWidths.zip (List.range 22)).map fun k => if Nat.testBit x k.2 then k.1 else 0).sum
  (List.range 22).foldl (fun x i =>
    let n := 21 - i
    if Nat.testBit x n && (n == 20 || decide (320 < width x)) then x - 2 ^ n else x) (setBits select 20 1 0)

/-- The quotas after a write to a row of CanvasPools (R172): each is limited to what the rows before it leave. -/
def fitQuotas : Nat → List Nat → List Nat
  | _, [] => []
  | free, q :: qs => min q free :: fitQuotas (free - min q free) qs

/-- The row that a merged write leaves, where a rule clamps it further (R139, R177, R178, R313, R320, R359). -/
def refineRow (idx row off n : Nat) (img : Nat × Bool) : Nat × Bool :=
  let fld := imageField img.1
  match idx with
  | 0xF042 => pin img F.profSelect (fitSelect (fld F.profSelect))
  | 0xF051 => if row = 0 || row = 4095 then pin img F.vlanValid 0 false else img
  | 0xF094 => pin img F.freshValue (min (fld F.freshValue) (2 ^ fld F.freshWidth - 1))
  | 0xF081 => pin img F.xpSa (setBits (fld F.xpSa) 0 1 0) false
  | 0xF095 => if fld F.pageUser = 5 || fld F.pageUser = 6 then pin img F.pageUser 0 else img
  | 0xF0A0 =>
    let a := if F.ringDa.touched off n then pin img F.ringDa (setBits (fld F.ringDa) 0 1 1) false else img
    pin a F.ringBaseId (min (imageField a.1 F.ringBaseId) (if imageField a.1 F.ringFormat = 0 then 0x7C0 else 0x1FFFFFC0))
  | _ => img

/-- The row of ForwardingDatabase that a write leaves (R178). -/
def fdbRow (old new off n : Nat) : Nat × Bool :=
  let tag := F.fdbVid.touched off n || F.fdbValid.touched off n
  let whole := mergeFields [F.fdbAddress, F.fdbVid, F.fdbGroup, F.fdbStatic, F.fdbValid, F.fdbTarget] old new off n
  if tag && imageField (mergeFields [F.fdbValid] old new off n).1 F.fdbValid = 0 then
    (setBits (mergeFields [F.fdbAddress, F.fdbTarget] old new off n).1 48 16 0, false)
  else if imageField whole.1 F.fdbValid = 0 then whole
  else
    let a := pin whole F.fdbStatic 1 false
    if imageField a.1 F.fdbGroup = 0 then pin a F.fdbTarget (min (imageField a.1 F.fdbTarget) 255) else a

/-! ### Rights and busy rows -/

/-- Whether the row of a table belongs to another user than a path (R304, R343). -/
def State.foreignRow (s : State) (path : Path) (idx row : Nat) : Bool :=
  match idx with
  | 0xF096 => !s.ownsPage path (row / 16)
  | 0xF097 => !s.ownsPage path (row / 64)
  | 0xF099 => pathUser path != some (row + 1)
  | _ => false

/-- Whether R8 and R42 let a path write a row. -/
def State.mayWriteRow (s : State) (path : Path) (t : Tab) (row : Nat) (sketch : Bool) : Bool :=
  (match t.acc with
    | .rw => true
    | .rwS => path == .safety && s.get Key.safetyState != 4
    | _ => false)
    && !s.foreignRow path t.idx row && !(t.staged && !sketch) && !s.readOnlyClient path

/-- Whether a write touches a field of the layout beside those of a list. -/
def touchesBeside (idx off n : Nat) (fs : List Fld) : Bool := (layout idx).any fun f => f.touched off n && !fs.contains f

/-- Whether the function of a row is busy for a write of `n` octets from octet `off` on (R44, R150, R198, R308, R319, R343, R344,
R359, R437). -/
def State.rowBusy (s : State) (path : Path) (t : Tab) (row off n : Nat) : Bool :=
  if t.staged then
    (decide (2 ≤ s.get Key.commitState) && decide (s.get Key.commitState ≤ 4))
      || ((s.get Key.startupState == 8 || s.get Key.startupState == 9) && path != .safety)
  else match t.idx with
    | 0xF046 => s.flag Rg.freeing
    | 0xF052 => s.flag Rg.fdbFlushing
    | 0xF095 => decide (row < 62) && s.flag (Key.pageState row)
    | 0xF096 => (s.job row F.jobState == 1 || s.job row F.jobState == 2) && decide (off < 40) && decide (1 < off + n)
    | 0xF099 => (s.sjob row F.sjobState == 1 || s.sjob row F.sjobState == 2) && touchesBeside 0xF099 off n [F.sjobState]
    | 0xF09A => s.flag Rg.attestWanted && decide (off < 40)
    | 0xF0A0 => s.flag (Key.ringState row)
    | 0xF0A1 => s.flag (Key.ringState (row / 64))
    | _ => false

/-! ### Reads -/

/-- The memory that an access to a table reaches. -/
def rowGen (t : Tab) (sketch : Bool) : Gen := if t.staged then (if sketch then .sketch else .fair) else .live

/-- A read of `n` octets of a table row from octet `off` on (R32, R33, R42, R304, R371). -/
def readRowAt (s : State) (path : Path) (idx row : Nat) (sketch : Bool) (off n : Nat) : Got :=
  if !s.serves path then .ends 3
  else match tableOf idx with
    | none => .ends 1
    | some t =>
      if t.rows ≤ row || n = 0 || t.stride < off + n then .ends 1
      else if s.foreignRow path idx row then .ends 2
      else
        let a := Act.when (idx == 0xF0A1 && s.flag (Rg.isHolding 1 (row / 64) (row % 64))) (accrue (row / 64) 1 (row % 64))
        ⟨0, octetsAt ((a.run s).rowImageNow (rowGen t sketch) t row) off n, a⟩

/-! ### Writes -/

/-- A table's clamp counter rises (R37). -/
def countRow (idx : Nat) (c : Bool) : Act := Act.when c (countClamp idx 0)

/-- The first stored write to a staged table makes the Sketch Edited (R44). -/
def edited : Act :=
  .dep fun s => Act.when (s.get Key.commitState == 0 || s.get Key.commitState == 5) (.put Key.commitState 1)

/-- A write to the Sketch of CanvasPools (R172). -/
def writePools (s : State) (row : Nat) (img : Nat × Bool) : Act :=
  let quota := fun r => s.fld .sketch 0xF050 r F.poolQuota
  let was := (List.range 4).map fun r => if r = row then imageField img.1 F.poolQuota else quota r
  let now := fitQuotas 95232 was
  Act.all [
    Act.setImage .sketch 0xF050 row 8 (leNat (s.rowOctets .sketch 0xF050 row 0 8)) img.1,
    Act.each (List.range 4) fun r => Act.setF .sketch 0xF050 r F.poolQuota (now.getD r 0),
    countRow 0xF050 (img.2 || now != was)]

/-- A write to the Sketch (R42, R44). -/
def writeStaged (s : State) (t : Tab) (row off n old : Nat) (img : Nat × Bool) : Act :=
  .seq
    (if t.idx = 0xF050 then writePools s row img
     else .seq (Act.setImage .sketch t.idx row t.stride old img.1) (countRow t.idx img.2))
    (Act.when ((rowLayout t.idx row).any fun f => !f.ro && f.touched off n) edited)

/-- A session row after a partition's write (R149): a row that comes into use, or enters Closing, counts its idle time from now. -/
def sessionWritten (row was : Nat) : Act :=
  .dep fun s =>
    let st := s.fld .live 0xF046 row F.sessState
    Act.all [
      Act.when (was == 0 && st != 0)
        (.seq (Act.setF .live 0xF046 row F.sessFramesInit 0) (Act.setF .live 0xF046 row F.sessFramesResp 0)),
      Act.when ((was == 0 && st != 0) || (was != 3 && st == 3))
        (.seq (Act.setF .live 0xF046 row F.sessTime s.vns) (.put (Rg.sessionAt row) s.now))]

/-- A write of a GloveJobs row (R308): State takes only 0, and only where the job is Done. -/
def writeJob (row off n old new : Nat) : Act :=
  let fs := layoutF096.filter fun f => f != F.jobState
  let img := mergeFields fs old new off n
  let state := F.jobState.touched off n
  Act.all [Act.setImage .live 0xF096 row 64 old img.1, Act.when state (freeJob row),
    countRow 0xF096 (img.2 || (state && imageField new F.jobState != 0))]

/-- A write of a SignatureJobs row (R343): State 1 submits a free row, and State 0 frees one that is done. -/
def writeSignJob (s : State) (row off n old new : Nat) : Act :=
  let img := mergeFields (layoutF099.filter fun f => f != F.sjobState) old new off n
  let st := s.sjob row F.sjobState
  let v := imageField new F.sjobState
  Act.all [Act.setImage .live 0xF099 row 256 old img.1, countRow 0xF099 img.2,
    Act.when (F.sjobState.touched off n)
      (if st = 0 && v = 1 then submitSignJob row
       else Act.when (st == 3 && v == 0) (Act.setF .live 0xF099 row F.sjobState 0))]

/-- A write of a KeyTable row (R330, R334, R335): it takes effect only through Op. -/
def writeKey (s : State) (row off n old new : Nat) : Nat × Act :=
  let img := mergeFields layoutF098 (setBits old F.keyOp.bit F.keyOp.width 0) new off n
  let r := match imageField img.1 F.keyOp with
    | 1 => writeLoad s row (setBits img.1 F.keyOp.bit F.keyOp.width 0)
    | 2 => writeInvalidate s row
    | _ => (0, Act.skip)
  (r.1, .seq (countRow 0xF098 (img.2 && imageField img.1 F.keyOp != 0 && r.1 == 0)) r.2)

/-- The rings take up a change of the wake inputs' rows (R365, R371). -/
def reviewRings : Act := Act.each (List.range 32) fun r => .seq (holdReview r) (evaluateRing r)

/-- The sessions of a disabled client row close (R80). -/
def clientWritten (row : Nat) : Act :=
  .dep fun s => Act.when (s.fld .live 0xF002 row F.clientEnable == 0)
    (endRemotes fun k => s.session k F.rsessClient == row)

/-- What follows a stored write of an unstaged row, with the state before it. An SA that is written while it is not in use is installed
anew (R326). -/
def rowWritten (s : State) (idx row : Nat) : Act :=
  match idx with
  | 0xF002 => clientWritten row
  | 0xF046 => sessionWritten row (s.fld .live 0xF046 row F.sessState)
  | 0xF066 => timeReview
  | 0xF092 => Act.when (!s.fldOn .live 0xF092 row F.saInUse) (.put (Rg.staleSa row) 0)
  | 0xF094 => loadFresh row
  | 0xF0A3 => reviewRings
  | _ => .skip

/-- Why a rule refuses a row write that R8 and R40 allow (R302, R313, R321): the status. -/
def State.rowFault (s : State) (idx row off n new : Nat) : Option Nat :=
  match idx with
  | 0xF090 =>
    let an := if F.secyEncoding.touched off n then imageField new F.secyEncoding else s.fld .live 0xF090 row F.secyEncoding
    if F.secyEncoding.touched off n && s.fldOn .live 0xF092 (4 * row + an) F.saExhausted then some 5 else none
  | 0xF092 =>
    let others := layoutF092.any fun f => !f.ro && f != F.saInUse && f.touched off n
    if others && s.fldOn .live 0xF092 row F.saInUse then some 2 else none
  | 0xF094 =>
    let named := [F.freshValue, F.freshWidth, F.freshKeySlot].any fun f => f.touched off n
    if named && !s.freshWritable row then some 2 else none
  | _ => none

/-- A write to an unstaged row (R36, R39): the status and the effect. -/
def writeUnstaged (s : State) (path : Path) (t : Tab) (row off : Nat) (data : List Byte) : Nat × Act :=
  let n := data.length
  let octs := s.rowOctets .live t.idx row 0 t.stride
  let old := leNat octs
  let new := leNat (overlay octs off data)
  let store := fun (img : Nat × Bool) => Act.all [Act.setImage .live t.idx row t.stride old img.1, countRow t.idx img.2]
  match t.idx with
  | 0xF052 => (0, store (fdbRow old new off n))
  | 0xF096 => (0, writeJob row off n old new)
  | 0xF098 => writeKey s row off n old new
  | 0xF099 => (0, writeSignJob s row off n old new)
  | 0xF0C0 => takeRow s path row off data
  | 0xF0C1 => writeImageKey s row (off = 0 && decide (33 ≤ n)) (overlay octs off data)
  | _ =>
    if (t.idx = 0xF095 && 62 ≤ row) || (t.idx = 0xF0B1 && 66 ≤ row) then (0, .skip)
    else match s.rowFault t.idx row off n new with
      | some st => (st, .skip)
      | none =>
        let touched := (layout t.idx).any fun f => !f.ro && f.touched off n
        (0, Act.when touched (.seq (store (refineRow t.idx row off n (mergeFields (layout t.idx) old new off n)))
          (rowWritten s t.idx row)))

/-- A write of octets to a table row (R8, R32, R33, R36, R39, R40, R42, R44). -/
def writeRowAt (s : State) (path : Path) (idx row : Nat) (sketch : Bool) (off : Nat) (data : List Byte) : Wrote :=
  let n := data.length
  if !s.serves path then .ends 3
  else match tableOf idx with
    | none => .ends 1
    | some t =>
      if t.rows ≤ row || n = 0 || t.stride < off + n then .ends 1
      else if !s.mayWriteRow path t row sketch then .ends 2
      else if s.rowBusy path t row off n then .ends 3
      else if t.staged then
        let octs := s.rowOctets .sketch idx row 0 t.stride
        let old := leNat octs
        let img := refineRow idx row off n (mergeFields (rowLayout idx row) old (leNat (overlay octs off data)) off n)
        ⟨0, writeStaged s t row off n old img, true⟩
      else
        let r := writeUnstaged s path t row off data
        ⟨r.1, r.2, r.1 == 0⟩

/-! ### The answer of an access -/

/-- A write with its answer. -/
def Wrote.act (w : Wrote) : Act := .seq w.effect (.answer w.status [])

/-- A read with its answer: a read that does not end with 0x00 returns no data (R67). -/
def Got.act (g : Got) : Act := .seq g.effect (.answer g.status (if g.status = 0 then g.data else []))

/-- The accesses as acts. -/
def scalarWrite (path : Path) (idx sub slot : Nat) : Act :=
  .dep fun s => .seq (afterResync s path) (.dep fun t => (writeScalarAt t path idx sub slot).act)
def scalarRead (path : Path) (idx sub : Nat) : Act :=
  .dep fun s => .seq (afterResync s path) (.dep fun t => (readScalarAt t path idx sub).act)
def rowWrite (path : Path) (idx row : Nat) (sketch : Bool) (off : Nat) (data : List Byte) : Act :=
  .dep fun s => .seq (afterResync s path) (.dep fun t => (writeRowAt t path idx row sketch off data).act)
def rowRead (path : Path) (idx row : Nat) (sketch : Bool) (off n : Nat) : Act :=
  .dep fun s => .seq (afterResync s path) (.dep fun t => (readRowAt t path idx row sketch off n).act)

end Sys2Proof.Machine
end

