-- ==== Sys2Proof/Machine/Host.lean ====
section
/-! DEFINITION. The host's access paths: the PCIe windows with the posted-error log (R50 to R61), and the SPI target (R63 to
R68). -/

namespace Sys2Proof.Machine

/-! ### The posted-error log -/

/-- The reason code of a failed posted write that ended with a status (R61); none for a status to which the table gives no code. -/
def reasonOf (status : Nat) : Option Nat :=
  match status with
  | 1 => some 2
  | 2 => some 1
  | 3 => some 3
  | 5 => some 6
  | 7 => some 8
  | _ => none

/-- An entry of the log (R58 to R60). `place` is index, subindex and row as R60 lays them out, `bar` the Path code. DESIGN CHOICE (log
entry 114): the number of octets of a write of 256 stands as 0, and the octets that a write of fewer than 4 lacks stand as 0. -/
def logPosted (place bar status reason off requester : Nat) (data : List Byte) : Act :=
  .dep fun s =>
    let image := leBytes 8 s.vns ++ leBytes 8 (place * 65536 + bar * 4096 + status) ++ leBytes 8 (off % 2 ^ 30 * 16)
      ++ leBytes 1 reason ++ leBytes 1 data.length ++ leBytes 2 requester ++ octetsAt data 0 4
    storeEntry 0xF001 16 Key.postedErrorCount Key.postedErrorOverflow image
      (Act.when (s.flag Key.postedErrorVectorEnable) (.emit (.vector 0)))

/-- Index, subindex and row in one number (R52, R60). -/
def placeOf (idx sub row : Nat) : Nat := idx * 2 ^ 32 + sub % 256 * 2 ^ 24 + row % 2 ^ 24

/-- A posted write takes effect, or is logged (R58). An execution that still runs has not failed. `special` is the reason code
where a rule names one for the access. -/
def postWrite (w : Wrote) (special : Option Nat) (place bar off requester : Nat) (data : List Byte) : Act :=
  .seq w.effect (.seq (.answer w.status [])
    (if w.status = 0 || w.taken then .skip
     else match special, reasonOf w.status with
      | some r, _ => logPosted place bar w.status r off requester data
      | none, some r => logPosted place bar w.status r off requester data
      | none, none => Act.draw fun r => logPosted place bar w.status (r % 256) off requester data))

/-! ### BAR0 -/

/-- Octets that the value of a slot takes (R34); none where the slot holds no object. -/
def State.valueOctets (s : State) (idx sub : Nat) : Option Nat :=
  match tableOf idx with
  | some _ => if sub = 1 then some 2 else if sub < 3 then some 4 else none
  | none =>
    if sub = 0 then (s.highestSub idx).map fun _ => 1
    else (s.objAt idx sub).map fun o => cdiv o.ty.bits 8

/-- The octets of an access of `n` octets at `off` that lie in block `b` of `size` octets: their first place in the block, and
how many. -/
def share (off n b size : Nat) : Nat × Nat :=
  let lo := max off (b * size)
  let hi := min (off + n) (b * size + size)
  (lo - b * size, hi - lo)

/-- The blocks of `size` octets that an access touches. -/
def blocksOf (off n size : Nat) : List Nat :=
  if n = 0 then [] else (List.range ((off + n - 1) / size - off / size + 1)).map fun i => off / size + i

/-- A posted write to one slot (R51). -/
def postSlot (off requester : Nat) (data : List Byte) (slot : Nat) : Act :=
  .dep fun s =>
    let idx := slot / 256
    let sub := slot % 256
    let at0 := share off data.length slot 8
    let part := (data.drop (slot * 8 + at0.1 - off)).take at0.2
    let place := placeOf idx sub 0
    let post := fun w r => postWrite w r place 1 (slot * 8 + at0.1) requester part
    if !s.serves .pcie then post (.ends 3) none
    else match s.valueOctets idx sub with
      | none => post (.ends 1) none
      | some n =>
        if n ≤ at0.1 then .answer 0 []
        else if at0.1 != 0 || at0.2 < n then post (.ends 2) (some 4)
        else post (writeScalarAt s .pcie idx sub (leNat part)) none

/-- A posted write in BAR0 (R51): one access per slot, in ascending order. -/
def hostWrite (off requester : Nat) (data : List Byte) : Act := Act.each (blocksOf off data.length 8) (postSlot off requester data)

/-- A failed read is recorded (R52). -/
def readFails (status idx sub row : Nat) : Act :=
  Act.all [.put Key.hostReadStatus status, .put Key.hostReadTarget (placeOf idx sub row * 65536), Act.bump Key.hostReadFailures]

/-- What a read contributes to its completion: its octets, or all ones with the failure recorded (R52). -/
def collect (g : Got) (n idx sub row : Nat) (use : List Byte → Act) : Act :=
  .seq g.effect
    (if g.status = 0 then use g.data
     else .seq (readFails g.status idx sub row) (.seq (.answer g.status []) (use (List.replicate n 0xFF#8))))

/-- Reads one block after another and hands over all octets. -/
def readBlocks (one : Nat → (List Byte → Act) → Act) (use : List Byte → Act) : List Nat → List Byte → Act
  | [], out => use out
  | b :: bs, out => one b fun d => readBlocks one use bs (out ++ d)

/-- The completion of a read (R52): the answer keeps the status of the last failure. -/
def complete (data : List Byte) : Act := .dep fun s => .seq (.emit (.completion data)) (.answer s.status data)

/-- A read in BAR0 (R51, R52). -/
def hostRead (off n : Nat) : Act :=
  readBlocks (fun slot use => .dep fun s =>
      let at0 := share off n slot 8
      let g := readScalarAt s .pcie (slot / 256) (slot % 256)
      collect { g with data := octetsAt g.data at0.1 at0.2 } at0.2 (slot / 256) (slot % 256) 0 use)
    complete (blocksOf off n 8) []

/-! ### BAR2 -/

/-- The binding of the aperture of a BAR2 offset (R54): table index, generation bit, BaseRow. -/
def State.bindingAt (s : State) (off : Nat) : Nat × Bool × Nat :=
  let b := s.get (Key.apertureBinding (off / 0x4000000))
  (b % 65536, b.testBit 16, b / 2 ^ 40)

/-- A posted write in a BAR2 aperture (R54 to R56): the octets within one row are applied atomically. DESIGN CHOICE (log entry 114):
where the binding names no table, the entry holds its TableIndex and BaseRow. DESIGN CHOICE (log entry 140): a write to a
Fair copy that R8 refuses too has reason 0x01. -/
def postRows (off requester : Nat) (data : List Byte) : Act :=
  .dep fun s =>
    let b := s.bindingAt off
    let x := off % 0x4000000
    match tableOf b.1 with
    | none => postWrite (.ends (if s.serves .pcie then 1 else 3)) (if s.serves .pcie then some 7 else none)
        (placeOf b.1 0 b.2.2) 2 off requester data
    | some t => Act.each (blocksOf x data.length t.stride) fun r => .dep fun u =>
        let at0 := share x data.length r t.stride
        let part := (data.drop (r * t.stride + at0.1 - x)).take at0.2
        let row := b.2.2 + r
        let w := writeRowAt u .pcie b.1 row b.2.1 at0.1 part
        let fair := t.staged && !b.2.1 && u.mayWriteRow .pcie t row true
        let partRow := t.idx == 0xF0C0 && u.ownsUpdate .pcie && u.get Key.updateState == 2 && at0.2 != 256
        postWrite w (if w.status = 2 && fair then some 5 else if w.status = 2 && partRow then some 4 else none)
          (placeOf b.1 0 row) 2 (off - x + r * t.stride + at0.1) requester part

/-- A read in a BAR2 aperture (R52, R54, R55). DESIGN CHOICE (log entry 114): where the binding names no table, HostReadTarget holds its
TableIndex and BaseRow. -/
def hostRowsRead (off n : Nat) : Act :=
  .dep fun s =>
    let b := s.bindingAt off
    let x := off % 0x4000000
    match tableOf b.1 with
    | none => collect (.ends (if s.serves .pcie then 1 else 3)) n b.1 0 b.2.2 complete
    | some t => readBlocks (fun r use => .dep fun u =>
          let at0 := share x n r t.stride
          collect (readRowAt u .pcie b.1 (b.2.2 + r) b.2.1 at0.1 at0.2) at0.2 b.1 0 (b.2.2 + r) use)
        complete (blocksOf x n t.stride) []

/-! ### SPI -/

/-- What the PCIe function identifies itself with (R50): the Vendor ID of PciVendorId, and the Device ID. No row of the opcode table
reads it. -/
def State.pcieIdentity (s : State) : Nat × Nat := (s.get Key.pciVendorId, 0x0256)

/-- The access that a request frame asks for (R64). DESIGN CHOICE (log entry 114): of a scalar opcode with a Length above 1 the first
slot image counts, and the Subindex of a row opcode is ignored. -/
def spiAccess (o : Op) : Act :=
  let off := 8 * o.off
  let sketch := o.flags % 2 == 1
  match o.opcode with
  | 1 => scalarRead .spi o.idx o.sub
  | 2 => scalarWrite .spi o.idx o.sub (leNat (o.data.take 8))
  | 3 => rowRead .spi o.idx o.row sketch off (8 * o.len)
  | _ => rowWrite .spi o.idx o.row sketch off o.data

/-- The fields of a request frame (R64): its header differs from that of an operation of R78 in order. -/
def spiOp (b : List Byte) (data : List Byte) : Op :=
  ⟨beAt b 0 1, beAt b 7 1, beAt b 1 2, beAt b 3 1, beAt b 4 3, beAt b 8 2, beAt b 10 1, data⟩

/-- A request frame (R64 to R68). A frame cut off before the last octet of its CRC makes no access, and in reset and without the switched
rails the inputs are ignored (R455). DESIGN CHOICE (log entry 41): the
Length × 8 octets that answer a scalar read are the slot image and zeros. -/
def spiRequest (b : List Byte) : Act := .dep fun u =>
  let opcode := beAt b 0 1
  let n := beAt b 10 1
  let size := 11 + (if opcode = 2 || opcode = 4 then 8 * n else 0)
  if b.length < 13 || u.inReset || u.unpowered then .skip
  else if opcode = 0 || 4 < opcode || n = 0 || 32 < n then .emit (.spi [0xC3#8])
  else if b.length < size + 2 then .skip
  else if beAt b size 2 != crc16 (b.take size) then .emit (.spi [0xC3#8])
  else .seq (spiAccess (spiOp b ((b.take size).drop 11))) (.dep fun s =>
    let body := beBytes 1 s.status ++ (if opcode = 1 && s.status = 0 then padTo (8 * n) 0#8 s.data else s.data)
    .emit (.spi ([0x5A#8] ++ body ++ beBytes 2 (crc16 body))))

/-- A frame whose chip select is deasserted before the last octet of its CRC is discarded (R68). -/
def spiDiscard : Act := .skip

end Sys2Proof.Machine
end

