-- ==== Sys2Proof/Machine/StartUp.lean ====
section
/-! DEFINITION. The cold start (R424, R425, R432 to R438, R444): slot selection, the records of the OD image, its commit, and the
recovery states. The sequence is one command (log entry 27). -/

namespace Sys2Proof.Machine

/-! ### What every start does -/

/-- A pipeline under test goes back to service, and P4 checks its take-over again for the pipeline whose ports it carries
(R403, R410). -/
def resumePipelines : Act :=
  .dep fun s => Act.all [
    Act.each [0, 1, 2, 3] fun n => Act.when (s.get (Key.pipelineState n) == 3) (.put (Key.pipelineState n) 1),
    let n := if s.flag Rg.hosted then s.get Rg.hosted - 1 else s.get Rg.fenced - 1
    let due := (s.flag Rg.hosted || s.flag Rg.fenced) && s.get (Key.pipelineState n) == 2
    .seq (Act.zero [Rg.hosted, Rg.fenced])
      (if s.get (Key.pipelineState 4) = 2 then .skip
       else if due then Act.all [.put (Key.pipelineState 4) 4, .put Key.spareHosts 255, .put Rg.fenced (n + 1), .put Rg.fencedAt s.now]
       else .seq (.put (Key.pipelineState 4) 0) (.put Key.spareHosts 255))]

/-- The masks of R314 are released, but for those that the endpoint holds. -/
def releaseMasks : Act := .dep fun s => Act.each (List.range 8) fun r => maskRequester r (s.heldMasked r)

/-- The two pages of the partitions are Enabled (R319), and with them those whose PageEnable is 1. -/
def enablePages : Act :=
  .dep fun s => Act.each (List.range 64) fun p =>
    Act.when (decide (62 ≤ p) || s.flag (Key.pageEnable p)) (.put (Key.pageState p) 2)

/-- The injection test (R398): whether it passed. Which compare group a failure names is open (R388). -/
def injectionTest (ok : Bool) : Act :=
  if ok then .put Rg.injectionOk 1 else .seq (.put Rg.injectionOk 0) (Act.drawIn 0 7 fun g => fatal 4 g)

/-! ### Slot selection -/

/-- LastImageRejection (R438). -/
def rejectImage (kind slot code : Nat) : Act := .put Key.lastImageRejection (kind * 4096 + slot * 256 + code % 256)

/-- The trial starts are counted, and the fourth falls back (R438). -/
def countTrial : Act :=
  .dep fun s =>
    let fw := s.get (Rg.trial 0)
    let od := s.get (Rg.trial 1)
    let pf := s.get (Rg.preferred 0)
    let po := s.get (Rg.preferred 1)
    let n := s.get Rg.trialCount + 1
    Act.when (fw != 0 || od != 0) (.seq (writeBoot pf po fw od n)
      (Act.when (decide (3 < n)) (.seq (writeBoot (if fw = 1 then 1 - pf else pf) (if od = 1 then 1 - po else po) 0 0 0)
        (Act.bump Key.slotFallbacks))))

/-- The firmware slot is selected (R438): `found` goes on with it, `none'` where neither is valid. -/
def selectFirmware (found none' : Act) : Act :=
  .dep fun s =>
    let p := s.get (Rg.preferred 0)
    let take := fun slot => Act.all [.put Key.firmwareSlotActive slot, .put Key.firmwareVersion (s.imageVersion 1 slot),
      .put Rg.bootDigest (s.measurement 1 slot), .put Rg.segmentDigest (beNat (sha256 (s.safetySegment slot))), found]
    match s.imageFault 1 p with
    | none => take p
    | some c => .seq (rejectImage 1 p c) (match s.imageFault 1 (1 - p) with
      | none => .seq (Act.bump Key.slotFallbacks) (take (1 - p))
      | some d => .seq (rejectImage 1 (1 - p) d) none')

/-! ### The records of the OD image -/

/-- The objects whose 1 takes effect at StartupState 0x0B: PortEnable, RingEnable and RecordSealEnable (R437). -/
def enablesAtEnd (idx sub : Nat) : Bool :=
  let t := (template idx).1
  (t == 0x2000 && sub == 3) || (t == 0x9100 && sub == 1) || (t == 0x8400 && sub == 1)

/-- Whether a ring shares a port with another that the image enables (R358). -/
def State.imageConflict (s : State) (r : Nat) : Bool :=
  (s.ringPorts r).any fun p => (List.range 32).any fun q => q != r && s.flag (Key.ringEnable q) && s.inRing q p

/-- The record of an enable: its value is stored, and start-up acts on it at the end. -/
def storeEnable (o : Op) : Act :=
  .dep fun s =>
    let w := writeScalarAt s .safety o.idx o.sub (leNat (o.data.take 8))
    let v := leNat (o.data.take 8) % 2
    if w.status != 0 then .answer w.status []
    else if (template o.idx).1 = 0x9100 && v = 1 && s.imageConflict (template o.idx).2 then .answer 4 []
    else .seq (.put (s.keyAt o.idx o.sub) v) (.answer 0 [])

/-- A record is applied with the safety partition's rights (R435); the answer is its status. -/
def applyRecord (o : Op) : Act :=
  if o.len = 0 || 32 < o.len then .answer 1 []
  else if o.opcode = 4 then rowWrite .safety o.idx o.row (o.flags % 2 == 1) (8 * o.off) o.data
  else if enablesAtEnd o.idx o.sub then storeEnable o
  else scalarWrite .safety o.idx o.sub (leNat (o.data.take 8))

/-- The records in image order (R435), up to the first that ends with another status than 0x00. -/
def applyRecords (done failed : Act) : List Op → Act
  | [] => done
  | o :: os => .seq (applyRecord o) (.dep fun s => if s.status = 0 then applyRecords done failed os else failed)

/-- The start-up commit (R437): the check and the swap. How long the checks take is open. -/
def startUpCommit (done failed : Act) : Act :=
  .seq startCommit (Act.drawIn 0 40000 fun adm => Act.drawIn 0 30000 fun gw => .seq (checksEnd adm gw)
    (.dep fun s => if s.get Key.commitState = 3 then .seq swapNow done else failed))

/-- The objects that report a commit (R43, R252, R288): they stay when its image is dropped. -/
def reportsCommit (k : Nat) : Bool :=
  [Key.sketchCommit, Key.commitRefusal, Key.refusalStream, Key.refusalPort, Key.refusalRoute, Key.refusalPair, Key.lastCheckDuration,
    Key.lastGatewayCheckDuration].contains k

/-- The octets of the clamp counters (R36), which count on. -/
def countsClamps (a : Nat) : Bool := a / 2 ^ 36 == 0xF000

/-- The registers and live tables are put back to those of a state before an image: what its records stored, and what followed from it.
DESIGN CHOICE (log entry 90): the report of the commit and the clamp counters stay. -/
def takeBack (old : State) : Act :=
  Act.all [
    .keepRegs reportsCommit, Act.each (old.regs.filter fun c => !reportsCommit c.1) fun c => .put c.1 c.2,
    .keepCells .live countsClamps, Act.each (old.live.filter fun c => !countsClamps c.1) fun c => .cell .live c.1 c.2]

/-- An image that does not commit (R438, R444): the Sketch is discarded, and what its records did to `old` is taken back. No rejection
code is given for it. -/
def dropImage (old : State) (slot : Nat) (next : Act) : Act :=
  Act.all [.discard, takeBack old, Act.draw (rejectImage 2 slot), next]

/-- One slot of the OD image is tried (R434, R435, R438). -/
def tryOdSlot (slot : Nat) (done next : Act) : Act :=
  .dep fun s =>
    match s.imageFault 2 slot with
    | some c => .seq (rejectImage 2 slot c) next
    | none => applyRecords
        (startUpCommit (Act.all [.put Key.odSlotActive slot, .put Key.odImageVersion (s.imageVersion 2 slot),
          .put Rg.imageDigest (s.measurement 2 slot), done]) (dropImage s slot next))
        (dropImage s slot next) ((s.records slot).getD [])

/-! ### Where the start ends -/

/-- A recovery state (R444): the internal ports whose function runs come Up (R113, R125). -/
def enterRecovery (st : Nat) : Act := Act.all [.put Key.startupState st, .put Key.keyGuardMode 3, servingReview false]

/-- A recovery request is pending (R444): no image is applied. Causes are tested in their order, so that 0x13 comes first where
neither OD slot is valid. -/
def recoveryDue : Act :=
  .dep fun s =>
    match s.imageFault 2 0, s.imageFault 2 1 with
    | some c, some d =>
      let p := s.get (Rg.preferred 1)
      Act.all [rejectImage 2 (1 - p) (if p = 0 then d else c), enterRecovery 0x13]
    | _, _ => .seq (.put Rg.recoveryAsked 0) (enterRecovery 0x14)

/-- StartupState 0x0B (R437): what the image names is enabled. -/
def startEnds (micros : Nat) : Act :=
  Act.all [.put Key.startupState 0x0B, .put Key.keyGuardMode 1, .put Rg.portsEnabled 1, .put Key.startupDuration micros,
    enablePages,
    .dep fun s => Act.each ((List.range 32).filter fun r => s.flag (Key.ringEnable r)) awakenRing,
    .dep fun s => Act.each ((List.range 256).filter fun p => s.flag (Key.portEnable p)) enterStarting,
    .dep fun s => Act.when (s.flag Key.recordSealEnable) enterSeal]

/-- The OD image is selected and applied (R437, R438). -/
def startOdImage (micros : Nat) : Act :=
  .dep fun s =>
    let p := s.get (Rg.preferred 1)
    tryOdSlot p (startEnds micros)
      (tryOdSlot (1 - p) (.seq (Act.bump Key.slotFallbacks) (startEnds micros)) (enterRecovery 0x13))

/-- Safety firmware starts. What it leaves in the partition's data memory is open (log entry 138). -/
def firmwareEnters : Act := .seq (.put Key.safetyState 1) (Act.draw (.put Rg.safetyData))

/-- Safety firmware runs, and the application cluster leaves reset and reports running (R437). -/
def firmwareRuns (micros : Nat) : Act :=
  Act.all [firmwareEnters, releaseMasks, .put Rg.appRunning 1, .put Key.startupState 8,
    .dep fun s =>
      if s.get Key.pufStatus != 1 then enterRecovery 0x12
      else if s.flag Rg.recoveryAsked then recoveryDue
      else startOdImage micros]

/-- MBIST (R424, R425). -/
def mbist (env : StartEnv) : Act :=
  let failed := (List.range 7).filter fun g => env.mbistFailed.any fun x => x.val == g
  Act.all [.put Key.mbistDuration (min env.mbistMicros 15000), .put Key.mbistRepairs (min env.mbistRepairs 0xFFFF),
    if failed.isEmpty then .put Key.mbistResult (if env.mbistRepairs = 0 then 1 else 2)
    else .seq (.put Key.mbistResult 3) (.put Key.mbistFailedGroup (failed.headD 0))]

/-- A cold start (R327, R432, R437, R467). `kind` is LastWakeKind, except 6 for one after SystemRestart. A failed injection test ends it in
fail-safe at StartupState 0x02 (R386, R398). -/
def coldStart (env : StartEnv) (kind : Nat) : Act :=
  Act.all [
    .put Key.deviceState 0, .put Key.lastWakeKind (if kind = 6 then 4 else kind), .put Rg.porstLow 0,
    .put Rg.sealCause (if kind = 6 then 6 else if kind = 0 then 1 else 2),
    .dep fun s => Act.when (kind != 6) (.put Rg.latentSince s.now), resumePipelines,
    driveFlashReset false, driveFlashReset true, .put Key.startupState 2, injectionTest env.injectionOk,
    Act.when env.injectionOk (Act.all [
      readLayout, .dep fun s => loadRoot (s.helperData env) env.puf (min env.pufMicros 3500), mbist env,
      .dep fun s =>
        if s.get Key.mbistResult = 3 then enterRecovery 0x10
        else .seq countTrial (selectFirmware (firmwareRuns env.totalMicros) (enterRecovery 0x11))])]

/-- COLD_START: PORST_N is released, and the start waits at StartupState 0x01 until the first 256 ticks have been counted (R464). -/
def coldStarts (env : StartEnv) : Act :=
  .dep fun s => Act.when (s.get Key.deviceState == 0 && s.get Key.startupState == 1)
    (if s.get Key.xtalStatus = 1 then .put Rg.porstLow 0
     else .seq (.put Key.lastWakeSource 255) (coldStart env (s.get Rg.startKind)))

end Sys2Proof.Machine
end

