-- ==== Sys2Proof/Machine/Sleep.lean ====
section
/-! DEFINITION. SleepEntry, Asleep and Waking (R356, R357, R378 to R382, R447). -/

namespace Sys2Proof.Machine

/-! ### SleepEntry -/

/-- Whether the retention image fits in its region (R26). -/
def State.imageWithin (s : State) : Bool := decide (s.imageSize ≤ 2097152)

/-- Whether the device can enter SleepEntry (R356, R464). -/
def State.maySleep (s : State) : Bool :=
  s.get Key.deviceState == 0 && !s.inReset && s.flag Key.deviceSleepEnable && s.get Key.xtalStatus != 2
    && ((List.range 32).any fun r => s.flag (Key.ringState r))
    && (List.range 32).all fun r => s.get (Key.ringState r) == 0 || s.get (Key.ringState r) == 4

/-- SLEEP_ENTRY (R356, R378, R420, R439). Whether the image fits is settled here (R26). -/
def entersSleep : Act :=
  .dep fun s => Act.when s.maySleep (Act.all [
    .put Rg.latentBase s.latentTime, .put Rg.imageFits (if s.imageWithin then 1 else 0), .put Key.deviceState 1,
    Act.zero [Rg.sleepFrom, Rg.heldSource, Rg.heldRings],
    abortTests 6, abortUpdate, sleepTry])

/-- The seal's closing ends; in SleepEntry the flush follows (R378). -/
def sealClosesOrSleeps : Act :=
  .dep fun s =>
    if s.get Key.deviceState = 1 && s.get Key.recordSealState = 1 && s.flag Rg.sleepFrom then
      Act.all [.put Key.recordSealPendingEnable 0, sealCloses, flushForSleep]
    else sealCloses

/-! ### Asleep -/

/-- The registers and octets that the Mitten needs while Asleep, beside those it keeps (R356, R365). -/
def asleepReg (k : Nat) : Bool :=
  keptReg k || (decide (k < 2 ^ 24) && (template (k / 256)).1 == 0x9100 && (k % 256 == 1 || k % 256 == 2))
def asleepCell (a : Nat) : Bool := keptCell a || a / 2 ^ 36 == 0xF0A3

/-- Waking begins (R356, R357, R460). -/
def beginWaking : Act :=
  .dep fun s => Act.all [.put Key.deviceState 3, .put Rg.wakingFrom s.now, .put Rg.inhLow 0]

/-- The device falls asleep (R356, R357, R378, R380); `kind` is LastWakeKind at the next wake. -/
def fallAsleep (kind : Nat) : Act :=
  .dep fun s => Act.all [
    loseUpdate, .put Rg.sleepKind kind, .put Rg.asleepTime s.vtime,
    resetDomains asleepReg asleepCell, .put Key.deviceState 2, .put Rg.inhLow 1,
    .dep fun t => Act.when (t.flag Rg.heldRings) beginWaking]

/-- The retention image, with the wrapping key (R26, R340): the kind of the next wake. -/
def writeImage (next : Nat → Act) : Act :=
  .dep fun s =>
    if !s.flag Key.retentionEnable then .seq .forget (next 2)
    else if !s.flag Rg.imageFits then Act.all [.forget, Act.bump Key.retentionOverflows, next 2]
    else Act.draw fun x =>
      let key := x % 2 ^ 256
      Act.all [.put Rg.wrapKey (key + 1),
        .retain retainedReg (retainedCell s) (s.wrappedKeys key) (s.safetySegment (s.get Key.firmwareSlotActive)), next 1]

/-- Whether every step of SleepEntry before the image has ended (R378). -/
def State.readyToSleep (s : State) : Bool :=
  s.get Key.deviceState == 1 && s.flag Rg.sleepFlushed && (List.range 256).all fun p => s.portState p != 4

/-- SLEEP_ENTRY_COMPLETE (R378). -/
def sleepCompletes : Act := .dep fun s => Act.when s.readyToSleep (writeImage fallAsleep)

/-- SLEEP_ENTRY_TIMEOUT (R380). -/
def sleepTimesOut : Act :=
  .dep fun s => Act.when (s.get Key.deviceState == 1 && s.flag Rg.sleepFrom
      && decide (s.get Rg.sleepFrom - 1 + ms (s.get Key.sleepEntryTimeout) ≤ s.now))
    (Act.all [.forget, Act.bump Key.failSafeSleeps, fallAsleep 3])

/-! ### Waking -/

/-- The slots that a wrapping key gives back; none where an unwrap fails (R340). -/
def unwrapKeys (key : Nat) : List (Nat × List Byte) → Option (List (Nat × List Byte))
  | [] => some []
  | (n, w) :: ws =>
    match aesUnwrap (beBytes 32 key) w, unwrapKeys key ws with
    | some row, some rows => some ((n, row) :: rows)
    | _, _ => none

/-- The restored SAs and freshness counters whose key slot is not among those restored stay unusable until they are installed again
(R326). -/
def markStale (slots : List Nat) : Act :=
  .dep fun s => .seq
    (Act.each (s.rowsWhere .live 0xF092 fun r => s.fldOn .live 0xF092 r F.saInUse
        && !slots.contains (s.fld .live 0xF092 r F.saKeySlot)) fun r => .put (Rg.staleSa r) 1)
    (Act.each (s.rowsWhere .live 0xF094 fun c => s.fldOn .live 0xF094 c F.freshLoaded && !slots.contains (s.fresh c F.freshKeySlot))
      fun c => .put (Rg.staleFresh c) 1)

/-- The keys of the image (R340): unwrapped and restored, or none of them and the root anew, but while JTAG is unlocked only at the next
cold start (R446). -/
def restoreKeys (env : StartEnv) (img : Saved) : Act :=
  .dep fun s =>
    match if env.keysUnwrap && s.flag Rg.wrapKey then unwrapKeys (s.get Rg.wrapKey - 1) img.keys else none with
    | some rows => .seq (Act.each rows fun r => Act.setRow .live 0xF098 r.1 0 r.2) (markStale (rows.map fun r => r.1))
    | none => .seq (Act.when (s.get Key.jtagState == 0) (loadRoot (s.helperData env) env.puf (min env.pufMicros 3500))) (markStale [])

/-- What the retention region gives back (R26). Of a StreamState row, these are the bound, Admitted and Suspended (R266). -/
def restoreImage (img : Saved) : Act :=
  Act.all [Act.each img.regs fun c => .put c.1 c.2, Act.each img.live fun c => .cell .live c.1 c.2,
    Act.each img.fair fun c => .cell .fair c.1 c.2, .discard,
    .dep fun s => Act.each (s.listedRows .live 0xF077) fun x => Act.setF .live 0xF077 x F.stBlocked 0]

/-- Whether the safety segment of an image passes its check (R447): its SHA-256 digest is the one that measured boot recorded. -/
def Saved.intact (img : Saved) : Bool := beNat (sha256 img.segment) == Store.get regDefault img.regs Rg.segmentDigest

/-- Every bucket of R155 is full at the restored bursts (R164). -/
def fillBuckets : Act :=
  .dep fun s => .seq (Act.each (List.range 32) fun r => .put (Rg.reasonTok r) (1000 * s.fld .live 0xF048 r F.exrBurst + 1))
    (.put Rg.aggregateTok (1000 * s.get Key.exceptionAggregateBurst + 1))

/-- XSPI_RESET_N stays high through a wake with retention (R467). Which mode the flash then runs in no rule says, so that it is open
(log entry 128); the dummy cycles are those of the layout descriptor (R484). -/
def flashAwakes : Act :=
  .seq (.put Rg.xspiReset 1) (.dep fun s => Act.drawIn 0 (if descriptorFits s.layoutDescriptor then 1 else 0) fun m =>
    .seq (.put Rg.flashMode m) (.put Rg.flashDummy (if m = 1 then beAt s.layoutDescriptor 4 1 else 0)))

/-- A wake with retention reaches Running (R381, R126, R236, R266, R293, R326, R352, R355, R385, R410, R429, R447, R450, R472). DESIGN
CHOICE (log entry 143): in a recovery state ports 0 to 231 stay Disabled (R444), whatever their restored PortEnable (R126). -/
def warmStart (env : StartEnv) (img : Saved) (rings : Nat) : Act :=
  Act.all [
    restoreImage img, restoreKeys env img, fillBuckets, flashAwakes, .put Key.updateState 0, .put Key.updateOwner 255,
    .put Key.deviceState 0, .put Key.lastWakeKind 1,
    .dep fun s => .put Rg.latentSince s.now, resumePipelines, injectionTest env.injectionOk,
    Act.when env.injectionOk firmwareEnters, releaseMasks,
    .dep fun s => .put Rg.portsEnabled (if s.recovering then 0 else 1), enablePages,
    .dep fun s => Act.all [
      .put Key.keyGuardMode (if s.recovering then 3 else if s.get Key.jtagState = 2 then 2 else 1),
      Act.when (s.get Key.jtagState == 1) (.put Key.sweepActive 1),
      Act.each ((List.range 256).filter fun p => s.get (Key.gatewayChannelEnable p) == 0) fun p =>
        .put (Key.gatewayChannelState p) 0,
      Act.each ((List.range 256).filter fun p => s.fldOn .fair 0xF060 p F.ptimGate) gateConfigure,
      Act.each ((List.range 32).filter fun r => s.flag (Key.ringEnable r)) fun r =>
        .seq (.put (Key.ringState r) 4) (Act.each (s.ringPorts r) fun p => .seq (.put (Rg.lowPower p) 1) (.put (Rg.stepDone p) 1)),
      Act.each ((List.range 256).filter fun p => s.flag (Key.portEnable p) && (!s.recovering || decide (232 ≤ p))) enterStarting,
      Act.each ((members 32 rings).filter fun r => s.flag (Key.ringEnable r)) ordinaryWake,
      Act.when (s.flag Key.recordSealEnable) enterSeal]]

/-- DEVICE_WAKE (R236, R357, R381, R382, R447): with the retention image where it reads back unaltered and the safety
segment passes its check, else a cold start. -/
def wakes (env : StartEnv) : Act :=
  .dep fun s => Act.when (s.get Key.deviceState == 3) (Act.all [
    resetDomains keptReg keptCell,
    .clock s.now (vehicle (s.get Rg.asleepTime + 2000000000 * env.ticks)),
    .put Key.lastWakeSource (if s.flag Rg.heldSource then s.get Rg.heldSource - 1 else 255),
    .put Key.lastSleepDuration (2000000000 * env.ticks / 65536),
    .put Key.lastWakeLatency (min ((s.now - s.get Rg.wakingFrom) / 65536) (2 ^ 32 - 1)),
    Act.bump Key.deviceWakes, Act.zero [Rg.sleepFrom, Rg.heldSource, Rg.heldRings],
    match s.saved with
    | some img => if env.segmentOk && img.intact then warmStart env img (s.get Rg.heldRings) else coldStart env 2
    | none => coldStart env (if s.get Rg.sleepKind = 3 then 3 else 2),
    .put Rg.wrapKey 0])

end Sys2Proof.Machine
end

