-- ==== Sys2Proof/Machine/Pins.lean ====
section
/-! DEFINITION. Events at the pins (R373, R374, R459 to R470): wake inputs, supplies, the crystal, PCIe reset and the pulse per
second. -/

namespace Sys2Proof.Machine

/-! ### Wake inputs -/

/-- The enabled rings that an input names. -/
def State.wakeTargets (s : State) (i : Nat) : List Nat := (s.inputRings i).filter fun r => s.flag (Key.ringState r)

/-- A wake of an input (R356, R357, R366, R374, R382): it is the wake source where no wake request is held yet. -/
def inputWakes (i : Nat) : Act :=
  .dep fun s =>
    let rings := s.wakeTargets i
    let hold := Act.seq (Act.when (!s.flag Rg.heldRings && !rings.isEmpty) (.put Rg.heldSource (i + 1)))
      (Act.each rings fun r => .dep fun t => .put Rg.heldRings (t.get Rg.heldRings ||| 2 ^ r))
    match s.get Key.deviceState with
    | 0 => Act.each (s.inputRings i) wakeRequest
    | 2 => Act.when (!rings.isEmpty) (.seq hold beginWaking)
    | _ => hold

/-- An activation (R373, R374); while PORST_N is low the inputs are not watched (R455). -/
def inputActivates (i : Nat) : Act :=
  .dep fun s => Act.when (!s.inReset && s.wakeIn i F.wakeEnable == 1 && s.wakeIn i F.wakeActive == 0) (Act.all [
    Act.setF .live 0xF0A3 i F.wakeActive 1, Act.bumpF .live 0xF0A3 i F.wakeActivations, .put (Rg.inputOn i) (s.now + 1),
    if s.wakeIn i F.wakeMasked = 1 then .skip
    else if 16 ≤ s.recentWakes i then maskInput i 1
    else Act.all [.put (Rg.inputWake i (s.wakeSlot i)) (s.now + 1), inputWakes i],
    inputReview i])

/-! ### Supplies and clocks -/

/-- VMITTEN and VIO33 have reached their ranges: INH_OUT is driven high (R460), the crystal's ticks count anew (R464), and the
fail-safe record, which the removal of VMITTEN cleared, reads 0x00 (R399; log entry 134). -/
def supplyRises : Act := Act.all [.put Rg.inhLow 0, .put Key.xtalStatus 1, .put Key.failSafeCause 0]

/-- The first 256 ticks have been counted, or 256 in succession after a stop (R464). -/
def crystalRuns : Act := .put Key.xtalStatus 0

/-- No tick for 250 µs in Running (R464). -/
def crystalStops : Act :=
  .dep fun s => Act.when (s.get Key.deviceState == 0 && !s.inReset && s.get Key.xtalStatus == 0) (.put Key.xtalStatus 2)

/-! ### PCIe -/

/-- PCIE_PERST_N changes (R113, R314, R465): low resets the endpoint. -/
def perst (high : Bool) : Act :=
  .seq (.put Rg.perstHigh (if high then 1 else 0))
    (Act.when (!high) (Act.all [Act.zero [Rg.pcieLink, Rg.busMaster], maskHost, servingReview true]))

/-- The link reaches L0 (R113, R465). -/
def pcieTrained : Act :=
  .dep fun s => Act.when (s.flag Rg.perstHigh && decide (7 ≤ s.get Key.startupState) && s.operates)
    (.seq (.put Rg.pcieLink 1) (servingReview false))

/-- The host sets or clears bus mastering (R113, R314). -/
def busMastering (set : Bool) : Act :=
  .dep fun s => Act.when (s.flag Rg.perstHigh && s.flag Rg.pcieLink)
    (Act.all [.put Rg.busMaster (if set then 1 else 0), maskHost, servingReview true])

/-! ### The pulse per second -/

/-- The pins that carry the pulse (R470). -/
def State.pulsePins (s : State) : Nat := s.get Key.gpioDirection &&& s.get Key.ppsOutput

/-- Whether vehicle time is within 5 ns of a whole second. -/
def State.atSecond (s : State) : Bool := decide ((s.vtime + ns 5) % ns 1000000000 ≤ ns 10)

/-- A pulse begins as vehicle time reaches a whole second (R470). A pulse that still runs keeps its width from its own rising
edge, and the new edge finds the pins high. -/
def pulseRises : Act :=
  .dep fun s => Act.when (s.operates && s.pulsePins != 0 && s.atSecond)
    (Act.all [.put Rg.ppsFrom (s.now + 1), .put Rg.ppsPins s.pulsePins, .emit (.signal 0 sigPps s.pulsePins)])

/-- A pulse ends after PpsWidth (R470). -/
def pulseFalls : Act :=
  .dep fun s => Act.when (s.flag Rg.ppsFrom && decide (s.get Rg.ppsFrom - 1 + ns (s.get Key.ppsWidth) ≤ s.now))
    (Act.all [Act.zero [Rg.ppsFrom, Rg.ppsPins], .emit (.signal 0 sigPps 0)])

end Sys2Proof.Machine
end

