-- ==== Sys2Proof/Machine/IsoTp.lean ====
section
/-! DEFINITION. The ISO 15765-2 transport of the remote protocol on CAN (R5, R69, R83; log entries 38, 126): the segments of an
answer, and flow control in both directions. -/

namespace Sys2Proof.Machine

/-- TX_DL of the frames that the OD service sends (R69, R83). -/
def State.txDl (s : State) : Nat := if s.get Key.canFrameFormat = 0 then 8 else 64

/-- A CAN frame of the transport with CanResponseId (R69, R83); a CAN FD frame is padded to a data length that exists. DESIGN
CHOICE (log entry 153): a CAN FD frame is sent with BRS (R105). -/
def isoSend (port dl : Nat) (data : List Byte) : Act :=
  .dep fun s =>
    let fd := dl != 8
    let n := fdDlc data.length
    let body := if fd then padTo (fdLengths.getD n 64) 0xCC#8 data else data
    let kind := if fd then 2 else 1
    let ident := s.get Key.canResponseId + s.get Key.canIdFormat * 2 ^ 31
    answerFrame kind port (mkCell kind 245 ident (if fd then 2 else 0) 0 0 n 0 s.vtime body)

/-- The first frame of a PDU, SingleFrame or FirstFrame, and the octets of the PDU that it carries. -/
def isoFirst (dl : Nat) (pdu : List Byte) : List Byte × Nat :=
  let n := pdu.length
  if n ≤ 7 then (beBytes 1 n ++ pdu, n)
  else if dl = 64 && n ≤ 62 then (beBytes 2 n ++ pdu, n)
  else (beBytes 2 (0x1000 + n) ++ pdu.take (dl - 2), dl - 2)

/-- Sends a PDU on a CAN port. What is left of an earlier one there is given up. -/
def isoStart (port : Nat) (pdu : List Byte) : Act :=
  .dep fun s =>
    let dl := s.txDl
    let first := isoFirst dl pdu
    Act.all [.put (Rg.isoText port) (leNat pdu), .put (Rg.isoLen port) pdu.length, .put (Rg.isoPos port) first.2,
      .put (Rg.isoNext port) 1, .put (Rg.isoDl port) dl, isoSend port dl first.1]

/-- The ConsecutiveFrames that follow, at most `n`. -/
def isoContinue (port : Nat) : Nat → Act
  | 0 => .skip
  | n + 1 => .dep fun s =>
    let pos := s.get (Rg.isoPos port)
    let dl := s.get (Rg.isoDl port)
    let pdu := leBytes (s.get (Rg.isoLen port)) (s.get (Rg.isoText port))
    if pdu.length ≤ pos then .skip
    else Act.all [.put (Rg.isoPos port) (pos + (dl - 1)), .put (Rg.isoNext port) ((s.get (Rg.isoNext port) + 1) % 16),
      isoSend port dl (beBytes 1 (0x20 + s.get (Rg.isoNext port)) ++ (pdu.drop pos).take (dl - 1)), isoContinue port n]

/-- A FlowControl frame of the client: ContinueToSend with its block size, Wait, or anything else, which ends the transmission. -/
def isoFlow (port : Nat) (data : List Byte) : Act :=
  .dep fun s =>
    match beAt data 0 1 % 16 with
    | 0 => isoContinue port (if beAt data 1 1 = 0 then s.get (Rg.isoLen port) else beAt data 1 1)
    | 1 => .skip
    | _ => .put (Rg.isoPos port) (s.get (Rg.isoLen port))

/-- The FlowControl frame of the OD service (R83): ContinueToSend, IsoTpBlockSize, IsoTpStMin. A block begins. -/
def isoGrant (port : Nat) : Act :=
  .dep fun s => .seq (.put (Rg.isoBlock port) (s.get Key.isoTpBlockSize))
    (isoSend port s.txDl (beBytes 1 0x30 ++ beBytes 1 (s.get Key.isoTpBlockSize) ++ beBytes 1 (s.get Key.isoTpStMin)))

/-- A ConsecutiveFrame of a request: a wrong sequence number gives the reception up, and the end of a block asks for the next. -/
def isoReceive (port : Nat) (data : List Byte) : Act :=
  .dep fun s =>
    let left := s.get (Rg.isoLeft port) - (data.length - 1)
    if s.get (Rg.isoLeft port) = 0 then .skip
    else if beAt data 0 1 % 16 != s.get (Rg.isoAwait port) then .put (Rg.isoLeft port) 0
    else Act.all [.put (Rg.isoLeft port) left, .put (Rg.isoAwait port) ((s.get (Rg.isoAwait port) + 1) % 16),
      .put (Rg.isoBlock port) (s.get (Rg.isoBlock port) - 1),
      Act.when (left != 0 && s.get (Rg.isoBlock port) == 1) (isoGrant port)]

/-- A CAN frame of a client has reached the OD service (R69, R70). -/
def isoArrives (port : Nat) (data : List Byte) : Act :=
  match data, beAt data 0 1 / 16 with
  | [], _ => .skip
  | _, 0 => .put (Rg.isoLeft port) 0
  | _, 1 =>
    let left := beAt data 0 2 % 4096 - (data.length - 2)
    Act.all [.put (Rg.isoLeft port) left, .put (Rg.isoAwait port) 1, Act.when (left != 0) (isoGrant port)]
  | _, 2 => isoReceive port data
  | _, 3 => isoFlow port data
  | _, _ => .skip

end Sys2Proof.Machine
end

