-- ==== Sys2Proof/Machine/Remote.lean ====
section
/-! DEFINITION. The remote OD protocol (R69 to R82). -/

namespace Sys2Proof.Machine

/-! ### PDUs -/

/-- The fields of a PDU's header (R71). -/
def pduType (b : List Byte) : Nat := beAt b 0 1 % 16
def pduSession (b : List Byte) : Nat := beAt b 1 1
def pduSequence (b : List Byte) : Nat := beAt b 4 4

/-- Whether a PDU has a Version, Length and size that R71 allows. -/
def pduFits (b : List Byte) : Bool :=
  decide (8 ≤ b.length) && decide (b.length ≤ 1472) && beAt b 0 1 / 16 == 1 && beAt b 2 2 == b.length

/-- A PDU of the Siorper (R71, R72), with a tag where a key is given. -/
def makePdu (typ session sequence : Nat) (body : List Byte) (key : Option (List Byte)) : List Byte :=
  let n := 8 + body.length + (if key.isSome then 16 else 0)
  let b := beBytes 1 (16 + typ) ++ beBytes 1 session ++ beBytes 2 n ++ beBytes 4 sequence ++ body
  match key with
  | some k => b ++ cmac k b
  | none => b

/-- Whether the tag of a PDU is right under a key (R72). -/
def tagFits (key : List Byte) (b : List Byte) : Bool :=
  decide (24 ≤ b.length) && cmac key (b.take (b.length - 16)) == b.drop (b.length - 16)

/-- The body of a PDU that carries a tag. -/
def taggedBody (b : List Byte) : List Byte := (b.take (b.length - 16)).drop 8

/-! ### Sending -/

/-- An answer of the OD service (R69): to the request's source address, on its port, with its tag, or by
ISO 15765-2 with CanResponseId. It passes the path of R10 from port 245 on (R70). -/
def answerPdu (port : Nat) (via : Via) (pdu : List Byte) : Act :=
  .seq (.emit (.pdu port pdu)) (match via with
    | .isoTp => isoStart port pdu
    | .ethernet source tag => .dep fun s =>
      let sa := s.get Key.odStationAddress
      let frame := match tag with
        | none => ownEthernet source.toNat sa 0x88B5 pdu
        | some t => ownEthernet source.toNat sa 0x8100 (beBytes 2 t.toNat ++ beBytes 2 0x88B5 ++ pdu)
      answerFrame 0 port frame)

/-- A Refuse PDU with a status (R72), at most 10 on a port in a second (R76). -/
def refusePdu (port : Nat) (via : Via) (session status : Nat) : Act :=
  .dep fun s =>
    let n := s.get (Rg.refuseCount port)
    let full := decide (10 ≤ n) && decide (s.now < s.get (Rg.refuseAt port (n % 10)) + ms 1000)
    Act.when (!full) (Act.all [.put (Rg.refuseAt port (n % 10)) s.now, .put (Rg.refuseCount port) (n + 1),
      answerPdu port via (makePdu 9 session 0 (beBytes 1 status) none)])

/-- A dropped PDU that counts (R71, R76, R77). -/
def badPdu : Act := Act.bump Key.badPduCount

/-! ### Receiving -/

/-- Whether the remote protocol is served on a port over a transport (R69). -/
def State.transportOn (s : State) (port : Nat) : Via → Bool
  | .ethernet _ _ => s.isEthernet port && decide (port < 64) && (s.get Key.ethPortMask).testBit port
  | .isoTp =>
    let c := s.attachment port - 64
    s.kind port == 4 && (if c < 64 then (s.get Key.canChannelMaskLow).testBit c else (s.get Key.canChannelMaskHigh).testBit (c - 64))

/-- Whether the OD service takes remote PDUs at all (R21, R83). -/
def State.remoteServed (s : State) : Bool :=
  s.flag Key.remoteOdEnable && s.flag Rg.appRunning && s.operates

/-- The next PDU exceeds RemoteOdRateLimit (R70). -/
def State.rateExceeded (s : State) : Bool :=
  let n := s.get Rg.pduCount
  let limit := s.get Key.remoteOdRateLimit
  decide (limit ≤ n) && decide (s.now < s.get (Rg.pduAt ((n - limit) % 32768)) + ms 1000)

/-- A received PDU: dropped where it is not served (R83, R419) or comes too often (R70), counted where it is bad (R71), else handled.
DESIGN CHOICE (log entry 154): RemoteOdRateLimit counts the PDUs of every message type that a client sends. -/
def receivePdu (port : Nat) (via : Via) (typ : Nat) (pdu : List Byte) (handle : Act) : Act :=
  .dep fun s =>
    if !s.remoteServed || !s.transportOn port via || s.flag (Rg.isolated port) then .skip
    else if s.rateExceeded then Act.bump Key.remoteOdRateDrops
    else Act.all [.put (Rg.pduAt (s.get Rg.pduCount % 32768)) s.now, .put Rg.pduCount (s.get Rg.pduCount + 1),
      if !pduFits pdu || pduType pdu != typ then badPdu else handle]

/-- A CAN frame leaves port 245 for the OD service (R69, R70): one with CanRequestId from an enabled channel belongs to the ISO
15765-2 transport. What a whole PDU does is the command of its type. -/
def odFrame : Act :=
  .dep fun s =>
    match s.sending 245 with
    | none => .skip
    | some c => match s.frame? c.frame with
      | none => .skip
      | some f =>
        Act.when (f.complete && (cellKind c.sent == 1 || cellKind c.sent == 2) && s.remoteServed
            && s.transportOn (cellSource c.sent) .isoTp
            && cellIdent c.sent == s.get Key.canRequestId + s.get Key.canIdFormat * 2 ^ 31)
          (isoArrives (cellSource c.sent) (cellData c.sent))

/-! ### Sessions -/

/-- The bit of Transports that a transport needs (R81). -/
def transportBit : Via → Nat
  | .ethernet _ _ => 0
  | .isoTp => 1

/-- The sessions that are open or wait for Confirm. -/
def State.heldSessions (s : State) : List Nat := (List.range 32).filter fun k => s.session k F.rsessState != 0

/-- The key of a client row (R73, R332). -/
def State.clientKey (s : State) (row : Nat) : Option (List Byte) := s.aesKey (s.fld .live 0xF002 row F.clientKeySlot) 2

/-- The key of an open session; none once a tamper event has cleared it (R339). -/
def State.sessionKey (s : State) (k : Nat) : Option (List Byte) :=
  match s.get (Rg.sessionKey k) with
  | 0 => none
  | n + 1 => some (beBytes 16 n)

/-- Why an Open is refused (R75, R332); none for a Challenge. -/
def State.openFault (s : State) (row : Nat) (via : Via) : Option Nat :=
  if 64 ≤ row || !s.fldOn .live 0xF002 row F.clientEnable
      || !(s.fld .live 0xF002 row F.clientTransports).testBit (transportBit via) || (s.clientKey row).isNone then some 6
  else if 32 ≤ s.heldSessions.length then some 7
  else if 4 ≤ (s.heldSessions.filter fun k => s.session k F.rsessClient == row).length then some 7
  else none

/-- A session is active (R80, R82). -/
def touchSession (k : Nat) : Act :=
  .dep fun s => .seq (.put (Rg.activeAt k) s.now) (Act.setF .live 0xF003 k F.rsessActive s.vns)

/-- Open (R74, R75). Which free session number is assigned is open, and so is the device nonce. DESIGN CHOICE
(log entry 114): the Sequence number of Challenge, Accept and Closed is 0, and SessionRefusals counts every refused Open and nothing
else, also where R76 leaves the Refuse unsent. -/
def openPdu (port : Nat) (via : Via) (b : List Byte) : Act :=
  .dep fun s =>
    let row := beAt b 8 1
    let cn := octetsAt b 9 16
    if b.length != 25 then badPdu
    else match s.openFault row via with
      | some st => .seq (Act.bump Key.sessionRefusals) (refusePdu port via 0xFF st)
      | none =>
        let idle := (List.range 32).filter fun k => s.session k F.rsessState == 0
        Act.drawIn 0 (idle.length - 1) fun i => Act.drawIn 0 (2 ^ 128 - 1) fun dn =>
          let k := idle.getD i 0
          Act.all [endRemote k, Act.setF .live 0xF003 k F.rsessState 1, Act.setF .live 0xF003 k F.rsessClient row,
            Act.setF .live 0xF003 k F.rsessPort port, touchSession k, .put (Rg.challengeAt k) s.now,
            .put (Rg.clientNonce k) (beNat cn), .put (Rg.deviceNonce k) dn,
            answerPdu port via (makePdu 2 k 0 (cn ++ beBytes 16 dn) (s.clientKey row))]

/-- Confirm (R73, R74). DESIGN CHOICE (log entry 114): one whose session does not wait for it, whose nonces are others, or that comes
after 1 s, is no valid Confirm; it is dropped, neither answered nor counted. -/
def confirmPdu (port : Nat) (via : Via) (b : List Byte) : Act :=
  .dep fun s =>
    let k := pduSession b
    if b.length != 56 then badPdu
    else if 32 ≤ k || s.session k F.rsessState != 1 then .skip
    else match s.clientKey (s.session k F.rsessClient) with
      | none => badPdu
      | some ck =>
        let nonces := beBytes 16 (s.get (Rg.clientNonce k)) ++ beBytes 16 (s.get (Rg.deviceNonce k))
        if !tagFits ck b then badPdu
        else if taggedBody b != nonces || s.get (Rg.challengeAt k) + ms 1000 < s.now then .skip
        else
          let key := kdf ck (ascii "SiorperOD") nonces 128
          Act.all [.put (Rg.sessionKey k) (beNat key + 1), Act.setF .live 0xF003 k F.rsessState 2,
            Act.setF .live 0xF003 k F.rsessSeq 0, touchSession k,
            answerPdu port via (makePdu 4 k 0 (beBytes 4 (s.get Key.sessionIdleTimeout)) (some key))]

/-- An operation of a Request with the rights of its client (R78, R79). An opcode that R64 does not name has no stated status: it is
one of the codes of R9. -/
def runOp (k : Fin 32) (o : Op) : Act :=
  let path := Path.remote k
  let off := 8 * o.off
  let sketch := o.flags % 2 == 1
  if o.len = 0 || 32 < o.len then .answer 1 []
  else match o.opcode with
    | 1 => scalarRead path o.idx o.sub
    | 2 => scalarWrite path o.idx o.sub (leNat (o.data.take 8))
    | 3 => rowRead path o.idx o.row sketch off (8 * o.len)
    | 4 => rowWrite path o.idx o.row sketch off o.data
    | _ => Act.drawIn 0 7 fun x => .answer x []

/-- The operations in order; `finish` gets the results. A result that a PDU of 1,472 octets does not hold is left out, and the
status of its operation is open among the codes of R9. DESIGN CHOICE (log entry 114): an operation that follows one which closed its
own session still runs, with the rights that the freed session row gives. -/
def runOps (k : Fin 32) (finish : List Byte → Act) : List Op → List Byte → Act
  | [], out => finish out
  | o :: os, out => .seq (runOp k o) (.dep fun s =>
      if out.length + 2 + s.data.length + 2 * os.length ≤ 1448 then
        runOps k finish os (out ++ beBytes 1 s.status ++ beBytes 1 (s.data.length / 8) ++ s.data)
      else Act.drawIn 0 7 fun x => runOps k finish os (out ++ beBytes 1 x ++ beBytes 1 0))

/-- The Response to a Request is sent and stored (R77, R78). -/
def respond (port : Nat) (via : Via) (k : Nat) (key : List Byte) (request : List Byte) (results : List Byte) : Act :=
  .dep fun s =>
    let pdu := makePdu 6 k (pduSequence request) results (some key)
    .seq (Act.when (s.session k F.rsessState == 2) (Act.all [
        .put (Rg.requestLen k) request.length, .put (Rg.requestText k) (leNat request),
        .put (Rg.responseLen k) pdu.length, .put (Rg.responseText k) (leNat pdu)]))
      (answerPdu port via pdu)

/-- A Request that is executed (R77): it becomes the last accepted. -/
def acceptRequest (port : Nat) (via : Via) (k : Fin 32) (key b : List Byte) (ops : List Op) : Act :=
  Act.all [Act.setF .live 0xF003 k.val F.rsessSeq (pduSequence b), touchSession k.val,
    runOps k (respond port via k.val key b) ops []]

/-- Request (R76 to R79). -/
def requestPdu (port : Nat) (via : Via) (b : List Byte) : Act :=
  .dep fun s =>
    let n := pduSession b
    if h : n < 32 then
      let k : Fin 32 := ⟨n, h⟩
      if s.session n F.rsessState != 2 then refusePdu port via n 6
      else match s.sessionKey n, parseOps 16 (taggedBody b) with
        | none, _ => badPdu
        | some key, ops =>
          if !tagFits key b then badPdu
          else match ops with
            | none => badPdu
            | some [] => badPdu
            | some ops =>
              let seq := pduSequence b
              let last := s.session n F.rsessSeq
              if seq = 0xFFFFFFFF then
                .seq (answerPdu port via (makePdu 6 n seq (ops.flatMap fun _ => [5#8, 0#8]) (some key))) (endRemote n)
              else if last < seq then acceptRequest port via k key b ops
              else if seq = last && s.get (Rg.requestLen n) = b.length && s.get (Rg.requestText n) = leNat b then
                .seq (touchSession n) (answerPdu port via (leBytes (s.get (Rg.responseLen n)) (s.get (Rg.responseText n))))
              else badPdu
    else refusePdu port via n 6

/-- Close (R76, R80). DESIGN CHOICE (log entry 114): a Close whose tag is right counts as one whatever stands between its header and
its tag. -/
def closePdu (port : Nat) (via : Via) (b : List Byte) : Act :=
  .dep fun s =>
    let k := pduSession b
    if 32 ≤ k || s.session k F.rsessState != 2 then refusePdu port via k 6
    else match s.sessionKey k with
      | none => badPdu
      | some key =>
        if !tagFits key b then badPdu
        else .seq (endRemote k) (answerPdu port via (makePdu 8 k 0 [] (some key)))

/-- No valid Confirm within 1 s (R74). -/
def confirmLate (k : Nat) : Act :=
  .dep fun s => Act.when (s.session k F.rsessState == 1 && decide (s.get (Rg.challengeAt k) + ms 1000 ≤ s.now)) (endRemote k)

/-- A session's idle time exceeds SessionIdleTimeout (R80). -/
def sessionIdles (k : Nat) : Act :=
  .dep fun s => Act.when (s.session k F.rsessState == 2
    && decide (s.get (Rg.activeAt k) + ms (s.get Key.sessionIdleTimeout) < s.now)) (endRemote k)

/-- The application cluster enters reset (R21, R113, R439). -/
def applicationStops : Act :=
  Act.all [.put Rg.appRunning 0, endRemotes fun _ => true, ownerGone 2, servingReview true]

/-- The application cluster runs again (R21, R113). -/
def applicationRuns : Act := .seq (.put Rg.appRunning 1) (servingReview false)

end Sys2Proof.Machine
end

