-- ==== Sys2Proof/Machine/CmdAccess.lean ====
section
/-! DEFINITION. Commands of the access paths: OD accesses, the host over PCIe and SPI, remote sessions (chapter 3). -/

namespace Sys2Proof.Machine

/-- OD_WRITE (R8). A write to an OD object that has no row of its own, judged against access rights, busy state and clamp rules. -/
def execOdWrite (dt : Nat) (path : Path) (idx : BitVec 16) (sub : BitVec 8) (value : BitVec 64) (s : State) : Host.Outcome State Fault Refusal :=
  command dt (scalarWrite path idx.toNat sub.toNat value.toNat) s

/-- HOST_SCALAR_WRITE (R51). A posted PCIe write to a BAR0 slot is applied per slot, or dropped and logged. -/
def execHostScalarWrite (dt : Nat) (off : BitVec 27) (data : List Byte) (requester : BitVec 16) (s : State) : Host.Outcome State Fault Refusal :=
  command dt (hostWrite off.toNat requester.toNat data) s

/-- HOST_SCALAR_READ (R52). A PCIe read in BAR0 completes successfully, returning all ones and recording the failure when the access fails. -/
def execHostScalarRead (dt : Nat) (off : BitVec 27) (len : Nat) (s : State) : Host.Outcome State Fault Refusal :=
  command dt (hostRead off.toNat len) s

/-- HOST_ROW_WRITE (R56). A posted PCIe write in a BAR2 aperture is applied atomically within each table row it touches. -/
def execHostRowWrite (dt : Nat) (off : BitVec 30) (data : List Byte) (requester : BitVec 16) (s : State) : Host.Outcome State Fault Refusal :=
  command dt (postRows off.toNat requester.toNat data) s

/-- HOST_ROW_READ (R54). A PCIe read in a BAR2 aperture returns octets of the bound table's rows, or all ones when unbound. -/
def execHostRowRead (dt : Nat) (off : BitVec 30) (len : Nat) (s : State) : Host.Outcome State Fault Refusal :=
  command dt (hostRowsRead off.toNat len) s

/-- SPI_FRAME (R66). A complete SPI request frame is checked for CRC, opcode and length, and answered with marker 0x5A or 0xC3. -/
def execSpiFrame (dt : Nat) (octets : List Byte) (s : State) : Host.Outcome State Fault Refusal :=
  command dt (spiRequest octets) s

/-- SPI_FRAME_DISCARD (R68). Chip select deasserted before the last CRC octet discards the frame, and no access is made. -/
def execSpiFrameDiscard (dt : Nat) (_octets : List Byte) (s : State) : Host.Outcome State Fault Refusal :=
  command dt (spiDiscard) s

/-- READ_SCALAR (R64). Opcode 0x01 reads one scalar slot, from an SPI frame or as an operation of a remote Request. -/
def execReadScalar (dt : Nat) (path : Path) (idx : BitVec 16) (sub : BitVec 8) (s : State) : Host.Outcome State Fault Refusal :=
  command dt (scalarRead path idx.toNat sub.toNat) s

/-- WRITE_SCALAR (R64). Opcode 0x02 writes one scalar slot, from an SPI frame or as an operation of a remote Request. -/
def execWriteScalar (dt : Nat) (path : Path) (idx : BitVec 16) (sub : BitVec 8) (value : BitVec 64) (s : State) : Host.Outcome State Fault Refusal :=
  command dt (scalarWrite path idx.toNat sub.toNat value.toNat) s

/-- READ_ROW (R64). Opcode 0x03 reads words of a table row in the selected generation. -/
def execReadRow (dt : Nat) (path : Path) (idx : BitVec 16) (row : BitVec 24) (sketch : Bool) (off : Nat) (len : Nat) (s : State) :
    Host.Outcome State Fault Refusal :=
  command dt (rowRead path idx.toNat row.toNat sketch off len) s

/-- WRITE_ROW (R64). Opcode 0x04 writes words of a table row, reaching the Sketch for a staged table. -/
def execWriteRow (dt : Nat) (path : Path) (idx : BitVec 16) (row : BitVec 24) (sketch : Bool) (off : Nat) (data : List Byte) (s : State) :
    Host.Outcome State Fault Refusal :=
  command dt (rowWrite path idx.toNat row.toNat sketch off data) s

/-- OPEN (R75). A received Open PDU is answered with Challenge or Refuse, and a session number is assigned. -/
def execOpenSession (dt : Nat) (port : Port) (via : Via) (pdu : List Byte) (s : State) : Host.Outcome State Fault Refusal :=
  command dt (receivePdu port.val via 1 pdu (openPdu port.val via pdu)) s

/-- CONFIRM (R74). A valid Confirm derives the session key, opens the session and is answered with Accept. -/
def execConfirm (dt : Nat) (port : Port) (via : Via) (pdu : List Byte) (s : State) : Host.Outcome State Fault Refusal :=
  command dt (receivePdu port.val via 3 pdu (confirmPdu port.val via pdu)) s

/-- REQUEST (R77). A Request PDU is checked for tag and sequence number and its operations are run in order. -/
def execRequest (dt : Nat) (port : Port) (via : Via) (pdu : List Byte) (s : State) : Host.Outcome State Fault Refusal :=
  command dt (receivePdu port.val via 5 pdu (requestPdu port.val via pdu)) s

/-- CLOSE (R80). A received Close frees the session and is answered with Closed. -/
def execCloseSession (dt : Nat) (port : Port) (via : Via) (pdu : List Byte) (s : State) : Host.Outcome State Fault Refusal :=
  command dt (receivePdu port.val via 7 pdu (closePdu port.val via pdu)) s

/-- CONFIRM_TIMEOUT (R74). A session with no valid Confirm within 1 s of its Challenge is freed. -/
def execConfirmTimeout (dt : Nat) (session : Fin 32) (s : State) : Host.Outcome State Fault Refusal :=
  command dt (powered (confirmLate session.val)) s

/-- SESSION_IDLE_TIMEOUT (R80). A session whose idle time exceeds SessionIdleTimeout closes. -/
def execSessionIdleTimeout (dt : Nat) (session : Fin 32) (s : State) : Host.Outcome State Fault Refusal :=
  command dt (powered (sessionIdles session.val)) s

/-- SESSION_FORCE_CLOSE (R80). The command closes the named remote session. -/
def execSessionForceClose (dt : Nat) (path : Path) (value : BitVec 64) (s : State) : Host.Outcome State Fault Refusal :=
  command dt (scalarWrite path 0x1D00 19 value.toNat) s

/-- REMOTE_OD_ENABLE (R83). Writing 0 to RemoteOdEnable closes every session, and remote PDUs are then dropped. -/
def execRemoteOdEnable (dt : Nat) (path : Path) (value : BitVec 64) (s : State) : Host.Outcome State Fault Refusal :=
  command dt (scalarWrite path 0x1D00 1 value.toNat) s

/-- APPLICATION_RESET (R21). The application cluster enters reset or restarts, closing remote sessions and refusing its commands with 0x03. -/
def execApplicationReset (dt : Nat) (s : State) : Host.Outcome State Fault Refusal :=
  command dt (powered applicationStops) s

/-- APPLICATION_RUNNING (R113). The application cluster runs again, and its internal ports may become Up. -/
def execApplicationRunning (dt : Nat) (s : State) : Host.Outcome State Fault Refusal :=
  command dt (powered applicationRuns) s

end Sys2Proof.Machine
end

