-- ==== Sys2Proof/Machine/CmdCommit.lean ====
section
/-! DEFINITION. Commands of the commit (chapter 3). -/

namespace Sys2Proof.Machine

/-- SKETCH_COMMIT (R43). The command freezes the Sketch and starts the admission and gateway checks, or is refused with 0x03. -/
def execSketchCommit (dt : Nat) (path : Path) (value : BitVec 64) (s : State) : Host.Outcome State Fault Refusal :=
  command dt (scalarWrite path 0x1F10 1 value.toNat) s

/-- COMMIT_CHECK_END (R43). The checks end, and the commit is Refused, Approved or refused for a passed CommitTime. -/
def execCommitCheckEnd (dt : Nat) (admissionMicros : Nat) (gatewayMicros : Nat) (s : State) : Host.Outcome State Fault Refusal :=
  command dt (powered (.seq (checksEnd admissionMicros gatewayMicros) sleepTry)) s

/-- SWAP (R46). At the swap instant every staged table takes the Sketch as its Fair copy, and FairCopyGeneration increases. -/
def execSwap (dt : Nat) (s : State) : Host.Outcome State Fault Refusal :=
  command dt (powered swapDue) s

/-- REALIGNING_END (R46). Realigning ends once the Sketch equals the Fair copy and the old generation is retired, and CommitState becomes Idle. -/
def execRealigningEnd (dt : Nat) (s : State) : Host.Outcome State Fault Refusal :=
  command dt (powered (.seq realigned sleepTry)) s

/-- GENERATION_RETIRE (R161). The previous generation is retired when no tagged frame remains, or at 50 µs, dropping stragglers. -/
def execGenerationRetire (dt : Nat) (s : State) : Host.Outcome State Fault Refusal :=
  command dt (powered retire) s

/-- SKETCH_DISCARD (R47). The command resets the Sketch to the Fair copy and cancels an Approved swap. -/
def execSketchDiscard (dt : Nat) (path : Path) (value : BitVec 64) (s : State) : Host.Outcome State Fault Refusal :=
  command dt (scalarWrite path 0x1F10 7 value.toNat) s

/-- COMMIT_TIME (R45). A write of CommitTime or CommitTimeFrac while Approved moves the scheduled swap. -/
def execCommitTime (dt : Nat) (path : Path) (frac : Bool) (value : BitVec 64) (s : State) : Host.Outcome State Fault Refusal :=
  command dt (scalarWrite path 0x1F10 (if frac then 3 else 2) value.toNat) s

end Sys2Proof.Machine
end

