-- ==== Sys2Proof/Machine/CmdPorts.lean ====
section
/-! DEFINITION. Commands of ports and attachments (chapter 4). -/

namespace Sys2Proof.Machine

/-- ATTACHMENT_BINDING (R88). A write of AttachmentBinding swaps the bindings of two Disabled slices, or is refused with 0x03. -/
def execAttachmentBinding (dt : Nat) (path : Path) (port : Port) (value : BitVec 64) (s : State) : Host.Outcome State Fault Refusal :=
  command dt (scalarWrite path (0x2000 + 16 * port.val) 2 value.toNat) s

/-- PORT_ENABLE (R110). A write of PortEnable moves the port between Disabled, Starting and Flushing, or sets a pending enable. -/
def execPortEnable (dt : Nat) (path : Path) (port : Port) (value : BitVec 64) (s : State) : Host.Outcome State Fault Refusal :=
  command dt (scalarWrite path (0x2000 + 16 * port.val) 3 value.toNat) s

/-- FLUSH_COMPLETE (R116). The flush ends, and the port enters Starting or Disabled. -/
def execFlushComplete (dt : Nat) (port : Port) (s : State) : Host.Outcome State Fault Refusal :=
  command dt (powered (flushEnds port.val)) s

/-- LINK_UP (R111). The attachment meets its link-up condition, and the Starting port becomes Up. -/
def execLinkUp (dt : Nat) (port : Port) (reported : BitVec 8) (s : State) : Host.Outcome State Fault Refusal :=
  command dt (powered (linkComesUp port.val reported.toNat)) s

/-- LINK_LOST (R111). The attachment reports loss of link, and the Up port enters Flushing within 10 µs. -/
def execLinkLost (dt : Nat) (port : Port) (s : State) : Host.Outcome State Fault Refusal :=
  command dt (powered (linkGoes port.val)) s

/-- BUS_OFF (R98). A CAN controller goes bus-off, and the port enters Flushing. -/
def execBusOff (dt : Nat) (port : Port) (s : State) : Host.Outcome State Fault Refusal :=
  command dt (powered (goesBusOff port.val)) s

/-- SERVING_FUNCTION_STOPPED (R113). An internal port loses its Up condition and enters Flushing. -/
def execServingFunctionStopped (dt : Nat) (port : Port) (s : State) : Host.Outcome State Fault Refusal :=
  command dt (powered (functionStops port.val)) s

/-- KLINE_INIT (R103). The K-line channel performs its initialisation, repeated every 5 s until it succeeds. -/
def execKlineInit (dt : Nat) (port : Port) (success : Bool) (s : State) : Host.Outcome State Fault Refusal :=
  command dt (powered (klineInitialises port.val success)) s

/-- LIN_SLOT (R101). A LIN master slot starts: a header is sent with or without a published response, or the slot is empty. -/
def execLinSlot (dt : Nat) (port : Port) (s : State) : Host.Outcome State Fault Refusal :=
  command dt (powered (slotStarts port.val)) s

/-- LIN_HEADER (R102). A LIN slave receives a header and answers it from its queues or takes the response as a cell. -/
def execLinHeader (dt : Nat) (port : Port) (frameId : BitVec 6) (s : State) : Host.Outcome State Fault Refusal :=
  command dt (powered (headerArrives port.val frameId.toNat)) s

/-- J1708_COLLISION (R103). A read-back difference stops the J1708 message, counts a collision and competes again. -/
def execJ1708Collision (dt : Nat) (port : Port) (s : State) : Host.Outcome State Fault Refusal :=
  command dt (powered (collides port.val)) s

/-- ARBITRATION_LOST (R99). A CAN frame loses arbitration, and the transmit stage is chosen again. -/
def execArbitrationLost (dt : Nat) (port : Port) (s : State) : Host.Outcome State Fault Refusal :=
  command dt (powered (attemptFails port.val)) s

/-- CAN_ERROR_FRAME (R278). A CAN-family controller detects a bus error and an error frame ends the current frame, updating its error
counters and error state and failing a transmission attempt in progress. -/
def execCanErrorFrame (dt : Nat) (port : Port) (transmitting : Bool) (tec : BitVec 8) (rec : BitVec 8) (s : State) :
    Host.Outcome State Fault Refusal :=
  command dt (powered (canError port.val transmitting tec.toNat rec.toNat)) s

/-- VERIFY_MPACKET_RECEIVED (R222). A verify or respond mPacket of IEEE 802.3br verification arrives from the link partner, answering it
or moving VerifyStatus to succeeded. -/
def execVerifyMpacketReceived (dt : Nat) (port : Port) (respond : Bool) (s : State) : Host.Outcome State Fault Refusal :=
  command dt (powered (mpacketArrives port.val respond)) s

end Sys2Proof.Machine
end

