-- ==== Sys2Proof/Machine/CmdFrames.lean ====
section
/-! DEFINITION. Commands of frames: their path through the fabric and the transmission selection (chapters 5 to 7). -/

namespace Sys2Proof.Machine

/-- A transmission ends (R10, R190, R419), on port 245 after the OD service has taken the frame (R70); a port that a test waits for is
then isolated; else the next frame is selected, on Ethernet after the gap of 12 octets (R218). -/
def transmissionDone (p : Nat) : Act :=
  .seq (.seq (Act.when (p == 245) odFrame) (transmissionEnds p)) (.dep fun s => .seq (Act.when (s.sending p).isNone (isolate p))
    (selectPort p))

/-- FRAME_ARRIVAL (R10). A frame's first word arrives at an ingress attachment, and cell writing starts or the frame is discarded. -/
def execFrameArrival (dt : Nat) (port : Port) (rx : Rx) (s : State) : Host.Outcome State Fault Refusal :=
  command dt (powered (arrive port.val rx)) s

/-- LOOKAHEAD_COMPLETE (R192). The frame's lookahead is complete, and it takes a decision slot for steps 2 to 7. -/
def execLookaheadComplete (dt : Nat) (frame : Nat) (octets : List Byte) (s : State) : Host.Outcome State Fault Refusal :=
  command dt (powered (reselect (look frame octets))) s

/-- FRAME_TAIL (R131). The frame's last octet arrives, and the check sequence, tail checks and charge are settled. -/
def execFrameTail (dt : Nat) (frame : Nat) (rx : Rx) (how : RxEnd) (s : State) : Host.Outcome State Fault Refusal :=
  command dt (powered (reselect (tail frame rx how))) s

/-- RECIRCULATION (R159). Port 246 or 247 takes a queued copy into its second pass. -/
def execRecirculation (dt : Nat) (upper : Bool) (s : State) : Host.Outcome State Fault Refusal :=
  command dt (powered (reselect (recirculate (if upper then 247 else 246)))) s

/-- TRANSMISSION_END (R124). A copy has been sent, its entry ends, and the port selects its next frame. -/
def execTransmissionEnd (dt : Nat) (port : Port) (s : State) : Host.Outcome State Fault Refusal :=
  command dt (powered (transmissionDone port.val)) s

/-- ELIGIBILITY_TIME (R218). A head's eligibility time arrives, and the port's selection runs. -/
def execEligibilityTime (dt : Nat) (port : Port) (s : State) : Host.Outcome State Fault Refusal :=
  command dt (powered (eligibilityArrives port.val)) s

/-- GATE_ENTRY (R214). A gate control list entry or cycle starts, applying its gate states. -/
def execGateEntry (dt : Nat) (port : Port) (s : State) : Host.Outcome State Fault Refusal :=
  command dt (powered (entryStarts port.val)) s

/-- CONFIG_CHANGE (R216). At ConfigChangeTime the new gate control list starts at entry 0. -/
def execConfigChange (dt : Nat) (port : Port) (s : State) : Host.Outcome State Fault Refusal :=
  command dt (powered (configChanges port.val)) s

/-- PREEMPTION_POINT (R223). A preemptable frame stops at its preemption point, and the express frame starts after the gap. -/
def execPreemptionPoint (dt : Nat) (port : Port) (s : State) : Host.Outcome State Fault Refusal :=
  command dt (powered (preemptionComes port.val)) s

/-- VERIFY_ATTEMPT (R222). An IEEE 802.3br verification attempt is made every VerifyTime, up to 3. -/
def execVerifyAttempt (dt : Nat) (port : Port) (s : State) : Host.Outcome State Fault Refusal :=
  command dt (powered (verifyAttempts port.val)) s

/-- LIFETIME_EXPIRY (R278). A copy with no attempt running at its expiry instant is removed as a failure. -/
def execLifetimeExpiry (dt : Nat) (port : Port) (s : State) : Host.Outcome State Fault Refusal :=
  command dt (powered (lifetimesExpire port.val)) s

/-- OVERDUE_AT_HEAD (R261). Vehicle time passes a head copy's bound, and a delivery fault is raised. -/
def execOverdueAtHead (dt : Nat) (port : Port) (s : State) : Host.Outcome State Fault Refusal :=
  command dt (powered (overdueHeads port.val)) s

/-- QUEUE_DEPTH_SAMPLE (R259). Every 1.024 µs the depth of each queue is sampled into QueueDepthPeak. -/
def execQueueDepthSample (dt : Nat) (s : State) : Host.Outcome State Fault Refusal :=
  command dt (powered sampleDepths) s

/-- EXCEPTION_REFILL (R155). Every 1 ms the per-reason and aggregate exception token buckets are refilled. -/
def execExceptionRefill (dt : Nat) (s : State) : Host.Outcome State Fault Refusal :=
  command dt (powered refillExceptions) s

end Sys2Proof.Machine
end

