-- ==== Sys2Proof/Machine/CmdTables.lean ====
section
/-! DEFINITION. Commands of the firewall, the fragment table and the forwarding database (chapters 5 and 6). -/

namespace Sys2Proof.Machine

/-- FIREWALL_ENABLE (R150). Writing 0 starts freeing every session, and writing 1 during freeing is held. -/
def execFirewallEnable (dt : Nat) (path : Path) (value : BitVec 64) (s : State) : Host.Outcome State Fault Refusal :=
  command dt (scalarWrite path 0x4100 1 value.toNat) s

/-- SESSION_FLUSH (R162). The command frees every firewall session, as a write of 0 to FirewallEnable does. -/
def execSessionFlush (dt : Nat) (path : Path) (value : BitVec 64) (s : State) : Host.Outcome State Fault Refusal :=
  command dt (scalarWrite path 0x4100 8 value.toNat) s

/-- SESSION_FREEING_END (R150). The freeing of sessions ends, and a pending enable resumes the firewall. -/
def execSessionFreeingEnd (dt : Nat) (s : State) : Host.Outcome State Fault Refusal :=
  command dt (powered freeingEnds) s

/-- SESSION_EXPIRY (R148). The sweep frees a session whose idle time has reached its state's timeout. -/
def execSessionExpiry (dt : Nat) (row : Fin 16384) (s : State) : Host.Outcome State Fault Refusal :=
  command dt (powered (sessionExpires row.val)) s

/-- FIREWALL_SESSION_WRITE (R149). A write of a FirewallSessions row creates, changes or deletes a session. -/
def execFirewallSessionWrite (dt : Nat) (path : Path) (row : BitVec 24) (off : Nat) (data : List Byte) (s : State) :
    Host.Outcome State Fault Refusal :=
  command dt (rowWrite path 0xF046 row.toNat false off data) s

/-- FRAGMENT_EXPIRY (R153). A fragment entry becomes invalid when its lifetime ends. -/
def execFragmentExpiry (dt : Nat) (row : Fin 1024) (s : State) : Host.Outcome State Fault Refusal :=
  command dt (powered (fragmentExpires row.val)) s

/-- FDB_ENTRY_WRITE (R178). A write of a ForwardingDatabase row adds or removes a static entry. -/
def execFdbEntryWrite (dt : Nat) (path : Path) (row : BitVec 24) (off : Nat) (data : List Byte) (s : State) : Host.Outcome State Fault Refusal :=
  command dt (rowWrite path 0xF052 row.toNat false off data) s

/-- AGEING_SWEEP (R180). Every AgeingTime, dynamic entries without Hit are freed and Hit is cleared elsewhere. -/
def execAgeingSweep (dt : Nat) (s : State) : Host.Outcome State Fault Refusal :=
  command dt (powered age) s

/-- FDB_FLUSH_DYNAMIC (R198). The command starts freeing every dynamic forwarding entry. -/
def execFdbFlushDynamic (dt : Nat) (path : Path) (value : BitVec 64) (s : State) : Host.Outcome State Fault Refusal :=
  command dt (scalarWrite path 0x3000 18 value.toNat) s

/-- FDB_FLUSH_END (R198). The dynamic flush ends, and no dynamic entry remains. -/
def execFdbFlushEnd (dt : Nat) (s : State) : Host.Outcome State Fault Refusal :=
  command dt (powered fdbFlushEnds) s

end Sys2Proof.Machine
end

