-- ==== Sys2Proof/Machine/CmdTime.lean ====
section
/-! DEFINITION. Commands of vehicle time (chapter 7). -/

namespace Sys2Proof.Machine

/-- SYNC_RECEIVED (R204). A Sync on the source instance's slave port drives the servo to step or slew vehicle time. -/
def execSyncReceived (dt : Nat) (inst : Fin 2) (port : Port) (grandmaster : Nat) (logInterval : Int) (s : State) : Host.Outcome State Fault Refusal :=
  command dt (powered (syncArrives inst.val port.val grandmaster logInterval swapNow)) s

/-- SYNC_RECEIPT_TIMEOUT (R205). No Sync arrives within the timeout, and TimeStatus enters Holdover. -/
def execSyncReceiptTimeout (dt : Nat) (s : State) : Host.Outcome State Fault Refusal :=
  command dt (powered syncLost) s

/-- HOLDOVER_EXPIRY (R205). HoldoverLimit elapses in Holdover, and TimeStatus becomes Holdover expired. -/
def execHoldoverExpiry (dt : Nat) (s : State) : Host.Outcome State Fault Refusal :=
  command dt (powered holdoverEnds) s

/-- GRANDMASTER_ENTRY (R205). The source instance becomes grandmaster of its domain, and TimeStatus becomes Grandmaster. -/
def execGrandmasterEntry (dt : Nat) (s : State) : Host.Outcome State Fault Refusal :=
  command dt (powered grandmasterEnters) s

/-- GPTP_MESSAGE (R202). An 802.1AS message other than Sync is handled by the time function for delay, relay or roles. -/
def execGptpMessage (dt : Nat) (inst : Fin 2) (port : Port) (msg : GptpMsg) (s : State) : Host.Outcome State Fault Refusal :=
  command dt (powered (gptpArrives inst.val port.val msg)) s

/-- PDELAY_REQUEST (R202). At each LogPdelayInterval, a port starts a peer delay measurement. -/
def execPdelayRequest (dt : Nat) (port : Port) (s : State) : Host.Outcome State Fault Refusal :=
  command dt (powered (requestDelay port.val)) s

/-- SYNC_TRANSMIT (R202). At each sync interval, the instance sends Sync and Follow_Up on its master ports. -/
def execSyncTransmit (dt : Nat) (inst : Fin 2) (s : State) : Host.Outcome State Fault Refusal :=
  command dt (powered (transmitSync inst.val)) s

/-- VEHICLE_TIME_READ (R201). A read of VehicleTimeNow latches the fraction for its access path. -/
def execVehicleTimeRead (dt : Nat) (path : Path) (s : State) : Host.Outcome State Fault Refusal :=
  command dt (scalarRead path 0x5000 1) s

end Sys2Proof.Machine
end

