-- ==== Sys2Proof/Machine/CmdStreams.lean ====
section
/-! DEFINITION. Commands of streams and of the gateway (chapters 8 and 9). -/

namespace Sys2Proof.Machine

/-- STREAM_UNBLOCK (R242). The command unblocks the named stream. -/
def execStreamUnblock (dt : Nat) (path : Path) (value : BitVec 64) (s : State) : Host.Outcome State Fault Refusal :=
  command dt (scalarWrite path 0x6000 15 value.toNat) s

/-- RECOVERY_RESET_TIMEOUT (R247). A recovery function's reset timeout expires, and its history is reset. -/
def execRecoveryResetTimeout (dt : Nat) (row : Fin 1024) (s : State) : Host.Outcome State Fault Refusal :=
  command dt (powered (recoveryResets row.val)) s

/-- GATEWAY_CHANNEL_ENABLE (R282). Writing 0 starts a gateway channel shut-down, and writing 1 enables the channel or sets a pending enable. -/
def execGatewayChannelEnable (dt : Nat) (path : Path) (port : Port) (value : BitVec 64) (s : State) : Host.Outcome State Fault Refusal :=
  command dt (scalarWrite path (0x200A + 16 * port.val) 1 value.toNat) s

/-- SHUT_DOWN_END (R282). The shut-down ends, and the channel becomes Disabled or, if pending, Enabled. -/
def execShutDownEnd (dt : Nat) (port : Port) (s : State) : Host.Outcome State Fault Refusal :=
  command dt (powered (shutDownEnds port.val)) s

end Sys2Proof.Machine
end

