-- ==== Sys2Proof/Machine/CmdEngine.lean ====
section
/-! DEFINITION. Commands of the integrity engine (chapter 10). -/

namespace Sys2Proof.Machine

/-- The user of a job row writes 0 to its State (R308), which stands in bits [7:6] of octet 0; the row keeps its other fields. -/
def clearJobState (path : Path) (row : Nat) : Act :=
  .dep fun s => rowWrite path 0xF096 row false 0 [s.octet .live (cellKey 0xF096 row 0) &&& 0x3F#8]

/-- JOB_SUBMIT (R305). The command queues a Glove job slot or refuses it. -/
def execJobSubmit (dt : Nat) (path : Path) (page : Fin 64) (value : BitVec 64) (s : State) : Host.Outcome State Fault Refusal :=
  command dt (scalarWrite path (0x8100 + page.val) 1 value.toNat) s

/-- JOB_DISPATCH (R306). A queued job is dispatched to a free CMAC context, and its key slot is checked. -/
def execJobDispatch (dt : Nat) (unit : Fin 4) (s : State) : Host.Outcome State Fault Refusal :=
  command dt (powered (dispatchJob unit.val)) s

/-- MAC_GENERATE (R307). A MacGenerate job completes and writes its MAC. -/
def execMacGenerate (dt : Nat) (page : Fin 64) (slot : Fin 16) (s : State) : Host.Outcome State Fault Refusal :=
  command dt (powered (generates (16 * page.val + slot.val))) s

/-- MAC_VERIFY (R307). A MacVerify job completes with a match or mismatch result. -/
def execMacVerify (dt : Nat) (page : Fin 64) (slot : Fin 16) (s : State) : Host.Outcome State Fault Refusal :=
  command dt (powered (verifies (16 * page.val + slot.val))) s

/-- MAC_GENERATE_FRESH (R310). A MacGenerateFresh job completes with its MAC and freshness value. -/
def execMacGenerateFresh (dt : Nat) (page : Fin 64) (slot : Fin 16) (s : State) : Host.Outcome State Fault Refusal :=
  command dt (powered (generatesFresh (16 * page.val + slot.val))) s

/-- MAC_VERIFY_FRESH (R311). A MacVerifyFresh job decides freshness and MAC at completion, and may advance the counter. -/
def execMacVerifyFresh (dt : Nat) (page : Fin 64) (slot : Fin 16) (s : State) : Host.Outcome State Fault Refusal :=
  command dt (powered (verifiesFresh (16 * page.val + slot.val))) s

/-- JOB_SLOT_FREE (R308). Writing 0 to the State of a Done slot frees it. -/
def execJobSlotFree (dt : Nat) (path : Path) (page : Fin 64) (slot : Fin 16) (s : State) : Host.Outcome State Fault Refusal :=
  command dt (clearJobState path (16 * page.val + slot.val)) s

/-- PAGE_ENABLE (R319). Writing 0 to PageEnable starts closing the Glove, and writing 1 enables it or sets a pending enable. -/
def execPageEnable (dt : Nat) (path : Path) (page : Fin 64) (value : BitVec 64) (s : State) : Host.Outcome State Fault Refusal :=
  command dt (scalarWrite path (0x8100 + page.val) 3 value.toNat) s

/-- PAGE_CLOSING_END (R319). No job of the page is running, so its rows are cleared and it becomes Disabled. -/
def execPageClosingEnd (dt : Nat) (page : Fin 64) (s : State) : Host.Outcome State Fault Refusal :=
  command dt (powered (pageCloses page.val)) s

/-- FRESHNESS_COUNTER_LOAD (R313). A write to a freshness counter row loads it, or is refused while its key is unchanged. -/
def execFreshnessCounterLoad (dt : Nat) (path : Path) (row : BitVec 24) (off : Nat) (data : List Byte) (s : State) :
    Host.Outcome State Fault Refusal :=
  command dt (rowWrite path 0xF094 row.toNat false off data) s

/-- ARBITER_REFILL (R315). Every 256 fabric cycles the arbiter refills its credits and counts waiting requesters. -/
def execArbiterRefill (dt : Nat) (words : List Nat) (s : State) : Host.Outcome State Fault Refusal :=
  command dt (powered (refillArbiter words)) s

/-- ARBITER_GRANT (R315). With the port idle or a transfer ending, the arbiter grants the requester with the highest credit. -/
def execArbiterGrant (dt : Nat) (words : List Nat) (s : State) : Host.Outcome State Fault Refusal :=
  command dt (powered (grantArbiter words)) s

/-- REQUESTER_MASK (R316). The power controller asserts or releases a requester's mask, stopping its transfer or parking. -/
def execRequesterMask (dt : Nat) (requester : Fin 8) (asserted : Bool) (s : State) : Host.Outcome State Fault Refusal :=
  command dt (powered (maskRequester requester.val asserted)) s

end Sys2Proof.Machine
end

