-- ==== Sys2Proof/Machine/CmdKeys.lean ====
section
/-! DEFINITION. Commands of keys, signatures and the record seal (chapter 11). -/

namespace Sys2Proof.Machine

/-- KEY_LOAD (R334). A KeyTable write with Op Load loads or replaces a key, is held, or is refused. -/
def execKeyLoad (dt : Nat) (path : Path) (row : BitVec 24) (off : Nat) (data : List Byte) (s : State) : Host.Outcome State Fault Refusal :=
  command dt (rowWrite path 0xF098 row.toNat false off data) s

/-- KEY_INVALIDATE (R335). A KeyTable write with Op Invalidate zeroises the slot and starts a sweep. -/
def execKeyInvalidate (dt : Nat) (path : Path) (row : BitVec 24) (off : Nat) (data : List Byte) (s : State) : Host.Outcome State Fault Refusal :=
  command dt (rowWrite path 0xF098 row.toNat false off data) s

/-- SWEEP_END (R335). The key sweep ends, Invalidating slots become Empty, and held loads are applied. -/
def execSweepEnd (dt : Nat) (s : State) : Host.Outcome State Fault Refusal :=
  command dt (powered sweepEnds) s

/-- TAMPER (R339). A TAMPER_N low is accepted, and every key is destroyed and TamperLatched set. -/
def execTamper (dt : Nat) (s : State) : Host.Outcome State Fault Refusal :=
  command dt (tampered) s

/-- SIGN_DATA (R343). A SignatureJobs row is submitted with Op SignData. -/
def execSignData (dt : Nat) (path : Path) (row : Fin 2) (off : Nat) (data : List Byte) (s : State) : Host.Outcome State Fault Refusal :=
  command dt (rowWrite path 0xF099 row.val false off data) s

/-- SIGN_DIGEST (R343). A SignatureJobs row is submitted with Op SignDigest. -/
def execSignDigest (dt : Nat) (path : Path) (row : Fin 2) (off : Nat) (data : List Byte) (s : State) : Host.Outcome State Fault Refusal :=
  command dt (rowWrite path 0xF099 row.val false off data) s

/-- VERIFY_DATA (R343). A SignatureJobs row is submitted with Op VerifyData. -/
def execVerifyData (dt : Nat) (path : Path) (row : Fin 2) (off : Nat) (data : List Byte) (s : State) : Host.Outcome State Fault Refusal :=
  command dt (rowWrite path 0xF099 row.val false off data) s

/-- VERIFY_DIGEST (R343). A SignatureJobs row is submitted with Op VerifyDigest. -/
def execVerifyDigest (dt : Nat) (path : Path) (row : Fin 2) (off : Nat) (data : List Byte) (s : State) : Host.Outcome State Fault Refusal :=
  command dt (rowWrite path 0xF099 row.val false off data) s

/-- SIGNATURE_OPERATION_END (R341). The signature unit completes an operation and starts the next user's, in the order of R342. -/
def execSignatureOperationEnd (dt : Nat) (s : State) : Host.Outcome State Fault Refusal :=
  command dt (powered signatureEnds) s

/-- ATTEST_GENERATE (R344). The command builds a signed COSE_Sign1 attestation statement. -/
def execAttestGenerate (dt : Nat) (path : Path) (value : BitVec 64) (s : State) : Host.Outcome State Fault Refusal :=
  command dt (scalarWrite path 0x8300 1 value.toNat) s

/-- RECORD_SEAL_ENABLE (R351). A write of RecordSealEnable starts Running, moves to Closing, or sets a pending enable. -/
def execRecordSealEnable (dt : Nat) (path : Path) (value : BitVec 64) (s : State) : Host.Outcome State Fault Refusal :=
  command dt (scalarWrite path 0x8400 1 value.toNat) s

/-- SEAL_KEY_SLOT (R353). A write of SealKeySlot or SealSignSlot takes effect at once, and may stall the seal or start a chain. -/
def execSealKeySlot (dt : Nat) (path : Path) (sign : Bool) (value : BitVec 64) (s : State) : Host.Outcome State Fault Refusal :=
  command dt (scalarWrite path 0x8400 (if sign then 5 else 4) value.toNat) s

/-- RECORD_TAKE (R346). The seal unit takes a record from port 244's queues. -/
def execRecordTake (dt : Nat) (s : State) : Host.Outcome State Fault Refusal :=
  command dt (powered takeRecord) s

/-- RECORD_SEALED (R347). A record's chained MAC is complete, and its seal PDU is emitted into the fabric. -/
def execRecordSealed (dt : Nat) (s : State) : Host.Outcome State Fault Refusal :=
  command dt (powered recordDone) s

/-- BATCH_CUT (R349). A batch is cut at BatchSize records or after 60 s, and its statement is signed. -/
def execBatchCut (dt : Nat) (s : State) : Host.Outcome State Fault Refusal :=
  command dt (powered cutIfDue) s

/-- SEAL_CLOSING_END (R351). Closing ends with a final batch statement, and the seal becomes Disabled or Running. -/
def execSealClosingEnd (dt : Nat) (s : State) : Host.Outcome State Fault Refusal :=
  command dt (powered sealClosesOrSleeps) s

end Sys2Proof.Machine
end

