-- ==== Sys2Proof/Machine/CmdSleep.lean ====
section
/-! DEFINITION. Commands of sleep and wake, and of the wake inputs (chapter 12). -/

namespace Sys2Proof.Machine

/-- SLEEP_ENTRY (R378). Every enabled ring is in BusSleep with sleep enabled, and the device begins SleepEntry. -/
def execSleepEntry (dt : Nat) (s : State) : Host.Outcome State Fault Refusal :=
  command dt (entersSleep) s

/-- SLEEP_ENTRY_COMPLETE (R378). The core reports completion, and the Mitten records time, releases INH_OUT and enters Asleep. -/
def execSleepEntryComplete (dt : Nat) (s : State) : Host.Outcome State Fault Refusal :=
  command dt (sleepCompletes) s

/-- SLEEP_ENTRY_TIMEOUT (R380). Without completion by SleepEntryTimeout, the Mitten sleeps on the fail-safe path. -/
def execSleepEntryTimeout (dt : Nat) (s : State) : Host.Outcome State Fault Refusal :=
  command dt (sleepTimesOut) s

/-- WAKE_INPUT_ACTIVATION (R374). An accepted change to a wake input's active level is judged a wake or masked as chatter. -/
def execWakeInputActivation (dt : Nat) (input : Fin 16) (s : State) : Host.Outcome State Fault Refusal :=
  command dt (inputActivates input.val) s

/-- WAKE_INPUT_DEACTIVATION (R373). An accepted change back from the active level ends the input's Active state and holding. -/
def execWakeInputDeactivation (dt : Nat) (input : Fin 16) (s : State) : Host.Outcome State Fault Refusal :=
  command dt (inputOffNow input.val) s

/-- WAKE_INPUT_STUCK (R374). An input that has been Active for 10 s with no frame is masked as stuck. -/
def execWakeInputStuck (dt : Nat) (input : Fin 16) (s : State) : Host.Outcome State Fault Refusal :=
  command dt (inputStuck input.val) s

/-- WAKE_INPUT_UNMASK (R374). A masked input that has been inactive for 100 ms is unmasked. -/
def execWakeInputUnmask (dt : Nat) (input : Fin 16) (s : State) : Host.Outcome State Fault Refusal :=
  command dt (inputUnmask input.val) s

/-- DEVICE_WAKE (R381). With rails and REFCLK good after INH_OUT, the PLLs lock, retention is restored and the device runs. -/
def execDeviceWake (dt : Nat) (env : StartEnv) (s : State) : Host.Outcome State Fault Refusal :=
  command dt (wakes env) s

end Sys2Proof.Machine
end

