-- ==== Sys2Proof/Machine/CmdRings.lean ====
section
/-! DEFINITION. Commands of the consent rings (chapter 12). -/

namespace Sys2Proof.Machine

/-- RING_ENABLE (R372). A write of RingEnable enters Awake, starts Closing, sets a pending enable or is refused. -/
def execRingEnable (dt : Nat) (path : Path) (ring : Fin 32) (value : BitVec 64) (s : State) : Host.Outcome State Fault Refusal :=
  command dt (scalarWrite path (0x9100 + ring.val) 1 value.toNat) s

/-- RING_CLOSING_END (R372). Closing ends, and the ring becomes Disabled or, if pending, Awake. -/
def execRingClosingEnd (dt : Nat) (ring : Fin 32) (s : State) : Host.Outcome State Fault Refusal :=
  command dt (powered (ringCloses ring.val)) s

/-- LOCAL_CONSENT (R365). A write of LocalConsent changes the local holder, and writing 0 is a wake request. -/
def execLocalConsent (dt : Nat) (path : Path) (ring : Fin 32) (value : BitVec 64) (s : State) : Host.Outcome State Fault Refusal :=
  command dt (scalarWrite path (0x9100 + ring.val) 4 value.toNat) s

/-- RING_MESSAGE (R362). A received ring message is validated and updates its member row and the ring's consent. -/
def execRingMessage (dt : Nat) (ring : Fin 32) (port : Port) (sender : BitVec 6) (payload : List Byte) (s : State) :
    Host.Outcome State Fault Refusal :=
  command dt (powered (ringArrives ring.val port.val sender.toNat payload)) s

/-- RING_PERIOD (R361). At each RingPeriod tick the Siorper sends its ring message and evaluates consent. -/
def execRingPeriod (dt : Nat) (ring : Fin 32) (s : State) : Host.Outcome State Fault Refusal :=
  command dt (powered (ringTick ring.val)) s

/-- COMMIT_WINDOW (R365). Consent has held for RingPeriod, so CommitWindow starts with a CommitNotice message. -/
def execCommitWindow (dt : Nat) (ring : Fin 32) (s : State) : Host.Outcome State Fault Refusal :=
  command dt (powered (evaluateRing ring.val)) s

/-- WINDOW_END (R368). The commit window ends without a wake request, and each ring port takes its sleep step. -/
def execWindowEnd (dt : Nat) (ring : Fin 32) (s : State) : Host.Outcome State Fault Refusal :=
  command dt (powered (windowEnds ring.val)) s

/-- SLEEP_STEP_COMPLETE (R368). A port completes its sleep step, and the ring reaches BusSleep once all have. -/
def execSleepStepComplete (dt : Nat) (ring : Fin 32) (port : Port) (s : State) : Host.Outcome State Fault Refusal :=
  command dt (powered (stepCompletes ring.val port.val)) s

/-- BUS_SLEEP_FORCED (R368). A sleep step not completed 20 ms after WindowEnd is forced. -/
def execBusSleepForced (dt : Nat) (ring : Fin 32) (s : State) : Host.Outcome State Fault Refusal :=
  command dt (powered (forceSleep ring.val)) s

/-- SILENCE_TIMEOUT (R365). A member without a valid message for SilenceTimeout ring periods becomes silent. -/
def execSilenceTimeout (dt : Nat) (ring : Fin 32) (member : Fin 64) (s : State) : Host.Outcome State Fault Refusal :=
  command dt (powered (fallsSilent ring.val member.val)) s

/-- FALSE_WAKE_TIMEOUT (R370). No frame since an ordinary wake, so the ring returns to BusSleepEntry. -/
def execFalseWakeTimeout (dt : Nat) (ring : Fin 32) (s : State) : Host.Outcome State Fault Refusal :=
  command dt (powered (falseWake ring.val)) s

/-- WAKE_UP_PULSE (R376). A TC10 WUP received on a sleeping T1 port is a wake request for its ring. -/
def execWakeUpPulse (dt : Nat) (port : Port) (s : State) : Host.Outcome State Fault Refusal :=
  command dt (powered (tc10Wake port.val true)) s

/-- WAKE_UP_REQUEST (R376). A received TC10 WUR is a wake request for the port's ring. -/
def execWakeUpRequest (dt : Nat) (port : Port) (s : State) : Host.Outcome State Fault Refusal :=
  command dt (powered (tc10Wake port.val false)) s

/-- TC10_SLEEP_REQUEST (R376). A link partner's TC10 sleep request is acknowledged only in BusSleepEntry. -/
def execTc10SleepRequest (dt : Nat) (port : Port) (s : State) : Host.Outcome State Fault Refusal :=
  command dt (powered (tc10Sleep port.val)) s

end Sys2Proof.Machine
end

