-- ==== Sys2Proof/Machine/CmdFaults.lean ====
section
/-! DEFINITION. Commands of fault handling and the safety partition (chapter 13). -/

namespace Sys2Proof.Machine

/-- FAULT_DETECTED (R386). A fault mechanism reports to the collector, which logs it and starts its reaction. -/
def execFaultDetected (dt : Nat) (report : FaultReport) (s : State) : Host.Outcome State Fault Refusal :=
  command dt (powered (faultReported report)) s

/-- RESYNCHRONISATION_END (R394). The resynchronisation ends, and waiting safety accesses complete. -/
def execResynchronisationEnd (dt : Nat) (s : State) : Host.Outcome State Fault Refusal :=
  command dt (powered resyncEnds) s

/-- PARTITION_RESTART_END (R395). The restart has passed its injection test, and safety firmware starts at its restart entry. -/
def execPartitionRestartEnd (dt : Nat) (env : RestartEnv) (s : State) : Host.Outcome State Fault Refusal :=
  command dt (powered (restartEnds env)) s

/-- TAKE_OVER (R400). P4's take-over check ends, and P4 takes the failed pipeline's ports or leaves them interrupted. -/
def execTakeOver (dt : Nat) (checkOk : Bool) (s : State) : Host.Outcome State Fault Refusal :=
  command dt (powered (tookOver checkOk)) s

/-- ISOLATION_VIOLATION (R389). A write reaching the safety write gate with another identity is discarded and logged. -/
def execIsolationViolation (dt : Nat) (requester : BitVec 8) (address : BitVec 64) (s : State) : Host.Outcome State Fault Refusal :=
  command dt (powered (violation requester.toNat address.toNat)) s

/-- ENTER_FAIL_SAFE (R399). The command puts the safety partition into fail-safe with cause 0x41. -/
def execEnterFailSafe (dt : Nat) (path : Path) (value : BitVec 64) (s : State) : Host.Outcome State Fault Refusal :=
  command dt (scalarWrite path 0xA000 14 value.toNat) s

/-- SAFE_RELEASE (R399). The command releases SAFE_N when the last injection test passed. -/
def execSafeRelease (dt : Nat) (path : Path) (value : BitVec 64) (s : State) : Host.Outcome State Fault Refusal :=
  command dt (scalarWrite path 0xA000 13 value.toNat) s

/-- WATCHDOG_SERVICE (R399). The command services the safety watchdog. -/
def execWatchdogService (dt : Nat) (path : Path) (value : BitVec 64) (s : State) : Host.Outcome State Fault Refusal :=
  command dt (scalarWrite path 0xA000 15 value.toNat) s

/-- WATCHDOG_EXPIRY (R399). An interval beyond WatchdogPeriod without service is reported as source 0x05. -/
def execWatchdogExpiry (dt : Nat) (s : State) : Host.Outcome State Fault Refusal :=
  command dt (powered watchdogExpires) s

/-- PERIODIC_TEST_RUN (R404). The command starts the periodic test of the safety mechanisms. -/
def execPeriodicTestRun (dt : Nat) (path : Path) (value : BitVec 64) (s : State) : Host.Outcome State Fault Refusal :=
  command dt (scalarWrite path 0xA000 17 value.toNat) s

/-- PERIODIC_TEST_END (R404). The periodic run ends, and PeriodicTestResult and LatentTestAge are set. -/
def execPeriodicTestEnd (dt : Nat) (digitalOk : Bool) (s : State) : Host.Outcome State Fault Refusal :=
  command dt (powered (periodicEnds digitalOk)) s

/-- PERIODIC_TEST_LIMIT (R423). The periodic run reaches its 20 ms limit and aborts running tests with cause 0x07. -/
def execPeriodicTestLimit (dt : Nat) (s : State) : Host.Outcome State Fault Refusal :=
  command dt (powered periodicLimit) s

/-- PIPELINE_TEST (R403). The command moves a pipeline's ports to P4 and tests it. -/
def execPipelineTest (dt : Nat) (path : Path) (value : BitVec 64) (s : State) : Host.Outcome State Fault Refusal :=
  command dt (scalarWrite path 0xA010 12 value.toNat) s

/-- PIPELINE_TEST_END (R403). The pipeline test ends with pass, fail or abort, and the ports move back. -/
def execPipelineTestEnd (dt : Nat) (result : TestEnd) (s : State) : Host.Outcome State Fault Refusal :=
  command dt (powered (pipelineTested result)) s

/-- LATENT_TEST_OVERDUE (R404). LatentTestAge reaches 8 h, and source 0x32 is reported once. -/
def execLatentTestOverdue (dt : Nat) (s : State) : Host.Outcome State Fault Refusal :=
  command dt (powered latentOverdue) s

/-- SCRUB (R401). The scrubber reads every protected word once per second, correcting or restoring rows. -/
def execScrub (dt : Nat) (found : List ScrubFind) (s : State) : Host.Outcome State Fault Refusal :=
  command dt (powered (Act.each found scrubbed)) s

end Sys2Proof.Machine
end

