-- ==== Sys2Proof/Machine/CmdTests.lean ====
section
/-! DEFINITION. Commands of the analogue self-test (chapter 14). -/

namespace Sys2Proof.Machine

/-- SELF_TEST_RUN (R416). The command starts, holds, refuses or marks not started the test of a SelfTestBlocks row. -/
def execSelfTestRun (dt : Nat) (path : Path) (value : BitVec 64) (s : State) : Host.Outcome State Fault Refusal :=
  command dt (scalarWrite path 0xB000 1 value.toNat) s

/-- SELF_TEST_ABORT (R418). The command aborts a running test or cancels a held start. -/
def execSelfTestAbort (dt : Nat) (path : Path) (value : BitVec 64) (s : State) : Host.Outcome State Fault Refusal :=
  command dt (scalarWrite path 0xB000 2 value.toNat) s

/-- TEST_STEPS_END (R417). A test's steps end, and the block is restored and read back. -/
def execTestStepsEnd (dt : Nat) (row : Fin 128) (codes : List (BitVec 8 × StepResult)) (s : State) : Host.Outcome State Fault Refusal :=
  command dt (powered (stepsEnd row.val codes)) s

/-- RESTORING_END (R417). Restoring ends, the verdict is recorded, the hold ends or a held start begins. -/
def execRestoringEnd (dt : Nat) (row : Fin 128) (readBackOk : Bool) (linkUp : Bool) (s : State) : Host.Outcome State Fault Refusal :=
  command dt (powered (restored row.val readBackOk linkUp)) s

/-- HOLD_THRESHOLD (R420). The held port's queued cells reach HoldThreshold, and the test aborts. -/
def execHoldThreshold (dt : Nat) (port : Port) (s : State) : Host.Outcome State Fault Refusal :=
  command dt (powered (thresholdReached port.val)) s

/-- REFCLK_MEASUREMENT (R414). Every 256 crystal ticks RefclkDeviation is updated, and a test out of range aborts. -/
def execRefclkMeasurement (dt : Nat) (count : Nat) (s : State) : Host.Outcome State Fault Refusal :=
  command dt (powered (measureRefclk count)) s

/-- TEMPERATURE_MEASUREMENT (R414). Every 1 ms JunctionTemperature is measured, and a test out of range aborts. -/
def execTemperatureMeasurement (dt : Nat) (milliCelsius : Int) (s : State) : Host.Outcome State Fault Refusal :=
  command dt (powered (measureTemperature milliCelsius)) s

end Sys2Proof.Machine
end

