-- ==== Sys2Proof/Machine/Jtag.lean ====
section
/-! DEFINITION. The JTAG port (R446, R468; IEEE 1149.1). No row of the opcode table carries its pins, so that no command of the block
drives it (log entry 129): the level at JTAG_TRST_N, whose pull-down holds the TAP in Test-Logic-Reset, stays low in every run. -/

namespace Sys2Proof.Machine

/-- The states of the TAP controller. -/
inductive TapState where
  | testLogicReset
  | runTestIdle
  | selectDr
  | captureDr
  | shiftDr
  | exit1Dr
  | pauseDr
  | exit2Dr
  | updateDr
  | selectIr
  | captureIr
  | shiftIr
  | exit1Ir
  | pauseIr
  | exit2Ir
  | updateIr
deriving DecidableEq, Repr

/-- The states in the order of their codes in the register that holds one. -/
def TapState.all : List TapState :=
  [.testLogicReset, .runTestIdle, .selectDr, .captureDr, .shiftDr, .exit1Dr, .pauseDr, .exit2Dr, .updateDr, .selectIr, .captureIr,
   .shiftIr, .exit1Ir, .pauseIr, .exit2Ir, .updateIr]

/-- The state after a rising edge of TCK with a level of TMS. -/
def TapState.next (t : TapState) (tms : Bool) : TapState :=
  let go := fun a b => if tms then a else b
  match t with
  | .testLogicReset => go .testLogicReset .runTestIdle
  | .runTestIdle => go .selectDr .runTestIdle
  | .selectDr => go .selectIr .captureDr
  | .captureDr => go .exit1Dr .shiftDr
  | .shiftDr => go .exit1Dr .shiftDr
  | .exit1Dr => go .updateDr .pauseDr
  | .pauseDr => go .exit2Dr .pauseDr
  | .exit2Dr => go .updateDr .shiftDr
  | .updateDr => go .selectDr .runTestIdle
  | .selectIr => go .testLogicReset .captureIr
  | .captureIr => go .exit1Ir .shiftIr
  | .shiftIr => go .exit1Ir .shiftIr
  | .exit1Ir => go .updateIr .pauseIr
  | .pauseIr => go .exit2Ir .pauseIr
  | .exit2Ir => go .updateIr .shiftIr
  | .updateIr => go .selectDr .runTestIdle

/-- The TAP's state. -/
def State.tap (s : State) : TapState := TapState.all.getD (s.get Rg.tapState) .testLogicReset

/-- The instructions that R446 names; the rest are those of full access, whose effects the spec does not give. -/
inductive TapInstruction where
  | idcode
  | bypass
  | other (opcode : Nat)
deriving DecidableEq, Repr

/-- Whether JTAG serves an instruction in the JtagState that holds (R446): full access only once it is Unlocked. -/
def State.jtagServes (s : State) : TapInstruction → Bool
  | .idcode => true
  | .bypass => true
  | .other _ => s.get Key.jtagState == 2

/-- The instruction of a number of the instruction register: 0 IDCODE, which reset selects, 1 BYPASS. One that is not served acts as
BYPASS, as IEEE 1149.1 has it for opcodes without a meaning. -/
def State.tapServed (s : State) : TapInstruction :=
  let i := match s.get Rg.tapInstruction with
    | 0 => TapInstruction.idcode
    | 1 => .bypass
    | n => .other n
  if s.jtagServes i then i else .bypass

/-- JTAG_TRST_N takes a level (R468): low holds the TAP in Test-Logic-Reset, where IDCODE is selected and TDO is not driven (R455). -/
def tapReset (high : Bool) : Act :=
  if high then .put Rg.tapTrst 1 else Act.zero [Rg.tapTrst, Rg.tapState, Rg.tapInstruction, Rg.tapShift, Rg.tapTdo]

/-- The number of the instruction that a shifted opcode selects (IEEE 1149.1): all ones is BYPASS; the other opcodes the spec does not
give (log entry 129). -/
def tapOpcode (x : Nat) : Nat := if x = 2 ^ Config.tapLength - 1 then 1 else Config.tapOpcode x

/-- What the shift register of the scan that runs takes at a rising edge of TCK: IDCODE captures and shifts its 32 bits, least
significant first, BYPASS one bit, and the instruction register its own, whose capture ends in 01. What another register holds is
open. -/
def State.tapScan (s : State) (tdi : Bool) (x : Nat) : Nat :=
  let tdiBit := if tdi then 1 else 0
  let reg := s.get Rg.tapShift
  match s.tap, s.tapServed with
  | .captureDr, .idcode => Config.idcode.toNat
  | .captureDr, .bypass => 0
  | .captureDr, .other _ => x
  | .shiftDr, .idcode => reg / 2 + tdiBit * 2 ^ 31
  | .shiftDr, .bypass => tdiBit
  | .shiftDr, .other _ => x
  | .captureIr, _ => (x * 4 + 1) % 2 ^ Config.tapLength
  | .shiftIr, _ => reg / 2 + tdiBit * 2 ^ (Config.tapLength - 1)
  | _, _ => reg

/-- A rising edge of TCK (R468), which the TAP does not see in reset or without its supply, with TDO driven in the shift states only
(R455). Update-IR loads the instruction. -/
def tapClock (tms tdi : Bool) : Act :=
  .dep fun s => Act.when (s.flag Rg.tapTrst && s.operates) (Act.draw fun x => Act.all [
    .put Rg.tapShift (s.tapScan tdi x),
    .put Rg.tapState (TapState.all.idxOf (s.tap.next tms)),
    Act.when (s.tap.next tms == .testLogicReset) (.put Rg.tapInstruction 0),
    Act.when (s.tap.next tms == .updateIr) (.put Rg.tapInstruction (tapOpcode (s.get Rg.tapShift))),
    .dep fun t => .put Rg.tapTdo (if t.tap == .shiftDr || t.tap == .shiftIr then t.get Rg.tapShift % 2 + 1 else 0)])

end Sys2Proof.Machine
end

