-- ==== Sys2Proof/Machine/PinStates.lean ====
section
/-! DEFINITION. The state of every pin (R369, R455, R467 to R470), computed from the state of the block. A pin without its supply,
the first column of R455, belongs to no state of the block. -/

namespace Sys2Proof.Machine

/-- The pins by name (R455); numbers are those of attachments, banks and inputs. -/
inductive Pin where
  | lane (x : Nat)
  | pcieLane
  | t1 (x : Nat)
  | t1s (x : Nat)
  | busTx (x : Nat)
  | busRx (x : Nat)
  | canStb (group : Nat)
  | wake (input : Nat)
  | porstN
  | tamperN
  | safeN
  | inhOut
  | bsel (bank : Nat)
  | spiMiso
  | spiIn
  | jtagTdo
  | jtagIn
  | jtagTrstN
  | xspiCsN
  | xspiSck
  | xspiData
  | xspiResetN
  | gpio (n : Nat)
  | perstN
deriving DecidableEq, Repr

/-- How the block drives or hears a pin: `quiet` sends nothing (electrical idle, MDI isolated), `served` follows the protocol of its
bus; `input` is watched or ignored; a weak pull-up goes with TAMPER_N's watch. -/
inductive Pad where
  | highZ
  | quiet
  | served
  | level (high : Bool)
  | pullUp (watched : Bool)
  | pullDown
  | input (watched : Bool)
deriving DecidableEq, Repr

/-- Whether a port holds its transceiver in standby (R369): Disabled, or of a ring in BusSleep. -/
def State.inStandby (s : State) (p : Nat) : Bool :=
  s.portState p == 0 || (List.range 32).any fun r => s.inRing r p && s.get (Key.ringState r) == 4

/-- CAN_STBg is high: all eight controllers C(8g) to C(8g + 7), which are attachments 64 + 8g onward, allow it (R369). -/
def State.canStandby (s : State) (g : Nat) : Bool :=
  s.inReset || s.unpowered || (List.range 8).all fun i => s.inStandby (s.holderOf (64 + 8 * g + i))

/-- A pin that the running block serves, and that is as `idle` says in reset and as `asleep` says without the switched rails. -/
def State.phase (s : State) (idle asleep running : Pad) : Pad :=
  if s.unpowered then asleep else if s.inReset then idle else running

/-- The transmit pin of an attachment to a bus (R455): recessive, or high, unless the port that it is bound to is Up and not in
ListenOnly. -/
def State.busTransmit (s : State) (x : Nat) : Pad :=
  let p := s.holderOf x
  s.phase (.pullUp false) (.pullUp false)
    (if s.isUp p && !(s.kind p == 4 && s.inForce (Key.listenOnly p) == 1) then .served else .level true)

/-- A GPIO (R469, R470): an output carries the pulse or its bit of GpioOutput, an input its pull-down. -/
def State.gpioPad (s : State) (n : Nat) : Pad :=
  let on := fun k => (s.get k).testBit n
  if on Key.gpioDirection then .level (if on Key.ppsOutput then s.flag Rg.ppsFrom && on Rg.ppsPins else on Key.gpioOutput)
  else if on Key.gpioPullDown then .pullDown else .input true

/-- A line of an Ethernet attachment: quiet while the port that it is bound to is Disabled. -/
def State.linePad (s : State) (x : Nat) : Pad :=
  s.phase .quiet .highZ (if s.portState (s.holderOf x) = 0 then .quiet else .served)

/-- The state of a pin (R455). The pins of an attachment follow the port to which it is bound (R89). -/
def State.pad (s : State) : Pin → Pad
  | .lane x => s.linePad x
  | .pcieLane => s.phase .quiet .highZ (if s.flag Rg.perstHigh then .served else .quiet)
  | .t1 x => s.linePad x
  | .t1s x => s.linePad x
  | .busTx x => s.busTransmit x
  | .busRx _ => s.phase (.input false) (.input false) (.input true)
  | .canStb g => .level (s.canStandby g)
  | .wake _ => .input (!s.inReset)
  | .porstN => .pullDown
  | .tamperN => .pullUp (!s.inReset)
  | .safeN => .level (s.flag Rg.safeReleased && !s.inReset && !s.unpowered)
  | .inhOut => .level (!s.flag Rg.inhLow)
  | .bsel _ => .input true
  | .spiMiso => s.phase .highZ .highZ .served
  | .spiIn => s.phase (.input false) (.input false) (.input true)
  | .jtagTdo => s.phase .highZ .highZ (match s.get Rg.tapTdo with
    | 0 => .highZ
    | b + 1 => .level (b == 1))
  | .jtagIn => s.phase (.input false) (.input false) (.pullUp true)
  | .jtagTrstN => .pullDown
  | .xspiCsN => s.phase (.level true) .highZ .served
  | .xspiSck => s.phase (.level false) .highZ .served
  | .xspiData => s.phase .highZ .highZ .served
  | .xspiResetN => if s.unpowered then .highZ else .level (s.flag Rg.xspiReset)
  | .gpio n => s.phase .pullDown .highZ (s.gpioPad n)
  | .perstN => .input (!s.inReset && !s.unpowered)

end Sys2Proof.Machine
end

