-- ==== Sys2Proof/Machine/CmdStart.lean ====
section
/-! DEFINITION. Commands of start-up, update, recovery and the pins (chapters 15 and 16). -/

namespace Sys2Proof.Machine

/-- PORST_ASSERT (R459). PORST_N accepted low puts every pin in its reset state and resets every domain. -/
def execPorstAssert (dt : Nat) (s : State) : Host.Outcome State Fault Refusal :=
  command dt (powerOnReset) s

/-- COLD_START (R437). A cold start runs the start-up sequence from PLL lock to enabled ports. -/
def execColdStart (dt : Nat) (env : StartEnv) (s : State) : Host.Outcome State Fault Refusal :=
  command dt (coldStarts env) s

/-- UPDATE_OPEN (R439). The command opens an update session and starts erasing the inactive slot. -/
def execUpdateOpen (dt : Nat) (path : Path) (value : BitVec 64) (s : State) : Host.Outcome State Fault Refusal :=
  command dt (scalarWrite path 0xC100 1 value.toNat) s

/-- ERASE_COMPLETE (R439). The target slot is erased, and UpdateState becomes Receiving. -/
def execEraseComplete (dt : Nat) (s : State) : Host.Outcome State Fault Refusal :=
  command dt (powered eraseEnds) s

/-- UPDATE_WINDOW_WRITE (R440). A full-row write to UpdateWindow is taken into the program queue or refused. -/
def execUpdateWindowWrite (dt : Nat) (path : Path) (row : BitVec 24) (off : Nat) (data : List Byte) (s : State) : Host.Outcome State Fault Refusal :=
  command dt (rowWrite path 0xF0C0 row.toNat false off data) s

/-- ROW_PROGRAMMED (R440). A queued row is programmed and read back, and a difference rejects the session. -/
def execRowProgrammed (dt : Nat) (readBackOk : Bool) (s : State) : Host.Outcome State Fault Refusal :=
  command dt (powered (rowProgrammedNow readBackOk)) s

/-- UPDATE_VERIFY (R441). The command drains the queue and starts checking the target image. -/
def execUpdateVerify (dt : Nat) (path : Path) (value : BitVec 64) (s : State) : Host.Outcome State Fault Refusal :=
  command dt (scalarWrite path 0xC100 3 value.toNat) s

/-- UPDATE_CHECK_END (R441). The target check ends with Verified or Rejected. -/
def execUpdateCheckEnd (dt : Nat) (s : State) : Host.Outcome State Fault Refusal :=
  command dt (powered updateChecked) s

/-- UPDATE_ACTIVATE (R441). The command makes the target preferred in trial and closes the session. -/
def execUpdateActivate (dt : Nat) (path : Path) (value : BitVec 64) (s : State) : Host.Outcome State Fault Refusal :=
  command dt (scalarWrite path 0xC100 4 value.toNat) s

/-- UPDATE_ABORT (R441). The command discards the queue, erases the target header and closes the session. -/
def execUpdateAbort (dt : Nat) (path : Path) (value : BitVec 64) (s : State) : Host.Outcome State Fault Refusal :=
  command dt (scalarWrite path 0xC100 5 value.toNat) s

/-- UPDATE_CONFIRM (R442). The command clears trial flags and advances RollbackCounter. -/
def execUpdateConfirm (dt : Nat) (path : Path) (value : BitVec 64) (s : State) : Host.Outcome State Fault Refusal :=
  command dt (scalarWrite path 0xC000 9 value.toNat) s

/-- RECOVERY_REQUEST (R444). The command sets the Mitten's request for RecoveryRequested at the next start. -/
def execRecoveryRequest (dt : Nat) (path : Path) (value : BitVec 64) (s : State) : Host.Outcome State Fault Refusal :=
  command dt (scalarWrite path 0xC000 10 value.toNat) s

/-- SYSTEM_RESTART (R445). The command performs a cold start, keeping the Mitten and the boot control blocks. -/
def execSystemRestart (dt : Nat) (path : Path) (value : BitVec 64) (s : State) : Host.Outcome State Fault Refusal :=
  command dt (scalarWrite path 0xC000 11 value.toNat) s

/-- JTAG_UNLOCK (R446). The command invalidates slot 0, and JTAG unlocks when the sweep ends. -/
def execJtagUnlock (dt : Nat) (path : Path) (value : BitVec 64) (s : State) : Host.Outcome State Fault Refusal :=
  command dt (scalarWrite path 0xC000 12 value.toNat) s

/-- IMAGE_KEY_WRITE (R436). A write of ImageKeys programs a Blank row or revokes a Programmed row. -/
def execImageKeyWrite (dt : Nat) (path : Path) (row : Fin 2) (off : Nat) (data : List Byte) (s : State) : Host.Outcome State Fault Refusal :=
  command dt (rowWrite path 0xF0C1 row.val false off data) s

/-- SUPPLY_UP (R460). VMITTEN and VIO33 reach range, and INH_OUT is driven high within 50 µs. -/
def execSupplyUp (dt : Nat) (s : State) : Host.Outcome State Fault Refusal :=
  command dt (supplyRises) s

/-- XTAL_START (R464). The first 256 crystal ticks are counted, and XtalStatus reads Running. -/
def execXtalStart (dt : Nat) (s : State) : Host.Outcome State Fault Refusal :=
  command dt (crystalRuns) s

/-- XTAL_STOPPED (R464). No crystal tick for 250 µs while Running, so XtalStatus reads Stopped. -/
def execXtalStopped (dt : Nat) (s : State) : Host.Outcome State Fault Refusal :=
  command dt (crystalStops) s

/-- PCIE_PERST (R465). PCIE_PERST_N changes, holding the endpoint in reset or allowing link training. -/
def execPciePerst (dt : Nat) (high : Bool) (s : State) : Host.Outcome State Fault Refusal :=
  command dt (perst high) s

/-- PCIE_LINK_UP (R113). PCIe link training completes and the link reaches L0, so host ports 224–231 can become Up. -/
def execPcieLinkUp (dt : Nat) (s : State) : Host.Outcome State Fault Refusal :=
  command dt (powered pcieTrained) s

/-- BUS_MASTER_ENABLE (R314). The host sets or clears Bus Master Enable, unmasking or masking arbiter requesters 0 and 1 and making ports
224–231 able or unable to be Up. -/
def execBusMasterEnable (dt : Nat) (set : Bool) (s : State) : Host.Outcome State Fault Refusal :=
  command dt (powered (busMastering set)) s

/-- PPS_PULSE (R470). Vehicle time reaches a whole second, and the PPS pin rises. -/
def execPpsPulse (dt : Nat) (s : State) : Host.Outcome State Fault Refusal :=
  command dt (powered pulseRises) s

/-- PPS_END (R470). The pulse has lasted PpsWidth, and the PPS pin falls. -/
def execPpsEnd (dt : Nat) (s : State) : Host.Outcome State Fault Refusal :=
  command dt (powered pulseFalls) s

end Sys2Proof.Machine
end

