-- ==== Sys2Proof/Machine/CmdClears.lean ====
section
/-! DEFINITION. The commands that clear counters and logs. -/

namespace Sys2Proof.Machine

/-- POSTED_ERROR_CLEAR (R59). The command empties PostedErrorLog and its overflow count. -/
def execPostedErrorClear (dt : Nat) (path : Path) (value : BitVec 64) (s : State) : Host.Outcome State Fault Refusal :=
  command dt (scalarWrite path 0x1E10 3 value.toNat) s

/-- CLAMP_COUNTERS_CLEAR (R62). The command clears the clamp counters. -/
def execClampCountersClear (dt : Nat) (path : Path) (value : BitVec 64) (s : State) : Host.Outcome State Fault Refusal :=
  command dt (scalarWrite path 0x1E20 1 value.toNat) s

/-- PORT_COUNTERS_CLEAR (R124). A port's CountersClear sets its group 6 counters to 0. -/
def execPortCountersClear (dt : Nat) (path : Path) (port : Port) (value : BitVec 64) (s : State) : Host.Outcome State Fault Refusal :=
  command dt (scalarWrite path (0x2006 + 16 * port.val) 14 value.toNat) s

/-- CLASSIFIER_COUNTERS_CLEAR (R162). CountersClear of index 0x4000 clears its counters, ExceptionCounters and RuleHits. -/
def execClassifierCountersClear (dt : Nat) (path : Path) (value : BitVec 64) (s : State) : Host.Outcome State Fault Refusal :=
  command dt (scalarWrite path 0x4000 18 value.toNat) s

/-- QUEUE_COUNTERS_CLEAR (R197). The command clears a port's queue counters. -/
def execQueueCountersClear (dt : Nat) (path : Path) (port : Port) (value : BitVec 64) (s : State) : Host.Outcome State Fault Refusal :=
  command dt (scalarWrite path (0x2003 + 16 * port.val) 44 value.toNat) s

/-- FORWARDING_COUNTERS_CLEAR (R198). CountersClear of index 0x3000 clears 0x3000:08 to 0x3000:11. -/
def execForwardingCountersClear (dt : Nat) (path : Path) (value : BitVec 64) (s : State) : Host.Outcome State Fault Refusal :=
  command dt (scalarWrite path 0x3000 19 value.toNat) s

/-- GATE_COUNTERS_CLEAR (R230). The command clears a port's gate counters. -/
def execGateCountersClear (dt : Nat) (path : Path) (port : Port) (value : BitVec 64) (s : State) : Host.Outcome State Fault Refusal :=
  command dt (scalarWrite path (0x2004 + 16 * port.val) 14 value.toNat) s

/-- SHAPING_COUNTERS_CLEAR (R231). The command clears a port's preemption and eligibility counters. -/
def execShapingCountersClear (dt : Nat) (path : Path) (port : Port) (value : BitVec 64) (s : State) : Host.Outcome State Fault Refusal :=
  command dt (scalarWrite path (0x2005 + 16 * port.val) 10 value.toNat) s

/-- TIME_COUNTERS_CLEAR (R232). The command clears the time counters and the AtsState counter fields. -/
def execTimeCountersClear (dt : Nat) (path : Path) (value : BitVec 64) (s : State) : Host.Outcome State Fault Refusal :=
  command dt (scalarWrite path 0x5000 14 value.toNat) s

/-- DELIVERY_FAULT_LOG_CLEAR (R262). The command empties the delivery fault log. -/
def execDeliveryFaultLogClear (dt : Nat) (path : Path) (value : BitVec 64) (s : State) : Host.Outcome State Fault Refusal :=
  command dt (scalarWrite path 0x6000 11 value.toNat) s

/-- STREAM_COUNTERS_CLEAR (R263). The command clears the stream and recovery counter fields and the exemption counts. -/
def execStreamCountersClear (dt : Nat) (path : Path) (value : BitVec 64) (s : State) : Host.Outcome State Fault Refusal :=
  command dt (scalarWrite path 0x6000 14 value.toNat) s

/-- SAMPLING_CLEAR (R264). The command clears a port's peaks, histograms and removals, and restarts sampling. -/
def execSamplingClear (dt : Nat) (path : Path) (port : Port) (value : BitVec 64) (s : State) : Host.Outcome State Fault Refusal :=
  command dt (scalarWrite path (0x2007 + 16 * port.val) 28 value.toNat) s

/-- GATEWAY_PORT_COUNTERS_CLEAR (R290). The command clears a port's gateway drop counters. -/
def execGatewayPortCountersClear (dt : Nat) (path : Path) (port : Port) (value : BitVec 64) (s : State) : Host.Outcome State Fault Refusal :=
  command dt (scalarWrite path (0x200A + 16 * port.val) 24 value.toNat) s

/-- GATEWAY_FAILURE_CLEAR (R280). The command empties GatewayFailureLog and its overflow count. -/
def execGatewayFailureClear (dt : Nat) (path : Path) (value : BitVec 64) (s : State) : Host.Outcome State Fault Refusal :=
  command dt (scalarWrite path 0x7000 6 value.toNat) s

/-- GATEWAY_COUNTERS_CLEAR (R291). The command clears the gateway counters and RouteCounters. -/
def execGatewayCountersClear (dt : Nat) (path : Path) (value : BitVec 64) (s : State) : Host.Outcome State Fault Refusal :=
  command dt (scalarWrite path 0x7000 15 value.toNat) s

/-- STARVATION_CLEAR (R317). The command clears the named starvation flags. -/
def execStarvationClear (dt : Nat) (path : Path) (value : BitVec 64) (s : State) : Host.Outcome State Fault Refusal :=
  command dt (scalarWrite path 0x8010 12 value.toNat) s

/-- MACSEC_COUNTERS_CLEAR (R323). The command clears a port's 802.1AE counters. -/
def execMacsecCountersClear (dt : Nat) (path : Path) (port : Port) (value : BitVec 64) (s : State) : Host.Outcome State Fault Refusal :=
  command dt (scalarWrite path (0x200B + 16 * port.val) 8 value.toNat) s

/-- KEEP_AWAKE_LOG_CLEAR (R371). The command empties the keep-awake log. -/
def execKeepAwakeLogClear (dt : Nat) (path : Path) (value : BitVec 64) (s : State) : Host.Outcome State Fault Refusal :=
  command dt (scalarWrite path 0x9000 14 value.toNat) s

/-- RING_COUNTERS_CLEAR (R383). The command clears a ring's counters and HeldTotal fields. -/
def execRingCountersClear (dt : Nat) (path : Path) (ring : Fin 32) (value : BitVec 64) (s : State) : Host.Outcome State Fault Refusal :=
  command dt (scalarWrite path (0x9100 + ring.val) 12 value.toNat) s

/-- FAULT_LOG_CLEAR (R388). The command empties the fault log. -/
def execFaultLogClear (dt : Nat) (path : Path) (value : BitVec 64) (s : State) : Host.Outcome State Fault Refusal :=
  command dt (scalarWrite path 0xA000 12 value.toNat) s

end Sys2Proof.Machine
end

