-- ==== Sys2Proof/Machine/Dispatch.lean ====
section
/-! DEFINITION. The dispatch: one arm per command, each a direct call of the command's meaning. -/

namespace Sys2Proof.Machine

/-- The effect of a command on everything but the queue. -/
def exec (i : Instr) (s : State) : Host.Outcome State Fault Refusal :=
  match i with
  | .odWrite dt path idx sub value => Sys2Proof.Machine.execOdWrite dt path idx sub value s
  | .hostScalarWrite dt off data requester => Sys2Proof.Machine.execHostScalarWrite dt off data requester s
  | .hostScalarRead dt off len => Sys2Proof.Machine.execHostScalarRead dt off len s
  | .hostRowWrite dt off data requester => Sys2Proof.Machine.execHostRowWrite dt off data requester s
  | .hostRowRead dt off len => Sys2Proof.Machine.execHostRowRead dt off len s
  | .spiFrame dt octets => Sys2Proof.Machine.execSpiFrame dt octets s
  | .spiFrameDiscard dt octets => Sys2Proof.Machine.execSpiFrameDiscard dt octets s
  | .readScalar dt path idx sub => Sys2Proof.Machine.execReadScalar dt path idx sub s
  | .writeScalar dt path idx sub value => Sys2Proof.Machine.execWriteScalar dt path idx sub value s
  | .readRow dt path idx row sketch off len => Sys2Proof.Machine.execReadRow dt path idx row sketch off len s
  | .writeRow dt path idx row sketch off data => Sys2Proof.Machine.execWriteRow dt path idx row sketch off data s
  | .openSession dt port via pdu => Sys2Proof.Machine.execOpenSession dt port via pdu s
  | .confirm dt port via pdu => Sys2Proof.Machine.execConfirm dt port via pdu s
  | .request dt port via pdu => Sys2Proof.Machine.execRequest dt port via pdu s
  | .closeSession dt port via pdu => Sys2Proof.Machine.execCloseSession dt port via pdu s
  | .confirmTimeout dt session => Sys2Proof.Machine.execConfirmTimeout dt session s
  | .sessionIdleTimeout dt session => Sys2Proof.Machine.execSessionIdleTimeout dt session s
  | .sessionForceClose dt path value => Sys2Proof.Machine.execSessionForceClose dt path value s
  | .remoteOdEnable dt path value => Sys2Proof.Machine.execRemoteOdEnable dt path value s
  | .applicationReset dt => Sys2Proof.Machine.execApplicationReset dt s
  | .applicationRunning dt => Sys2Proof.Machine.execApplicationRunning dt s
  | .sketchCommit dt path value => Sys2Proof.Machine.execSketchCommit dt path value s
  | .commitCheckEnd dt admissionMicros gatewayMicros => Sys2Proof.Machine.execCommitCheckEnd dt admissionMicros gatewayMicros s
  | .swap dt => Sys2Proof.Machine.execSwap dt s
  | .realigningEnd dt => Sys2Proof.Machine.execRealigningEnd dt s
  | .generationRetire dt => Sys2Proof.Machine.execGenerationRetire dt s
  | .sketchDiscard dt path value => Sys2Proof.Machine.execSketchDiscard dt path value s
  | .commitTime dt path frac value => Sys2Proof.Machine.execCommitTime dt path frac value s
  | .attachmentBinding dt path port value => Sys2Proof.Machine.execAttachmentBinding dt path port value s
  | .portEnable dt path port value => Sys2Proof.Machine.execPortEnable dt path port value s
  | .flushComplete dt port => Sys2Proof.Machine.execFlushComplete dt port s
  | .linkUp dt port reported => Sys2Proof.Machine.execLinkUp dt port reported s
  | .linkLost dt port => Sys2Proof.Machine.execLinkLost dt port s
  | .busOff dt port => Sys2Proof.Machine.execBusOff dt port s
  | .servingFunctionStopped dt port => Sys2Proof.Machine.execServingFunctionStopped dt port s
  | .klineInit dt port success => Sys2Proof.Machine.execKlineInit dt port success s
  | .linSlot dt port => Sys2Proof.Machine.execLinSlot dt port s
  | .linHeader dt port frameId => Sys2Proof.Machine.execLinHeader dt port frameId s
  | .j1708Collision dt port => Sys2Proof.Machine.execJ1708Collision dt port s
  | .arbitrationLost dt port => Sys2Proof.Machine.execArbitrationLost dt port s
  | .frameArrival dt port rx => Sys2Proof.Machine.execFrameArrival dt port rx s
  | .lookaheadComplete dt frame octets => Sys2Proof.Machine.execLookaheadComplete dt frame octets s
  | .frameTail dt frame rx how => Sys2Proof.Machine.execFrameTail dt frame rx how s
  | .recirculation dt upper => Sys2Proof.Machine.execRecirculation dt upper s
  | .transmissionEnd dt port => Sys2Proof.Machine.execTransmissionEnd dt port s
  | .eligibilityTime dt port => Sys2Proof.Machine.execEligibilityTime dt port s
  | .gateEntry dt port => Sys2Proof.Machine.execGateEntry dt port s
  | .configChange dt port => Sys2Proof.Machine.execConfigChange dt port s
  | .preemptionPoint dt port => Sys2Proof.Machine.execPreemptionPoint dt port s
  | .verifyAttempt dt port => Sys2Proof.Machine.execVerifyAttempt dt port s
  | .lifetimeExpiry dt port => Sys2Proof.Machine.execLifetimeExpiry dt port s
  | .overdueAtHead dt port => Sys2Proof.Machine.execOverdueAtHead dt port s
  | .queueDepthSample dt => Sys2Proof.Machine.execQueueDepthSample dt s
  | .exceptionRefill dt => Sys2Proof.Machine.execExceptionRefill dt s
  | .firewallEnable dt path value => Sys2Proof.Machine.execFirewallEnable dt path value s
  | .sessionFlush dt path value => Sys2Proof.Machine.execSessionFlush dt path value s
  | .sessionFreeingEnd dt => Sys2Proof.Machine.execSessionFreeingEnd dt s
  | .sessionExpiry dt row => Sys2Proof.Machine.execSessionExpiry dt row s
  | .firewallSessionWrite dt path row off data => Sys2Proof.Machine.execFirewallSessionWrite dt path row off data s
  | .fragmentExpiry dt row => Sys2Proof.Machine.execFragmentExpiry dt row s
  | .fdbEntryWrite dt path row off data => Sys2Proof.Machine.execFdbEntryWrite dt path row off data s
  | .ageingSweep dt => Sys2Proof.Machine.execAgeingSweep dt s
  | .fdbFlushDynamic dt path value => Sys2Proof.Machine.execFdbFlushDynamic dt path value s
  | .fdbFlushEnd dt => Sys2Proof.Machine.execFdbFlushEnd dt s
  | .syncReceived dt inst port grandmaster logInterval => Sys2Proof.Machine.execSyncReceived dt inst port grandmaster logInterval s
  | .syncReceiptTimeout dt => Sys2Proof.Machine.execSyncReceiptTimeout dt s
  | .holdoverExpiry dt => Sys2Proof.Machine.execHoldoverExpiry dt s
  | .grandmasterEntry dt => Sys2Proof.Machine.execGrandmasterEntry dt s
  | .gptpMessage dt inst port msg => Sys2Proof.Machine.execGptpMessage dt inst port msg s
  | .pdelayRequest dt port => Sys2Proof.Machine.execPdelayRequest dt port s
  | .syncTransmit dt inst => Sys2Proof.Machine.execSyncTransmit dt inst s
  | .vehicleTimeRead dt path => Sys2Proof.Machine.execVehicleTimeRead dt path s
  | .streamUnblock dt path value => Sys2Proof.Machine.execStreamUnblock dt path value s
  | .recoveryResetTimeout dt row => Sys2Proof.Machine.execRecoveryResetTimeout dt row s
  | .gatewayChannelEnable dt path port value => Sys2Proof.Machine.execGatewayChannelEnable dt path port value s
  | .shutDownEnd dt port => Sys2Proof.Machine.execShutDownEnd dt port s
  | .jobSubmit dt path page value => Sys2Proof.Machine.execJobSubmit dt path page value s
  | .jobDispatch dt unit => Sys2Proof.Machine.execJobDispatch dt unit s
  | .macGenerate dt page slot => Sys2Proof.Machine.execMacGenerate dt page slot s
  | .macVerify dt page slot => Sys2Proof.Machine.execMacVerify dt page slot s
  | .macGenerateFresh dt page slot => Sys2Proof.Machine.execMacGenerateFresh dt page slot s
  | .macVerifyFresh dt page slot => Sys2Proof.Machine.execMacVerifyFresh dt page slot s
  | .jobSlotFree dt path page slot => Sys2Proof.Machine.execJobSlotFree dt path page slot s
  | .pageEnable dt path page value => Sys2Proof.Machine.execPageEnable dt path page value s
  | .pageClosingEnd dt page => Sys2Proof.Machine.execPageClosingEnd dt page s
  | .freshnessCounterLoad dt path row off data => Sys2Proof.Machine.execFreshnessCounterLoad dt path row off data s
  | .arbiterRefill dt words => Sys2Proof.Machine.execArbiterRefill dt words s
  | .arbiterGrant dt words => Sys2Proof.Machine.execArbiterGrant dt words s
  | .requesterMask dt requester asserted => Sys2Proof.Machine.execRequesterMask dt requester asserted s
  | .keyLoad dt path row off data => Sys2Proof.Machine.execKeyLoad dt path row off data s
  | .keyInvalidate dt path row off data => Sys2Proof.Machine.execKeyInvalidate dt path row off data s
  | .sweepEnd dt => Sys2Proof.Machine.execSweepEnd dt s
  | .tamper dt => Sys2Proof.Machine.execTamper dt s
  | .signData dt path row off data => Sys2Proof.Machine.execSignData dt path row off data s
  | .signDigest dt path row off data => Sys2Proof.Machine.execSignDigest dt path row off data s
  | .verifyData dt path row off data => Sys2Proof.Machine.execVerifyData dt path row off data s
  | .verifyDigest dt path row off data => Sys2Proof.Machine.execVerifyDigest dt path row off data s
  | .signatureOperationEnd dt => Sys2Proof.Machine.execSignatureOperationEnd dt s
  | .attestGenerate dt path value => Sys2Proof.Machine.execAttestGenerate dt path value s
  | .recordSealEnable dt path value => Sys2Proof.Machine.execRecordSealEnable dt path value s
  | .sealKeySlot dt path sign value => Sys2Proof.Machine.execSealKeySlot dt path sign value s
  | .recordTake dt => Sys2Proof.Machine.execRecordTake dt s
  | .recordSealed dt => Sys2Proof.Machine.execRecordSealed dt s
  | .batchCut dt => Sys2Proof.Machine.execBatchCut dt s
  | .sealClosingEnd dt => Sys2Proof.Machine.execSealClosingEnd dt s
  | .sleepEntry dt => Sys2Proof.Machine.execSleepEntry dt s
  | .sleepEntryComplete dt => Sys2Proof.Machine.execSleepEntryComplete dt s
  | .sleepEntryTimeout dt => Sys2Proof.Machine.execSleepEntryTimeout dt s
  | .wakeInputActivation dt input => Sys2Proof.Machine.execWakeInputActivation dt input s
  | .wakeInputDeactivation dt input => Sys2Proof.Machine.execWakeInputDeactivation dt input s
  | .wakeInputStuck dt input => Sys2Proof.Machine.execWakeInputStuck dt input s
  | .wakeInputUnmask dt input => Sys2Proof.Machine.execWakeInputUnmask dt input s
  | .deviceWake dt env => Sys2Proof.Machine.execDeviceWake dt env s
  | .ringEnable dt path ring value => Sys2Proof.Machine.execRingEnable dt path ring value s
  | .ringClosingEnd dt ring => Sys2Proof.Machine.execRingClosingEnd dt ring s
  | .localConsent dt path ring value => Sys2Proof.Machine.execLocalConsent dt path ring value s
  | .ringMessage dt ring port sender payload => Sys2Proof.Machine.execRingMessage dt ring port sender payload s
  | .ringPeriod dt ring => Sys2Proof.Machine.execRingPeriod dt ring s
  | .commitWindow dt ring => Sys2Proof.Machine.execCommitWindow dt ring s
  | .windowEnd dt ring => Sys2Proof.Machine.execWindowEnd dt ring s
  | .sleepStepComplete dt ring port => Sys2Proof.Machine.execSleepStepComplete dt ring port s
  | .busSleepForced dt ring => Sys2Proof.Machine.execBusSleepForced dt ring s
  | .silenceTimeout dt ring member => Sys2Proof.Machine.execSilenceTimeout dt ring member s
  | .falseWakeTimeout dt ring => Sys2Proof.Machine.execFalseWakeTimeout dt ring s
  | .wakeUpPulse dt port => Sys2Proof.Machine.execWakeUpPulse dt port s
  | .wakeUpRequest dt port => Sys2Proof.Machine.execWakeUpRequest dt port s
  | .tc10SleepRequest dt port => Sys2Proof.Machine.execTc10SleepRequest dt port s
  | .faultDetected dt report => Sys2Proof.Machine.execFaultDetected dt report s
  | .resynchronisationEnd dt => Sys2Proof.Machine.execResynchronisationEnd dt s
  | .partitionRestartEnd dt env => Sys2Proof.Machine.execPartitionRestartEnd dt env s
  | .takeOver dt checkOk => Sys2Proof.Machine.execTakeOver dt checkOk s
  | .isolationViolation dt requester address => Sys2Proof.Machine.execIsolationViolation dt requester address s
  | .enterFailSafe dt path value => Sys2Proof.Machine.execEnterFailSafe dt path value s
  | .safeRelease dt path value => Sys2Proof.Machine.execSafeRelease dt path value s
  | .watchdogService dt path value => Sys2Proof.Machine.execWatchdogService dt path value s
  | .watchdogExpiry dt => Sys2Proof.Machine.execWatchdogExpiry dt s
  | .periodicTestRun dt path value => Sys2Proof.Machine.execPeriodicTestRun dt path value s
  | .periodicTestEnd dt digitalOk => Sys2Proof.Machine.execPeriodicTestEnd dt digitalOk s
  | .periodicTestLimit dt => Sys2Proof.Machine.execPeriodicTestLimit dt s
  | .pipelineTest dt path value => Sys2Proof.Machine.execPipelineTest dt path value s
  | .pipelineTestEnd dt result => Sys2Proof.Machine.execPipelineTestEnd dt result s
  | .latentTestOverdue dt => Sys2Proof.Machine.execLatentTestOverdue dt s
  | .scrub dt found => Sys2Proof.Machine.execScrub dt found s
  | .selfTestRun dt path value => Sys2Proof.Machine.execSelfTestRun dt path value s
  | .selfTestAbort dt path value => Sys2Proof.Machine.execSelfTestAbort dt path value s
  | .testStepsEnd dt row codes => Sys2Proof.Machine.execTestStepsEnd dt row codes s
  | .restoringEnd dt row readBackOk linkUp => Sys2Proof.Machine.execRestoringEnd dt row readBackOk linkUp s
  | .holdThreshold dt port => Sys2Proof.Machine.execHoldThreshold dt port s
  | .refclkMeasurement dt count => Sys2Proof.Machine.execRefclkMeasurement dt count s
  | .temperatureMeasurement dt milliCelsius => Sys2Proof.Machine.execTemperatureMeasurement dt milliCelsius s
  | .porstAssert dt => Sys2Proof.Machine.execPorstAssert dt s
  | .coldStart dt env => Sys2Proof.Machine.execColdStart dt env s
  | .updateOpen dt path value => Sys2Proof.Machine.execUpdateOpen dt path value s
  | .eraseComplete dt => Sys2Proof.Machine.execEraseComplete dt s
  | .updateWindowWrite dt path row off data => Sys2Proof.Machine.execUpdateWindowWrite dt path row off data s
  | .rowProgrammed dt readBackOk => Sys2Proof.Machine.execRowProgrammed dt readBackOk s
  | .updateVerify dt path value => Sys2Proof.Machine.execUpdateVerify dt path value s
  | .updateCheckEnd dt => Sys2Proof.Machine.execUpdateCheckEnd dt s
  | .updateActivate dt path value => Sys2Proof.Machine.execUpdateActivate dt path value s
  | .updateAbort dt path value => Sys2Proof.Machine.execUpdateAbort dt path value s
  | .updateConfirm dt path value => Sys2Proof.Machine.execUpdateConfirm dt path value s
  | .recoveryRequest dt path value => Sys2Proof.Machine.execRecoveryRequest dt path value s
  | .systemRestart dt path value => Sys2Proof.Machine.execSystemRestart dt path value s
  | .jtagUnlock dt path value => Sys2Proof.Machine.execJtagUnlock dt path value s
  | .imageKeyWrite dt path row off data => Sys2Proof.Machine.execImageKeyWrite dt path row off data s
  | .supplyUp dt => Sys2Proof.Machine.execSupplyUp dt s
  | .xtalStart dt => Sys2Proof.Machine.execXtalStart dt s
  | .xtalStopped dt => Sys2Proof.Machine.execXtalStopped dt s
  | .pciePerst dt high => Sys2Proof.Machine.execPciePerst dt high s
  | .ppsPulse dt => Sys2Proof.Machine.execPpsPulse dt s
  | .ppsEnd dt => Sys2Proof.Machine.execPpsEnd dt s
  | .postedErrorClear dt path value => Sys2Proof.Machine.execPostedErrorClear dt path value s
  | .clampCountersClear dt path value => Sys2Proof.Machine.execClampCountersClear dt path value s
  | .portCountersClear dt path port value => Sys2Proof.Machine.execPortCountersClear dt path port value s
  | .classifierCountersClear dt path value => Sys2Proof.Machine.execClassifierCountersClear dt path value s
  | .queueCountersClear dt path port value => Sys2Proof.Machine.execQueueCountersClear dt path port value s
  | .forwardingCountersClear dt path value => Sys2Proof.Machine.execForwardingCountersClear dt path value s
  | .gateCountersClear dt path port value => Sys2Proof.Machine.execGateCountersClear dt path port value s
  | .shapingCountersClear dt path port value => Sys2Proof.Machine.execShapingCountersClear dt path port value s
  | .timeCountersClear dt path value => Sys2Proof.Machine.execTimeCountersClear dt path value s
  | .deliveryFaultLogClear dt path value => Sys2Proof.Machine.execDeliveryFaultLogClear dt path value s
  | .streamCountersClear dt path value => Sys2Proof.Machine.execStreamCountersClear dt path value s
  | .samplingClear dt path port value => Sys2Proof.Machine.execSamplingClear dt path port value s
  | .gatewayPortCountersClear dt path port value => Sys2Proof.Machine.execGatewayPortCountersClear dt path port value s
  | .gatewayFailureClear dt path value => Sys2Proof.Machine.execGatewayFailureClear dt path value s
  | .gatewayCountersClear dt path value => Sys2Proof.Machine.execGatewayCountersClear dt path value s
  | .starvationClear dt path value => Sys2Proof.Machine.execStarvationClear dt path value s
  | .macsecCountersClear dt path port value => Sys2Proof.Machine.execMacsecCountersClear dt path port value s
  | .keepAwakeLogClear dt path value => Sys2Proof.Machine.execKeepAwakeLogClear dt path value s
  | .ringCountersClear dt path ring value => Sys2Proof.Machine.execRingCountersClear dt path ring value s
  | .faultLogClear dt path value => Sys2Proof.Machine.execFaultLogClear dt path value s
  | .canErrorFrame dt port transmitting tec rec => Sys2Proof.Machine.execCanErrorFrame dt port transmitting tec rec s
  | .verifyMpacketReceived dt port respond => Sys2Proof.Machine.execVerifyMpacketReceived dt port respond s
  | .pcieLinkUp dt => Sys2Proof.Machine.execPcieLinkUp dt s
  | .busMasterEnable dt set => Sys2Proof.Machine.execBusMasterEnable dt set s

end Sys2Proof.Machine
end

