-- ==== Sys2Proof/Machine/Kinds.lean ====
section
/-! DEFINITION. The kinds of command: how much time passes before each, which of them are writes of one object or one row, and
which are events of the switched domains. -/

namespace Sys2Proof

/-- A write of one object by a path: its span, its path, where it goes and its slot image. -/
structure ObjectWrite where
  dt : Nat
  path : Path
  idx : Nat
  sub : Nat
  slot : Nat
deriving DecidableEq, Repr

/-- A write of octets to one row of a table by a path. -/
structure RowWrite where
  dt : Nat
  path : Path
  idx : Nat
  row : Nat
  sketch : Bool
  off : Nat
  data : List Byte
deriving DecidableEq, Repr

/-- The time that passes before a command (log entry 1). -/
def Instr.dt : Instr → Nat
  | .odWrite dt _ _ _ _ => dt
  | .hostScalarWrite dt _ _ _ => dt
  | .hostScalarRead dt _ _ => dt
  | .hostRowWrite dt _ _ _ => dt
  | .hostRowRead dt _ _ => dt
  | .spiFrame dt _ => dt
  | .spiFrameDiscard dt _ => dt
  | .readScalar dt _ _ _ => dt
  | .writeScalar dt _ _ _ _ => dt
  | .readRow dt _ _ _ _ _ _ => dt
  | .writeRow dt _ _ _ _ _ _ => dt
  | .openSession dt _ _ _ => dt
  | .confirm dt _ _ _ => dt
  | .request dt _ _ _ => dt
  | .closeSession dt _ _ _ => dt
  | .confirmTimeout dt _ => dt
  | .sessionIdleTimeout dt _ => dt
  | .sessionForceClose dt _ _ => dt
  | .remoteOdEnable dt _ _ => dt
  | .applicationReset dt => dt
  | .applicationRunning dt => dt
  | .sketchCommit dt _ _ => dt
  | .commitCheckEnd dt _ _ => dt
  | .swap dt => dt
  | .realigningEnd dt => dt
  | .generationRetire dt => dt
  | .sketchDiscard dt _ _ => dt
  | .commitTime dt _ _ _ => dt
  | .attachmentBinding dt _ _ _ => dt
  | .portEnable dt _ _ _ => dt
  | .flushComplete dt _ => dt
  | .linkUp dt _ _ => dt
  | .linkLost dt _ => dt
  | .busOff dt _ => dt
  | .servingFunctionStopped dt _ => dt
  | .klineInit dt _ _ => dt
  | .linSlot dt _ => dt
  | .linHeader dt _ _ => dt
  | .j1708Collision dt _ => dt
  | .arbitrationLost dt _ => dt
  | .frameArrival dt _ _ => dt
  | .lookaheadComplete dt _ _ => dt
  | .frameTail dt _ _ _ => dt
  | .recirculation dt _ => dt
  | .transmissionEnd dt _ => dt
  | .eligibilityTime dt _ => dt
  | .gateEntry dt _ => dt
  | .configChange dt _ => dt
  | .preemptionPoint dt _ => dt
  | .verifyAttempt dt _ => dt
  | .lifetimeExpiry dt _ => dt
  | .overdueAtHead dt _ => dt
  | .queueDepthSample dt => dt
  | .exceptionRefill dt => dt
  | .firewallEnable dt _ _ => dt
  | .sessionFlush dt _ _ => dt
  | .sessionFreeingEnd dt => dt
  | .sessionExpiry dt _ => dt
  | .firewallSessionWrite dt _ _ _ _ => dt
  | .fragmentExpiry dt _ => dt
  | .fdbEntryWrite dt _ _ _ _ => dt
  | .ageingSweep dt => dt
  | .fdbFlushDynamic dt _ _ => dt
  | .fdbFlushEnd dt => dt
  | .syncReceived dt _ _ _ _ => dt
  | .syncReceiptTimeout dt => dt
  | .holdoverExpiry dt => dt
  | .grandmasterEntry dt => dt
  | .gptpMessage dt _ _ _ => dt
  | .pdelayRequest dt _ => dt
  | .syncTransmit dt _ => dt
  | .vehicleTimeRead dt _ => dt
  | .streamUnblock dt _ _ => dt
  | .recoveryResetTimeout dt _ => dt
  | .gatewayChannelEnable dt _ _ _ => dt
  | .shutDownEnd dt _ => dt
  | .jobSubmit dt _ _ _ => dt
  | .jobDispatch dt _ => dt
  | .macGenerate dt _ _ => dt
  | .macVerify dt _ _ => dt
  | .macGenerateFresh dt _ _ => dt
  | .macVerifyFresh dt _ _ => dt
  | .jobSlotFree dt _ _ _ => dt
  | .pageEnable dt _ _ _ => dt
  | .pageClosingEnd dt _ => dt
  | .freshnessCounterLoad dt _ _ _ _ => dt
  | .arbiterRefill dt _ => dt
  | .arbiterGrant dt _ => dt
  | .requesterMask dt _ _ => dt
  | .keyLoad dt _ _ _ _ => dt
  | .keyInvalidate dt _ _ _ _ => dt
  | .sweepEnd dt => dt
  | .tamper dt => dt
  | .signData dt _ _ _ _ => dt
  | .signDigest dt _ _ _ _ => dt
  | .verifyData dt _ _ _ _ => dt
  | .verifyDigest dt _ _ _ _ => dt
  | .signatureOperationEnd dt => dt
  | .attestGenerate dt _ _ => dt
  | .recordSealEnable dt _ _ => dt
  | .sealKeySlot dt _ _ _ => dt
  | .recordTake dt => dt
  | .recordSealed dt => dt
  | .batchCut dt => dt
  | .sealClosingEnd dt => dt
  | .sleepEntry dt => dt
  | .sleepEntryComplete dt => dt
  | .sleepEntryTimeout dt => dt
  | .wakeInputActivation dt _ => dt
  | .wakeInputDeactivation dt _ => dt
  | .wakeInputStuck dt _ => dt
  | .wakeInputUnmask dt _ => dt
  | .deviceWake dt _ => dt
  | .ringEnable dt _ _ _ => dt
  | .ringClosingEnd dt _ => dt
  | .localConsent dt _ _ _ => dt
  | .ringMessage dt _ _ _ _ => dt
  | .ringPeriod dt _ => dt
  | .commitWindow dt _ => dt
  | .windowEnd dt _ => dt
  | .sleepStepComplete dt _ _ => dt
  | .busSleepForced dt _ => dt
  | .silenceTimeout dt _ _ => dt
  | .falseWakeTimeout dt _ => dt
  | .wakeUpPulse dt _ => dt
  | .wakeUpRequest dt _ => dt
  | .tc10SleepRequest dt _ => dt
  | .faultDetected dt _ => dt
  | .resynchronisationEnd dt => dt
  | .partitionRestartEnd dt _ => dt
  | .takeOver dt _ => dt
  | .isolationViolation dt _ _ => dt
  | .enterFailSafe dt _ _ => dt
  | .safeRelease dt _ _ => dt
  | .watchdogService dt _ _ => dt
  | .watchdogExpiry dt => dt
  | .periodicTestRun dt _ _ => dt
  | .periodicTestEnd dt _ => dt
  | .periodicTestLimit dt => dt
  | .pipelineTest dt _ _ => dt
  | .pipelineTestEnd dt _ => dt
  | .latentTestOverdue dt => dt
  | .scrub dt _ => dt
  | .selfTestRun dt _ _ => dt
  | .selfTestAbort dt _ _ => dt
  | .testStepsEnd dt _ _ => dt
  | .restoringEnd dt _ _ _ => dt
  | .holdThreshold dt _ => dt
  | .refclkMeasurement dt _ => dt
  | .temperatureMeasurement dt _ => dt
  | .porstAssert dt => dt
  | .coldStart dt _ => dt
  | .updateOpen dt _ _ => dt
  | .eraseComplete dt => dt
  | .updateWindowWrite dt _ _ _ _ => dt
  | .rowProgrammed dt _ => dt
  | .updateVerify dt _ _ => dt
  | .updateCheckEnd dt => dt
  | .updateActivate dt _ _ => dt
  | .updateAbort dt _ _ => dt
  | .updateConfirm dt _ _ => dt
  | .recoveryRequest dt _ _ => dt
  | .systemRestart dt _ _ => dt
  | .jtagUnlock dt _ _ => dt
  | .imageKeyWrite dt _ _ _ _ => dt
  | .supplyUp dt => dt
  | .xtalStart dt => dt
  | .xtalStopped dt => dt
  | .pciePerst dt _ => dt
  | .ppsPulse dt => dt
  | .ppsEnd dt => dt
  | .postedErrorClear dt _ _ => dt
  | .clampCountersClear dt _ _ => dt
  | .portCountersClear dt _ _ _ => dt
  | .classifierCountersClear dt _ _ => dt
  | .queueCountersClear dt _ _ _ => dt
  | .forwardingCountersClear dt _ _ => dt
  | .gateCountersClear dt _ _ _ => dt
  | .shapingCountersClear dt _ _ _ => dt
  | .timeCountersClear dt _ _ => dt
  | .deliveryFaultLogClear dt _ _ => dt
  | .streamCountersClear dt _ _ => dt
  | .samplingClear dt _ _ _ => dt
  | .gatewayPortCountersClear dt _ _ _ => dt
  | .gatewayFailureClear dt _ _ => dt
  | .gatewayCountersClear dt _ _ => dt
  | .starvationClear dt _ _ => dt
  | .macsecCountersClear dt _ _ _ => dt
  | .keepAwakeLogClear dt _ _ => dt
  | .ringCountersClear dt _ _ _ => dt
  | .faultLogClear dt _ _ => dt
  | .canErrorFrame dt _ _ _ _ => dt
  | .verifyMpacketReceived dt _ _ => dt
  | .pcieLinkUp dt => dt
  | .busMasterEnable dt _ => dt

/-- Whether a command is an event of the switched domains, which does nothing while they are off (R24, R356). -/
def Instr.needsPower : Instr → Bool
  | .odWrite _ _ _ _ _ => false
  | .hostScalarWrite _ _ _ _ => false
  | .hostScalarRead _ _ _ => false
  | .hostRowWrite _ _ _ _ => false
  | .hostRowRead _ _ _ => false
  | .spiFrame _ _ => false
  | .spiFrameDiscard _ _ => false
  | .readScalar _ _ _ _ => false
  | .writeScalar _ _ _ _ _ => false
  | .readRow _ _ _ _ _ _ _ => false
  | .writeRow _ _ _ _ _ _ _ => false
  | .openSession _ _ _ _ => false
  | .confirm _ _ _ _ => false
  | .request _ _ _ _ => false
  | .closeSession _ _ _ _ => false
  | .confirmTimeout _ _ => true
  | .sessionIdleTimeout _ _ => true
  | .sessionForceClose _ _ _ => false
  | .remoteOdEnable _ _ _ => false
  | .applicationReset _ => true
  | .applicationRunning _ => true
  | .sketchCommit _ _ _ => false
  | .commitCheckEnd _ _ _ => true
  | .swap _ => true
  | .realigningEnd _ => true
  | .generationRetire _ => true
  | .sketchDiscard _ _ _ => false
  | .commitTime _ _ _ _ => false
  | .attachmentBinding _ _ _ _ => false
  | .portEnable _ _ _ _ => false
  | .flushComplete _ _ => true
  | .linkUp _ _ _ => true
  | .linkLost _ _ => true
  | .busOff _ _ => true
  | .servingFunctionStopped _ _ => true
  | .klineInit _ _ _ => true
  | .linSlot _ _ => true
  | .linHeader _ _ _ => true
  | .j1708Collision _ _ => true
  | .arbitrationLost _ _ => true
  | .frameArrival _ _ _ => true
  | .lookaheadComplete _ _ _ => true
  | .frameTail _ _ _ _ => true
  | .recirculation _ _ => true
  | .transmissionEnd _ _ => true
  | .eligibilityTime _ _ => true
  | .gateEntry _ _ => true
  | .configChange _ _ => true
  | .preemptionPoint _ _ => true
  | .verifyAttempt _ _ => true
  | .lifetimeExpiry _ _ => true
  | .overdueAtHead _ _ => true
  | .queueDepthSample _ => true
  | .exceptionRefill _ => true
  | .firewallEnable _ _ _ => false
  | .sessionFlush _ _ _ => false
  | .sessionFreeingEnd _ => true
  | .sessionExpiry _ _ => true
  | .firewallSessionWrite _ _ _ _ _ => false
  | .fragmentExpiry _ _ => true
  | .fdbEntryWrite _ _ _ _ _ => false
  | .ageingSweep _ => true
  | .fdbFlushDynamic _ _ _ => false
  | .fdbFlushEnd _ => true
  | .syncReceived _ _ _ _ _ => true
  | .syncReceiptTimeout _ => true
  | .holdoverExpiry _ => true
  | .grandmasterEntry _ => true
  | .gptpMessage _ _ _ _ => true
  | .pdelayRequest _ _ => true
  | .syncTransmit _ _ => true
  | .vehicleTimeRead _ _ => false
  | .streamUnblock _ _ _ => false
  | .recoveryResetTimeout _ _ => true
  | .gatewayChannelEnable _ _ _ _ => false
  | .shutDownEnd _ _ => true
  | .jobSubmit _ _ _ _ => false
  | .jobDispatch _ _ => true
  | .macGenerate _ _ _ => true
  | .macVerify _ _ _ => true
  | .macGenerateFresh _ _ _ => true
  | .macVerifyFresh _ _ _ => true
  | .jobSlotFree _ _ _ _ => false
  | .pageEnable _ _ _ _ => false
  | .pageClosingEnd _ _ => true
  | .freshnessCounterLoad _ _ _ _ _ => false
  | .arbiterRefill _ _ => true
  | .arbiterGrant _ _ => true
  | .requesterMask _ _ _ => true
  | .keyLoad _ _ _ _ _ => false
  | .keyInvalidate _ _ _ _ _ => false
  | .sweepEnd _ => true
  | .tamper _ => false
  | .signData _ _ _ _ _ => false
  | .signDigest _ _ _ _ _ => false
  | .verifyData _ _ _ _ _ => false
  | .verifyDigest _ _ _ _ _ => false
  | .signatureOperationEnd _ => true
  | .attestGenerate _ _ _ => false
  | .recordSealEnable _ _ _ => false
  | .sealKeySlot _ _ _ _ => false
  | .recordTake _ => true
  | .recordSealed _ => true
  | .batchCut _ => true
  | .sealClosingEnd _ => true
  | .sleepEntry _ => false
  | .sleepEntryComplete _ => false
  | .sleepEntryTimeout _ => false
  | .wakeInputActivation _ _ => false
  | .wakeInputDeactivation _ _ => false
  | .wakeInputStuck _ _ => false
  | .wakeInputUnmask _ _ => false
  | .deviceWake _ _ => false
  | .ringEnable _ _ _ _ => false
  | .ringClosingEnd _ _ => true
  | .localConsent _ _ _ _ => false
  | .ringMessage _ _ _ _ _ => true
  | .ringPeriod _ _ => true
  | .commitWindow _ _ => true
  | .windowEnd _ _ => true
  | .sleepStepComplete _ _ _ => true
  | .busSleepForced _ _ => true
  | .silenceTimeout _ _ _ => true
  | .falseWakeTimeout _ _ => true
  | .wakeUpPulse _ _ => true
  | .wakeUpRequest _ _ => true
  | .tc10SleepRequest _ _ => true
  | .faultDetected _ _ => true
  | .resynchronisationEnd _ => true
  | .partitionRestartEnd _ _ => true
  | .takeOver _ _ => true
  | .isolationViolation _ _ _ => true
  | .enterFailSafe _ _ _ => false
  | .safeRelease _ _ _ => false
  | .watchdogService _ _ _ => false
  | .watchdogExpiry _ => true
  | .periodicTestRun _ _ _ => false
  | .periodicTestEnd _ _ => true
  | .periodicTestLimit _ => true
  | .pipelineTest _ _ _ => false
  | .pipelineTestEnd _ _ => true
  | .latentTestOverdue _ => true
  | .scrub _ _ => true
  | .selfTestRun _ _ _ => false
  | .selfTestAbort _ _ _ => false
  | .testStepsEnd _ _ _ => true
  | .restoringEnd _ _ _ _ => true
  | .holdThreshold _ _ => true
  | .refclkMeasurement _ _ => true
  | .temperatureMeasurement _ _ => true
  | .porstAssert _ => false
  | .coldStart _ _ => false
  | .updateOpen _ _ _ => false
  | .eraseComplete _ => true
  | .updateWindowWrite _ _ _ _ _ => false
  | .rowProgrammed _ _ => true
  | .updateVerify _ _ _ => false
  | .updateCheckEnd _ => true
  | .updateActivate _ _ _ => false
  | .updateAbort _ _ _ => false
  | .updateConfirm _ _ _ => false
  | .recoveryRequest _ _ _ => false
  | .systemRestart _ _ _ => false
  | .jtagUnlock _ _ _ => false
  | .imageKeyWrite _ _ _ _ _ => false
  | .supplyUp _ => false
  | .xtalStart _ => false
  | .xtalStopped _ => false
  | .pciePerst _ _ => false
  | .ppsPulse _ => true
  | .ppsEnd _ => true
  | .postedErrorClear _ _ _ => false
  | .clampCountersClear _ _ _ => false
  | .portCountersClear _ _ _ _ => false
  | .classifierCountersClear _ _ _ => false
  | .queueCountersClear _ _ _ _ => false
  | .forwardingCountersClear _ _ _ => false
  | .gateCountersClear _ _ _ _ => false
  | .shapingCountersClear _ _ _ _ => false
  | .timeCountersClear _ _ _ => false
  | .deliveryFaultLogClear _ _ _ => false
  | .streamCountersClear _ _ _ => false
  | .samplingClear _ _ _ _ => false
  | .gatewayPortCountersClear _ _ _ _ => false
  | .gatewayFailureClear _ _ _ => false
  | .gatewayCountersClear _ _ _ => false
  | .starvationClear _ _ _ => false
  | .macsecCountersClear _ _ _ _ => false
  | .keepAwakeLogClear _ _ _ => false
  | .ringCountersClear _ _ _ _ => false
  | .faultLogClear _ _ _ => false
  | .canErrorFrame _ _ _ _ _ => true
  | .verifyMpacketReceived _ _ _ => true
  | .pcieLinkUp _ => true
  | .busMasterEnable _ _ => true

/-- The commands that are a write of one object (R8). -/
def Instr.asWrite : Instr → Option ObjectWrite
  | .odWrite dt path idx sub value => some ⟨dt, path, idx.toNat, sub.toNat, value.toNat⟩
  | .hostScalarWrite _ _ _ _ => none
  | .hostScalarRead _ _ _ => none
  | .hostRowWrite _ _ _ _ => none
  | .hostRowRead _ _ _ => none
  | .spiFrame _ _ => none
  | .spiFrameDiscard _ _ => none
  | .readScalar _ _ _ _ => none
  | .writeScalar dt path idx sub value => some ⟨dt, path, idx.toNat, sub.toNat, value.toNat⟩
  | .readRow _ _ _ _ _ _ _ => none
  | .writeRow _ _ _ _ _ _ _ => none
  | .openSession _ _ _ _ => none
  | .confirm _ _ _ _ => none
  | .request _ _ _ _ => none
  | .closeSession _ _ _ _ => none
  | .confirmTimeout _ _ => none
  | .sessionIdleTimeout _ _ => none
  | .sessionForceClose dt path value => some ⟨dt, path, 0x1D00, 19, value.toNat⟩
  | .remoteOdEnable dt path value => some ⟨dt, path, 0x1D00, 1, value.toNat⟩
  | .applicationReset _ => none
  | .applicationRunning _ => none
  | .sketchCommit dt path value => some ⟨dt, path, 0x1F10, 1, value.toNat⟩
  | .commitCheckEnd _ _ _ => none
  | .swap _ => none
  | .realigningEnd _ => none
  | .generationRetire _ => none
  | .sketchDiscard dt path value => some ⟨dt, path, 0x1F10, 7, value.toNat⟩
  | .commitTime dt path frac value => some ⟨dt, path, 0x1F10, if frac then 3 else 2, value.toNat⟩
  | .attachmentBinding dt path port value => some ⟨dt, path, 0x2000 + 16 * port.val, 2, value.toNat⟩
  | .portEnable dt path port value => some ⟨dt, path, 0x2000 + 16 * port.val, 3, value.toNat⟩
  | .flushComplete _ _ => none
  | .linkUp _ _ _ => none
  | .linkLost _ _ => none
  | .busOff _ _ => none
  | .servingFunctionStopped _ _ => none
  | .klineInit _ _ _ => none
  | .linSlot _ _ => none
  | .linHeader _ _ _ => none
  | .j1708Collision _ _ => none
  | .arbitrationLost _ _ => none
  | .frameArrival _ _ _ => none
  | .lookaheadComplete _ _ _ => none
  | .frameTail _ _ _ _ => none
  | .recirculation _ _ => none
  | .transmissionEnd _ _ => none
  | .eligibilityTime _ _ => none
  | .gateEntry _ _ => none
  | .configChange _ _ => none
  | .preemptionPoint _ _ => none
  | .verifyAttempt _ _ => none
  | .lifetimeExpiry _ _ => none
  | .overdueAtHead _ _ => none
  | .queueDepthSample _ => none
  | .exceptionRefill _ => none
  | .firewallEnable dt path value => some ⟨dt, path, 0x4100, 1, value.toNat⟩
  | .sessionFlush dt path value => some ⟨dt, path, 0x4100, 8, value.toNat⟩
  | .sessionFreeingEnd _ => none
  | .sessionExpiry _ _ => none
  | .firewallSessionWrite _ _ _ _ _ => none
  | .fragmentExpiry _ _ => none
  | .fdbEntryWrite _ _ _ _ _ => none
  | .ageingSweep _ => none
  | .fdbFlushDynamic dt path value => some ⟨dt, path, 0x3000, 18, value.toNat⟩
  | .fdbFlushEnd _ => none
  | .syncReceived _ _ _ _ _ => none
  | .syncReceiptTimeout _ => none
  | .holdoverExpiry _ => none
  | .grandmasterEntry _ => none
  | .gptpMessage _ _ _ _ => none
  | .pdelayRequest _ _ => none
  | .syncTransmit _ _ => none
  | .vehicleTimeRead _ _ => none
  | .streamUnblock dt path value => some ⟨dt, path, 0x6000, 15, value.toNat⟩
  | .recoveryResetTimeout _ _ => none
  | .gatewayChannelEnable dt path port value => some ⟨dt, path, 0x200A + 16 * port.val, 1, value.toNat⟩
  | .shutDownEnd _ _ => none
  | .jobSubmit dt path page value => some ⟨dt, path, 0x8100 + page.val, 1, value.toNat⟩
  | .jobDispatch _ _ => none
  | .macGenerate _ _ _ => none
  | .macVerify _ _ _ => none
  | .macGenerateFresh _ _ _ => none
  | .macVerifyFresh _ _ _ => none
  | .jobSlotFree _ _ _ _ => none
  | .pageEnable dt path page value => some ⟨dt, path, 0x8100 + page.val, 3, value.toNat⟩
  | .pageClosingEnd _ _ => none
  | .freshnessCounterLoad _ _ _ _ _ => none
  | .arbiterRefill _ _ => none
  | .arbiterGrant _ _ => none
  | .requesterMask _ _ _ => none
  | .keyLoad _ _ _ _ _ => none
  | .keyInvalidate _ _ _ _ _ => none
  | .sweepEnd _ => none
  | .tamper _ => none
  | .signData _ _ _ _ _ => none
  | .signDigest _ _ _ _ _ => none
  | .verifyData _ _ _ _ _ => none
  | .verifyDigest _ _ _ _ _ => none
  | .signatureOperationEnd _ => none
  | .attestGenerate dt path value => some ⟨dt, path, 0x8300, 1, value.toNat⟩
  | .recordSealEnable dt path value => some ⟨dt, path, 0x8400, 1, value.toNat⟩
  | .sealKeySlot dt path sign value => some ⟨dt, path, 0x8400, if sign then 5 else 4, value.toNat⟩
  | .recordTake _ => none
  | .recordSealed _ => none
  | .batchCut _ => none
  | .sealClosingEnd _ => none
  | .sleepEntry _ => none
  | .sleepEntryComplete _ => none
  | .sleepEntryTimeout _ => none
  | .wakeInputActivation _ _ => none
  | .wakeInputDeactivation _ _ => none
  | .wakeInputStuck _ _ => none
  | .wakeInputUnmask _ _ => none
  | .deviceWake _ _ => none
  | .ringEnable dt path ring value => some ⟨dt, path, 0x9100 + ring.val, 1, value.toNat⟩
  | .ringClosingEnd _ _ => none
  | .localConsent dt path ring value => some ⟨dt, path, 0x9100 + ring.val, 4, value.toNat⟩
  | .ringMessage _ _ _ _ _ => none
  | .ringPeriod _ _ => none
  | .commitWindow _ _ => none
  | .windowEnd _ _ => none
  | .sleepStepComplete _ _ _ => none
  | .busSleepForced _ _ => none
  | .silenceTimeout _ _ _ => none
  | .falseWakeTimeout _ _ => none
  | .wakeUpPulse _ _ => none
  | .wakeUpRequest _ _ => none
  | .tc10SleepRequest _ _ => none
  | .faultDetected _ _ => none
  | .resynchronisationEnd _ => none
  | .partitionRestartEnd _ _ => none
  | .takeOver _ _ => none
  | .isolationViolation _ _ _ => none
  | .enterFailSafe dt path value => some ⟨dt, path, 0xA000, 14, value.toNat⟩
  | .safeRelease dt path value => some ⟨dt, path, 0xA000, 13, value.toNat⟩
  | .watchdogService dt path value => some ⟨dt, path, 0xA000, 15, value.toNat⟩
  | .watchdogExpiry _ => none
  | .periodicTestRun dt path value => some ⟨dt, path, 0xA000, 17, value.toNat⟩
  | .periodicTestEnd _ _ => none
  | .periodicTestLimit _ => none
  | .pipelineTest dt path value => some ⟨dt, path, 0xA010, 12, value.toNat⟩
  | .pipelineTestEnd _ _ => none
  | .latentTestOverdue _ => none
  | .scrub _ _ => none
  | .selfTestRun dt path value => some ⟨dt, path, 0xB000, 1, value.toNat⟩
  | .selfTestAbort dt path value => some ⟨dt, path, 0xB000, 2, value.toNat⟩
  | .testStepsEnd _ _ _ => none
  | .restoringEnd _ _ _ _ => none
  | .holdThreshold _ _ => none
  | .refclkMeasurement _ _ => none
  | .temperatureMeasurement _ _ => none
  | .porstAssert _ => none
  | .coldStart _ _ => none
  | .updateOpen dt path value => some ⟨dt, path, 0xC100, 1, value.toNat⟩
  | .eraseComplete _ => none
  | .updateWindowWrite _ _ _ _ _ => none
  | .rowProgrammed _ _ => none
  | .updateVerify dt path value => some ⟨dt, path, 0xC100, 3, value.toNat⟩
  | .updateCheckEnd _ => none
  | .updateActivate dt path value => some ⟨dt, path, 0xC100, 4, value.toNat⟩
  | .updateAbort dt path value => some ⟨dt, path, 0xC100, 5, value.toNat⟩
  | .updateConfirm dt path value => some ⟨dt, path, 0xC000, 9, value.toNat⟩
  | .recoveryRequest dt path value => some ⟨dt, path, 0xC000, 10, value.toNat⟩
  | .systemRestart dt path value => some ⟨dt, path, 0xC000, 11, value.toNat⟩
  | .jtagUnlock dt path value => some ⟨dt, path, 0xC000, 12, value.toNat⟩
  | .imageKeyWrite _ _ _ _ _ => none
  | .supplyUp _ => none
  | .xtalStart _ => none
  | .xtalStopped _ => none
  | .pciePerst _ _ => none
  | .ppsPulse _ => none
  | .ppsEnd _ => none
  | .postedErrorClear dt path value => some ⟨dt, path, 0x1E10, 3, value.toNat⟩
  | .clampCountersClear dt path value => some ⟨dt, path, 0x1E20, 1, value.toNat⟩
  | .portCountersClear dt path port value => some ⟨dt, path, 0x2006 + 16 * port.val, 14, value.toNat⟩
  | .classifierCountersClear dt path value => some ⟨dt, path, 0x4000, 18, value.toNat⟩
  | .queueCountersClear dt path port value => some ⟨dt, path, 0x2003 + 16 * port.val, 44, value.toNat⟩
  | .forwardingCountersClear dt path value => some ⟨dt, path, 0x3000, 19, value.toNat⟩
  | .gateCountersClear dt path port value => some ⟨dt, path, 0x2004 + 16 * port.val, 14, value.toNat⟩
  | .shapingCountersClear dt path port value => some ⟨dt, path, 0x2005 + 16 * port.val, 10, value.toNat⟩
  | .timeCountersClear dt path value => some ⟨dt, path, 0x5000, 14, value.toNat⟩
  | .deliveryFaultLogClear dt path value => some ⟨dt, path, 0x6000, 11, value.toNat⟩
  | .streamCountersClear dt path value => some ⟨dt, path, 0x6000, 14, value.toNat⟩
  | .samplingClear dt path port value => some ⟨dt, path, 0x2007 + 16 * port.val, 28, value.toNat⟩
  | .gatewayPortCountersClear dt path port value => some ⟨dt, path, 0x200A + 16 * port.val, 24, value.toNat⟩
  | .gatewayFailureClear dt path value => some ⟨dt, path, 0x7000, 6, value.toNat⟩
  | .gatewayCountersClear dt path value => some ⟨dt, path, 0x7000, 15, value.toNat⟩
  | .starvationClear dt path value => some ⟨dt, path, 0x8010, 12, value.toNat⟩
  | .macsecCountersClear dt path port value => some ⟨dt, path, 0x200B + 16 * port.val, 8, value.toNat⟩
  | .keepAwakeLogClear dt path value => some ⟨dt, path, 0x9000, 14, value.toNat⟩
  | .ringCountersClear dt path ring value => some ⟨dt, path, 0x9100 + ring.val, 12, value.toNat⟩
  | .faultLogClear dt path value => some ⟨dt, path, 0xA000, 12, value.toNat⟩
  | .canErrorFrame _ _ _ _ _ => none
  | .verifyMpacketReceived _ _ _ => none
  | .pcieLinkUp _ => none
  | .busMasterEnable _ _ => none

/-- The commands that are a write of one row (R33). -/
def Instr.asRowWrite : Instr → Option RowWrite
  | .odWrite _ _ _ _ _ => none
  | .hostScalarWrite _ _ _ _ => none
  | .hostScalarRead _ _ _ => none
  | .hostRowWrite _ _ _ _ => none
  | .hostRowRead _ _ _ => none
  | .spiFrame _ _ => none
  | .spiFrameDiscard _ _ => none
  | .readScalar _ _ _ _ => none
  | .writeScalar _ _ _ _ _ => none
  | .readRow _ _ _ _ _ _ _ => none
  | .writeRow dt path idx row sketch off data => some ⟨dt, path, idx.toNat, row.toNat, sketch, off, data⟩
  | .openSession _ _ _ _ => none
  | .confirm _ _ _ _ => none
  | .request _ _ _ _ => none
  | .closeSession _ _ _ _ => none
  | .confirmTimeout _ _ => none
  | .sessionIdleTimeout _ _ => none
  | .sessionForceClose _ _ _ => none
  | .remoteOdEnable _ _ _ => none
  | .applicationReset _ => none
  | .applicationRunning _ => none
  | .sketchCommit _ _ _ => none
  | .commitCheckEnd _ _ _ => none
  | .swap _ => none
  | .realigningEnd _ => none
  | .generationRetire _ => none
  | .sketchDiscard _ _ _ => none
  | .commitTime _ _ _ _ => none
  | .attachmentBinding _ _ _ _ => none
  | .portEnable _ _ _ _ => none
  | .flushComplete _ _ => none
  | .linkUp _ _ _ => none
  | .linkLost _ _ => none
  | .busOff _ _ => none
  | .servingFunctionStopped _ _ => none
  | .klineInit _ _ _ => none
  | .linSlot _ _ => none
  | .linHeader _ _ _ => none
  | .j1708Collision _ _ => none
  | .arbitrationLost _ _ => none
  | .frameArrival _ _ _ => none
  | .lookaheadComplete _ _ _ => none
  | .frameTail _ _ _ _ => none
  | .recirculation _ _ => none
  | .transmissionEnd _ _ => none
  | .eligibilityTime _ _ => none
  | .gateEntry _ _ => none
  | .configChange _ _ => none
  | .preemptionPoint _ _ => none
  | .verifyAttempt _ _ => none
  | .lifetimeExpiry _ _ => none
  | .overdueAtHead _ _ => none
  | .queueDepthSample _ => none
  | .exceptionRefill _ => none
  | .firewallEnable _ _ _ => none
  | .sessionFlush _ _ _ => none
  | .sessionFreeingEnd _ => none
  | .sessionExpiry _ _ => none
  | .firewallSessionWrite dt path row off data => some ⟨dt, path, 0xF046, row.toNat, false, off, data⟩
  | .fragmentExpiry _ _ => none
  | .fdbEntryWrite dt path row off data => some ⟨dt, path, 0xF052, row.toNat, false, off, data⟩
  | .ageingSweep _ => none
  | .fdbFlushDynamic _ _ _ => none
  | .fdbFlushEnd _ => none
  | .syncReceived _ _ _ _ _ => none
  | .syncReceiptTimeout _ => none
  | .holdoverExpiry _ => none
  | .grandmasterEntry _ => none
  | .gptpMessage _ _ _ _ => none
  | .pdelayRequest _ _ => none
  | .syncTransmit _ _ => none
  | .vehicleTimeRead _ _ => none
  | .streamUnblock _ _ _ => none
  | .recoveryResetTimeout _ _ => none
  | .gatewayChannelEnable _ _ _ _ => none
  | .shutDownEnd _ _ => none
  | .jobSubmit _ _ _ _ => none
  | .jobDispatch _ _ => none
  | .macGenerate _ _ _ => none
  | .macVerify _ _ _ => none
  | .macGenerateFresh _ _ _ => none
  | .macVerifyFresh _ _ _ => none
  | .jobSlotFree _ _ _ _ => none
  | .pageEnable _ _ _ _ => none
  | .pageClosingEnd _ _ => none
  | .freshnessCounterLoad dt path row off data => some ⟨dt, path, 0xF094, row.toNat, false, off, data⟩
  | .arbiterRefill _ _ => none
  | .arbiterGrant _ _ => none
  | .requesterMask _ _ _ => none
  | .keyLoad dt path row off data => some ⟨dt, path, 0xF098, row.toNat, false, off, data⟩
  | .keyInvalidate dt path row off data => some ⟨dt, path, 0xF098, row.toNat, false, off, data⟩
  | .sweepEnd _ => none
  | .tamper _ => none
  | .signData dt path row off data => some ⟨dt, path, 0xF099, row.val, false, off, data⟩
  | .signDigest dt path row off data => some ⟨dt, path, 0xF099, row.val, false, off, data⟩
  | .verifyData dt path row off data => some ⟨dt, path, 0xF099, row.val, false, off, data⟩
  | .verifyDigest dt path row off data => some ⟨dt, path, 0xF099, row.val, false, off, data⟩
  | .signatureOperationEnd _ => none
  | .attestGenerate _ _ _ => none
  | .recordSealEnable _ _ _ => none
  | .sealKeySlot _ _ _ _ => none
  | .recordTake _ => none
  | .recordSealed _ => none
  | .batchCut _ => none
  | .sealClosingEnd _ => none
  | .sleepEntry _ => none
  | .sleepEntryComplete _ => none
  | .sleepEntryTimeout _ => none
  | .wakeInputActivation _ _ => none
  | .wakeInputDeactivation _ _ => none
  | .wakeInputStuck _ _ => none
  | .wakeInputUnmask _ _ => none
  | .deviceWake _ _ => none
  | .ringEnable _ _ _ _ => none
  | .ringClosingEnd _ _ => none
  | .localConsent _ _ _ _ => none
  | .ringMessage _ _ _ _ _ => none
  | .ringPeriod _ _ => none
  | .commitWindow _ _ => none
  | .windowEnd _ _ => none
  | .sleepStepComplete _ _ _ => none
  | .busSleepForced _ _ => none
  | .silenceTimeout _ _ _ => none
  | .falseWakeTimeout _ _ => none
  | .wakeUpPulse _ _ => none
  | .wakeUpRequest _ _ => none
  | .tc10SleepRequest _ _ => none
  | .faultDetected _ _ => none
  | .resynchronisationEnd _ => none
  | .partitionRestartEnd _ _ => none
  | .takeOver _ _ => none
  | .isolationViolation _ _ _ => none
  | .enterFailSafe _ _ _ => none
  | .safeRelease _ _ _ => none
  | .watchdogService _ _ _ => none
  | .watchdogExpiry _ => none
  | .periodicTestRun _ _ _ => none
  | .periodicTestEnd _ _ => none
  | .periodicTestLimit _ => none
  | .pipelineTest _ _ _ => none
  | .pipelineTestEnd _ _ => none
  | .latentTestOverdue _ => none
  | .scrub _ _ => none
  | .selfTestRun _ _ _ => none
  | .selfTestAbort _ _ _ => none
  | .testStepsEnd _ _ _ => none
  | .restoringEnd _ _ _ _ => none
  | .holdThreshold _ _ => none
  | .refclkMeasurement _ _ => none
  | .temperatureMeasurement _ _ => none
  | .porstAssert _ => none
  | .coldStart _ _ => none
  | .updateOpen _ _ _ => none
  | .eraseComplete _ => none
  | .updateWindowWrite dt path row off data => some ⟨dt, path, 0xF0C0, row.toNat, false, off, data⟩
  | .rowProgrammed _ _ => none
  | .updateVerify _ _ _ => none
  | .updateCheckEnd _ => none
  | .updateActivate _ _ _ => none
  | .updateAbort _ _ _ => none
  | .updateConfirm _ _ _ => none
  | .recoveryRequest _ _ _ => none
  | .systemRestart _ _ _ => none
  | .jtagUnlock _ _ _ => none
  | .imageKeyWrite dt path row off data => some ⟨dt, path, 0xF0C1, row.val, false, off, data⟩
  | .supplyUp _ => none
  | .xtalStart _ => none
  | .xtalStopped _ => none
  | .pciePerst _ _ => none
  | .ppsPulse _ => none
  | .ppsEnd _ => none
  | .postedErrorClear _ _ _ => none
  | .clampCountersClear _ _ _ => none
  | .portCountersClear _ _ _ _ => none
  | .classifierCountersClear _ _ _ => none
  | .queueCountersClear _ _ _ _ => none
  | .forwardingCountersClear _ _ _ => none
  | .gateCountersClear _ _ _ _ => none
  | .shapingCountersClear _ _ _ _ => none
  | .timeCountersClear _ _ _ => none
  | .deliveryFaultLogClear _ _ _ => none
  | .streamCountersClear _ _ _ => none
  | .samplingClear _ _ _ _ => none
  | .gatewayPortCountersClear _ _ _ _ => none
  | .gatewayFailureClear _ _ _ => none
  | .gatewayCountersClear _ _ _ => none
  | .starvationClear _ _ _ => none
  | .macsecCountersClear _ _ _ _ => none
  | .keepAwakeLogClear _ _ _ => none
  | .ringCountersClear _ _ _ _ => none
  | .faultLogClear _ _ _ => none
  | .canErrorFrame _ _ _ _ _ => none
  | .verifyMpacketReceived _ _ _ => none
  | .pcieLinkUp _ => none
  | .busMasterEnable _ _ => none

end Sys2Proof
end

