-- ==== Sys2Proof/Safety.lean ====
section
/-! DEFINITION. What a sound state is, in the terms that claims use. -/

namespace Sys2Proof.Machine

/-- Whether a register's value fits its object (R34): internal registers have no width. -/
def regFits (c : Nat × Nat) : Bool := regMod c.1 == 0 || decide (c.2 < regMod c.1)

/-- The register file is canonical, and every object's value fits its type. -/
def regsSound (m : Store Nat) : Bool := Store.wf regDefault m && m.all regFits

/-- An octet memory is canonical. -/
def memSound (g : Gen) (m : Store Byte) : Bool := Store.wf (memDefault g) m

/-- What the retention region holds is canonical. -/
def Saved.sound (x : Saved) : Bool := regsSound x.regs && memSound .live x.live && memSound .fair x.fair

/-- A sound state: every store is in its canonical form, every object's value has its object's width, the retention image
likewise, vehicle time has 80 bits (R7) and the last status is one octet. -/
def State.sound (s : State) : Bool :=
  regsSound s.regs && memSound .live s.live && memSound .sketch s.sketch && memSound .fair s.fair && memSound .prev s.prev
    && memSound .flash s.flash && s.saved.all Saved.sound && decide (s.vtime < 2 ^ 80) && decide (s.status < 256)

/-! ### The state in which a command has its effect -/

/-- The state once the time before a command has passed. -/
def State.after (s : State) (dt : Nat) : State := (tick dt).run s

/-- The state in which an access of a path is judged: an access of the safety partition finds a resynchronisation ended (R394). -/
def State.facing (s : State) (dt : Nat) (path : Path) : State := (afterResync (s.after dt) path).run (s.after dt)

/-- Whether R8, R22 and R40 let a path write an object that the port has: the path is served, the object exists and may be
written by the path, and its function is not busy. -/
def State.admits (s : State) (path : Path) (idx sub : Nat) : Bool :=
  s.serves path && (tableOf idx).isNone && sub != 0 &&
    match s.objAt idx sub with
    | some o => s.mayWrite path idx sub o && !s.writeBusy idx sub o && s.belongs idx o
    | none => false

/-- Whether R8, R33 and R40 let a path write `n` octets of a row of a table that is not staged. -/
def State.admitsRow (s : State) (path : Path) (idx row off n : Nat) : Bool :=
  s.serves path &&
    match tableOf idx with
    | some t => !t.staged && decide (row < t.rows) && n != 0 && decide (off + n ≤ t.stride) && s.mayWriteRow path t row false
        && !s.rowBusy path t row off n
    | none => false

/-- The RW objects whose write only stores the value: those without a rule of their chapter that makes the write do more
(R45, R83, R88, R97, R110, R150, R470). -/
def plainObject (idx sub : Nat) : Bool :=
  let t := (template idx).1
  !(t == 0x1F10 || (t == 0x1D00 && sub == 1) || (t == 0x2000 && (sub == 2 || sub == 3)) || t == 0x2008 || (t == 0x200A && sub == 1)
    || (t == 0x4100 && sub == 1) || (t == 0x5000 && sub == 4) || t == 0x5010 || (t == 0x8100 && sub == 3)
    || (t == 0x8400 && (sub == 1 || sub == 4 || sub == 5)) || (t == 0x9100 && (sub == 1 || sub == 4))
    || (t == 0xC200 && (sub == 3 || sub == 7)))

/-! ### What claims say of a command -/

/-- A command answers a next state, of which `P` holds. -/
def Runs (c : Instr) (s : State) (P : State → Prop) : Prop := ∃ t, exec c s = .next t ∧ P t

/-- The same of a command whose sender is a path: what holds is said of the state that the path faces and of the next state. -/
def Served (c : Instr) (s : State) (dt : Nat) (path : Path) (P : State → State → Prop) : Prop :=
  ∃ t, exec c s = .next t ∧ P (s.facing dt path) t

/-- The frame of a command: every register whose key fails the first test reads as before, every octet whose place fails the
second reads as before, and no frame, no queued copy, no time and no retention image changes. -/
def leavesRest (u t : State) (ks : Nat → Prop) (cs : Gen → Nat → Prop) : Prop :=
  (∀ k, ¬ ks k → t.get k = u.get k) ∧ (∀ g a, ¬ cs g a → t.octet g a = u.octet g a)
    ∧ t.frames = u.frames ∧ t.copies = u.copies ∧ t.now = u.now ∧ t.vtime = u.vtime ∧ t.saved = u.saved

/-- A counter object after `n` more events: it stops at its maximum (R37, R124). -/
def State.counted (s : State) (k : Nat) (n : Nat := 1) : Nat := min (s.get k + n) (regMod k - 1)

/-- The registers of a list; the octets of a row and of a table; no octet. -/
def keysIn (l : List Nat) : Nat → Prop := fun k => k ∈ l
def rowCells (g : Gen) (idx row : Nat) : Gen → Nat → Prop :=
  fun h a => h = g ∧ cellKey idx row 0 ≤ a ∧ a < cellKey idx row 4096
def tableCells (g : Gen) (idx : Nat) : Gen → Nat → Prop := fun h a => h = g ∧ a / 2 ^ 36 = idx
def noCells : Gen → Nat → Prop := fun _ _ => False

/-- Octets of two kinds. -/
def bothCells (p q : Gen → Nat → Prop) : Gen → Nat → Prop := fun g a => p g a ∨ q g a

/-- The octets of the clamp counters (R37), which every access that stores a value may count in. -/
def clampCells : Gen → Nat → Prop := tableCells .live 0xF000

/-! ### What forwarding may write -/

/-- The registers that a frame on its way may change: counters and other RO objects of the port groups 3 to 7, 10 and 11 and of chapters
4, 5, 6, 7 and 8, the counts of the fault log and of interrupted decisions, and the internal registers of the queues, gates, streams and
meters. No object that a partition configures is among them. -/
def forwardingReg (k : Nat) : Bool :=
  if k < 2 ^ 24 then
    let t := (template (k / 256)).1
    (([0x2003, 0x2004, 0x2005, 0x2006, 0x2007, 0x200A, 0x200B, 0x3000, 0x4000, 0x4100, 0x6000, 0x7000].contains t)
      && (objectsAt t).any fun o => decide (o.lo ≤ k % 256) && decide (k % 256 ≤ o.hi) && o.acc == .ro)
      || k == Key.faultLogCount || k == Key.faultLogOverflow || k == Key.interruptionDiscards
  else
    let n := Rg.numberOf k
    (decide (11 ≤ n) && decide (n ≤ 30)) || n == 37 || n == 40 || n == 41 || n == 65 || decide (1000 ≤ n)

/-- The octets that a frame on its way may change: sessions, fragments, exception and rule counters, the forwarding database,
time profiles' and stream states, histograms, logs, and the secure associations. -/
def forwardingCells : Gen → Nat → Prop := fun g a =>
  g = .live ∧ a / 2 ^ 36 ∈ [0xF046, 0xF047, 0xF049, 0xF04A, 0xF052, 0xF065, 0xF077, 0xF078, 0xF07A, 0xF07B, 0xF082, 0xF083, 0xF092,
    0xF0B0]

/-- The frame of a command on whose way frames may move: beside what it names, only what forwarding may write changes. -/
def forwardsOnly (u t : State) (ks : Nat → Prop) (cs : Gen → Nat → Prop) : Prop :=
  (∀ k, ¬ ks k → forwardingReg k = false → t.get k = u.get k) ∧ (∀ g a, ¬ cs g a → ¬ forwardingCells g a → t.octet g a = u.octet g a)
    ∧ t.now = u.now ∧ t.vtime = u.vtime ∧ t.saved = u.saved

/-- Whether a register is an object that a partition configures: RW or RW-S under every attachment kind. -/
def configured (k : Nat) : Bool :=
  let here := (objectsAt (template (k / 256)).1).filter fun o => decide (o.lo ≤ k % 256) && decide (k % 256 ≤ o.hi)
  decide (k < 2 ^ 24) && !here.isEmpty && here.all fun o => o.acc == .rw || o.acc == .rwS

/-- Where the end of a remote session may reach: the session's own registers and those of an update session that it owns. -/
def sessionRegs (k : Nat) : Prop := (2 ^ 24 ≤ k ∧ (Rg.numberOf k = 5 ∨ Rg.numberOf k = 6 ∨ Rg.numberOf k = 7 ∨ Rg.numberOf k = 60))
  ∨ k / 256 = 0xC100 ∨ k = Key.badPduCount ∨ k = Key.sessionRefusals
def sessionCells : Gen → Nat → Prop := fun g a => g = .flash ∨ (g = .live ∧ a / 2 ^ 36 = 0xF003)

/-- What a change of a port's state may write beside what forwarding may: the port's own objects that no partition configures, its
capability rows, and the
internal registers of the attachments and of the ring messages. -/
def portRegs (p : Nat) (k : Nat) : Prop :=
  (k / 4096 = 0x200 + p ∧ configured k = false) ∨ (2 ^ 24 ≤ k
      ∧ (Rg.numberOf k ∈ [8, 9, 10, 11, 20, 39, 46, 47] ∨ (Rg.numberOf k = 34 ∧ Rg.elementOf k = p)))
def portCells : Gen → Nat → Prop := tableCells .live 0xF066

/-- What the record seal and the signature unit write: their objects that no partition configures, their internal registers, the order of
the seal's job on page 62, and what port 244 takes up. -/
def sealRegs (k : Nat) : Prop := (k / 256 = 0x8400 ∧ configured k = false) ∨ portRegs 244 k ∨ (2 ^ 24 ≤ k ∧ Rg.numberOf k ∈ [55, 56])
  ∨ k = Rg.jobOrder sealRow ∨ k = Rg.jobsSubmitted

/-- Where a change of the keys reaches: their table and the jobs of their users. -/
def keyCells : Gen → Nat → Prop := fun g a => g = .live ∧ a / 2 ^ 36 ∈ [0xF066, 0xF096, 0xF098, 0xF099]

/-- What a ring writes: its objects that no partition configures, the log of who kept it awake, its internal registers, and what its ports take up. -/
def ringRegs (s : State) (r k : Nat) : Prop := (k / 256 = 0x9100 + r ∧ configured k = false) ∨ k = Key.keepAwakeLogCount
    ∨ k = Key.keepAwakeLogOverflow
  ∨ (2 ^ 24 ≤ k ∧ Rg.numberOf k ∈ [46, 47, 48, 49]) ∨ ∃ p, s.inRing r p = true ∧ portRegs p k
def ringCells : Gen → Nat → Prop := fun g a => g = .live ∧ a / 2 ^ 36 ∈ [0xF066, 0xF0A1, 0xF0A2]

/-- What a self-test writes: its objects, its internal registers and what its port takes up; and its rows. -/
def testRegs (k : Nat) : Prop := k = Key.selfTestRun ∨ (2 ^ 24 ≤ k ∧ Rg.numberOf k ∈ [35, 59])
def testCells : Gen → Nat → Prop := tableCells .live 0xF0B1

/-- What the fault reactions write: the objects of functional safety, of an update session and of the commit that no partition
configures, their internal registers, and what ports 240 to 243 take up; the fault log and the slots of the boot flash. -/
def safetyRegs (k : Nat) : Prop := (k / 256 ∈ [0xA000, 0xA010, 0xC100, 0x1F10] ∧ configured k = false)
  ∨ (2 ^ 24 ≤ k ∧ Rg.numberOf k ∈ [58, 60]) ∨ ∃ p, 240 ≤ p ∧ p ≤ 243 ∧ portRegs p k
def safetyCells : Gen → Nat → Prop := fun g a => g = .flash ∨ (g = .live ∧ a / 2 ^ 36 ∈ [0xF066, 0xF0B0])

/-- The objects of an index from subindex `lo` to `hi`. -/
def spanKeys (idx lo hi : Nat) : List Nat := (List.range (hi + 1 - lo)).map fun i => idx * 256 + lo + i

/-- What an update session writes: its objects, the boot control block's, and its internal registers. -/
def updateRegs (k : Nat) : Prop := k / 256 = 0xC100 ∨ k ∈ [Key.firmwareTrial, Key.odTrial, Key.trialStarts, Key.rollbackCounter]
  ∨ (2 ^ 24 ≤ k ∧ Rg.numberOf k = 60)
/-- The registers in which the boot control block stands (R438), the object's views last. -/
def bootRegs : List Nat := [Rg.preferred 0, Rg.preferred 1, Rg.trial 0, Rg.trial 1, Rg.trialCount, Rg.bootSequence, Key.firmwareTrial,
  Key.odTrial, Key.trialStarts]
/-- The copy of the boot control block that the next write takes: the one that is not in force (R438). -/
def State.nextBoot (u : State) : Nat := if u.bootCopy = some 0 then 1 else 0
/-- From `u` to `t` the boot control block has been written as the registers of `t` hold it, with the next sequence number. -/
def bootWritten (u t : State) : Prop :=
  t.get Rg.bootSequence = (u.get Rg.bootSequence + 1) % 2 ^ 32 ∧ t.bootValid u.nextBoot = true
    ∧ t.bootOctets u.nextBoot = BootBlock.octets ⟨t.get Rg.bootSequence, t.get (Rg.preferred 0), t.get (Rg.preferred 1), t.get (Rg.trial 0),
        t.get (Rg.trial 1), t.get Rg.trialCount⟩
def flashCells (p : Nat → Prop) : Gen → Nat → Prop := fun g a => g = .flash ∧ p a
def bootCells (u : State) : Gen → Nat → Prop := flashCells fun a => bootBase u.nextBoot ≤ a ∧ a < bootBase u.nextBoot + 16

/-- A frame `f`, which with the octets that now arrive is `g`, arrives in a sound queueing state: it has its number alone, no copy has
it, and numbers and places still to come are above those in use. -/
def State.arriving (u : State) (id : Nat) (f g : Frame) : Prop :=
  u.operates = true ∧ u.frame? id = some f ∧ (∀ x ∈ u.frames, (x.id = id → x = f) ∧ x.id < u.get Rg.frameCount)
    ∧ (∀ c ∈ u.copies, c.frame ≠ id ∧ c.seq < u.get Rg.entryCount) ∧ f.stage = .arriving ∧ f.second = false ∧ f.secured = false
    ∧ (f.complete = true ∨ (f.kind = 0 ∧ f.preemptable = false)) ∧ lookaheadDone u g g.parse = true ∧ u.refusedAt g = false

/-- A pipeline has a free decision slot for a port's frame (R191, R192). -/
def State.slotFree (u : State) (f : Frame) : Prop :=
  ∃ n, u.servedBy (u.genOf f.tag) f.port = some n ∧ ∃ i < 64, u.get (Rg.slotUntil n i) ≤ u.now

/-- A frame whose lookahead is complete is decided now: no SecY checks it, and a slot is free. -/
def State.decides (u : State) (id : Nat) (f g : Frame) : Prop :=
  u.arriving id f g ∧ u.secyValidates f.port = 0 ∧ u.slotFree f

/-- A counter field after one more event (R37). -/
def State.countedF (s : State) (idx row : Nat) (f : Fld) : Nat := min (s.fld .live idx row f + 1) (2 ^ f.width - 1)

/-- No copy of a frame is forwarded. -/
def State.unforwarded (t : State) (id : Nat) : Prop := ∀ c ∈ t.copies, c.frame = id → c.role ≠ .forward

/-- A copy but for the notes of what its selections have counted (R218, R231). -/
def Copy.bare (c : Copy) : Copy := { c with deferred := false, waited := false }

/-- What every received PDU meets first (R69 to R71, R83, R419). -/
def pduTaken (u : State) (port : Port) (via : Via) (pdu : List Byte) (typ : Nat) : Prop :=
  u.remoteServed = true ∧ u.transportOn port.val via = true ∧ u.get (Rg.isolated port.val) = 0 ∧ u.rateExceeded = false
    ∧ pduFits pdu = true ∧ pduType pdu = typ

/-- The reason code that the log of posted errors gives a status (R61), with the status. -/
def postedReasons : List (Nat × Nat) := [(1, 2), (2, 1), (3, 3), (5, 6), (7, 8)]

end Sys2Proof.Machine
end

