-- ==== Sys2Proof/Certificates/Slice0/Obligations.lean ====
section
/-! DEFINITION. The statements about the model, each named for what it states. -/

open Sys2Proof Sys2Proof.Machine
/-! ### The whole machine -/

/-- Step: a waiting command is taken from the front of the queue and run on the rest (the block's queue; log entry 2). -/
def Obligations.StepRunsTheFrontCommand : Prop :=
  ∀ (c : Instr) (rest : List Instr) (s : State), s.pending = c :: rest → step s = exec c { s with pending := rest }

/-- Step: with no command waiting the block idles (the model's choice, log entry 2).
Every command answers a next state, leaves the queue alone, lets at least its own time pass and never takes a free value
back. That it answers whatever its condition is the model's choice (log entry 16), and so are the span that it carries (log entry 1)
and the count of free values (log entry 5). -/
def Obligations.StepsNeverStop : Prop :=
  (∀ s : State, s.pending = [] → step s = .next s)
  ∧ (∀ (c : Instr) (s : State), Runs c s fun t => t.pending = s.pending ∧ s.now + c.dt ≤ t.now ∧ s.free ≤ t.free)

/-- The state after reset is sound. -/
def Obligations.ResetIsSound : Prop :=
  State.reset.sound = true

/-- Soundness is an invariant: from every sound state, in or out of reach, a step leads to a sound state. Every store stays in its
canonical form, every object stays within its width (R34), vehicle time within 80 bits (R7). -/
def Obligations.StepKeepsStatesSound : Prop :=
  ∀ s t : State, s.sound = true → step s = .next t → t.sound = true

/-- What passes before a command (R201, R204): true time by its span; vehicle time by the span and its syntonisation, and while an
offset is being slewed out, by at most MaxSlewRate of the span more or less. While PORST_N holds the block in reset vehicle time and
the offset stand still (R459). Nothing else changes but what is left to slew, the count of free values, and the outputs and the answer
of the command before.
R24, R356, R459: while the device is in Asleep, Waking or off, or PORST_N holds it in reset, an event of the switched domains does
nothing at all. -/
def Obligations.TimePassesAndDeadDomainsStay : Prop :=
  (∀ (s : State) (dt : Nat),
      (s.after dt).now = s.now + dt
      ∧ (s.inReset = true → (s.after dt).vtime = s.vtime ∧ ∀ k, (s.after dt).get k = s.get k)
      ∧ (s.inReset = false → s.get Rg.slewUp = 0 → s.get Rg.slewDown = 0 → (s.after dt).vtime = vehicle (s.vtime + s.syntonised dt))
      ∧ (s.inReset = false → s.get Rg.slewUp ≠ 0 → ∃ x, x ≤ s.slewLimit dt ∧ x ≤ s.get Rg.slewUp
          ∧ (s.after dt).vtime = vehicle (s.vtime + s.syntonised dt + x)
          ∧ (s.after dt).get Rg.slewUp = (s.get Rg.slewUp - x) % regMod Rg.slewUp)
      ∧ (s.inReset = false → s.get Rg.slewUp = 0 → s.get Rg.slewDown ≠ 0 → ∃ x, x ≤ s.slewLimit dt ∧ x ≤ s.get Rg.slewDown
          ∧ (s.after dt).vtime = vehicle (s.vtime + s.syntonised dt - x)
          ∧ (s.after dt).get Rg.slewDown = (s.get Rg.slewDown - x) % regMod Rg.slewDown)
      ∧ (∀ k, k ≠ Rg.slewUp → k ≠ Rg.slewDown → (s.after dt).get k = s.get k)
      ∧ (∀ g a, (s.after dt).octet g a = s.octet g a) ∧ (s.after dt).frames = s.frames ∧ (s.after dt).copies = s.copies
      ∧ (s.after dt).saved = s.saved ∧ (s.after dt).pending = s.pending
      ∧ (s.after dt).outs = [])
  ∧ (∀ (c : Instr) (s : State), c.needsPower = true → s.operates = false → exec c s = .next (s.after c.dt))

/-! ### Accesses to objects -/

/-- Every command of the table that names an object or a row of its own is the write of that object or row.
R8, R30, R31, R40: a write of an object that may not take effect ends with the status of the first rule that stops it, in the
order served, object, right, busy, and changes nothing. That a path which is not served ends with 0x03 is log entry 81, the order
log entry 140.
R8: an RO object takes no write on any path, and an RW-S or CMD-S object none from another path than the safety partition's. -/
def Obligations.RefusedObjectWritesChangeNothing : Prop :=
  ((∀ (c : Instr) (w : ObjectWrite) (s : State), c.asWrite = some w →
      exec c s = exec (.odWrite w.dt w.path (BitVec.ofNat 16 w.idx) (BitVec.ofNat 8 w.sub) (BitVec.ofNat 64 w.slot)) s)
    ∧ (∀ (c : Instr) (w : RowWrite) (s : State), c.asRowWrite = some w →
      exec c s = exec (.writeRow w.dt w.path (BitVec.ofNat 16 w.idx) (BitVec.ofNat 24 w.row) w.sketch w.off w.data) s))
  ∧ (∀ (c : Instr) (w : ObjectWrite) (s : State), c.asWrite = some w →
      let u := s.facing w.dt w.path
      let ends := fun st => exec c s = .next { u with status := st, data := [] }
      (u.serves w.path = false → ends 3)
      ∧ (u.serves w.path = true → tableOf w.idx = none → w.sub ≠ 0 → u.objAt w.idx w.sub = none → ends 1)
      ∧ (∀ o, u.serves w.path = true → tableOf w.idx = none → w.sub ≠ 0 → u.objAt w.idx w.sub = some o →
          u.mayWrite w.path w.idx w.sub o = false → ends 2)
      ∧ (∀ o, u.serves w.path = true → tableOf w.idx = none → w.sub ≠ 0 → u.objAt w.idx w.sub = some o →
          u.mayWrite w.path w.idx w.sub o = true → u.writeBusy w.idx w.sub o = true → ends 3)
      ∧ (u.serves w.path = true → tableOf w.idx = none → w.sub = 0 → (u.highestSub w.idx).isSome → ends 2)
      ∧ (u.serves w.path = true → (tableOf w.idx).isSome → w.sub < 3 → ends 2))
  ∧ (∀ (c : Instr) (w : ObjectWrite) (s : State) (o : Obj), c.asWrite = some w →
      (s.facing w.dt w.path).serves w.path = true → tableOf w.idx = none → w.sub ≠ 0 →
      (s.facing w.dt w.path).objAt w.idx w.sub = some o →
      (o.acc = .ro ∨ ((o.acc = .rwS ∨ o.acc = .cmdS) ∧ w.path ≠ .safety)) →
      exec c s = .next { s.facing w.dt w.path with status := 2, data := [] })

/-- R30: no index below 0x1000 and none from 0xD000 to 0xEFFF holds an object, and an access to an index and subindex that holds no
object ends with 0x01 and does nothing else. -/
def Obligations.AbsentObjectsAreNotFound : Prop :=
  (∀ (s : State) (i j : Nat), (i < 0x1000 ∨ (0xD000 ≤ i ∧ i < 0xF000)) → tableOf i = none ∧ s.objAt i j = none ∧ s.highestSub i = none)
  ∧ (∀ (s : State) (dt : Nat) (path : Path) (idx : BitVec 16) (sub : BitVec 8) (v : BitVec 64),
    let u := s.facing dt path
    let i := idx.toNat
    let j := sub.toNat
    u.serves path = true →
    ((tableOf i = none ∧ j ≠ 0 ∧ u.objAt i j = none) ∨ (tableOf i = none ∧ j = 0 ∧ u.highestSub i = none) ∨ (tableOf i ≠ none ∧ 3 ≤ j)) →
    exec (.odWrite dt path idx sub v) s = .next { u with status := 1, data := [] }
    ∧ exec (.readScalar dt path idx sub) s = .next { u with status := 1, data := [] })

/-- R8, R9, R36, R37 (OD_WRITE, WRITE_SCALAR and every command that names such an object): an object that a path may write, and whose
write has no further meaning, takes the legal value nearest to the written one; a clamp is counted in its clamp counter; the access
ends with 0x00. -/
def Obligations.PlainObjectsTakeTheirLegalValue : Prop :=
  let took := fun (u : State) (idx sub slot : Nat) (o : Obj) (t : State) =>
    let v := ofSlot o.ty slot
    let x := u.legalValue idx sub o v
    let k := u.keyAt idx sub
    let row := idx * 256 + sub
    t.status = 0 ∧ t.get k = x % regMod k ∧ leavesRest u t (keysIn [k]) (rowCells .live 0xF000 row)
      ∧ t.fld .live 0xF000 row F.clampCount
        = (if isClamp idx v x then min (u.fld .live 0xF000 row F.clampCount + 1) (2 ^ 32 - 1)
           else u.fld .live 0xF000 row F.clampCount)
  (∀ (s : State) (dt : Nat) (path : Path) (idx : BitVec 16) (sub : BitVec 8) (v : BitVec 64) (o : Obj),
    let u := s.facing dt path
    u.admits path idx.toNat sub.toNat = true → u.objAt idx.toNat sub.toNat = some o → isCommand o = false →
    plainObject idx.toNat sub.toNat = true →
    Runs (.odWrite dt path idx sub v) s (took u idx.toNat sub.toNat v.toNat o)
    ∧ Runs (.writeScalar dt path idx sub v) s (took u idx.toNat sub.toNat v.toNat o))
  ∧ (∀ (c : Instr) (w : ObjectWrite) (s : State) (o : Obj), c.asWrite = some w →
    let u := s.facing w.dt w.path
    u.admits w.path w.idx w.sub = true → u.objAt w.idx w.sub = some o → isCommand o = false → plainObject w.idx w.sub = true →
    Runs c s (took u w.idx w.sub w.slot o))

/-- R8, R31, R32, R34 (READ_SCALAR): a served read of an object that is there and not busy ends with 0x00 and the slot image of the
object's value; subindex 0 reads the highest subindex, and the three subindices of a table its rows, its stride and its rows in use. A
read that may not take place ends with 0x01, 0x02 (R304, R439) or 0x03 (log entry 81 where the path is not served) and returns
nothing. Reading changes no octet and no register but
the latch of VehicleTimeNowFrac (R201).
R201 (VEHICLE_TIME_READ): the read of VehicleTimeNow on a path returns vehicle time in whole nanoseconds and latches its
fraction, which VehicleTimeNowFrac then reads on that path.
R32, R33, R42, R67 (READ_ROW): a served read of octets of a row returns the row's image in the selected generation and changes
nothing; a read outside the table ends with 0x01, of another user's row with 0x02, a read on a path that is not served with 0x03 (log
entry 81), and none of them returns anything. The read of a ring member that is Holding first counts its held time up to now (R371). -/
def Obligations.ReadsReturnValues : Prop :=
  (∀ (s : State) (dt : Nat) (path : Path) (idx : BitVec 16) (sub : BitVec 8),
      let u := s.facing dt path
      let i := idx.toNat
      let j := sub.toNat
      Runs (.readScalar dt path idx sub) s fun t =>
        leavesRest u t (keysIn [Rg.fracLatch (pathNumber path)]) noCells
        ∧ (u.serves path = false → t.status = 3 ∧ t.data = [])
        ∧ (u.serves path = true → tableOf i = none → j ≠ 0 → u.objAt i j = none → t.status = 1 ∧ t.data = [])
        ∧ (∀ o, u.serves path = true → tableOf i = none → j ≠ 0 → u.objAt i j = some o → u.foreignRead path i j = true →
            t.status = 2 ∧ t.data = [])
        ∧ (∀ o, u.serves path = true → tableOf i = none → j ≠ 0 → u.objAt i j = some o → u.foreignRead path i j = false →
            u.readBusy i j = true → t.status = 3 ∧ t.data = [])
        ∧ (∀ o, u.serves path = true → tableOf i = none → j ≠ 0 → u.objAt i j = some o → u.foreignRead path i j = false →
            u.readBusy i j = false → t.status = 0
              ∧ t.data = leBytes 8 (if u.belongs i o then slotOf o.ty (u.objectValue path i j) else 0))
        ∧ (∀ n, u.serves path = true → tableOf i = none → j = 0 → u.highestSub i = some n → t.status = 0 ∧ t.data = leBytes 8 n)
        ∧ (∀ tab, u.serves path = true → tableOf i = some tab →
            (j = 0 → t.status = 0 ∧ t.data = leBytes 8 tab.rows) ∧ (j = 1 → t.status = 0 ∧ t.data = leBytes 8 tab.stride)
            ∧ (j = 2 → t.status = 0 ∧ t.data = leBytes 8 (u.tableUse tab)) ∧ (3 ≤ j → t.status = 1 ∧ t.data = [])))
  ∧ (∀ (s : State) (dt : Nat) (path : Path),
      let u := s.facing dt path
      u.serves path = true →
      Runs (.vehicleTimeRead dt path) s fun t => t.status = 0 ∧ t.data = leBytes 8 (u.vtime / 65536 % 2 ^ 64)
        ∧ t.fraction path = u.vtime % 65536
        ∧ leavesRest u t (keysIn [Rg.fracLatch (pathNumber path)]) noCells)
  ∧ (∀ (s : State) (dt : Nat) (path : Path) (idx : BitVec 16) (row : BitVec 24) (sketch : Bool) (off n : Nat),
      let u := s.facing dt path
      let ends := fun st d => exec (.readRow dt path idx row sketch off n) s = .next { u with status := st, data := d }
      (u.serves path = false → ends 3 [])
      ∧ (u.serves path = true → tableOf idx.toNat = none → ends 1 [])
      ∧ (∀ tab, u.serves path = true → tableOf idx.toNat = some tab → (tab.rows ≤ row.toNat ∨ n = 0 ∨ tab.stride < off + n) → ends 1 [])
      ∧ (∀ tab, u.serves path = true → tableOf idx.toNat = some tab → row.toNat < tab.rows → n ≠ 0 → off + n ≤ tab.stride →
          u.foreignRow path idx.toNat row.toNat = true → ends 2 [])
      ∧ (∀ tab, u.serves path = true → tableOf idx.toNat = some tab → row.toNat < tab.rows → n ≠ 0 → off + n ≤ tab.stride →
          u.foreignRow path idx.toNat row.toNat = false → (idx.toNat = 0xF0A1 → u.flag (Rg.isHolding 1 (row.toNat / 64) (row.toNat % 64)) = false) →
          ends 0 (octetsAt (u.rowImageNow (if tab.staged then (if sketch then .sketch else .fair) else .live) tab row.toNat) off n))
      ∧ (∀ tab, u.serves path = true → tableOf idx.toNat = some tab → row.toNat < tab.rows → n ≠ 0 → off + n ≤ tab.stride →
          u.foreignRow path idx.toNat row.toNat = false → idx.toNat = 0xF0A1 →
          u.flag (Rg.isHolding 1 (row.toNat / 64) (row.toNat % 64)) = true →
          let r := row.toNat / 64
          let m := row.toNat % 64
          let since := u.get (Rg.holdSince 1 r m)
          let span := if since = 0 then 0 else u.now - (since - 1)
          Runs (.readRow dt path idx row sketch off n) s fun t => t.status = 0
            ∧ t.data = octetsAt (t.rowImageNow .live tab row.toNat) off n
            ∧ t.fld .live 0xF0A1 row.toNat F.memberHeld
              = (if span = 0 then u.fld .live 0xF0A1 row.toNat F.memberHeld
                 else min ((u.get (Rg.holdAll r m) + span) / 65536) (2 ^ 64 - 1))
            ∧ leavesRest u t (keysIn [Rg.holdTotal 1 r m, Rg.holdSince 1 r m, Rg.holdAll r m, Rg.holdStart 1 r m])
                (rowCells .live 0xF0A1 row.toNat)))

/-! ### Accesses to rows -/

/-- R8, R30, R32, R33, R40, R42, R44, R67: a write of a row that may not take effect ends with the status of the first rule that
stops it and changes nothing; a write addressed to a Fair copy ends with 0x02 even when the table is busy. That a path which is not
served ends with 0x03 is log entry 81, the order log entry 140. -/
def Obligations.RefusedRowWritesChangeNothing : Prop :=
  ∀ (c : Instr) (w : RowWrite) (s : State), c.asRowWrite = some w →
    let u := s.facing w.dt w.path
    let n := w.data.length
    let ends := fun st => exec c s = .next { u with status := st, data := [] }
    (u.serves w.path = false → ends 3)
    ∧ (u.serves w.path = true → tableOf w.idx = none → ends 1)
    ∧ (∀ t, u.serves w.path = true → tableOf w.idx = some t → (t.rows ≤ w.row ∨ n = 0 ∨ t.stride < w.off + n) → ends 1)
    ∧ (∀ t, u.serves w.path = true → tableOf w.idx = some t → w.row < t.rows → n ≠ 0 → w.off + n ≤ t.stride →
        u.mayWriteRow w.path t w.row w.sketch = false → ends 2)
    ∧ (∀ t, u.serves w.path = true → tableOf w.idx = some t → w.row < t.rows → n ≠ 0 → w.off + n ≤ t.stride →
        t.staged = true → w.sketch = false → ends 2)
    ∧ (∀ t, u.serves w.path = true → tableOf w.idx = some t → w.row < t.rows → n ≠ 0 → w.off + n ≤ t.stride →
        u.mayWriteRow w.path t w.row w.sketch = true → u.rowBusy w.path t w.row w.off n = true → ends 3)
    ∧ (∀ t, u.serves w.path = true → tableOf w.idx = some t → w.row < t.rows → n ≠ 0 → w.off + n ≤ t.stride →
        u.mayWriteRow w.path t w.row w.sketch = true → t.staged = true → 2 ≤ u.get Key.commitState → u.get Key.commitState ≤ 4 →
        ends 3)

/-- R33, R36, R42, R44 (WRITE_ROW): a write to the Sketch that may take effect ends with 0x00 and stores the merged row there: no
octet outside the table's Sketch and its clamp counters changes, CommitState becomes Edited where it was Idle or Refused and the
write touched a field, and every other register stays.
R33, R36 (WRITE_ROW): in a staged table a written field reads in the Sketch as the legal value nearest to the written one, and a
field that the write does not touch reads as before. Beside that, a write of a lookup profile keeps selected fields within 320 bits (R139),
rows 0 and 4095 of VlanTable stay invalid (R177), the quotas of CanvasPools stay within the Canvas (R172), and the source address of an
egress profile stays individual (R275). -/
def Obligations.SketchFieldsTakeTheirLegalValue : Prop :=
  (∀ (s : State) (dt : Nat) (path : Path) (idx : BitVec 16) (row : BitVec 24) (off : Nat) (data : List Byte) (tab : Tab),
      let u := s.facing dt path
      let n := data.length
      u.serves path = true → tableOf idx.toNat = some tab → tab.staged = true → row.toNat < tab.rows → n ≠ 0 → off + n ≤ tab.stride →
      u.mayWriteRow path tab row.toNat true = true → u.rowBusy path tab row.toNat off n = false →
      Runs (.writeRow dt path idx row true off data) s fun t => t.status = 0
        ∧ leavesRest u t (keysIn [Key.commitState]) (bothCells (tableCells .sketch idx.toNat) (tableCells .live 0xF000))
        ∧ t.get Key.commitState
          = (if (u.get Key.commitState = 0 ∨ u.get Key.commitState = 5)
                ∧ (rowLayout idx.toNat row.toNat).any (fun f => !f.ro && f.touched off n) = true then 1 else u.get Key.commitState))
  ∧ (∀ (s : State) (dt : Nat) (path : Path) (idx : BitVec 16) (row : BitVec 24) (off : Nat) (data : List Byte) (tab : Tab) (f : Fld),
      let u := s.facing dt path
      let n := data.length
      let was := u.rowOctets .sketch idx.toNat row.toNat 0 tab.stride
      u.serves path = true → tableOf idx.toNat = some tab → tab.staged = true → row.toNat < tab.rows → n ≠ 0 → off + n ≤ tab.stride →
      u.mayWriteRow path tab row.toNat true = true → u.rowBusy path tab row.toNat off n = false →
      f ∈ rowLayout idx.toNat row.toNat →
      let x := if f.ro = false ∧ f.touched off n = true
        then clampTo f.legal f.width f.dflt (bits (leNat (overlay was off data)) f.bit f.width) % 2 ^ f.width
        else u.fld .sketch idx.toNat row.toNat f
      let quotas := (List.range 4).map fun r => if r = row.toNat then x else u.fld .sketch 0xF050 r F.poolQuota
      Runs (.writeRow dt path idx row true off data) s fun t =>
        t.fld .sketch idx.toNat row.toNat f
          = (if idx.toNat = 0xF042 ∧ f = F.profSelect then fitSelect x % 2 ^ f.width
             else if idx.toNat = 0xF051 ∧ f = F.vlanValid ∧ (row.toNat = 0 ∨ row.toNat = 4095) then 0
             else if idx.toNat = 0xF081 ∧ f = F.xpSa then setBits x 0 1 0
             else if idx.toNat = 0xF050 ∧ f = F.poolQuota then (fitQuotas 95232 quotas).getD row.toNat 0 % 2 ^ f.width
             else x))

/-! ### The host -/

/-- R8, R36, R51, R58, R60, R61 (HOST_SCALAR_WRITE): a posted write of a whole slot is the write of its object by PCIe, so an object that
PCIe may write takes the legal value nearest to the written one; one that ends with
0x01, 0x02, 0x03, 0x05 or 0x07 changes nothing and leaves an entry with its status, its reason, its target and the vehicle time in the
posted-error log while the log has room. A write that does not cover the value is dropped and logged with reason 0x04, and one that
touches no octet of the value is ignored; that the object is tested before the coverage is the model's reading (log entry 40).
R36, R54, R55, R56, R61 (HOST_ROW_WRITE): octets posted to an aperture within one row are one write of that row by PCIe, so the fields
that they touch in a Sketch take the legal values nearest to the written ones; one that ends with 0x01, 0x02, 0x03, 0x05 or 0x07 changes
nothing and is logged with its status and reason, which is 0x05 where PCIe might write the row but for R42; an unbound aperture drops
them and logs reason 0x07. -/
def Obligations.PostedWritesAreAnswered : Prop :=
  (∀ (s : State) (dt : Nat) (idx : BitVec 16) (sub : BitVec 8) (data : List Byte) (req : BitVec 16) (n : Nat),
      let u := s.after dt
      let slot := idx.toNat * 256 + sub.toNat
      let off := BitVec.ofNat 27 (8 * slot)
      let logged := fun (w : State) (status reason : Nat) =>
        w.status = status ∧ w.get Key.postedErrorCount = u.get Key.postedErrorCount + 1
        ∧ w.fld .live 0xF001 (u.get Key.postedErrorCount) F.postedReason = reason
        ∧ w.fld .live 0xF001 (u.get Key.postedErrorCount) F.postedTime = u.vtime / 65536
        ∧ w.fld .live 0xF001 (u.get Key.postedErrorCount) F.postedTarget = slot * 2 ^ 40 + 1 * 4096 + status
        ∧ leavesRest u w (keysIn [Key.postedErrorCount]) (rowCells .live 0xF001 (u.get Key.postedErrorCount))
      u.serves .pcie = true →
      (u.valueOctets idx.toNat sub.toNat = none → data.length = 8 → u.get Key.postedErrorCount < 16 →
        Runs (.hostScalarWrite dt off data req) s fun w => logged w 1 2)
      ∧ (u.valueOctets idx.toNat sub.toNat = some n →
      (∀ o, data.length = 8 → u.admits .pcie idx.toNat sub.toNat = true → u.objAt idx.toNat sub.toNat = some o → isCommand o = false →
        plainObject idx.toNat sub.toNat = true →
        let k := u.keyAt idx.toNat sub.toNat
        Runs (.hostScalarWrite dt off data req) s fun w => w.status = 0
          ∧ w.get k = u.legalValue idx.toNat sub.toNat o (ofSlot o.ty (leNat data)) % regMod k
          ∧ leavesRest u w (keysIn [k]) (rowCells .live 0xF000 slot))
      ∧ (∀ t, data.length = 8 → exec (.writeScalar dt .pcie idx sub (BitVec.ofNat 64 (leNat data))) s = .next t →
        (t.status = 0 → exec (.hostScalarWrite dt off data req) s = .next t)
        ∧ (∀ r, (t.status, r) ∈ postedReasons → (∀ o, sub ≠ 0 → u.objAt idx.toNat sub.toNat = some o → isCommand o = false) →
            u.get Key.postedErrorCount < 16 → Runs (.hostScalarWrite dt off data req) s fun w => logged w t.status r))
      ∧ (0 < data.length → data.length < n → u.get Key.postedErrorCount < 16 →
          Runs (.hostScalarWrite dt off data req) s fun w => logged w 2 4)
      ∧ (n ≤ 7 → data.length = 1 →
          Runs (.hostScalarWrite dt (BitVec.ofNat 27 (8 * slot + 7)) data req) s fun w =>
            w.status = 0 ∧ leavesRest u w (keysIn []) noCells)))
  ∧ (∀ (s : State) (dt : Nat) (off : BitVec 30) (data : List Byte) (req : BitVec 16),
      let u := s.after dt
      let b := u.bindingAt off.toNat
      let x := off.toNat % 0x4000000
      u.serves .pcie = true →
      let logged := fun (w : State) (status reason : Nat) =>
        w.status = status ∧ w.get Key.postedErrorCount = u.get Key.postedErrorCount + 1
        ∧ w.fld .live 0xF001 (u.get Key.postedErrorCount) F.postedReason = reason
        ∧ leavesRest u w (keysIn [Key.postedErrorCount]) (rowCells .live 0xF001 (u.get Key.postedErrorCount))
      (∀ tab f, tableOf b.1 = some tab → data ≠ [] → x % tab.stride + data.length ≤ tab.stride →
        let row := b.2.2 + x / tab.stride
        let was := u.rowOctets .sketch b.1 row 0 tab.stride
        row < tab.rows → tab.staged = true → b.2.1 = true → u.mayWriteRow .pcie tab row true = true →
        u.rowBusy .pcie tab row (x % tab.stride) data.length = false → f ∈ rowLayout b.1 row → f.ro = false →
        f.touched (x % tab.stride) data.length = true → b.1 ≠ 0xF042 → b.1 ≠ 0xF050 → b.1 ≠ 0xF051 → b.1 ≠ 0xF081 →
        Runs (.hostRowWrite dt off data req) s fun w => w.status = 0
          ∧ w.fld .sketch b.1 row f
            = clampTo f.legal f.width f.dflt (bits (leNat (overlay was (x % tab.stride) data)) f.bit f.width) % 2 ^ f.width
          ∧ leavesRest u w (keysIn [Key.commitState]) (bothCells (rowCells .sketch b.1 row) clampCells))
      ∧ (∀ tab t, tableOf b.1 = some tab → data ≠ [] → x % tab.stride + data.length ≤ tab.stride → b.2.2 + x / tab.stride < 2 ^ 24 →
        exec (.writeRow dt .pcie (BitVec.ofNat 16 b.1) (BitVec.ofNat 24 (b.2.2 + x / tab.stride)) b.2.1 (x % tab.stride) data) s
          = .next t →
        (t.status = 0 → exec (.hostRowWrite dt off data req) s = .next t)
        ∧ (∀ r, (t.status, r) ∈ postedReasons → b.1 ≠ 0xF0C0 →
            (tab.staged = false ∨ b.2.1 = true ∨ u.mayWriteRow .pcie tab (b.2.2 + x / tab.stride) true = false) →
            u.get Key.postedErrorCount < 16 → Runs (.hostRowWrite dt off data req) s fun w => logged w t.status r)
        ∧ (b.2.2 + x / tab.stride < tab.rows → tab.staged = true → b.2.1 = false →
            u.mayWriteRow .pcie tab (b.2.2 + x / tab.stride) true = true → u.get Key.postedErrorCount < 16 →
            Runs (.hostRowWrite dt off data req) s fun w => logged w 2 5))
      ∧ (tableOf b.1 = none → u.get Key.postedErrorCount < 16 → Runs (.hostRowWrite dt off data req) s fun w => logged w 1 7))

/-- R34, R51, R52 (HOST_SCALAR_READ): a read of a slot whose object is there and not busy completes with the slot image of its value, and
any other with all ones; the status and target of a read that fails are recorded, and HostReadFailures counts it.
R52, R54, R55 (HOST_ROW_READ): a read in an aperture within one row completes with the octets of that row in the bound
generation, as READ_ROW on the PCIe path returns them; in an unbound aperture it completes with all ones and is recorded with status 0x01. -/
def Obligations.HostReadsComplete : Prop :=
  (∀ (s : State) (dt : Nat) (idx : BitVec 16) (sub : BitVec 8) (t : State),
      let u := s.after dt
      let slot := idx.toNat * 256 + sub.toNat
      let off := BitVec.ofNat 27 (8 * slot)
      (∀ o, u.serves .pcie = true → tableOf idx.toNat = none → sub ≠ 0 → u.objAt idx.toNat sub.toNat = some o →
        u.foreignRead .pcie idx.toNat sub.toNat = false → u.readBusy idx.toNat sub.toNat = false →
        Runs (.hostScalarRead dt off 8) s fun w => w.status = 0
          ∧ w.data = leBytes 8 (if u.belongs idx.toNat o then slotOf o.ty (u.objectValue .pcie idx.toNat sub.toNat) else 0)
          ∧ w.outs = [.completion w.data] ∧ leavesRest u w (keysIn [Rg.fracLatch 2]) noCells)
      ∧ (exec (.readScalar dt .pcie idx sub) s = .next t →
      (t.status = 0 → Runs (.hostScalarRead dt off 8) s fun w => w.outs = [.completion t.data] ∧ w.status = 0 ∧ w.data = t.data
          ∧ leavesRest u w (keysIn [Rg.fracLatch 2]) noCells)
      ∧ (t.status ≠ 0 → Runs (.hostScalarRead dt off 8) s fun w => w.outs = [.completion (List.replicate 8 0xFF#8)]
          ∧ w.get Key.hostReadStatus = t.status ∧ w.get Key.hostReadTarget = slot * 2 ^ 40
          ∧ w.get Key.hostReadFailures = u.counted Key.hostReadFailures
          ∧ leavesRest u w (keysIn [Key.hostReadStatus, Key.hostReadTarget, Key.hostReadFailures]) noCells)))
  ∧ (∀ (s : State) (dt : Nat) (off : BitVec 30) (n : Nat),
      let u := s.after dt
      let b := u.bindingAt off.toNat
      let x := off.toNat % 0x4000000
      u.serves .pcie = true →
      (∀ tab, tableOf b.1 = some tab → n ≠ 0 → x % tab.stride + n ≤ tab.stride → b.2.2 + x / tab.stride < tab.rows →
        u.foreignRow .pcie b.1 (b.2.2 + x / tab.stride) = false →
        (b.1 = 0xF0A1 → u.flag (Rg.isHolding 1 ((b.2.2 + x / tab.stride) / 64) ((b.2.2 + x / tab.stride) % 64)) = false) →
        let octets := octetsAt (u.rowImageNow (rowGen tab b.2.1) tab (b.2.2 + x / tab.stride)) (x % tab.stride) n
        Runs (.hostRowRead dt off n) s fun w => w.status = 0 ∧ w.data = octets ∧ w.outs = [.completion octets]
          ∧ leavesRest u w (keysIn []) noCells)
      ∧ (∀ tab t, tableOf b.1 = some tab → n ≠ 0 → x % tab.stride + n ≤ tab.stride → b.2.2 + x / tab.stride < 2 ^ 24 →
        exec (.readRow dt .pcie (BitVec.ofNat 16 b.1) (BitVec.ofNat 24 (b.2.2 + x / tab.stride)) b.2.1 (x % tab.stride) n) s
          = .next t → t.status = 0 →
        Runs (.hostRowRead dt off n) s fun w => w.outs = [.completion t.data] ∧ w.data = t.data ∧ w.status = 0)
      ∧ (tableOf b.1 = none → Runs (.hostRowRead dt off n) s fun w =>
          w.outs = [.completion (List.replicate n 0xFF#8)] ∧ w.get Key.hostReadStatus = 1
          ∧ leavesRest u w (keysIn [Key.hostReadStatus, Key.hostReadTarget, Key.hostReadFailures]) noCells))

/-- R64 to R68, R455 (SPI_FRAME, SPI_FRAME_DISCARD): a request frame with a bad CRC, an unknown opcode or a Length of 0 or above 32 makes
no access and is answered with 0xC3 alone; one in reset or without the switched rails is not answered (R455); a good one makes its access
and is answered with 0x5A, the status, the data and their CRC, so a served scalar read returns the slot image, filled up to its Length
with zeros (the model's choice, log entry 41, and so is that Offset and Row of a scalar opcode are ignored; that a scalar write of Length
above 1 takes its first slot image and a row opcode ignores its Subindex is log entry 114); a discarded one makes no access and is not
answered. -/
def Obligations.SpiFramesAreAnswered : Prop :=
  ∀ (s : State) (dt : Nat) (b : List Byte),
    let u := s.after dt
    let opcode := beAt b 0 1
    let n := beAt b 10 1
    let size := 11 + (if opcode = 2 ∨ opcode = 4 then 8 * n else 0)
    let idx := BitVec.ofNat 16 (beAt b 1 2)
    let sub := BitVec.ofNat 8 (beAt b 3 1)
    let row := BitVec.ofNat 24 (beAt b 4 3)
    let sketch := (beAt b 7 1).testBit 0
    let off := 8 * beAt b 8 2
    let data := (b.take size).drop 11
    let asks : Option Instr := match opcode with
      | 1 => some (.readScalar dt .spi idx sub)
      | 2 => some (.writeScalar dt .spi idx sub (BitVec.ofNat 64 (leNat (data.take 8))))
      | 3 => some (.readRow dt .spi idx row sketch off (8 * n))
      | 4 => some (.writeRow dt .spi idx row sketch off data)
      | _ => none
    exec (.spiFrameDiscard dt b) s = .next u
    ∧ ((u.inReset = true ∨ u.unpowered = true) → exec (.spiFrame dt b) s = .next u)
    ∧ (u.inReset = false → u.unpowered = false →
    (13 ≤ b.length → (asks = none ∨ n = 0 ∨ 32 < n) → exec (.spiFrame dt b) s = .next { u with outs := [.spi [0xC3#8]] })
    ∧ (asks.isSome → 1 ≤ n → n ≤ 32 → size + 2 ≤ b.length → beAt b size 2 ≠ crc16 (b.take size) →
        exec (.spiFrame dt b) s = .next { u with outs := [.spi [0xC3#8]] })
    ∧ (∀ c t, asks = some c → 1 ≤ n → n ≤ 32 → size + 2 ≤ b.length → beAt b size 2 = crc16 (b.take size) → exec c s = .next t →
        let body := beBytes 1 t.status ++ (if opcode = 1 ∧ t.status = 0 then padTo (8 * n) 0#8 t.data else t.data)
        exec (.spiFrame dt b) s = .next { t with outs := t.outs ++ [.spi ([0x5A#8] ++ body ++ beBytes 2 (crc16 body))] })
    ∧ (∀ o, opcode = 1 → 1 ≤ n → n ≤ 32 → 13 ≤ b.length → beAt b 11 2 = crc16 (b.take 11) →
        u.serves .spi = true → tableOf idx.toNat = none → sub ≠ 0 → u.objAt idx.toNat sub.toNat = some o →
        u.foreignRead .spi idx.toNat sub.toNat = false → u.readBusy idx.toNat sub.toNat = false →
        let value := leBytes 8 (if u.belongs idx.toNat o then slotOf o.ty (u.objectValue .spi idx.toNat sub.toNat) else 0)
        let body := [0#8] ++ padTo (8 * n) 0#8 value
        Runs (.spiFrame dt b) s fun t => t.outs = [.spi ([0x5A#8] ++ body ++ beBytes 2 (crc16 body))]
          ∧ leavesRest u t (keysIn [Rg.fracLatch (pathNumber .spi)]) noCells))

/-! ### Remote sessions -/

/-- R74, R75 (OPEN): an Open of a client that may open a session is answered with a Challenge that carries its nonce and a device
nonce; one free session is assigned and waits for Confirm, and every other session stays as it was. The Challenge's sequence number 0
is log entry 114.
R75, R76 (OPEN): an Open that is refused assigns no session, counts in SessionRefusals and, while the port has sent fewer than
10 Refuse PDUs, is answered with Refuse and the status. Its sequence number 0 and session 0xFF are log entry 33, and that every refused
Open counts is log entry 114.
R73, R74 (CONFIRM): a Confirm with the right nonces and a right tag, within 1 s of the Challenge, derives the session key, opens
the session with sequence 0 and is answered with Accept under that key. The Accept's sequence number 0 is log entry 114. -/
def Obligations.SessionsAreOpened : Prop :=
  (∀ (s : State) (dt : Nat) (port : Port) (via : Via) (b : List Byte),
      let u := s.after dt
      let row := beAt b 8 1
      pduTaken u port via b 1 → b.length = 25 → u.openFault row via = none →
      Runs (.openSession dt port via b) s fun t => ∃ k dn, k < 32 ∧ u.session k F.rsessState = 0 ∧ dn < 2 ^ 128
        ∧ t.session k F.rsessState = 1 ∧ t.session k F.rsessClient = row ∧ t.session k F.rsessPort = port.val
        ∧ t.get (Rg.deviceNonce k) = dn ∧ t.get (Rg.clientNonce k) = beNat (octetsAt b 9 16) ∧ t.get (Rg.challengeAt k) = u.now
        ∧ Out.pdu port.val (makePdu 2 k 0 (octetsAt b 9 16 ++ beBytes 16 dn) (u.clientKey row)) ∈ t.outs
        ∧ (∀ j f, j ≠ k → j < 32 → f ∈ layout 0xF003 → t.session j f = u.session j f)
        ∧ forwardsOnly u t sessionRegs sessionCells)
  ∧ (∀ (s : State) (dt : Nat) (port : Port) (via : Via) (b : List Byte) (st : Nat),
      let u := s.after dt
      pduTaken u port via b 1 → b.length = 25 → u.openFault (beAt b 8 1) via = some st →
      Runs (.openSession dt port via b) s fun t => (st = 6 ∨ st = 7)
        ∧ t.get Key.sessionRefusals = u.counted Key.sessionRefusals
        ∧ (∀ j f, j < 32 → f ∈ layout 0xF003 → t.session j f = u.session j f)
        ∧ (u.get (Rg.refuseCount port.val) < 10 → Out.pdu port.val (makePdu 9 0xFF 0 (beBytes 1 st) none) ∈ t.outs)
        ∧ forwardsOnly u t sessionRegs noCells)
  ∧ (∀ (s : State) (dt : Nat) (port : Port) (via : Via) (b ck : List Byte),
      let u := s.after dt
      let k := pduSession b
      let nonces := beBytes 16 (u.get (Rg.clientNonce k)) ++ beBytes 16 (u.get (Rg.deviceNonce k))
      let key := kdf ck (ascii "SiorperOD") nonces 128
      pduTaken u port via b 3 → b.length = 56 → k < 32 → u.session k F.rsessState = 1 →
      u.clientKey (u.session k F.rsessClient) = some ck → tagFits ck b = true → taggedBody b = nonces →
      u.now ≤ u.get (Rg.challengeAt k) + ms 1000 →
      Runs (.confirm dt port via b) s fun t => t.session k F.rsessState = 2 ∧ t.session k F.rsessSeq = 0
        ∧ t.sessionKey k = some (beBytes 16 (beNat key)) ∧ t.get (Rg.activeAt k) = u.now
        ∧ Out.pdu port.val (makePdu 4 k 0 (beBytes 4 (u.get Key.sessionIdleTimeout)) (some key)) ∈ t.outs
        ∧ forwardsOnly u t sessionRegs (rowCells .live 0xF003 k))

/-- R77, R78, R79 (REQUEST): a Request with a right tag and a higher sequence number is executed with the rights of its session and
becomes the last accepted one: of one scalar read, the Response carries its status and its data; of one scalar write of a plain object that
the session may write, the object takes the legal value and the Response carries 0x00. A Request with the last sequence number and the same
octets is answered with the stored Response again and executes nothing; one with any other sequence number is counted in BadPduCount; with
0xFFFFFFFF it executes nothing, each operation is answered with 0x05, and the session closes. A Request is taken on any port that serves its
transport, and answered there (the model's reading, log entry 37). -/
def Obligations.RequestsAreExecutedOnce : Prop :=
  ∀ (s : State) (dt : Nat) (port : Port) (via : Via) (b key : List Byte) (k : Fin 32),
    let u := s.after dt
    pduTaken u port via b 5 → pduSession b = k.val → u.session k.val F.rsessState = 2 → u.sessionKey k.val = some key →
    tagFits key b = true →
    (∀ ops, parseOps 16 (taggedBody b) = some ops → ops ≠ [] → pduSequence b = 0xFFFFFFFF → Runs (.request dt port via b) s fun t =>
        t.session k.val F.rsessState = 0 ∧ t.sessionKey k.val = none
        ∧ Out.pdu port.val (makePdu 6 k.val 0xFFFFFFFF (ops.flatMap fun _ => [5#8, 0#8]) (some key)) ∈ t.outs
        ∧ forwardsOnly u t sessionRegs sessionCells)
    ∧ (pduSequence b ≠ 0xFFFFFFFF →
    (∀ o, parseOps 16 (taggedBody b) = some [o] → o.opcode = 1 → 1 ≤ o.len → o.len ≤ 32 →
      u.session k.val F.rsessSeq < pduSequence b →
      Runs (.request dt port via b) s fun t => t.session k.val F.rsessSeq = pduSequence b ∧ t.session k.val F.rsessState = 2
        ∧ t.get (Rg.activeAt k.val) = u.now
        ∧ forwardsOnly u t (fun x => sessionRegs x ∨ x = Rg.fracLatch 4) (rowCells .live 0xF003 k.val)
        ∧ (let r := readScalarAt u (.remote k) o.idx o.sub
          Out.pdu port.val (makePdu 6 k.val (pduSequence b)
              (beBytes 1 r.status ++ beBytes 1 (r.data.length / 8) ++ r.data) (some key)) ∈ t.outs))
    ∧ (∀ o obj, parseOps 16 (taggedBody b) = some [o] → o.opcode = 2 → 1 ≤ o.len → o.len ≤ 32 →
      u.session k.val F.rsessSeq < pduSequence b → u.admits (.remote k) o.idx o.sub = true → u.objAt o.idx o.sub = some obj →
      isCommand obj = false → plainObject o.idx o.sub = true →
      let slot := o.idx * 256 + o.sub
      let x := u.keyAt o.idx o.sub
      Runs (.request dt port via b) s fun t => t.session k.val F.rsessSeq = pduSequence b
        ∧ t.get x = u.legalValue o.idx o.sub obj (ofSlot obj.ty (leNat (o.data.take 8))) % regMod x
        ∧ Out.pdu port.val (makePdu 6 k.val (pduSequence b) [0#8, 0#8] (some key)) ∈ t.outs
        ∧ forwardsOnly u t (fun y => sessionRegs y ∨ y = x) (bothCells (rowCells .live 0xF003 k.val) (rowCells .live 0xF000 slot)))
    ∧ (∀ ops, parseOps 16 (taggedBody b) = some ops → ops ≠ [] → pduSequence b = u.session k.val F.rsessSeq →
      u.get (Rg.requestLen k.val) = b.length → u.get (Rg.requestText k.val) = leNat b →
      Runs (.request dt port via b) s fun t =>
        Out.pdu port.val (leBytes (u.get (Rg.responseLen k.val)) (u.get (Rg.responseText k.val))) ∈ t.outs
        ∧ forwardsOnly u t sessionRegs (rowCells .live 0xF003 k.val))
    ∧ (∀ ops, parseOps 16 (taggedBody b) = some ops → ops ≠ [] → pduSequence b ≤ u.session k.val F.rsessSeq →
      (pduSequence b < u.session k.val F.rsessSeq ∨ u.get (Rg.requestLen k.val) ≠ b.length ∨ u.get (Rg.requestText k.val) ≠ leNat b) →
      Runs (.request dt port via b) s fun t =>
        t.get Key.badPduCount = u.counted Key.badPduCount ∧ leavesRest u t sessionRegs noCells))

/-- R21, R76, R80, R83 (CLOSE, CONFIRM_TIMEOUT, SESSION_IDLE_TIMEOUT, SESSION_FORCE_CLOSE, REMOTE_OD_ENABLE, APPLICATION_RESET,
APPLICATION_RUNNING): a session ends, with its row and key cleared, at a Close with a right tag, which is answered with Closed; 1 s after
a Challenge that no Confirm followed; when it has been idle for more than SessionIdleTimeout; at SessionForceClose; at a write of 0 to
RemoteOdEnable; when its client row is disabled; and when the application cluster enters reset, from which on the cluster's commands are
busy until it runs again. Closed's sequence number 0, and that a Close with a body counts as one, are log entry 114.
R83: while RemoteOdEnable is 0 or the application cluster does not run, a PDU of any type is dropped: nothing changes and
nothing is sent. -/
def Obligations.SessionsEnd : Prop :=
  ((∀ (s : State) (dt : Nat) (port : Port) (via : Via) (b key : List Byte),
      let u := s.after dt
      let k := pduSession b
      pduTaken u port via b 7 → k < 32 → u.session k F.rsessState = 2 → u.sessionKey k = some key → tagFits key b = true →
      Runs (.closeSession dt port via b) s fun t => t.session k F.rsessState = 0 ∧ t.sessionKey k = none
        ∧ Out.pdu port.val (makePdu 8 k 0 [] (some key)) ∈ t.outs ∧ forwardsOnly u t sessionRegs sessionCells)
    ∧ (∀ (s : State) (dt : Nat) (k : Fin 32),
      let u := s.after dt
      u.operates = true → u.session k.val F.rsessState = 1 → u.get (Rg.challengeAt k.val) + ms 1000 ≤ u.now →
      Runs (.confirmTimeout dt k) s fun t => t.session k.val F.rsessState = 0 ∧ leavesRest u t sessionRegs sessionCells)
    ∧ (∀ (s : State) (dt : Nat) (k : Fin 32),
      let u := s.after dt
      u.operates = true → u.session k.val F.rsessState = 2 →
      u.get (Rg.activeAt k.val) + ms (u.get Key.sessionIdleTimeout) < u.now →
      Runs (.sessionIdleTimeout dt k) s fun t => t.session k.val F.rsessState = 0 ∧ t.sessionKey k.val = none
        ∧ leavesRest u t sessionRegs sessionCells)
    ∧ (∀ (s : State) (dt : Nat) (path : Path) (v : BitVec 64),
      let u := s.facing dt path
      u.admits path 0x1D00 19 = true → v.toNat < 32 →
      Runs (.sessionForceClose dt path v) s fun t => t.status = 0 ∧ t.session v.toNat F.rsessState = 0
        ∧ leavesRest u t (fun x => sessionRegs x ∨ x = Key.sessionForceClose) sessionCells)
    ∧ (∀ (s : State) (dt : Nat) (path : Path),
      let u := s.facing dt path
      u.admits path 0x1D00 1 = true →
      Runs (.remoteOdEnable dt path 0) s fun t => t.status = 0 ∧ t.get Key.remoteOdEnable = 0
        ∧ (∀ k < 32, t.session k F.rsessState = 0)
        ∧ leavesRest u t (fun x => sessionRegs x ∨ x = Key.remoteOdEnable) sessionCells)
    ∧ (∀ (s : State) (dt : Nat) (path : Path) (row : Fin 64) (data : List Byte),
      let u := s.facing dt path
      u.admitsRow path 0xF002 row.val 0 8 = true → data.length = 8 → (leNat data).testBit 15 = false →
      Runs (.writeRow dt path 0xF002 (BitVec.ofNat 24 row.val) false 0 data) s fun t => t.status = 0
        ∧ t.fld .live 0xF002 row.val F.clientEnable = 0
        ∧ (∀ k < 32, u.session k F.rsessState ≠ 0 → u.session k F.rsessClient = row.val → t.session k F.rsessState = 0)
        ∧ (∀ k < 32, u.session k F.rsessClient ≠ row.val → ∀ f ∈ layout 0xF003, t.session k f = u.session k f)
        ∧ leavesRest u t sessionRegs (bothCells sessionCells (bothCells (rowCells .live 0xF002 row.val) clampCells)))
    ∧ (∀ (s : State) (dt : Nat), s.operates = true →
      Runs (.applicationReset dt) s fun t => t.get Rg.appRunning = 0 ∧ (∀ k < 32, t.session k F.rsessState = 0)
        ∧ ∀ path idx sub o, isCommand o = true → applicationOwns idx o = true →
            t.writeBusy idx sub o = true ∧ t.serves path = (s.after dt).serves path)
    ∧ (∀ (s : State) (dt : Nat), s.operates = true →
      Runs (.applicationRunning dt) s fun t => t.get Rg.appRunning = 1
        ∧ ∀ idx sub o, idx ≠ 0x1F10 → t.underTest idx = false → t.writeBusy idx sub o = false))
  ∧ (∀ (s : State) (dt : Nat) (port : Port) (via : Via) (b : List Byte),
      (s.get Key.remoteOdEnable = 0 ∨ s.get Rg.appRunning = 0) →
      exec (.openSession dt port via b) s = .next (s.after dt) ∧ exec (.confirm dt port via b) s = .next (s.after dt)
      ∧ exec (.request dt port via b) s = .next (s.after dt) ∧ exec (.closeSession dt port via b) s = .next (s.after dt))

/-! ### The commit -/

/-- R47 (SKETCH_DISCARD): SketchDiscard resets every staged table's Sketch to its Fair copy and goes to Realigning, and cancels a
swap that is Approved, whose commit ends with 0x03 and with CommitRefusal unchanged; in Checking or Realigning it answers 0x03 and changes
nothing. -/
def Obligations.SketchDiscardResetsTheSketch : Prop :=
  ∀ (s : State) (dt : Nat) (path : Path) (v : BitVec 64),
    let u := s.facing dt path
    u.admits path 0x1F10 7 = true →
    ((u.get Key.commitState ≠ 2 → u.get Key.commitState ≠ 4 →
      Runs (.sketchDiscard dt path v) s fun t => t.status = 0 ∧ t.get Key.commitState = 4
        ∧ (∀ a, t.octet .sketch a = u.octet .fair a) ∧ t.get Rg.realignFrom = u.now
        ∧ t.get Key.sketchCommit = (if u.get Key.commitState = 3 then 3 else u.get Key.sketchCommit)
        ∧ t.get Key.commitRefusal = u.get Key.commitRefusal
        ∧ (∀ d, u.get Rg.prevHeld = 0 → u.operates = true → Runs (.realigningEnd d) t fun x => x.get Key.commitState = 0)
        ∧ leavesRest u t (keysIn [Key.commitState, Key.sketchDiscard, Key.sketchCommit, Rg.realignFrom])
            (bothCells (fun g _ => g = .sketch) clampCells))
    ∧ ((u.get Key.commitState = 2 ∨ u.get Key.commitState = 4) →
      Runs (.sketchDiscard dt path v) s fun t => t.status = 3 ∧ leavesRest u t (keysIn []) noCells))

/-- R43, R44, R252 to R257, R288, R289 (SKETCH_COMMIT): a SketchCommit that starts answers 0x03, freezes the Sketch in Checking, and the
checks' verdict is that of the admission check of the Sketch and, where that approves, of the gateway check; in Checking, Approved or
Realigning, or while the safety partition neither runs nor resynchronises, it answers 0x03 and changes nothing. The admission check asks
nothing of a Sketch without a guaranteed stream, refuses one without the certificate's magic and version, and approves only where the
certificate is signed, its digest is that of the covered Sketch, its records name the bounded streams in order, each guaranteed stream is
metered and well placed, each bound is within its claim, each guaranteed class is protected and charged within its pool's quota, and at most
65,536 frames are in flight; the gateway check approves only where no valid pair names port 246 or 247, no two of a row name one port, and no
route feeds itself.
R43, R45, R49 (COMMIT_CHECK_END, COMMIT_TIME): when the checks end, a commit that one of them refuses is Refused with its code,
one whose CommitTime has passed is refused with 0x0301, and any other is Approved for its CommitTime, or at once where that is 0;
the stream, port, route and pair concerned are the verdict's; a write of CommitTime while Approved moves the swap. -/
def Obligations.CommitsAreChecked : Prop :=
  ((∀ (s : State) (dt : Nat) (path : Path) (v : BitVec 64),
      let u := s.facing dt path
      u.admits path 0x1F10 1 = true → u.get Key.deviceState = 0 →
      ((u.get Key.safetyState = 1 ∨ u.get Key.safetyState = 2) → (u.get Key.commitState < 2 ∨ 5 ≤ u.get Key.commitState) →
        Runs (.sketchCommit dt path v) s fun t => t.status = 3 ∧ t.get Key.commitState = 2 ∧ t.get Key.sketchCommit = 3
          ∧ (∀ n x p, u.admission = .error (n, x, p) →
              t.get (Rg.verdict 0) = 0x0100 + n ∧ t.get (Rg.verdict 1) = x ∧ t.get (Rg.verdict 2) = p)
          ∧ (∀ l n r j, u.admission = .ok l → u.gatewayCheck l = some (n, r, j) →
              t.get (Rg.verdict 0) = n ∧ t.get (Rg.verdict 3) = r ∧ t.get (Rg.verdict 4) = j)
          ∧ (∀ l, u.admission = .ok l → u.gatewayCheck l = none → t.get (Rg.verdict 0) = 0)
          ∧ leavesRest u t (fun k => k = Key.commitState ∨ k = Key.sketchCommit ∨ (2 ^ 24 ≤ k ∧ 42 ≤ Rg.numberOf k
                ∧ (Rg.numberOf k ≤ 45 ∨ ∃ x ∈ u.guaranteedStreams .sketch, 4096 ≤ x)))
              clampCells)
      ∧ (((u.get Key.safetyState ≠ 1 ∧ u.get Key.safetyState ≠ 2) ∨ (2 ≤ u.get Key.commitState ∧ u.get Key.commitState ≤ 4)) →
        Runs (.sketchCommit dt path v) s fun t => t.status = 3 ∧ leavesRest u t (keysIn []) noCells))
    ∧ (∀ u : State,
      let guar := u.guaranteedStreams .sketch
      let bounded := u.boundStreams .sketch
      (guar = [] → u.admission = .ok [])
      ∧ (guar ≠ [] → u.rowOctets .sketch 0xF076 0 0 5 ≠ ascii "HLRN" ++ [1#8] → u.admission = .error (1, 0xFFFF, 0xFFFF))
      ∧ (∀ l, u.admission = .ok l → guar = [] ∨
          (u.certificateSigned = true ∧ octetsAt (u.certificate 0 4) 8 32 = sha256 u.covered
          ∧ (List.range u.recordCount).map u.recordStream = bounded
          ∧ (∀ x ∈ guar, u.metered x = true ∧ u.placeFault x = none ∧ u.memberFault x = false)
          ∧ (∀ x ∈ bounded, ∃ b e, u.boundNs (guar.map u.traffic) (u.traffic x) = .ok (b, e) ∧ b ≤ u.claim x ∧ ⟨u.traffic x, b⟩ ∈ l)
          ∧ (∀ b ∈ l, (u.fld .sketch 0xF050 (u.sketchPool b.traffic.cls) F.poolProtected).testBit b.traffic.cls = true)
          ∧ (∀ r < 4, ((l.filter fun b => u.sketchPool b.traffic.cls == r).map u.admCells).sum ≤ u.fld .sketch 0xF050 r F.poolQuota)
          ∧ (l.map Bounded.frames).sum ≤ 65536))
      ∧ (∀ l, u.gatewayCheck l = none → ∀ r ∈ u.rowsWhere .sketch 0xF080 fun r => u.fldOn .sketch 0xF080 r F.routeValid,
          ∀ j ∈ validPairs u r, u.fld .sketch 0xF080 r (F.routePairPort j) ≠ 246 ∧ u.fld .sketch 0xF080 r (F.routePairPort j) ≠ 247
            ∧ (∀ i ∈ validPairs u r, i ≠ j → u.fld .sketch 0xF080 r (F.routePairPort i) ≠ u.fld .sketch 0xF080 r (F.routePairPort j))
            ∧ follows (flowOut u r j) (flowIn u r) = false)))
  ∧ ((∀ (s : State) (dt adm gw : Nat),
      let u := s.after dt
      let code := u.get (Rg.verdict 0)
      s.operates = true → s.get Key.deviceState = 0 → s.get Key.commitState = 2 →
      Runs (.commitCheckEnd dt adm gw) s fun t =>
        (code ≠ 0 → t.get Key.commitState = 5 ∧ t.get Key.commitRefusal = code % 65536 ∧ t.get Key.sketchCommit = 4)
        ∧ t.get Key.refusalStream = u.get (Rg.verdict 1) % 65536 ∧ t.get Key.refusalPort = u.get (Rg.verdict 2) % 65536
        ∧ (code = 0 ∨ 0x0200 ≤ code →
            t.get Key.refusalRoute = u.get (Rg.verdict 3) % 65536 ∧ t.get Key.refusalPair = u.get (Rg.verdict 4) % 256)
        ∧ (code = 0 → u.get Key.commitTime ≠ 0 → u.commitInstant < u.vtime →
            t.get Key.commitState = 5 ∧ t.get Key.commitRefusal = 0x0301 ∧ t.get Key.sketchCommit = 4)
        ∧ (code = 0 → u.get Key.commitTime ≠ 0 → u.vtime ≤ u.commitInstant →
            t.get Key.commitState = 3 ∧ t.get Rg.swapAt = u.commitInstant)
        ∧ (code = 0 → u.get Key.commitTime = 0 → t.get Key.commitState = 3 ∧ t.get Rg.swapAt = u.vtime)
        ∧ leavesRest u t (keysIn [Key.commitState, Key.commitRefusal, Key.sketchCommit, Rg.swapAt, Key.lastCheckDuration,
            Key.refusalStream, Key.refusalPort, Key.refusalRoute, Key.refusalPair, Key.lastGatewayCheckDuration]) noCells)
    ∧ (∀ (s : State) (dt : Nat) (path : Path) (v : BitVec 64),
      let u := s.facing dt path
      u.admits path 0x1F10 2 = true → u.get Key.commitState = 3 → v ≠ 0 →
      Runs (.commitTime dt path false v) s fun t => t.status = 0 ∧ t.get Key.commitTime = v.toNat
        ∧ t.get Rg.swapAt = v.toNat * 65536 + u.get Key.commitTimeFrac
        ∧ leavesRest u t (keysIn [Key.commitTime, Rg.swapAt]) noCells))

/-- R43, R46, R49, R161 (SWAP, REALIGNING_END): at the swap instant every octet of every staged table takes its Sketch as its Fair
copy, the former Fair copy is kept for the frames tagged with it, FairCopyGeneration counts the swap, and the commit ends with
0x00; Realigning ends, with CommitState Idle, once that generation is retired.
R161 (GENERATION_RETIRE): the previous generation is retired once no frame is left in steps 2 and 3 or a recirculation queue
under it, and at the latest 50 µs after the swap, when every such frame is dropped. -/
def Obligations.SwapTakesTheSketchAndRetires : Prop :=
  ((∀ (s : State) (dt : Nat),
      let u := s.after dt
      s.operates = true → s.get Key.commitState = 3 → s.get Rg.swapAt ≤ u.vtime →
      Runs (.swap dt) s fun t => (∀ a, t.octet .fair a = u.octet .sketch a) ∧ (∀ a, t.octet .sketch a = u.octet .sketch a)
        ∧ (∀ a, t.octet .prev a = u.octet .fair a)
        ∧ t.get Key.fairCopyGeneration = (s.get Key.fairCopyGeneration + 1) % 2 ^ 32
        ∧ t.get Rg.generation = u.get Rg.generation + 1 ∧ t.get Key.commitState = 4 ∧ t.get Key.sketchCommit = 0
        ∧ t.get Key.commitRefusal = 0 ∧ t.get Rg.prevHeld = 1)
    ∧ (∀ (s : State) (dt : Nat), s.operates = true → s.get Key.deviceState = 0 → s.get Key.commitState = 4 → s.get Rg.prevHeld = 0 →
      Runs (.realigningEnd dt) s fun t => t.get Key.commitState = 0 ∧ leavesRest (s.after dt) t (keysIn [Key.commitState]) noCells))
  ∧ (∀ (s : State) (dt : Nat),
      let u := s.after dt
      s.operates = true → s.get Rg.prevHeld = 1 → ((∀ f ∈ u.frames, u.straggler f = false) ∨ u.get Rg.realignFrom + us 50 ≤ u.now) →
      Runs (.generationRetire dt) s fun t => t.get Rg.prevHeld = 0 ∧ (∀ f ∈ t.frames, t.straggler f = false)
        ∧ (∀ f ∈ t.frames, ∃ g ∈ u.frames, g.id = f.id) ∧ forwardsOnly u t (keysIn [Rg.prevHeld, Key.generationDrops]) noCells)

/-! ### Ports -/

/-- R110, R118 (PORT_ENABLE): a write of 1 takes a Disabled port to Starting, or through it to Up at once where the kind of port needs no
link (the model's choice, log entry 105); a write of 0 takes an Up port to Flushing with reason
0x01 and releases every entry of its queues that is not on the wire, and a Starting port to Disabled; in Flushing the value is held. -/
def Obligations.PortEnableMovesThePort : Prop :=
  ∀ (s : State) (dt : Nat) (path : Path) (p : Port),
    let u := s.facing dt path
    u.admits path (0x2000 + 16 * p.val) 3 = true → u.recovering = false →
    (u.portState p.val = 0 → Runs (.portEnable dt path p 1) s fun t => t.status = 0 ∧ t.get (Key.portEnable p.val) = 1
        ∧ (t.portState p.val = 1 ∨ t.portState p.val = 2) ∧ ((u.kind p.val = 1 ∨ u.kind p.val = 2) → t.portState p.val = 1)
        ∧ forwardsOnly u t (fun k => k = Key.portEnable p.val ∨ portRegs p.val k) portCells)
    ∧ (u.portState p.val = 2 → Runs (.portEnable dt path p 0) s fun t => t.status = 0 ∧ t.get (Key.portEnable p.val) = 0
        ∧ t.portState p.val = 4 ∧ t.get (Key.linkDownReason p.val) = 1
        ∧ t.get (Key.linkDownEvents p.val) = u.counted (Key.linkDownEvents p.val)
        ∧ t.get (Rg.flushFrom p.val) = u.now
        ∧ (∀ c ∈ t.copies, c.port = p.val → c.tc < 8 → c.phase = .wire)
        ∧ forwardsOnly u t (fun k => k = Key.portEnable p.val ∨ portRegs p.val k) portCells)
    ∧ (u.portState p.val = 1 → Runs (.portEnable dt path p 0) s fun t => t.status = 0 ∧ t.get (Key.portEnable p.val) = 0
        ∧ t.portState p.val = 0 ∧ leavesRest u t (fun k => k = Key.portEnable p.val ∨ portRegs p.val k) noCells)
    ∧ (∀ b : Bool, u.portState p.val = 4 → Runs (.portEnable dt path p (if b then 1 else 0)) s fun t => t.status = 0
        ∧ t.get (Key.portEnable p.val) = (if b then 1 else 0) ∧ t.portState p.val = 4
        ∧ leavesRest u t (keysIn [Key.portEnable p.val]) noCells)

/-- R88 (ATTACHMENT_BINDING): the safety partition's write of AttachmentBinding swaps the bindings of the two ports where both are
Disabled and neither is under test, and changes nothing where the port is already bound so; otherwise it ends with 0x03 and
changes nothing (for the other slice under test: the model's reading, log entry 106).
R110, R116 (FLUSH_COMPLETE): when the flush ends, FlushDuration is set and the port becomes Disabled where PortEnable is 0;
where it is 1, the port goes to Starting, where an Ethernet lane or a T1 port stays; another kind may be Up at once (log entry 105). -/
def Obligations.BindingsSwapAndFlushesEnd : Prop :=
  (∀ (s : State) (dt : Nat) (path : Path) (p : Port) (x : Nat),
      let u := s.facing dt path
      let q := u.holderOf x
      u.admits path (0x2000 + 16 * p.val) 2 = true → x < 224 →
      (u.attachment p.val = x → Runs (.attachmentBinding dt path p (BitVec.ofNat 64 x)) s fun t => t.status = 0
          ∧ leavesRest u t (keysIn []) noCells)
      ∧ (u.attachment p.val ≠ x → u.portState p.val = 0 → u.portState q = 0 → u.get (Rg.testedBy q) = 0 →
          Runs (.attachmentBinding dt path p (BitVec.ofNat 64 x)) s fun t => t.status = 0
            ∧ t.attachment p.val = x ∧ (q ≠ p.val → t.attachment q = u.attachment p.val % 256)
            ∧ leavesRest u t (keysIn [Key.attachmentBinding p.val, Key.attachmentBinding q]) noCells)
      ∧ (u.attachment p.val ≠ x → (u.portState p.val ≠ 0 ∨ u.portState q ≠ 0 ∨ u.get (Rg.testedBy q) ≠ 0) →
          Runs (.attachmentBinding dt path p (BitVec.ofNat 64 x)) s fun t => t.status = 3 ∧ leavesRest u t (keysIn []) noCells))
  ∧ (∀ (s : State) (dt : Nat) (p : Port), s.operates = true → s.portState p.val = 4 →
      let u := s.after dt
      let d := (u.now - u.get (Rg.flushFrom p.val)) / 65536 % 2 ^ 32
      (s.get (Key.portEnable p.val) = 0 → Runs (.flushComplete dt p) s fun t => t.portState p.val = 0
        ∧ t.get (Key.flushDuration p.val) = d ∧ leavesRest u t (keysIn [Key.portState p.val, Key.flushDuration p.val]) noCells)
      ∧ (s.get (Key.portEnable p.val) ≠ 0 → Runs (.flushComplete dt p) s fun t =>
        (t.portState p.val = 1 ∨ t.portState p.val = 2) ∧ ((s.kind p.val = 1 ∨ s.kind p.val = 2) → t.portState p.val = 1)
        ∧ t.get (Key.flushDuration p.val) = d ∧ forwardsOnly u t (portRegs p.val) portCells))

/-- R98, R111, R113, R117 (LINK_UP, LINK_LOST, BUS_OFF, SERVING_FUNCTION_STOPPED): the port's attachment takes it from Starting to Up,
setting LinkUpTime, and from Up to Flushing, with the cause in LinkDownReason, one more LinkDownEvents, and no entry left in its
queues but what is on the wire; a CAN controller that goes bus-off counts it, in Flushing too, where a frame that is being sent is
released at once; and where the PCIe link is what stops, every host port leaves Up (the model's reading, log entry 100). -/
def Obligations.AttachmentsMoveThePort : Prop :=
  (∀ (s : State) (dt : Nat) (p : Port) (r : BitVec 8), s.operates = true → s.portState p.val = 1 → s.kind p.val ≠ 7 →
    s.get (Rg.lowPower p.val) = 0 → s.get (Rg.busOff p.val) ≠ 2 → s.get (Rg.testedBy p.val) = 0 → s.get Rg.sleepFlushed = 0 →
    Runs (.linkUp dt p r) s fun t => t.portState p.val = 2 ∧ t.get (Key.linkUpTime p.val) = (s.after dt).vtime / 65536
      ∧ forwardsOnly (s.after dt) t (portRegs p.val) noCells)
  ∧ (∀ (s : State) (dt : Nat) (p : Port), s.operates = true → s.portState p.val = 2 → s.kind p.val ≠ 7 →
    s.get (Rg.testedBy p.val) = 0 →
    Runs (.linkLost dt p) s fun t => t.portState p.val = 4 ∧ t.get (Key.linkDownReason p.val) = 2
      ∧ t.get (Key.linkDownEvents p.val) = s.counted (Key.linkDownEvents p.val)
      ∧ (∀ c ∈ t.copies, c.port = p.val → c.tc < 8 → c.phase = .wire)
      ∧ forwardsOnly (s.after dt) t (portRegs p.val) portCells)
  ∧ (∀ (s : State) (dt : Nat) (p : Port), s.operates = true → s.portState p.val = 2 → s.kind p.val = 4 →
    Runs (.busOff dt p) s fun t => t.portState p.val = 4 ∧ t.get (Key.linkDownReason p.val) = 3
      ∧ t.get (Key.canErrorState p.val) = 2
      ∧ t.get (Key.busOffCount p.val) = s.counted (Key.busOffCount p.val)
      ∧ (∀ c ∈ t.copies, c.port = p.val → c.tc < 8 → False)
      ∧ forwardsOnly (s.after dt) t (portRegs p.val) portCells)
  ∧ (∀ (s : State) (dt : Nat) (p : Port), s.operates = true → s.portState p.val = 4 → s.kind p.val = 4 →
    s.get (Rg.busOff p.val) = 0 →
    Runs (.busOff dt p) s fun t => t.portState p.val = 4 ∧ t.get (Key.canErrorState p.val) = 2
      ∧ t.get (Key.busOffCount p.val) = s.counted (Key.busOffCount p.val)
      ∧ (∀ c ∈ t.copies, c.port = p.val → c.phase = .wire ∨ c.phase = .paused → (s.after dt).notStarted c = true)
      ∧ forwardsOnly (s.after dt) t (portRegs p.val) noCells)
  ∧ (∀ (s : State) (dt : Nat) (p : Port), s.operates = true → 224 ≤ p.val → p.val < 232 → s.portState p.val = 2 →
    s.get Rg.pcieLink ≠ 0 →
    Runs (.servingFunctionStopped dt p) s fun t => t.get Rg.pcieLink = 0
      ∧ (∀ q, 224 ≤ q → q < 232 → s.portState q = 2 → s.kind q = 7 →
          t.portState q = 4 ∧ t.get (Key.linkDownReason q) = 4 ∧ ∀ c ∈ t.copies, c.port = q → c.tc < 8 → c.phase = .wire)
      ∧ forwardsOnly (s.after dt) t (fun k => k = Rg.pcieLink ∨ ∃ q, 224 ≤ q ∧ q < 256 ∧ portRegs q k) portCells)
  ∧ (∀ (s : State) (dt : Nat) (p : Port), s.operates = true → s.portState p.val = 2 → s.kind p.val = 7 →
    (s.after dt).servingRuns p.val = false → (p.val < 224 ∨ 232 ≤ p.val ∨ s.get Rg.pcieLink = 0) →
    Runs (.servingFunctionStopped dt p) s fun t => t.portState p.val = 4 ∧ t.get (Key.linkDownReason p.val) = 4
      ∧ (∀ c ∈ t.copies, c.port = p.val → c.tc < 8 → c.phase = .wire)
      ∧ forwardsOnly (s.after dt) t (portRegs p.val) portCells)

/-! ### Tables that age -/

/-- R150, R162 (FIREWALL_ENABLE, SESSION_FLUSH, SESSION_FREEING_END): disabling the firewall, and SessionFlush, start the freeing of
every session; at its end no session is left, SessionFlush reads 0x00, and an enable written meanwhile takes effect.
R149, R150 (FIREWALL_SESSION_WRITE): a partition's write of octets of a session row stores each writable field that it touches at the
legal value nearest to the written one and leaves the others; octets 48 to 63 are the block's (the model's reading, log entry 103): the row
that comes into use has its frames at 0 and counts its idle time from now, one that enters Closing counts it from now, and in every other
case they stay; while sessions are being freed the write ends with 0x03 and changes nothing.
R198 (FDB_FLUSH_DYNAMIC, FDB_FLUSH_END): the flush runs until its end, when no dynamic entry is left, every static entry stands
and the command reads 0x00.
R178 (FDB_ENTRY_WRITE): a partition's write of octets of a row that leaves Valid at 1 makes or keeps a static entry, whose address, VID,
group flag and target are those written, each at its nearest legal value, or where the write does not touch them those before; a write
that touches octets 6 and 7 and leaves Valid at 0 removes the entry, storing 0 there and nothing clamped; one that touches neither leaves an
empty row empty; during a dynamic flush the write ends with 0x03 and changes nothing. -/
def Obligations.EntriesAreFreedAndWritten : Prop :=
  ((∀ (s : State) (dt : Nat) (path : Path) (b : Bool),
      let u := s.facing dt path
      u.admits path 0x4100 1 = true →
      (u.get Rg.freeing = 0 → Runs (.firewallEnable dt path (if b then 1 else 0)) s fun t => t.status = 0
          ∧ t.get Key.firewallEnable = (if b then 1 else 0) ∧ t.get Rg.freeing = (if b then 0 else 1)
          ∧ leavesRest u t (keysIn [Key.firewallEnable, Rg.freeing]) noCells)
      ∧ (u.get Rg.freeing ≠ 0 → u.get Key.firewallEnable = 0 → Runs (.firewallEnable dt path 1) s fun t => t.status = 0
          ∧ t.get Key.firewallEnable = 0 ∧ t.get Key.firewallPendingEnable = 1
          ∧ leavesRest u t (keysIn [Key.firewallPendingEnable]) noCells))
    ∧ (∀ (s : State) (dt : Nat) (path : Path) (v : BitVec 64),
      let u := s.facing dt path
      u.admits path 0x4100 8 = true → Runs (.sessionFlush dt path v) s fun t => t.status = 3 ∧ t.get Key.sessionFlush = 3
        ∧ t.get Rg.freeing = 1 ∧ leavesRest u t (keysIn [Key.sessionFlush, Rg.freeing]) clampCells)
    ∧ (∀ (s : State) (dt : Nat), s.operates = true → s.get Rg.freeing ≠ 0 →
      Runs (.sessionFreeingEnd dt) s fun t => (∀ r f, r < 16384 → f ∈ layout 0xF046 → t.fld .live 0xF046 r f = 0)
        ∧ t.get Rg.freeing = 0 ∧ (s.get Key.sessionFlush = 3 → t.get Key.sessionFlush = 0)
        ∧ t.get Key.firewallEnable = (if s.get Key.firewallPendingEnable = 0 then s.get Key.firewallEnable else 1)
        ∧ t.get Key.firewallPendingEnable = 0
        ∧ leavesRest (s.after dt) t (keysIn [Rg.freeing, Key.sessionFlush, Key.firewallEnable, Key.firewallPendingEnable])
            (tableCells .live 0xF046)))
  ∧ (∀ (s : State) (dt : Nat) (path : Path) (row : BitVec 24) (off : Nat) (data : List Byte) (tab : Tab),
      let u := s.facing dt path
      let r := row.toNat
      let n := data.length
      let was := u.rowOctets .live 0xF046 r 0 tab.stride
      let x := fun (f : Fld) => if f.touched off n = true
        then clampTo f.legal f.width f.dflt (bits (leNat (overlay was off data)) f.bit f.width) % 2 ^ f.width else u.fld .live 0xF046 r f
      let old := u.fld .live 0xF046 r F.sessState
      u.serves path = true → tableOf 0xF046 = some tab → r < tab.rows → n ≠ 0 → off + n ≤ tab.stride →
      u.mayWriteRow path tab r false = true →
      (u.get Rg.freeing = 0 → Runs (.firewallSessionWrite dt path row off data) s fun t => t.status = 0
          ∧ (∀ f ∈ layout 0xF046, f.ro = false → t.fld .live 0xF046 r f = x f)
          ∧ (old = 0 → x F.sessState ≠ 0 → t.fld .live 0xF046 r F.sessFramesInit = 0 ∧ t.fld .live 0xF046 r F.sessFramesResp = 0)
          ∧ ((old = 0 ∧ x F.sessState ≠ 0) ∨ (old ≠ 3 ∧ x F.sessState = 3) → t.get (Rg.sessionAt r) = u.now
              ∧ t.fld .live 0xF046 r F.sessTime = u.vtime / 65536 % 2 ^ 64)
          ∧ (¬ (old = 0 ∧ x F.sessState ≠ 0) → t.fld .live 0xF046 r F.sessFramesInit = u.fld .live 0xF046 r F.sessFramesInit
              ∧ t.fld .live 0xF046 r F.sessFramesResp = u.fld .live 0xF046 r F.sessFramesResp)
          ∧ (¬ (old = 0 ∧ x F.sessState ≠ 0) → ¬ (old ≠ 3 ∧ x F.sessState = 3) → t.get (Rg.sessionAt r) = u.get (Rg.sessionAt r)
              ∧ t.fld .live 0xF046 r F.sessTime = u.fld .live 0xF046 r F.sessTime)
          ∧ leavesRest u t (keysIn [Rg.sessionAt r]) (bothCells (rowCells .live 0xF046 r) clampCells))
      ∧ (u.get Rg.freeing ≠ 0 → Runs (.firewallSessionWrite dt path row off data) s fun t => t.status = 3
          ∧ leavesRest u t (keysIn []) noCells))
  ∧ ((∀ (s : State) (dt : Nat) (path : Path) (v : BitVec 64),
      let u := s.facing dt path
      u.admits path 0x3000 18 = true → Runs (.fdbFlushDynamic dt path v) s fun t => t.status = 3 ∧ t.get Key.fdbFlushDynamic = 3
        ∧ t.get Rg.fdbFlushing = 1 ∧ leavesRest u t (keysIn [Key.fdbFlushDynamic, Rg.fdbFlushing]) clampCells)
    ∧ (∀ (s : State) (dt : Nat), s.operates = true → s.get Rg.fdbFlushing ≠ 0 →
      Runs (.fdbFlushEnd dt) s fun t => t.dynamicRows = [] ∧ t.get Rg.fdbFlushing = 0 ∧ t.get Key.fdbFlushDynamic = 0
        ∧ (∀ r < 32768, s.fldOn .live 0xF052 r F.fdbStatic = true → ∀ f ∈ layout 0xF052, t.fld .live 0xF052 r f = s.fld .live 0xF052 r f)
        ∧ leavesRest (s.after dt) t (keysIn [Key.fdbFlushDynamic, Rg.fdbFlushing]) (tableCells .live 0xF052)))
  ∧ (∀ (s : State) (dt : Nat) (path : Path) (row : BitVec 24) (off : Nat) (data : List Byte) (tab : Tab),
      let u := s.facing dt path
      let r := row.toNat
      let n := data.length
      let was := u.rowOctets .live 0xF052 r 0 tab.stride
      let x := fun (f : Fld) => if f.touched off n = true
        then clampTo f.legal f.width f.dflt (bits (leNat (overlay was off data)) f.bit f.width) % 2 ^ f.width else u.fld .live 0xF052 r f
      let tagged := F.fdbVid.touched off n || F.fdbValid.touched off n
      u.serves path = true → tableOf 0xF052 = some tab → r < tab.rows → n ≠ 0 → off + n ≤ tab.stride →
      u.mayWriteRow path tab r false = true →
      (u.get Rg.fdbFlushing = 0 → Runs (.fdbEntryWrite dt path row off data) s fun t => t.status = 0
          ∧ t.fld .live 0xF052 r F.fdbAddress = x F.fdbAddress ∧ t.fld .live 0xF052 r F.fdbValid = x F.fdbValid
          ∧ (x F.fdbValid = 1 → t.fld .live 0xF052 r F.fdbStatic = 1 ∧ t.fld .live 0xF052 r F.fdbVid = x F.fdbVid
              ∧ t.fld .live 0xF052 r F.fdbGroup = x F.fdbGroup ∧ t.fld .live 0xF052 r F.fdbHit = u.fld .live 0xF052 r F.fdbHit
              ∧ t.fld .live 0xF052 r F.fdbTarget = (if x F.fdbGroup = 0 then min (x F.fdbTarget) 255 else x F.fdbTarget))
          ∧ (x F.fdbValid = 0 → t.fld .live 0xF052 r F.fdbTarget = x F.fdbTarget)
          ∧ (tagged = true → x F.fdbValid = 0 → t.rowOctets .live 0xF052 r 6 2 = [0#8, 0#8]
              ∧ ∀ g a, ¬ rowCells .live 0xF052 r g a → t.octet g a = u.octet g a)
          ∧ leavesRest u t (keysIn []) (bothCells (rowCells .live 0xF052 r) clampCells))
      ∧ (u.get Rg.fdbFlushing ≠ 0 → Runs (.fdbEntryWrite dt path row off data) s fun t => t.status = 3
          ∧ leavesRest u t (keysIn []) noCells))

/-- R148, R153, R180, R247 (SESSION_EXPIRY, FRAGMENT_EXPIRY, AGEING_SWEEP, RECOVERY_RESET_TIMEOUT): a session whose idle time has
reached its state's timeout is freed; a fragment entry ends with its lifetime; the sweep removes the dynamic entries that were not
hit since the last one and clears every hit; a recovery function whose timeout has passed forgets its history and counts it. Each
leaves every other row as it was. -/
def Obligations.RowsAgeOut : Prop :=
  (∀ (s : State) (dt : Nat) (r : Fin 16384),
    let u := s.after dt
    let st := u.fld .live 0xF046 r.val F.sessState
    s.operates = true → st ≠ 0 → u.get (Rg.sessionAt r.val) + u.sessionTimeout st ≤ u.now →
    Runs (.sessionExpiry dt r) s fun t => (∀ f ∈ layout 0xF046, t.fld .live 0xF046 r.val f = 0)
      ∧ leavesRest u t (keysIn []) (rowCells .live 0xF046 r.val))
  ∧ (∀ (s : State) (dt : Nat) (r : Fin 1024),
    let u := s.after dt
    s.operates = true → u.fldOn .live 0xF047 r.val F.fragValid = true → u.get (Rg.fragmentEnd r.val) ≤ u.now →
    Runs (.fragmentExpiry dt r) s fun t => t.fldOn .live 0xF047 r.val F.fragValid = false
      ∧ leavesRest u t (keysIn []) (rowCells .live 0xF047 r.val))
  ∧ (∀ (s : State) (dt : Nat), s.operates = true →
    Runs (.ageingSweep dt) s fun t =>
      (∀ r < 32768, s.fldOn .live 0xF052 r F.fdbValid = true → s.fldOn .live 0xF052 r F.fdbStatic = false →
        s.fldOn .live 0xF052 r F.fdbHit = false → t.fldOn .live 0xF052 r F.fdbValid = false)
      ∧ (∀ r < 32768, (s.fldOn .live 0xF052 r F.fdbStatic = true ∨ s.fldOn .live 0xF052 r F.fdbHit = true) →
        t.fldOn .live 0xF052 r F.fdbValid = s.fldOn .live 0xF052 r F.fdbValid)
      ∧ (∀ r < 32768, t.fldOn .live 0xF052 r F.fdbValid = true → t.fldOn .live 0xF052 r F.fdbHit = false)
      ∧ leavesRest (s.after dt) t (keysIn []) (tableCells .live 0xF052))
  ∧ (∀ (s : State) (dt : Nat) (r : Fin 1024),
    let u := s.after dt
    s.operates = true → u.fldOn .fair 0xF074 r.val F.recValid = true → u.get (Rg.recoveryOn r.val) ≠ 0 →
    u.get (Rg.recoveryAt r.val) + ms (u.fld .fair 0xF074 r.val F.recTimeout) ≤ u.now →
    Runs (.recoveryResetTimeout dt r) s fun t => t.get (Rg.recoveryOn r.val) = 0 ∧ t.get (Rg.recoveryHistory r.val) = 0
      ∧ t.fld .live 0xF078 r.val F.rstResets
        = min (u.fld .live 0xF078 r.val F.rstResets + 1) (2 ^ F.rstResets.width - 1)
      ∧ leavesRest u t (keysIn [Rg.recoveryOn r.val, Rg.recoveryHistory r.val]) (rowCells .live 0xF078 r.val))

/-! ### The frame path -/

/-- R10, R17, R95, R101 to R103, R105, R114, R208, R224 (FRAME_ARRIVAL): a frame on a port that is not Up counts in IngressDiscards and is
discarded; on a port that is Up, the attachment's frame enters the fabric with its ingress timestamp and the tag of the generation in
force; a J1708 message whose idle wait is not over then waits again. A preemptable frame on a port that does not take them counts as a
check error, and its fragments count as they arrive (the model's readings, log entry 59); a bus frame of a wrong length or check octet is
counted as such (a LIN response's are those of its row: the model's reading, log entry 58), and one that the controller does not take leaves
no trace. What is discarded at once has arrived for R374, unless it is a ring message (the model's reading, log entry 130). The recirculation
ports take nothing from outside. -/
def Obligations.FramesEnterTheFabric : Prop :=
  ∀ (s : State) (dt : Nat) (p : Port), s.operates = true → s.get (Rg.isolated p.val) = 0 →
    let u := s.after dt
    let noted := fun (t : State) (rx : Rx) => u.isRingMessage p.val (firstWord u p.val rx) (firstWord u p.val rx).parse = false →
      t.get (Rg.arrivalAt p.val) = u.now + 1
    (∀ rx, (p.val = 246 ∨ p.val = 247) → Runs (.frameArrival dt p rx) s fun t => leavesRest u t (keysIn []) noCells)
    ∧ (p.val ≠ 246 → p.val ≠ 247 →
    (∀ rx, s.portState p.val ≠ 2 → Runs (.frameArrival dt p rx) s fun t =>
      t.get (Key.ingressDiscards p.val) = s.counted (Key.ingressDiscards p.val) ∧ noted t rx
      ∧ leavesRest u t (keysIn [Key.ingressDiscards p.val, Rg.arrivalAt p.val]) noCells)
    ∧ (∀ bs, s.portState p.val = 2 → (s.kind p.val ≤ 3 ∨ s.kind p.val = 7) → Runs (.frameArrival dt p (.eth bs)) s fun t =>
        t.frames = u.frames ++ [newFrame u p.val p.val 0 bs false false] ∧ t.copies = u.copies
        ∧ t.get Rg.frameCount = u.get Rg.frameCount + 1 ∧ forwardsOnly u t (keysIn []) noCells)
    ∧ (∀ n bs, s.portState p.val = 2 → u.preemptable p.val = true → u.timing p.val F.ptimPreempt = 1 →
        Runs (.frameArrival dt p (.preemptable n bs)) s fun t =>
          t.frames = u.frames ++ [newFrame u p.val p.val 0 bs true false] ∧ t.copies = u.copies
          ∧ t.get (Key.fragmentsReceived p.val) = u.counted (Key.fragmentsReceived p.val) n ∧ forwardsOnly u t (keysIn []) noCells)
    ∧ (∀ n bs, s.portState p.val = 2 → (u.preemptable p.val = false ∨ u.timing p.val F.ptimPreempt ≠ 1) →
        Runs (.frameArrival dt p (.preemptable n bs)) s fun t =>
          t.get (Key.rxCheckErrors p.val) = s.counted (Key.rxCheckErrors p.val) ∧ noted t (.preemptable n bs)
          ∧ leavesRest u t (keysIn [Key.rxCheckErrors p.val, Rg.arrivalAt p.val]) noCells)
    ∧ (∀ f : BusFrame, s.portState p.val = 2 → u.acceptsBus p.val f = 1 →
        let stamp := if s.kind p.val = 5 then u.get (Rg.linBreak p.val) else u.vtime
        let cell := busCell f p.val stamp
        Runs (.frameArrival dt p (.bus f)) s fun t =>
          t.frames = u.frames ++ [{ newFrame u p.val p.val f.kind.toNat cell false false with
              stamp := stamp, stepAt := if s.kind p.val = 5 then u.stepSince (u.get (Rg.linBreakAt p.val)) else none }]
          ∧ cellData cell = f.data ∧ cellKind cell = f.kind.toNat ∧ cellSource cell = p.val
          ∧ t.copies = u.withdrawn p.val ∧ forwardsOnly u t (keysIn []) noCells)
    ∧ (∀ f : BusFrame, s.portState p.val = 2 → (u.acceptsBus p.val f = 2 ∨ u.acceptsBus p.val f = 3) →
        let k := if u.acceptsBus p.val f = 2 then Key.rxLengthErrors p.val else Key.rxCheckErrors p.val
        Runs (.frameArrival dt p (.bus f)) s fun t => t.get k = s.counted k ∧ t.frames.length ≤ u.frames.length
          ∧ (s.kind p.val ≠ 6 → leavesRest u t (keysIn [k, Rg.linExpect p.val, Rg.arrivalAt p.val]) noCells)
          ∧ forwardsOnly u t (keysIn []) noCells)
    ∧ (∀ f : BusFrame, s.portState p.val = 2 → u.acceptsBus p.val f = 0 →
        Runs (.frameArrival dt p (.bus f)) s fun t => leavesRest u t (keysIn []) noCells))

/-- R95, R131, R191, R192, R400 (LOOKAHEAD_COMPLETE): a frame whose lookahead is complete leaves the arrival for good: it is decided, or
dropped. While no pipeline serves its port under the map of its generation it is dropped and counts in InterruptionDiscards; with all 64
decision slots in use it is dropped and counts in DecisionOverruns; what is still to come of it is then received without a copy. A
malformed frame that MalformedAction drops is counted, and no copy of it is made; a MAC control frame, or one that is already too long, is
not decided. What the decision itself gives is said by FramesAreClassified, StreamsAreFiltered, CellsAreRouted and FramesAreQueued. -/
def Obligations.LookaheadDecidesTheFrame : Prop :=
  ∀ (s : State) (dt id : Nat) (bs : List Byte) (f : Frame),
    let u := s.after dt
    let g := { f with octets := f.octets ++ bs }
    s.operates = true → s.frame? id = some f → f.stage = .arriving → (f.complete = true ∨ (f.kind = 0 ∧ f.preemptable = false)) →
    lookaheadDone u g g.parse = true →
    let control := u.refusedAt g = true
    let gone := if f.complete then u.frames.filter fun x => x.id != id
      else u.frames.map fun x => if x.id = id then { g with stage := .draining } else x
    Runs (.lookaheadComplete dt id bs) s fun t =>
      (∀ x ∈ t.frames, x.id = id → x.stage ≠ .arriving) ∧ forwardsOnly u t (keysIn []) noCells
      ∧ ((∀ c ∈ s.copies, c.frame ≠ id) → control → t.frames = gone ∧ t.copies = u.copies)
      ∧ ((∀ c ∈ s.copies, c.frame ≠ id) → ¬ control → u.secyValidates f.port = 0 → f.secured = false →
          u.servedBy (u.genOf f.tag) f.port = none → t.frames = gone ∧ t.copies = u.copies
          ∧ t.get Key.interruptionDiscards = u.counted Key.interruptionDiscards)
      ∧ (∀ n, (∀ c ∈ s.copies, c.frame ≠ id) → ¬ control → u.secyValidates f.port = 0 → f.secured = false →
          u.servedBy (u.genOf f.tag) f.port = some n → (∀ i < 64, u.now < u.get (Rg.slotUntil n i)) →
          t.frames = gone ∧ t.copies = u.copies ∧ t.get Key.decisionOverruns = u.counted Key.decisionOverruns)
      ∧ (∀ n, (∀ c ∈ s.copies, c.frame ≠ id) → ¬ control → u.servedBy (u.genOf f.tag) f.port = some n →
          (∃ i < 64, u.get (Rg.slotUntil n i) ≤ u.now) →
          g.parse.malformed = true → u.get Key.malformedAction = 0 → u.secyValidates f.port = 0 → f.secured = false →
          t.copies = u.copies ∧ t.get Key.malformedFrames = u.counted Key.malformedFrames)

/-- R95, R121, R124, R131, R190, R224 (FRAME_TAIL): the last octet of a good frame that is still arriving completes it and counts it in
RxFrames and RxOctets; a preemptable frame whose reassembly failed, a frame that is too short or too long, one whose check sequence fails
and a MAC control frame each count as such, in that order (the model's reading, log entries 48 and 59), and every copy of it ends. A good
last octet of a frame that was decided and stored before gives it the charge of its cells, and a copy that was cut through its octets (R171,
R188), unless the tail finds it bad: by its SecY (R298), as malformed, or as longer than its stream's MaxSdu (R242); then no copy of it is
left, those that had begun to leave carry the Varnish, and it is counted by the first of these (the model's order, log entry 48). -/
def Obligations.TailSettlesTheFrame : Prop :=
  ∀ (s : State) (dt id : Nat) (rx : Rx) (how : RxEnd) (f : Frame),
    let u := s.after dt
    let g := { f with octets := f.octets ++ rxOctets rx, complete := true, valid := u.now }
    s.operates = true → s.frame? id = some f → f.complete = false → f.port < 256 →
    (ingressFault u g how = none → f.stage = .arriving → (∀ c ∈ s.copies, c.frame ≠ id) → Runs (.frameTail dt id rx how) s fun t =>
      t.frame? id = some g ∧ ((u.kind f.port ≠ 3 ∧ u.kind f.port ≠ 4 ∧ u.kind f.port ≠ 6) → t.copies = u.copies)
      ∧ (∀ c ∈ t.copies, c.frame ≠ id)
      ∧ t.get (Key.rxFrames f.port) = u.counted (Key.rxFrames f.port)
      ∧ t.get (Key.rxOctets f.port) = u.counted (Key.rxOctets f.port) g.rxLength
      ∧ forwardsOnly u t (keysIn []) noCells)
    ∧ (∀ k, ingressFault u g how = some k → Runs (.frameTail dt id rx how) s fun t =>
      t.get k = u.counted k ∧ (∀ c ∈ t.copies, c.frame ≠ id) ∧ (f.stage ≠ .stored → t.frame? id = none)
      ∧ forwardsOnly u t (keysIn []) noCells)
    ∧ (f.preemptable = true → how = .badAssembly → ingressFault u g how = some (Key.assemblyErrors f.port))
    ∧ (¬ (f.preemptable = true ∧ how = .badAssembly) →
        ((f.kind = 0 ∧ g.octets.length < 64)
          ∨ ((f.kind = 0 ∨ u.kind f.port = 7) ∧ u.inForce (Key.maxFrameLength f.port) < g.octets.length)) →
        ingressFault u g how = some (Key.rxLengthErrors f.port))
    ∧ (ingressFault u g how = none → f.stage = .stored → f.decided.isSome = true →
      let strict := u.secyValidates f.port = 2
      let secBad := f.secured = true ∧ (u.secVerify f.port g.data = .late
        ∨ (strict ∧ (u.secVerify f.port g.data = .failed ∨ u.secVerify f.port g.data = .noSa)))
      let broken := g.parse.malformed = true ∧ f.verdict ≠ 2
      let row := fun (x : Nat) (h : Fld) => u.fld (u.genOf f.tag) 0xF071 x h
      let long := fun x => f.stream.isSome = true ∧ identify u (u.genOf f.tag) g g.parse = some x ∧ row x F.ctxMaxSdu < g.rxLength
      let whole := { g with charge := cellsOf g.octets.length }
      let spoilt := fun (t : State) => (∀ c ∈ t.copies, c.frame ≠ id) ∧ t.frame? id = none
        ∧ (∀ c ∈ u.copies, c.frame = id → c.begun = true → (∃ bs, Out.frame c.port bs true ∈ t.outs)
          ∧ (u.get (Key.varnishedFrames c.port) < 2 ^ 32 - 1 → u.get (Key.varnishedFrames c.port) < t.get (Key.varnishedFrames c.port)))
      Runs (.frameTail dt id rx how) s fun t => forwardsOnly u t (keysIn []) noCells
        ∧ t.get (Key.rxFrames f.port) = u.counted (Key.rxFrames f.port)
        ∧ t.get (Key.rxOctets f.port) = u.counted (Key.rxOctets f.port) g.rxLength
        ∧ (¬ secBad → ¬ broken → (∀ x, ¬ long x) → (∀ c ∈ u.copies, c.frame = id → c.phase ≠ .held) →
          (∀ x ∈ t.frames, x.id = id → x = whole)
          ∧ (∀ c ∈ u.copies, c.frame = id → c.phase = .wire → c.cut = true → u.kind c.port ≤ 3 → (∀ x ∈ u.copies, x.seq = c.seq → x = c) →
              ∃ d ∈ t.copies, d.seq = c.seq ∧ d.phase = .wire ∧ d.sent = u.leaving c whole))
        ∧ (secBad → (u.get Key.malformedAction = 0 ∨ ¬ broken) → spoilt t)
        ∧ (¬ secBad → broken → t.get Key.malformedFrames = u.counted Key.malformedFrames
          ∧ t.get Key.malformedTail = u.counted Key.malformedTail ∧ (u.get Key.malformedAction = 0 → spoilt t))
        ∧ (∀ x, ¬ secBad → ¬ broken → long x → spoilt t
          ∧ (row x F.ctxBlockOversize ≠ 0 → t.fld .live 0xF077 x F.stBlocked = 1)
          ∧ (f.rtag.isSome = true → t.fld .live 0xF077 x F.stFiltered = u.countedF 0xF077 x F.stFiltered)))
    ∧ (¬ (f.preemptable = true ∧ how = .badAssembly) → (f.kind = 0 → 64 ≤ g.octets.length) →
        ((f.kind = 0 ∨ u.kind f.port = 7) → g.octets.length ≤ u.inForce (Key.maxFrameLength f.port)) →
        (how ≠ .good → ingressFault u g how = some (Key.rxCheckErrors f.port))
        ∧ (how = .good → ingressFault u g how
            = (if f.kind = 0 ∧ beAt g.octets 12 2 = 0x8808 then some (Key.rxControlDiscards f.port) else none)))

/-- R158, R161, R218 (RECIRCULATION, ELIGIBILITY_TIME): a recirculation port that is Up takes the copy that the selection gives, counts
it in TxFrames and ends its entry; a copy of a generation no longer kept is dropped and counted. At an eligibility time a port
begins to send the copy that the selection gives (on a CAN bus on which another node sends it takes the transmit stage, R99; a paused
copy resumes, R223), and with none changes no copy but for the note that its wait has been counted (R231).
R124, R184 (TRANSMISSION_END): a copy on the wire whose frame is complete has been sent, and so has one in a transmit stage whose bus
no other node uses: the port puts out its octets, TxFrames counts it, its entry ends, and its frame is released with its last copy. -/
def Obligations.CopiesLeave : Prop :=
  ((∀ (s : State) (dt : Nat) (upper : Bool) (c : Copy) (f : Frame) (a : Act),
      let u := s.after dt
      let q := if upper then 247 else 246
      s.operates = true → s.portState q = 2 → u.pick q false u.vtime [7, 6, 5, 4, 3, 2, 1, 0] = (some (c, f), a) →
      c.seq < u.get Rg.entryCount →
      Runs (.recirculation dt upper) s fun t => (∀ d ∈ t.copies, d.seq ≠ c.seq)
        ∧ t.get (Key.txFrames q) = u.counted (Key.txFrames q)
        ∧ (u.genKept f.tag = false → t.get Key.generationDrops = u.counted Key.generationDrops ∧ t.frame? f.id = none)
        ∧ forwardsOnly u t (keysIn []) noCells)
    ∧ (∀ (s : State) (dt : Nat) (p : Port),
      let u := s.after dt
      s.operates = true →
      (∀ c f pre a t', u.choose p.val = (.start c f pre t', a) → c.phase ≠ .paused → u.sendable c f = true →
        (∀ e, c.expiry = some e → u.vtime < e) →
        (u.secyProtects p.val = false ∨ innerType (copyOctets u c f) = 0x888E ∨ u.saSends p.val (u.encodingSa p.val) = true) →
        let waits := u.kind p.val = 4 ∧ u.receiving p.val = true
        Runs (.eligibilityTime dt p) s fun t =>
          (∃ d ∈ t.copies, d.seq = c.seq ∧ d.port = p.val ∧ (waits → d.phase = .staged ∧ d.egress = none)
            ∧ (¬ waits → d.phase = .wire ∧ d.egress = some (u.egressStamp p.val t')))
          ∧ t.copies.length = u.copies.length ∧ t.frames = u.frames ∧ forwardsOnly u t (keysIn []) noCells)
      ∧ (∀ c f pre a t', u.choose p.val = (.start c f pre t', a) → c.phase = .paused → Runs (.eligibilityTime dt p) s fun t =>
          (∃ d ∈ t.copies, d.seq = c.seq ∧ d.port = p.val ∧ d.phase = .wire)
          ∧ t.copies.length = u.copies.length ∧ t.frames = u.frames ∧ forwardsOnly u t (keysIn []) noCells)
      ∧ (∀ a, u.choose p.val = (.idle, a) → u.linForeign p.val = [] → Runs (.eligibilityTime dt p) s fun t =>
          t.copies.map Copy.bare = u.copies.map Copy.bare ∧ t.frames = u.frames ∧ forwardsOnly u t (keysIn []) noCells)))
  ∧ (∀ (s : State) (dt : Nat) (p : Port) (c : Copy) (f : Frame),
      let u := s.after dt
      s.operates = true → s.sending p.val = some c → s.frame? c.frame = some f → f.complete = true → u.secAlive c = true →
      (c.phase = .wire ∨ s.receiving p.val = false) → (p.val = 245 → c.sec = none ∧ f.id < s.get Rg.frameCount ∧ c.seq < s.get Rg.entryCount) →
      Runs (.transmissionEnd dt p) s fun t => sentOut u c ∈ t.outs ∧ (∀ d ∈ t.copies, d.seq ≠ c.seq)
        ∧ t.get (Key.txFrames p.val) = u.counted (Key.txFrames p.val)
        ∧ (f.stage = .stored → (∀ d ∈ u.copies, d.frame = f.id → d.seq = c.seq) → ∀ x ∈ t.frames, x.id = f.id → x.stage = .stored →
            x.complete = false)
        ∧ forwardsOnly u t (keysIn [Rg.isolated p.val]) noCells)

/-- R155, R259, R278, R261 (LIFETIME_EXPIRY, OVERDUE_AT_HEAD, QUEUE_DEPTH_SAMPLE, EXCEPTION_REFILL): a copy that waits at its expiry
instant is removed; a head whose bound has passed raises one delivery fault and stays queued; a sample keeps the greatest depth of
every queue; a refill adds each bucket's rate up to its burst. -/
def Obligations.QueuesAreWatched : Prop :=
  (∀ (s : State) (dt : Nat) (p : Port),
    let u := s.after dt
    s.operates = true → Runs (.lifetimeExpiry dt p) s fun t =>
      (∀ c ∈ u.copies, c.port = p.val → (c.phase = .waiting ∨ u.notStarted c = true) → u.expired c = true → ∀ d ∈ t.copies, d.seq ≠ c.seq)
      ∧ forwardsOnly u t (keysIn []) noCells)
  ∧ (∀ (s : State) (dt : Nat) (p : Port) (tc : Nat) (c : Copy) (f : Frame) (str b : Nat),
    let u := s.after dt
    s.operates = true → tc < 8 → u.head? p.val tc = some c → c.stream = some str → c.bound = some b → c.reported = false →
    u.frame? c.frame = some f → f.stamp + ns b < u.vtime → f.stepAt = none → u.get (Key.gateOperState p.val) = 0 →
    u.get (Rg.gateFirst p.val) ≤ u.vtime → u.get Key.deliveryFaultTotal < 2 ^ 32 - 1 →
    Runs (.overdueAtHead dt p) s fun t => (∃ d ∈ t.copies, d.seq = c.seq ∧ d.reported = true)
      ∧ t.copies.length = u.copies.length ∧ t.frames = u.frames ∧ u.get Key.deliveryFaultTotal < t.get Key.deliveryFaultTotal
      ∧ forwardsOnly u t (keysIn []) noCells)
  ∧ (∀ (s : State) (dt : Nat),
    let u := s.after dt
    s.operates = true → (∀ c ∈ s.copies, c.port < 256 ∧ c.tc < 8) → (∀ p tc, u.depthCells p tc < 2 ^ 32) →
    Runs (.queueDepthSample dt) s fun t =>
      (∀ p < 256, ∀ tc < 8, u.get (Key.queueDepthPeak p tc) < 2 ^ 32 →
        t.get (Key.queueDepthPeak p tc) = max (u.get (Key.queueDepthPeak p tc)) (u.depthCells p tc))
      ∧ leavesRest u t (fun k => ∃ p tc, p < 256 ∧ tc < 8 ∧ k = Key.queueDepthPeak p tc) noCells)
  ∧ (∀ (s : State) (dt : Nat),
    let u := s.after dt
    s.operates = true → Runs (.exceptionRefill dt) s fun t =>
      (∀ r < 32, reasonTokens t r = min (reasonTokens u r + u.fld .live 0xF048 r F.exrRate) (1000 * u.fld .live 0xF048 r F.exrBurst))
      ∧ aggregateTokens t
        = min (aggregateTokens u + u.get Key.exceptionAggregateRate) (1000 * u.get Key.exceptionAggregateBurst)
      ∧ leavesRest u t (fun k => k = Rg.aggregateTok ∨ ∃ r < 32, k = Rg.reasonTok r) noCells)

/-! ### Gates and preemption -/

/-- R214, R216, R222, R223 (GATE_ENTRY, CONFIG_CHANGE, PREEMPTION_POINT, VERIFY_ATTEMPT, VERIFY_MPACKET_RECEIVED): an entry of the running
list puts its number and its gate states in force; at ConfigChangeTime no old entry begins and the new list runs, with its cycle time, and
ConfigChanges counts it; at a preemption point that is due FragmentsSent counts the fragment (the model's reading of R231, log entry 59),
and what is left of the frame stands preempted or goes on at once, behind the octets that the point was found to leave sent (log entry
11); a verify attempt is sent up to three times before verification fails, and none on a port that a self-test has isolated (R419); a
respond mPacket ends it with success, and a verify mPacket is answered. -/
def Obligations.GatesAndPreemptionRun : Prop :=
  (∀ (s : State) (dt : Nat) (p : Port) (x : Span),
    let u := s.after dt
    s.operates = true → s.get (Rg.gateOn p.val) ≠ 0 → (∀ c, u.changeAt p.val = some c → u.vtime < c) →
    u.entryAt p.val u.vtime = some x →
    Runs (.gateEntry dt p) s fun t => t.get (Key.currentEntry p.val) = x.entry % regMod (Key.currentEntry p.val)
      ∧ t.get (Key.currentGateStates p.val) = x.states % 256 ∧ forwardsOnly u t (keysIn []) noCells)
  ∧ (∀ (s : State) (dt : Nat) (p : Port) (c : Nat),
    let u := s.after dt
    s.operates = true → u.changeAt p.val = some c → c ≤ u.vtime →
    Runs (.gateEntry dt p) s fun t => t.get (Key.gateOperState p.val) = 1 ∧ t.changeAt p.val = none
      ∧ t.get (Rg.gateRow p.val) = u.get (Rg.gateNextRow p.val) ∧ forwardsOnly u t (keysIn []) noCells)
  ∧ (∀ (s : State) (dt : Nat) (p : Port) (c : Nat),
    let u := s.after dt
    s.operates = true → u.changeAt p.val = some c → c ≤ u.vtime →
    Runs (.configChange dt p) s fun t => t.get (Key.gateOperState p.val) = 1 ∧ t.changeAt p.val = none ∧ t.get (Rg.gateOn p.val) = 1
      ∧ t.get (Rg.gateRow p.val) = u.get (Rg.gateNextRow p.val) ∧ t.get (Key.configChangeTime p.val) = 0
      ∧ t.get (Key.operCycleTime p.val) = imageField (u.get (Rg.gateNextRow p.val)) F.ptimCycle % 2 ^ 32
      ∧ t.get (Key.configChanges p.val) = u.counted (Key.configChanges p.val)
      ∧ forwardsOnly u t (keysIn []) noCells)
  ∧ (∀ (s : State) (dt : Nat) (p : Port) (c : Copy),
    let u := s.after dt
    s.operates = true → u.get (Rg.preemptAt p.val) ≠ 0 → u.get (Rg.preemptAt p.val) ≤ u.now + 1 → u.sending p.val = some c →
    u.preempting p.val = true → u.get (Rg.testedBy p.val) = 0 →
    Runs (.preemptionPoint dt p) s fun t =>
      t.get (Key.fragmentsSent p.val) = u.counted (Key.fragmentsSent p.val)
      ∧ t.get (Rg.fragmentSent p.val) = u.get (Rg.fragmentNext p.val)
      ∧ ((∀ x ∈ u.copies, x.seq = c.seq → x = c) →
        ∃ d ∈ t.copies, d.bare = { c with phase := .paused }.bare ∨ d.bare = { c with phase := .wire }.bare)
      ∧ forwardsOnly u t (keysIn []) noCells)
  ∧ (∀ (s : State) (dt : Nat) (p : Port),
    let u := s.after dt
    s.operates = true → s.portState p.val = 2 → u.preemptable p.val = true → u.timing p.val F.ptimPreempt = 1 →
    u.inForce (Key.verifyDisable p.val) = 0 → (u.get (Key.verifyStatus p.val) = 1 ∨ u.get (Key.verifyStatus p.val) = 2) →
    Runs (.verifyAttempt dt p) s fun t =>
      (u.get (Rg.isolated p.val) ≠ 0 → t.outs = [] ∧ t.get (Key.verifyStatus p.val) = u.get (Key.verifyStatus p.val))
      ∧ (u.get (Rg.isolated p.val) = 0 → u.get (Rg.verifyTries p.val) < 3 → t.get (Key.verifyStatus p.val) = 2
        ∧ t.get (Rg.verifyTries p.val) = u.get (Rg.verifyTries p.val) + 1 ∧ t.outs = [.signal p.val sigVerify 0])
      ∧ (u.get (Rg.isolated p.val) = 0 → 3 ≤ u.get (Rg.verifyTries p.val) → t.get (Key.verifyStatus p.val) = 4 ∧ t.outs = [])
      ∧ leavesRest u t (keysIn [Key.verifyStatus p.val, Rg.verifyTries p.val]) noCells)
  ∧ (∀ (s : State) (dt : Nat) (p : Port),
    let u := s.after dt
    s.operates = true → s.portState p.val = 2 → u.preemptable p.val = true → u.get (Rg.isolated p.val) = 0 →
    Runs (.verifyMpacketReceived dt p false) s (fun t => t.outs = [.signal p.val sigRespond 0] ∧ leavesRest u t (keysIn []) noCells)
    ∧ (u.get (Key.verifyStatus p.val) = 2 → Runs (.verifyMpacketReceived dt p true) s fun t => t.get (Key.verifyStatus p.val) = 3
        ∧ forwardsOnly u t (keysIn [Key.verifyStatus p.val]) noCells))

/-! ### Bus controllers -/

/-- R97, R99, R103, R278, R282 (ARBITRATION_LOST, CAN_ERROR_FRAME, J1708_COLLISION): a CAN frame that loses arbitration while no higher
class may be sent keeps the transmit stage, an expired one is removed, and so is a routed one whose gateway channel is no longer Enabled and
one whose port is leaving Up; an error frame sets the error counters and the error state; a J1708 collision is counted, and the message waits
again, or for its next idle wait, unless it has expired or must leave in those ways.
R101, R102, R103 (KLINE_INIT, LIN_SLOT, LIN_HEADER): a K-line initialisation is sent, and the port is Up when it succeeds; a LIN
master's slot sends its header and awaits the response where the row subscribes, and counts in LinSlotEmpty where it publishes and
no frame with its ID waits; a response that never came is counted at the next slot (the model's reading, log entry 113); a LIN slave awaits
the response of a subscribed header. -/
def Obligations.BusesRun : Prop :=
  ((∀ (s : State) (dt : Nat) (p : Port) (c : Copy) (a : Act),
      let u := s.after dt
      s.operates = true → s.kind p.val = 4 → u.sending p.val = some c →
      (u.expired c = true → Runs (.arbitrationLost dt p) s fun t => (∀ x ∈ t.copies, x.seq ≠ c.seq)
          ∧ forwardsOnly u t (keysIn []) noCells)
      ∧ (u.expired c = false → u.portState p.val = 2 → u.shutOut c = true → Runs (.arbitrationLost dt p) s fun t =>
          (∀ x ∈ t.copies, x.seq ≠ c.seq) ∧ forwardsOnly u t (keysIn []) noCells)
      ∧ (u.expired c = false → u.portState p.val ≠ 2 → Runs (.arbitrationLost dt p) s fun t => (∀ x ∈ t.copies, x.seq ≠ c.seq)
          ∧ t.get (Key.flushDiscards p.val) = u.counted (Key.flushDiscards p.val) ∧ forwardsOnly u t (keysIn []) noCells)
      ∧ (u.expired c = false → u.portState p.val = 2 → u.shutOut c = false →
          u.pick p.val false (u.startAt p.val) ((classesOf 0 false).filter fun tc => decide (c.tc < tc)) = (none, a) →
          Runs (.arbitrationLost dt p) s fun t =>
            t.copies.map Copy.bare = u.copies.map (fun x =>
              if x.port = p.val ∧ x.phase = .wire then { x with phase := .staged, egress := none }.bare else x.bare)
            ∧ t.get (Rg.stagedFrom p.val) = u.now ∧ t.frames = u.frames ∧ forwardsOnly u t (keysIn []) noCells))
    ∧ (∀ (s : State) (dt : Nat) (p : Port) (sends : Bool) (tec rec' : BitVec 8),
      let u := s.after dt
      s.operates = true → s.kind p.val = 4 →
      Runs (.canErrorFrame dt p sends tec rec') s fun t => t.get (Key.transmitErrorCount p.val) = tec.toNat
        ∧ t.get (Key.receiveErrorCount p.val) = rec'.toNat
        ∧ (u.get (Key.canErrorState p.val) ≠ 2 →
            t.get (Key.canErrorState p.val) = (if 128 ≤ tec.toNat ∨ 128 ≤ rec'.toNat then 1 else 0))
        ∧ (sends = false → t.copies = u.copies)
        ∧ forwardsOnly u t (keysIn [Key.transmitErrorCount p.val, Key.receiveErrorCount p.val, Key.canErrorState p.val]) noCells)
    ∧ (∀ (s : State) (dt : Nat) (p : Port) (c : Copy),
      let u := s.after dt
      s.operates = true → s.kind p.val = 6 → u.inForce (Key.serialProtocol p.val) = 1 → u.sending p.val = some c →
      Runs (.j1708Collision dt p) s fun t =>
        t.get (Key.serialCollisions p.val) = u.counted (Key.serialCollisions p.val)
        ∧ ((u.expired c = true ∨ u.portState p.val ≠ 2 ∨ u.shutOut c = true) → ∀ x ∈ t.copies, x.seq ≠ c.seq)
        ∧ (∀ f, u.expired c = false → u.portState p.val = 2 → u.shutOut c = false → u.frame? c.frame = some f → u.sendable c f = true →
            (∀ x ∈ u.copies, x.seq = c.seq → x = c) →
            ∃ x ∈ t.copies, x.seq = c.seq ∧ (x.phase = .waiting ∨ t.notStarted x = true))
        ∧ forwardsOnly u t (keysIn [Key.serialCollisions p.val]) noCells))
  ∧ ((∀ (s : State) (dt : Nat) (p : Port),
      let u := s.after dt
      s.operates = true → s.portState p.val = 1 → s.kind p.val = 6 → u.inForce (Key.serialProtocol p.val) = 2 →
      u.inForce (Key.klineInit p.val) ≠ 0 → u.get (Rg.lowPower p.val) = 0 →
      let sent := Out.signal p.val (if u.inForce (Key.klineInit p.val) = 1 then sigFiveBaud else sigFastInit)
        (u.inForce (Key.klineTargetAddress p.val))
      Runs (.klineInit dt p true) s (fun t => sent ∈ t.outs ∧ t.portState p.val = 2
        ∧ t.get (Key.linkUpTime p.val) = u.vtime / 65536 ∧ forwardsOnly u t (portRegs p.val) noCells)
      ∧ Runs (.klineInit dt p false) s fun t => t.outs = [sent] ∧ t.portState p.val = 1 ∧ leavesRest u t (keysIn []) noCells)
    ∧ (∀ (s : State) (dt : Nat) (p : Port) (i : Nat),
      let u := s.after dt
      s.operates = true → s.portState p.val = 2 → s.kind p.val = 5 → u.inForce (Key.linRole p.val) = 1 →
      (u.get (Rg.linRow p.val) = 0 ∨ u.get (Rg.linUntil p.val) ≤ u.now) → u.sending p.val = none →
      u.get (Rg.testedBy p.val) = 0 → u.nextLinRow p.val = some i →
      Runs (.linSlot dt p) s fun t => t.get (Rg.linRow p.val) = i + 1 ∧ t.get (Rg.linFrom p.val) = u.now
        ∧ t.get (Rg.linUntil p.val) = u.now + us (100 * u.lin p.val i F.linSlot) ∧ t.get (Rg.linBreak p.val) = u.vtime
        ∧ (u.get (Rg.linExpect p.val) ≠ 0 → t.get (Key.linNoResponse p.val) = u.counted (Key.linNoResponse p.val))
        ∧ (u.lin p.val i F.linPublish = 0 → t.get (Rg.linExpect p.val) = u.lin p.val i F.linFrameId + 1
            ∧ t.get (Rg.linLength p.val) = u.lin p.val i F.linLength ∧ t.get (Rg.linEnhanced p.val) = u.lin p.val i F.linEnhanced
            ∧ t.outs = [.signal p.val sigLinHeader (u.lin p.val i F.linFrameId)] ∧ t.copies = u.copies)
        ∧ (u.lin p.val i F.linPublish = 1 → (∀ c ∈ u.copies, c.port ≠ p.val) →
            t.get (Key.linSlotEmpty p.val) = u.counted (Key.linSlotEmpty p.val) ∧ t.copies = u.copies)
        ∧ forwardsOnly u t (keysIn [Key.linSlotEmpty p.val, Key.linNoResponse p.val]) noCells)
    ∧ (∀ (s : State) (dt : Nat) (p : Port) (ident : BitVec 6) (i : Nat),
      let u := s.after dt
      s.operates = true → s.portState p.val = 2 → s.kind p.val = 5 → u.inForce (Key.linRole p.val) = 0 → u.sending p.val = none →
      u.get (Rg.testedBy p.val) = 0 → (u.linRows p.val).find? (fun i => u.lin p.val i F.linFrameId == ident.toNat) = some i →
      Runs (.linHeader dt p ident) s fun t =>
        (u.lin p.val i F.linPublish = 0 → t.get (Rg.linExpect p.val) = ident.toNat + 1
          ∧ t.get (Rg.linLength p.val) = u.lin p.val i F.linLength ∧ t.get (Rg.linEnhanced p.val) = u.lin p.val i F.linEnhanced
          ∧ t.copies = u.copies)
        ∧ forwardsOnly u t (keysIn []) noCells))

/-! ### The decision -/

/-- R136, R138, R140, R143 to R147, R210 (LOOKAHEAD_COMPLETE): a decided frame takes the lowest-numbered valid row of TernaryRules whose
masked key equals its own, with the tag of the exact match, the lowest matching row of the lowest profile; else the exact match's action
set; else NoMatchAction. Each lookup finds a row exactly where one matches. RuleHits and NoMatchFrames count it. A frame that its verdict
drops has no forwarding target, is counted in ClassifierDrops and leaves its session alone; one that is not dropped takes its session to
the state of R147, counts it and refreshes its time but in Closing; one that finds none and may create one takes the lowest free way of
its bucket, or is counted in SessionCreateFailures with the exception reason 0x04. That a frame which meets two rows of R147 closes its
session is the model's choice (log entry 142). -/
def Obligations.FramesAreClassified : Prop :=
  (∀ (u : State) (gen : Gen) (key : Nat), u.sound = true →
    let hits := fun q => u.fldOn gen 0xF040 q F.ternValid = true ∧ ∀ i < 80,
      ((beBytes 80 key).getD i 0#8 ^^^ (u.rowOctets gen 0xF040 q 0 80).getD i 0#8) &&& (u.rowOctets gen 0xF040 q 80 80).getD i 0#8 = 0#8
    (∀ r, ternaryLookup u gen key = some r → hits r ∧ ∀ q < r, ¬ hits q) ∧ (ternaryLookup u gen key = none → ∀ q < 8192, ¬ hits q))
  ∧ (∀ (u : State) (gen : Gen) (fields : List Nat),
    let key := fun p => exactKey (u.fld gen 0xF042 p F.profSelect) fields
    let hits := fun p q => u.fldOn gen 0xF042 p F.profValid = true ∧ q / 4 = crc32c (BitVec.ofNat 8 p :: key p) % 2 ^ 14
      ∧ u.fldOn gen 0xF041 q F.exactValid = true ∧ u.fld gen 0xF041 q F.exactProfile = p ∧ u.rowOctets gen 0xF041 q 0 40 = key p
    (∀ r, exactLookup u gen fields = some r →
      let p := u.fld gen 0xF041 r F.exactProfile
      hits p r ∧ (∀ q < r, ¬ hits p q) ∧ ∀ p' < p, ∀ q, ¬ hits p' q)
    ∧ (exactLookup u gen fields = none → ∀ p q, ¬ hits p q))
  ∧ (∀ (u : State) (p : Parse),
    let hits := fun (r : Nat) (rev : Bool) =>
      u.get Key.firewallEnable ≠ 0 ∧ p.ip ≠ 0 ∧ p.nonFirst = false ∧ r / 8 = sessionBucket p ∧ u.fld .live 0xF046 r F.sessState ≠ 0
      ∧ u.fld .live 0xF046 r F.sessVersion = p.ip ∧ u.fld .live 0xF046 r F.sessProtocol = p.proto
      ∧ u.fld .live 0xF046 r F.sessVid = p.outerVid
      ∧ (rev = false → rowInitiator u r = sourceEnd p ∧ rowResponder u r = destEnd p)
      ∧ (rev = true → rowInitiator u r = destEnd p ∧ rowResponder u r = sourceEnd p)
    (∀ r rev, sessionLookup u p = some (r, rev) → hits r rev) ∧ (sessionLookup u p = none → ∀ r rev, ¬ hits r rev))
  ∧ (∀ (st : Nat) (rev : Bool) (p : Parse),
    let ends := p.tcp.testBit 0 = true ∨ p.tcp.testBit 2 = true
    (p.proto ≠ 6 ∨ 3 ≤ st → sessionNext st rev p = st)
    ∧ (p.proto = 6 → (st = 1 ∨ st = 2) → ends → sessionNext st rev p = 3)
    ∧ (p.proto = 6 → st = 1 → ¬ ends → rev = true → p.tcp.testBit 1 = true → p.tcp.testBit 4 = true → sessionNext st rev p = 2)
    ∧ (¬ ends → (st ≠ 1 ∨ rev = false ∨ p.tcp.testBit 1 = false ∨ p.tcp.testBit 4 = false) → sessionNext st rev p = st))
  ∧ (∀ (s : State) (dt id : Nat) (bs : List Byte) (f : Frame),
    let u := s.after dt
    let g := { f with octets := f.octets ++ bs }
    let p := g.parse
    let gen := u.genOf f.tag
    let v := classify u g p
    let byRules := p.malformed = false ∧ builtInMatch u g p = none ∧ p.nonFirst = false ∧ (p.first = true → fragmentLookup u p = none)
    let session := fun (t : State) (r : Nat) => t.fld .live 0xF046 r
    let found := ((sessionLookup u p).map fun x => session u x.1 F.sessState * 32 + if x.2 then 16 else 0).getD 0
    let pattern := ((stencilSearch u gen g).map fun r => 32768 + r).getD 0
    let fields := keyFields p f.source false found pattern (extractField u gen 0 g p) (extractField u gen 1 g p)
    let exact := exactLookup u gen (fields 0)
    u.decides id f g →
    (byRules → v.stencil = stencilSearch u gen g
      ∧ v.rule = ternaryLookup u gen (keyOf (fields ((exact.map fun r => u.fld gen 0xF041 r F.exactTag).getD 0)))
      ∧ v.actionSet = (match v.rule, exact with
        | some r, _ => some (u.fld gen 0xF040 r F.ternAction)
        | none, some r => if u.fld gen 0xF041 r F.exactAction = 0xFFFF then none else some (u.fld gen 0xF041 r F.exactAction)
        | none, none => none)
      ∧ (∀ a, v.actionSet = some a → v.actions = leNat (u.rowOctets gen 0xF044 a 0 16))
      ∧ (v.actionSet = none → dropsFrame v.actions = true ∧ v.reason = (if u.get Key.noMatchAction = 0 then none else some 1)))
    ∧ Runs (.lookaheadComplete dt id bs) s fun t =>
      (∀ x ∈ t.frames, x.id = id → x.rule = v.rule ∧ x.actionSet = v.actionSet ∧ x.actions = v.actions ∧ x.stencil = v.stencil
        ∧ x.session = v.session ∧ x.priority = priorityOf u gen g p v.actions
        ∧ x.cls = paletteClass u gen f.source (priorityOf u gen g p v.actions))
      ∧ (∀ r, v.rule = some r → t.fld .live 0xF04A r F.hitsCount = u.countedF 0xF04A r F.hitsCount)
      ∧ (v.builtIn = none → dropsFrame v.actions = true → t.unforwarded id
          ∧ (v.consumed = false → t.get Key.classifierDrops = u.counted Key.classifierDrops))
      ∧ (byRules → (v.actionSet = none → t.get Key.noMatchFrames = u.counted Key.noMatchFrames)
        ∧ (∀ r rev, sessionLookup u p = some (r, rev) →
          (dropsFrame v.actions = true → ∀ y, ∀ h ∈ layout 0xF046, session t y h = session u y h)
          ∧ (dropsFrame v.actions = false → session t r F.sessState = sessionNext (session u r F.sessState) rev p
            ∧ (let n := if rev then F.sessFramesResp else F.sessFramesInit
              session t r n = u.countedF 0xF046 r n)
            ∧ t.get (Rg.sessionAt r) = (if session u r F.sessState = 3 then u.get (Rg.sessionAt r) else u.now)))
        ∧ (sessionLookup u p = none → sessionsApply u p = true → v.actionSet ≠ none → actBit v.actions F.actSessionCreate = 1 →
          actBit v.actions F.actDrop = 0 → createsSession p = true →
          (∀ r, freeSession u p = some r → v.session = some r ∧ r / 8 = sessionBucket p ∧ session u r F.sessState = 0
            ∧ session t r F.sessState = (if p.proto = 6 then 1 else 4)
            ∧ t.rowOctets .live 0xF046 r 8 16 = beBytes 16 p.src ∧ t.rowOctets .live 0xF046 r 24 16 = beBytes 16 p.dst
            ∧ session t r F.sessVid = p.outerVid % 4096 ∧ session t r F.sessProtocol = p.proto % 256
            ∧ session t r F.sessFramesInit = 1 ∧ session t r F.sessFramesResp = 0 ∧ t.get (Rg.sessionAt r) = u.now)
          ∧ (freeSession u p = none → v.reason = some 4
            ∧ t.get Key.sessionCreateFailures = u.counted Key.sessionCreateFailures)))
      ∧ forwardsOnly u t (keysIn []) noCells)

/-- R174, R176, R178, R180 to R183, R186 (LOOKAHEAD_COMPLETE): an Ethernet frame of no stream that its verdict forwards without a fixed port is
discarded and counted in VlanDiscards where R176 refuses it. Else its source address is learnt, and its targets are the port or group of
its destination's entry, or on a miss the members of its VID for a group address or while FloodUnknownUnicast is 1, always among the members
and never the ingress port. Every such port that is Up, below no guaranteed floor's class and with room in its queue gets one copy, of the
frame's class and with the tag handling of R182; the others are counted in NotUpDiscards, UnadmittedRemovals or QueueFullDrops. Where cells or
descriptors are short, whole complete frames of lower unprotected classes of the pool, at most 64 and covering the shortfall, lose every copy
and are counted in PushOutEvictions, or the frame is dropped. -/
def Obligations.FramesAreQueued : Prop :=
  (∀ (u : State) (gen : Gen) (f : Frame) (p : Parse) (vid q : Nat),
    let group := p.da / 2 ^ 40 % 2 = 1
    (destinations u gen f p vid).testBit q = true ↔ q ≠ f.source ∧ (u.fld gen 0xF051 vid F.vlanMembers).testBit q = true
      ∧ (match fdbLookup u vid p.da with
        | some r => if u.fldOn .live 0xF052 r F.fdbGroup then (u.fld gen 0xF054 (u.fld .live 0xF052 r F.fdbTarget) F.grpPorts).testBit q = true
            else q = u.fld .live 0xF052 r F.fdbTarget % 256
        | none => group ∨ u.get Key.floodUnknownUnicast ≠ 0))
  ∧ (∀ (u : State) (cls n : Nat) (vs : List Frame) (b : Bool), stepSeven u cls n = (some vs, b) →
    let pool := u.poolOf cls
    vs.length ≤ 64 ∧ u.poolUse pool + n ≤ u.fld .fair 0xF050 pool F.poolQuota + (vs.map fun v => v.charge).sum
      ∧ (65536 ≤ u.descriptors → vs ≠ [])
      ∧ ∀ v ∈ vs, v ∈ u.frames ∧ v.stage = .stored ∧ v.complete = true ∧ v.cls < cls ∧ u.poolOf v.cls = pool
        ∧ (u.fld .fair 0xF050 pool F.poolProtected).testBit v.cls = false ∧ (∀ c ∈ u.copies, c.frame = v.id → c.begun = false))
  ∧ (∀ (s : State) (dt id : Nat) (bs : List Byte) (f : Frame),
    let u := s.after dt
    let g := { f with octets := f.octets ++ bs }
    let p := g.parse
    let gen := u.genOf f.tag
    let v := classify u g p
    let vid := frameVid u gen g p
    let cls := paletteClass u gen f.source (priorityOf u gen g p v.actions)
    let cells := chargeFor u g
    let set := destinations u gen g p vid
    let accepted := u.fld gen 0xF053 f.source F.pfwdAccepted
    let refused := (accepted = 1 ∧ p.outerVid = 0) ∨ (accepted = 2 ∧ p.outerVid ≠ 0) ∨ vid = 0xFFF
      ∨ u.fldOn gen 0xF051 vid F.vlanValid = false
      ∨ (u.fldOn gen 0xF053 f.source F.pfwdIngressFilter = true ∧ (u.fld gen 0xF051 vid F.vlanMembers).testBit f.source = false)
    let entry := fun (t : State) (r : Nat) => t.fld .live 0xF052 r
    let row := fun w => 4 * fdbBucket vid p.sa + w
    let takes := fun q => q < 256 ∧ q ≠ 246 ∧ q ≠ 247 ∧ set.testBit q = true ∧ u.portState q = 2 ∧ floorOf u q = none
      ∧ u.depthCells q cls + cells ≤ u.get (Key.queueLimit q cls)
    u.decides id f g → f.kind = 0 → f.answerTo = none → v.builtIn = none → dropsFrame v.actions = false →
    actBit v.actions F.actFixedPort = 0 → identify u gen g p = none →
    (refused → Runs (.lookaheadComplete dt id bs) s fun t => t.get Key.vlanDiscards = u.counted Key.vlanDiscards ∧ t.unforwarded id
      ∧ (∀ a, tableCells .live 0xF052 .live a → t.octet .live a = u.octet .live a) ∧ forwardsOnly u t (keysIn []) noCells)
    ∧ (¬ refused → Runs (.lookaheadComplete dt id bs) s fun t =>
      (∀ c ∈ t.copies, c.frame = id → c.role = .forward → set.testBit c.port = true ∧ c.port ≠ 246 ∧ c.port ≠ 247 ∧ c.tc = cls
        ∧ u.portState c.port = 2)
      ∧ (set = 0 → t.get Key.bridgeFiltered = u.counted Key.bridgeFiltered)
      ∧ (∀ q < 246, set.testBit q = true →
        (u.portState q ≠ 2 → t.get (Key.notUpDiscards q) = u.counted (Key.notUpDiscards q))
        ∧ (∀ fl, u.portState q = 2 → floorOf u q = some fl → fl ≤ cls →
            t.get (Key.unadmittedRemovals q) = u.counted (Key.unadmittedRemovals q))
        ∧ (u.portState q = 2 → floorOf u q = none → u.get (Key.queueLimit q cls) < u.depthCells q cls + cells →
            t.get (Key.queueFullDrops q cls) = u.counted (Key.queueFullDrops q cls)))
      ∧ ((members 256 set).length ≤ 250 → u.copies.length + 260 ≤ 131072 →
        (∀ vs b, stepSeven u cls cells = (some vs, b) →
          (∀ q, takes q → (u.isEthernet q = true ∨ u.kind q = 7) → u.secyProtects q = false →
            ∃ c ∈ t.copies, c.frame = id ∧ c.port = q ∧ c.tc = cls ∧ c.role = .forward ∧ c.edit = tagEdit u gen p vid q)
          ∧ ((∃ q, takes q) → vs ≠ [] → t.get Key.pushOutEvictions = u.counted Key.pushOutEvictions vs.length
            ∧ ∀ v ∈ vs, ∀ c ∈ t.copies, c.frame ≠ v.id))
        ∧ (∀ b, stepSeven u cls cells = (none, b) → (∃ q, takes q) → (∀ c ∈ t.copies, c.frame ≠ id)
          ∧ (let k := if b then Key.poolFullDrops else Key.descriptorDrops
            t.get k = u.counted k)))
      ∧ (∀ r, fdbLookup u vid p.sa = some r → entry t r F.fdbHit = 1
        ∧ (entry u r F.fdbStatic ≠ 0 → entry t r F.fdbTarget = entry u r F.fdbTarget)
        ∧ (entry u r F.fdbStatic = 0 → u.get Rg.fdbFlushing = 0 → entry t r F.fdbTarget = f.source % 2 ^ 10))
      ∧ (fdbLookup u vid p.sa = none → u.get Rg.fdbFlushing = 0 → u.fldOn gen 0xF053 f.source F.pfwdLearning = true →
        p.sa / 2 ^ 40 % 2 = 0 →
        (∀ w < 4, entry u (row w) F.fdbValid = 0 → (∀ w' < w, entry u (row w') F.fdbValid ≠ 0) →
          entry t (row w) F.fdbValid = 1 ∧ entry t (row w) F.fdbStatic = 0 ∧ entry t (row w) F.fdbHit = 1
          ∧ entry t (row w) F.fdbVid = vid % 4096 ∧ t.rowOctets .live 0xF052 (row w) 0 6 = beBytes 6 p.sa
          ∧ entry t (row w) F.fdbTarget = f.source % 2 ^ 10)
        ∧ ((∀ w < 4, entry u (row w) F.fdbValid ≠ 0) → t.get Key.learnFailures = u.counted Key.learnFailures))
      ∧ forwardsOnly u t (keysIn []) noCells))

/-- R237 to R248 (LOOKAHEAD_COMPLETE): a frame's stream is that of the first enabled method, in ascending order, that finds a valid row,
the lowest of its key's bucket, where its context is valid. A frame of a valid stream is counted in Matched; one from another ingress
port, of another class, of a blocked stream or longer than MaxSdu is dropped and counted in FilterDiscards, and the long one blocks its
stream where BlockOnOversize is 1. A flow meter takes its length, or MaxSdu until its last octet has arrived, from the committed or the
excess bucket; red drops it and counts in RedFrames, yellow counts in YellowFrames and drops it where DropOnYellow is 1. A strict policer
drops what its bucket does not hold, with the exception reason 0x08 where ReportExcess is 1. A member passes its recovery function or is
dropped; a frame that passes goes on as its stream or the function's output stream, with the next sequence number where GenerateSequence
is 1, and its copies go only to the stream's target and replication ports. How the window and the history of a recovery function decide is
the model's reading of IEEE 802.1CB (log entry 8). -/
def Obligations.StreamsAreFiltered : Prop :=
  (∀ (u : State) (gen : Gen) (m len : Nat) (dei : Bool),
    let cap := fun (f : Fld) => u.fld gen 0xF072 m f * tokenOctet
    let dt := u.now - u.get (Rg.meterAt m)
    let c := cap F.flowCbs - u.get (Rg.meterSpentC m) + u.fld gen 0xF072 m F.flowCir * dt
    let e := min (cap F.flowEbs) (cap F.flowEbs - u.get (Rg.meterSpentE m) + u.fld gen 0xF072 m F.flowEir * dt
      + if u.fldOn gen 0xF072 m F.flowCoupling then c - cap F.flowCbs else 0)
    let green := ¬ (u.fldOn gen 0xF072 m F.flowAware = true ∧ dei = true) ∧ len * tokenOctet ≤ min c (cap F.flowCbs)
    (u.fldOn gen 0xF072 m F.flowValid = false → (flowMeter u gen m len dei).1 = 0)
    ∧ (u.fldOn gen 0xF072 m F.flowValid = true → u.get (Rg.meterRed m) ≠ 0 → (flowMeter u gen m len dei).1 = 2)
    ∧ (u.fldOn gen 0xF072 m F.flowValid = true → u.get (Rg.meterRed m) = 0 →
        (green → (flowMeter u gen m len dei).1 = 0)
        ∧ (¬ green → (flowMeter u gen m len dei).1 = (if len * tokenOctet ≤ e then 1 else 2))))
  ∧ (∀ (u : State) (gen : Gen) (r len : Nat),
    let cap := u.fld gen 0xF073 r F.polCbs * tokenOctet
    ((strictPolicer u gen r len).1 = true ↔ u.fldOn gen 0xF073 r F.polValid = true ∧ len * tokenOctet
      ≤ min cap (cap - u.get (Rg.policerSpent r) + u.fld gen 0xF073 r F.polCir * (u.now - u.get (Rg.policerAt r)))))
  ∧ (∀ (u : State) (gen : Gen) (r n : Nat),
    let d := seqDelta n (u.get (Rg.recoverySeq r))
    let h : Int := u.fld gen 0xF074 r F.recHistory
    (recovery u gen r none).1 = u.fldOn gen 0xF074 r F.recTakeNo
    ∧ (u.get (Rg.recoveryOn r) = 0 → (recovery u gen r (some n)).1 = true)
    ∧ (u.get (Rg.recoveryOn r) ≠ 0 → u.fldOn gen 0xF074 r F.recMatch = true → ((recovery u gen r (some n)).1 = true ↔ d ≠ 0))
    ∧ (u.get (Rg.recoveryOn r) ≠ 0 → u.fldOn gen 0xF074 r F.recMatch = false → ((recovery u gen r (some n)).1 = true
        ↔ -h < d ∧ d < h ∧ (d ≤ 0 → (u.get (Rg.recoveryHistory r)).testBit d.natAbs = false))))
  ∧ (∀ (u : State) (gen : Gen) (f : Frame) (p : Parse) (x : Nat),
    let vid := beBytes 2 (frameVid u gen f p)
    let ip := beBytes 16 p.src ++ beBytes 16 p.dst ++ beBytes 1 (p.tclass / 4) ++ beBytes 1 p.proto ++ beBytes 2 p.l4s ++ beBytes 2 p.l4d
    let key := fun m => (if m = 1 then beBytes 6 p.da ++ vid ++ List.replicate 40 0#8
      else if m = 2 then beBytes 6 p.sa ++ vid ++ List.replicate 40 0#8
      else if m = 3 then beBytes 6 p.da ++ vid ++ ip ++ List.replicate 2 0#8
      else beBytes 1 f.source ++ beBytes 1 f.kind ++ beBytes 4 p.busIdent ++ List.replicate 42 0#8 : List Byte)
    let applies := fun m => 1 ≤ m ∧ m ≤ 4 ∧ (u.fld gen 0xF075 f.source F.sportMethods).testBit (m - 1) = true
      ∧ (f.kind = 0 ↔ m ≤ 3) ∧ (m = 3 → p.ip ≠ 0)
    let hits := fun m q => applies m ∧ q / 4 = crc32c (BitVec.ofNat 8 m :: key m) % 2 ^ 11 ∧ u.fldOn gen 0xF070 q F.sidValid = true
      ∧ u.fld gen 0xF070 q F.sidMethod = m ∧ u.rowOctets gen 0xF070 q 0 48 = key m
    identify u gen f p = some x ↔ ∃ m q, hits m q ∧ (∀ m' < m, ∀ q', ¬ hits m' q') ∧ (∀ q' < q, ¬ hits m q')
      ∧ u.fld gen 0xF070 q F.sidHandle = x ∧ u.fldOn gen 0xF071 x F.ctxValid = true)
  ∧ (∀ (s : State) (dt id : Nat) (bs : List Byte) (f : Frame) (x : Nat),
    let u := s.after dt
    let g := { f with octets := f.octets ++ bs }
    let p := g.parse
    let gen := u.genOf f.tag
    let v := classify u g p
    let ctx := fun (h : Fld) => u.fld gen 0xF071 x h
    let row := fun (t : State) (h : Fld) => t.fld .live 0xF077 x h
    let counts := fun (t : State) (h : Fld) => row t h = u.countedF 0xF077 x h
    let long := f.complete = true ∧ ctx F.ctxMaxSdu < g.rxLength
    let filters := (ctx F.ctxIngress ≠ 0xFFFF ∧ ctx F.ctxIngress ≠ f.source)
      ∨ ctx F.ctxCls ≠ paletteClass u gen f.source (priorityOf u gen g p v.actions) ∨ row u F.stBlocked ≠ 0 ∨ long
    let len := if f.complete then g.rxLength else ctx F.ctxMaxSdu
    let dei := decide (0 < p.tags) && p.outer.testBit 12
    let colour := if ctx F.ctxMeterKind = 1 then (flowMeter u gen (ctx F.ctxMeter) len dei).1 else 0
    let yellow := colour = 1 ∧ u.fldOn gen 0xF072 (ctx F.ctxMeter) F.flowDropYellow = true
    let fails := ∃ r, policerOf u gen x = some r ∧ (strictPolicer u gen r len).1 = false
    let rf := ctx F.ctxRecovery
    let recovers := ctx F.ctxMember ≠ 0 ∧ ctx F.ctxRecoveryValid ≠ 0 ∧ u.fldOn gen 0xF074 rf F.recValid = true
    let passes := (recovery u gen rf (if p.rtagAt = 0 then none else some p.rtagSeq)).1
    let y := if recovers then u.fld gen 0xF074 rf F.recOutput else x
    let out := fun (h : Fld) => u.fld gen 0xF071 y h
    u.decides id f g → v.builtIn = none → dropsFrame v.actions = false → identify u gen g p = some x →
    Runs (.lookaheadComplete dt id bs) s fun t => counts t F.stMatched ∧ forwardsOnly u t (keysIn []) noCells
      ∧ (filters → t.unforwarded id ∧ counts t F.stFiltered ∧ (long → ctx F.ctxBlockOversize ≠ 0 → row t F.stBlocked = 1))
      ∧ (¬ filters → (colour = 2 → t.unforwarded id ∧ counts t F.stRed) ∧ (colour = 1 → counts t F.stYellow) ∧ (yellow → t.unforwarded id)
        ∧ (fails → t.unforwarded id ∧ counts t F.stRed)
        ∧ (∀ r, policerOf u gen x = some r → (strictPolicer u gen r len).1 = false → u.fldOn gen 0xF073 r F.polReport = true →
            u.fldOn gen 0xF073 r F.polValid = true → v.reason = none → ∀ z ∈ t.frames, z.id = id → z.reason = some 8)
        ∧ (colour ≠ 2 → ¬ yellow → ¬ fails →
          (recovers → passes = false → t.unforwarded id
            ∧ t.fld .live 0xF078 rf F.rstDiscarded = u.countedF 0xF078 rf F.rstDiscarded)
          ∧ (recovers → passes = true → t.fld .live 0xF078 rf F.rstPassed = u.countedF 0xF078 rf F.rstPassed)
          ∧ ((recovers → passes = true ∧ out F.ctxMember = 0) →
            (∀ z ∈ t.frames, z.id = id → z.stream = some y
              ∧ (out F.ctxGenerate ≠ 0 → z.sequence = some (u.fld .live 0xF077 y F.stSequence)))
            ∧ (out F.ctxGenerate ≠ 0 → t.fld .live 0xF077 y F.stSequence = (u.fld .live 0xF077 y F.stSequence + 1) % 65536)
            ∧ (out F.ctxShaperValid = 0 → counts t F.stPassed)
            ∧ (out F.ctxTargetValid ≠ 0 → ∀ c ∈ t.copies, c.frame = id → c.role = .forward →
                (streamTargets u gen y).testBit c.port = true)))))

/-- R268, R269, R272, R273, R279, R282, R284, R292 (LOOKAHEAD_COMPLETE): a cell that its verdict forwards without a fixed port and that belongs
to no stream takes the lowest-numbered valid row of GatewayRoutes that matches its source, kind and identifier. Without an enabled channel at
its source it is counted in GatewayDisabledDrops, without a row in NoRouteFrames. Each valid pair whose format can carry the cell makes one
copy with the row's lifetime, the identifier of its IdMode and the form of its format, where the target is Up, its channel enabled and its
queue and buffers have room; a pair that cannot carry the cell records a failure with reason 0x05. -/
def Obligations.CellsAreRouted : Prop :=
  (∀ (u : State) (gen : Gen) (c : List Byte), u.sound = true →
    let hits := fun q => u.fldOn gen 0xF080 q F.routeValid = true ∧ u.fld gen 0xF080 q F.routeSource = cellSource c
      ∧ (u.fld gen 0xF080 q F.routeKinds).testBit (cellKind c - 1) = true
      ∧ (routeIdent c ^^^ u.fld gen 0xF080 q F.routeIdent) &&& u.fld gen 0xF080 q F.routeMask = 0
    (∀ r, routeLookup u gen c = some r → hits r ∧ ∀ q < r, ¬ hits q) ∧ (routeLookup u gen c = none → ∀ q < 16384, ¬ hits q))
  ∧ (∀ x mask i : Nat, idMode 0 x mask i = x ∧ idMode 1 x mask i = i
    ∧ (∀ b < 32, (idMode 2 x mask i).testBit b = if mask.testBit b then i.testBit b else x.testBit b)
    ∧ (∀ b, (idMode 3 x mask i).testBit b = if b < 8 then i.testBit b else x.testBit b)
    ∧ (∀ b, (idMode 4 x mask i).testBit b
        = if b < 8 ∨ (b < 16 ∧ bits x 16 8 < 0xF0) then i.testBit b else x.testBit b))
  ∧ (∀ (u : State) (gen : Gen) (r j : Nat) (c : List Byte),
    let n := (cellData c).length
    let can := 1 ≤ cellKind c ∧ cellKind c ≤ 4
    let remote := cellKind c = 1 ∧ cellFlags c % 2 = 1
    let ident := idMode (u.fld gen 0xF080 r (F.routePairIdMode j)) (routeIdent c) (u.fld gen 0xF080 r F.routeMask)
      (u.fld gen 0xF080 r (F.routePairIdent j))
    ((convert u gen r j c).isSome = true ↔ (match u.fld gen 0xF080 r (F.routePairFormat j) with
      | 0 => True
      | 1 => can ∧ n ≤ 8
      | 2 => can ∧ n ≤ 64 ∧ ¬ remote
      | 3 => can ∧ n ≤ 2048 ∧ ¬ remote
      | 4 => can ∧ (cellKind c = 3 → n ≤ 64)
      | 5 => can ∧ (cellKind c = 3 → n ≤ 64)
      | _ => can ∧ n ≤ 8))
    ∧ (∀ d, convert u gen r j c = some d →
      (u.fld gen 0xF080 r (F.routePairFormat j) = 1 → cellKind d = 1 ∧ cellIdent d = ident % 2 ^ 32 ∧ cellData d = cellData c
        ∧ (cellFlags d % 2 = 1 ↔ remote))
      ∧ (u.fld gen 0xF080 r (F.routePairFormat j) = 2 → cellKind d = 2 ∧ cellIdent d = ident % 2 ^ 32 ∧ (cellData d).take n = cellData c
        ∧ (cellData d).length ∈ fdLengths ∧ ∀ x ∈ fdLengths, n ≤ x → (cellData d).length ≤ x)
      ∧ (u.fld gen 0xF080 r (F.routePairFormat j) = 6 → cellKind d = 4 ∧ cellIdent d = ident % 64 ∧ (cellData d).take n = cellData c
        ∧ (cellData d).length = max n 1)))
  ∧ (∀ (s : State) (dt id : Nat) (bs : List Byte) (f : Frame),
    let u := s.after dt
    let g := { f with octets := f.octets ++ bs }
    let p := g.parse
    let gen := u.genOf f.tag
    let v := classify u g p
    let cls := paletteClass u gen f.source (priorityOf u gen g p v.actions)
    let gw := gatewayClass cls
    let src := cellSource g.octets
    let enabled := fun q => u.isBus q = false ∨ u.get (Key.gatewayChannelState q) = 2
    u.decides id f g → f.complete = true → f.kind ≠ 0 → f.answerTo = none → v.builtIn = none → dropsFrame v.actions = false →
    actBit v.actions F.actFixedPort = 0 → identify u gen g p = none →
    (¬ enabled src → Runs (.lookaheadComplete dt id bs) s fun t => t.unforwarded id
      ∧ t.get (Key.gatewayDisabledDrops src) = u.counted (Key.gatewayDisabledDrops src) ∧ forwardsOnly u t (keysIn []) noCells)
    ∧ (enabled src → routeLookup u gen g.octets = none → Runs (.lookaheadComplete dt id bs) s fun t => t.unforwarded id
      ∧ t.get Key.noRouteFrames = u.counted Key.noRouteFrames
      ∧ (u.get Key.noRouteAction ≠ 0 → v.reason = none → ∀ x ∈ t.frames, x.id = id → x.reason = some 0x0C)
      ∧ forwardsOnly u t (keysIn []) noCells)
    ∧ (∀ r, enabled src → routeLookup u gen g.octets = some r →
      let pair := fun j => j < 8 ∧ u.fldOn gen 0xF080 r (F.routePairValid j) = true
      let port := fun j => u.fld gen 0xF080 r (F.routePairPort j)
      let expiry := g.stamp + us (u.fld gen 0xF080 r F.routeLifetime * 100)
      Runs (.lookaheadComplete dt id bs) s fun t =>
        t.fld .live 0xF083 r F.rcntMatched = u.countedF 0xF083 r F.rcntMatched ∧ t.get Key.routedFrames = u.counted Key.routedFrames
        ∧ (∀ c ∈ t.copies, c.frame = id → c.role = .forward → ∃ j, pair j ∧ c.pair = some (r, j) ∧ c.port = port j ∧ c.tc = cls
            ∧ c.form.isSome = true ∧ c.form = convert u gen r j g.octets ∧ c.expiry = some expiry)
        ∧ ((∃ j, pair j ∧ convert u gen r j g.octets = none) → u.fld .live 0xF083 r (reasonField 5) < 2 ^ 32 - 1 →
            u.fld .live 0xF083 r (reasonField 5) < t.fld .live 0xF083 r (reasonField 5))
        ∧ (∀ j form, pair j → convert u gen r j g.octets = some form → port j ≠ 246 → port j ≠ 247 →
          u.portState (port j) = 2 → enabled (port j) → floorOf u (port j) = none →
          u.depthCells (port j) cls + chargeFor u g ≤ u.get (Key.queueLimit (port j) cls) →
          (u.isBus (port j) = true → u.outboundUse (port j) gw < u.get (Key.outboundLimit (port j) gw)) →
          (u.isBus f.source = true → u.inboundUse f.source gw < u.get (Key.inboundLimit f.source gw)) →
          u.copies.length + 16 ≤ 131072 → (stepSeven u cls (chargeFor u g)).1 ≠ none → u.vtime < expiry →
          u.secyProtects (port j) = false → (∀ c : Copy, c.port = port j → c.form = some form → c.pair = some (r, j) →
            (c.profile.isSome = true ↔ u.fld gen 0xF080 r (F.routePairFormat j) = 4 ∨ u.fld gen 0xF080 r (F.routePairFormat j) = 5) →
            u.sendable c g = true) →
          ∃ c ∈ t.copies, c.frame = id ∧ c.pair = some (r, j) ∧ c.port = port j ∧ c.tc = cls ∧ c.form = some form
            ∧ c.expiry = some expiry)
        ∧ forwardsOnly u t (keysIn []) noCells))

/-- R298 to R303 (LOOKAHEAD_COMPLETE, FRAME_TAIL, ELIGIBILITY_TIME, TRANSMISSION_END): a SecY verifies each whole frame with a SecTAG
under the SA that the tag names, one that was decided before its last octet at that octet: one that verifies is counted in InVerified and
raises its SA's LowestPN to PN + 1 - ReplayWindow; one whose ICV is wrong or whose E or C bit is set, one without a receive SC, SA or key,
and one below LowestPN under ReplayProtect are counted in InFailed, InNoSa and InLate and change no LowestPN, and the late one, and under
Strict the others, is found bad; a frame without a SecTAG is counted in InUntagged, and under Strict has no forwarding target but for
802.1AS and MKA. A port that protects sends a copy with the next PN of its encoding SA and counts it in OutProtected; the last PN exhausts
the SA; a copy that finds no usable SA is counted in OutSaDrops and not sent, and one whose key slot is lost on the wire ends with the
Varnish in EgressAborts. Where the SecTAG holds the E and C bits and the PN is the model's reading of IEEE 802.1AE (log entry 7), and that
a late frame is found late before its ICV is checked is the model's order (log entry 48). -/
def Obligations.SecysProtectAndVerify : Prop :=
  (∀ (u : State) (p : Nat) (bs : List Byte),
    let tci := (bs.getD 14 0#8).toNat
    let suite := imageField (u.secyImage p) F.secySuite
    let row := fun c => 192 + 4 * (4 * p + c) + tci % 4
    let pnOf := fun c => if suiteXpn suite then recoverPn (u.fld .live 0xF092 (row c) F.saPn) (beAt bs 16 4) else beAt bs 16 4
    (tci.testBit 3 = true ∨ tci.testBit 2 = true → u.secVerify p bs = .failed)
    ∧ (tci.testBit 3 = false → tci.testBit 2 = false → u.receiveSc p bs = none → u.secVerify p bs = .noSa)
    ∧ (∀ c sci, tci.testBit 3 = false → tci.testBit 2 = false → u.receiveSc p bs = some (c, sci) →
      (u.saKey (row c) suite = none → u.secVerify p bs = .noSa)
      ∧ (∀ key, u.saKey (row c) suite = some key →
        let late := pnOf c < u.fld .live 0xF092 (row c) F.saPn ∧ imageField (u.secyImage p) F.secyReplay = 1
        let fits := 12 + secTagLength bs + 16 ≤ bs.length
          ∧ gmac key (u.saIv (row c) suite sci (pnOf c)) (bs.take (bs.length - 16)) = bs.drop (bs.length - 16)
        (late → u.secVerify p bs = .late) ∧ (¬ late → fits → u.secVerify p bs = .verified (row c) (pnOf c))
        ∧ (¬ late → ¬ fits → u.secVerify p bs = .failed))))
  ∧ (∀ (s : State) (dt id : Nat) (bs : List Byte) (f : Frame),
    let u := s.after dt
    let g := { f with octets := f.octets ++ bs }
    let q := f.port
    let strict := u.secyValidates q = 2
    let heard := fun (t : State) (k : Nat) => t.get k = u.counted k ∧ forwardsOnly u t (keysIn []) noCells
    let still := fun (t : State) => ∀ r, 192 ≤ r → t.fld .live 0xF092 r F.saPn = u.fld .live 0xF092 r F.saPn
    let bad := fun (t : State) => (∀ x ∈ t.frames, x.id ≠ id) ∧ t.copies = u.copies
    u.arriving id f g → f.kind = 0 → u.secyValidates q ≠ 0 →
    (f.complete = true → hasSecTag g.octets = true → Runs (.lookaheadComplete dt id bs) s fun t =>
      (∀ r pn, u.secVerify q g.data = .verified r pn → heard t (Key.inVerified q)
        ∧ t.fld .live 0xF092 r F.saPn
          = max (u.fld .live 0xF092 r F.saPn) (pn + 1 - u.fld .live 0xF090 q F.secyWindow) % 2 ^ 64
        ∧ t.fld .live 0xF092 r F.saFrames = u.countedF 0xF092 r F.saFrames)
      ∧ (u.secVerify q g.data = .failed → heard t (Key.inFailed q) ∧ still t ∧ (strict → bad t))
      ∧ (u.secVerify q g.data = .late → heard t (Key.inLate q) ∧ still t ∧ bad t)
      ∧ (u.secVerify q g.data = .noSa → heard t (Key.inNoSa q) ∧ still t ∧ (strict → bad t)))
    ∧ (hasSecTag g.octets = false → u.slotFree f → Runs (.lookaheadComplete dt id bs) s fun t => heard t (Key.inUntagged q)
      ∧ (strict → g.parse.typ ≠ 0x88F7 → g.parse.typ ≠ 0x888E → t.unforwarded id)))
  ∧ (∀ (s : State) (dt id : Nat) (rx : Rx) (how : RxEnd) (f : Frame),
    let u := s.after dt
    let g := { f with octets := f.octets ++ rxOctets rx, complete := true, valid := u.now }
    let q := f.port
    let heard := fun (t : State) (k : Nat) => t.get k = u.counted k ∧ forwardsOnly u t (keysIn []) noCells
    let still := fun (t : State) => ∀ r, 192 ≤ r → t.fld .live 0xF092 r F.saPn = u.fld .live 0xF092 r F.saPn
    let bad := fun (t : State) => ∀ c ∈ t.copies, c.frame ≠ id
    s.operates = true → s.frame? id = some f → f.complete = false → f.stage = .stored → f.secured = true → f.decided.isSome = true →
    q < 48 → u.get Key.malformedAction = 0 → ingressFault u g how = none →
    Runs (.frameTail dt id rx how) s fun t =>
      (∀ r pn, u.secVerify q g.data = .verified r pn → heard t (Key.inVerified q)
        ∧ t.fld .live 0xF092 r F.saPn
          = max (u.fld .live 0xF092 r F.saPn) (pn + 1 - u.fld .live 0xF090 q F.secyWindow) % 2 ^ 64
        ∧ t.fld .live 0xF092 r F.saFrames = u.countedF 0xF092 r F.saFrames)
      ∧ (u.secVerify q g.data = .failed → heard t (Key.inFailed q) ∧ still t ∧ (u.secyValidates q = 2 → bad t))
      ∧ (u.secVerify q g.data = .late → heard t (Key.inLate q) ∧ still t ∧ bad t)
      ∧ (u.secVerify q g.data = .noSa → heard t (Key.inNoSa q) ∧ still t ∧ (u.secyValidates q = 2 → bad t)))
  ∧ (∀ (s : State) (dt : Nat) (p : Port) (c : Copy) (f : Frame) (pre : Bool) (a : Act) (t' : Nat),
    let u := s.after dt
    let row := u.encodingSa p.val
    let pn := u.fld .live 0xF092 row F.saPn
    let last := lastPn (imageField (u.secyImage p.val) F.secySuite)
    s.operates = true → u.choose p.val = (.start c f pre t', a) → c.phase ≠ .paused → u.sendable c f = true → u.expired c = false →
    u.secyProtects p.val = true → innerType (copyOctets u c f) ≠ 0x888E →
    (u.saSends p.val row = true → Runs (.eligibilityTime dt p) s fun t =>
      t.get (Key.outProtected p.val) = u.counted (Key.outProtected p.val)
      ∧ t.fld .live 0xF092 row F.saPn = (if last ≤ pn then pn else pn + 1)
      ∧ (last ≤ pn → t.fld .live 0xF092 row F.saExhausted = 1)
      ∧ (last - pn ≤ imageField (u.secyImage p.val) F.secyWarnAt → t.fld .live 0xF092 row F.saWarned = 1)
      ∧ (∃ d ∈ t.copies, d.seq = c.seq ∧ d.sec = u.secUse p.val row ∧ d.sec.isSome = true
        ∧ (f.complete = true → c.profile = none → ∀ x, d.sec = some x → d.sent = u.protect p.val x (copyOctets u c f)))
      ∧ forwardsOnly u t (keysIn []) noCells)
    ∧ (u.saSends p.val row = false → Runs (.eligibilityTime dt p) s fun t => (∀ d ∈ t.copies, d.seq ≠ c.seq)
      ∧ (u.get (Key.outSaDrops p.val) < 2 ^ 32 - 1 → u.get (Key.outSaDrops p.val) < t.get (Key.outSaDrops p.val))
      ∧ forwardsOnly u t (keysIn []) noCells))
  ∧ (∀ (s : State) (dt : Nat) (p : Port) (c : Copy) (f : Frame),
    let u := s.after dt
    s.operates = true → p.val ≠ 245 → s.sending p.val = some c → s.frame? c.frame = some f → f.complete = true →
    u.secAlive c = false → (c.phase = .wire ∨ s.receiving p.val = false) →
    Runs (.transmissionEnd dt p) s fun t => t.get (Key.egressAborts p.val) = u.counted (Key.egressAborts p.val)
      ∧ (∀ d ∈ t.copies, d.seq ≠ c.seq) ∧ (∃ octets, Out.frame p.val octets true ∈ t.outs)
      ∧ forwardsOnly u t (keysIn [Rg.isolated p.val]) noCells)

/-! ### Vehicle time -/

/-- R203, R204, R205, R207 (SYNC_RECEIVED): a Sync on a slave port of the source instance locks vehicle time: an offset up to
StepThreshold is slewed and a greater one is a step of vehicle time, which moves the stored eligibility times by as much; a Sync of the
other instance leaves vehicle time alone; a Sync of either is relayed on the master ports that may send, with the link delay and a
residence time added, but not on an isolated one (R202, R209, R419; how long the relay takes is open, and that it sends a two-step Sync
with a Follow_Up of this form is log entry 12). A new slew replaces what was left of the old one (log entry 64). An isolated port receives
no Sync (R419). -/
def Obligations.SyncSteersVehicleTime : Prop :=
  ∀ (s : State) (dt : Nat) (i : Fin 2) (p : Port) (carried : Nat) (log : Int),
    let u := s.after dt
    let off := u.offsetOf p.val carried
    s.operates = true →
    (u.get (Rg.isolated p.val) ≠ 0 → Runs (.syncReceived dt i p carried log) s fun t => t.outs = [] ∧ leavesRest u t (keysIn []) noCells)
    ∧ (u.gptpRole i.val p.val = 2 → u.get (Rg.isolated p.val) = 0 →
    (i.val = u.get Key.timeSourceInstance → off.natAbs ≤ ns (u.get Key.stepThreshold) →
      Runs (.syncReceived dt i p carried log) s fun t => t.get Key.timeStatus = 1
        ∧ t.get Rg.slewUp = (-off).toNat ∧ t.get Rg.slewDown = off.toNat ∧ t.get (Rg.syncAt i.val) = u.now + 1
        ∧ t.get Key.syncLossEvents = (if u.get Key.timeStatus = 4 then u.counted Key.syncLossEvents else u.get Key.syncLossEvents)
        ∧ leavesRest u t (keysIn [Key.timeStatus, Rg.slewUp, Rg.slewDown, Rg.syncAt i.val, Rg.syncInterval i.val, Key.syncLossEvents,
            Rg.holdoverAt, Key.offsetFromMaster, Key.frequencyAdjust, Rg.servoAdjust]) noCells)
    ∧ (i.val = u.get Key.timeSourceInstance → ns (u.get Key.stepThreshold) < off.natAbs → u.get Key.commitState ≠ 3 →
      Runs (.syncReceived dt i p carried log) s fun t => t.get Key.timeStatus = 1 ∧ t.vtime = vehicle (u.vtime - off)
        ∧ t.get Key.timeSteps = u.counted Key.timeSteps ∧ t.get Key.lastStepSize = sat32 (-off / 65536)
        ∧ t.get Rg.slewUp = 0 ∧ t.get Rg.slewDown = 0 ∧ t.now = u.now
        ∧ (∀ g < 1024, u.get (Rg.groupElig g) ≠ 0 → t.get (Rg.groupElig g) = moved (-off) (u.get (Rg.groupElig g))))
    ∧ (i.val ≠ u.get Key.timeSourceInstance → Runs (.syncReceived dt i p carried log) s fun t =>
        (u.get Key.timeStatus ≠ 4 → t.get Key.timeStatus = u.get Key.timeStatus)
        ∧ leavesRest u t (keysIn [Rg.syncAt i.val, Rg.syncInterval i.val, Key.timeStatus, Key.syncLossEvents, Rg.holdoverAt,
            Rg.slewUp, Rg.slewDown, Key.frequencyAdjust]) noCells)
    ∧ ((i.val ≠ u.get Key.timeSourceInstance ∨ off.natAbs ≤ ns (u.get Key.stepThreshold)) →
      Runs (.syncReceived dt i p carried log) s fun t => ∀ q < 256, u.gptpRole i.val q = 1 → u.emitsTime i.val q = true →
        Out.gptp q gptpSync 0 [] ∈ t.outs
        ∧ ∃ d rate, Out.gptp q gptpFollowUp (carried + ns (u.get (Key.meanLinkDelay p.val)) + d - ns (u.get (Key.egressLatency q))
              - ns (u.get (Key.ingressLatency p.val)))
            (overlay (match u.get (Rg.followTlv i.val) with
              | 0 => followInfo
              | v + 1 => beBytes 32 v) 10 (beBytes 4 rate)) ∈ t.outs))

/-- R205, R206 (SYNC_RECEIPT_TIMEOUT, HOLDOVER_EXPIRY, GRANDMASTER_ENTRY): from Locked, a source without a Sync for its receipt timeout is
in Holdover, counts it and keeps the last frequency correction; when HoldoverLimit has elapsed since then, Holdover has expired; a source
that is the grandmaster of its domain is in Grandmaster, and vehicle time runs without correction. That what was left of a slew is dropped in
both is log entry 64.
R202, R203, R209 (GPTP_MESSAGE, PDELAY_REQUEST, SYNC_TRANSMIT): a port that takes part answers a peer-delay request with the times of
its reception and of the answer at the MDI, and starts measurements of its own; one measurement, corrected by the port's latencies, is its
MeanLinkDelay and says whether the link is short enough, and nine misses in succession end that; an Announce that the best master clock
algorithm keeps is held, and names the grandmaster where it makes the port a slave; one that comes from the device itself or has passed it
changes nothing; Follow_Up and Signaling leave their information. The source instance sends Sync and Follow_Up as a grandmaster on its
master ports, the other never does, and each sends Announce once in a second. What R202 leaves to IEEE 802.1AS, the peer delay, the best
master clock algorithm, the period of Announce and the form of Follow_Up among it, is log entry 12. An isolated port receives no message
and sends none (R419). -/
def Obligations.TimeFollowsEventsAndMessages : Prop :=
  (∀ (s : State) (dt : Nat),
      let u := s.after dt
      let i := u.get Key.timeSourceInstance
      s.operates = true →
      (u.get Key.timeStatus = 1 → u.get (Rg.syncAt i) - 1 + u.syncTimeout i ≤ u.now → Runs (.syncReceiptTimeout dt) s fun t =>
        t.get Key.timeStatus = 2 ∧ t.get Key.syncLossEvents = u.counted Key.syncLossEvents ∧ t.get Rg.holdoverAt = u.now
        ∧ t.get Key.frequencyAdjust = u.get Rg.servoAdjust % 2 ^ 32 ∧ t.get Rg.slewUp = 0 ∧ t.get Rg.slewDown = 0
        ∧ leavesRest u t (keysIn [Key.timeStatus, Key.syncLossEvents, Rg.holdoverAt, Rg.slewUp, Rg.slewDown, Key.frequencyAdjust]) noCells)
      ∧ (u.get Key.timeStatus = 2 → u.get Rg.holdoverAt + ms (u.get Key.holdoverLimit) ≤ u.now → Runs (.holdoverExpiry dt) s fun t =>
        t.get Key.timeStatus = 3 ∧ leavesRest u t (keysIn [Key.timeStatus]) noCells)
      ∧ (u.isGrandmaster i = true → u.get Key.timeStatus ≠ 4 → Runs (.grandmasterEntry dt) s fun t =>
        t.get Key.timeStatus = 4 ∧ t.get Key.frequencyAdjust = 0 ∧ t.get Rg.slewUp = 0 ∧ t.get Rg.slewDown = 0
        ∧ (i < 2 → t.get (Key.grandmasterIdentity i) = leNat (beBytes 8 ownClock))
        ∧ leavesRest u t (keysIn [Key.timeStatus, Key.frequencyAdjust, Rg.slewUp, Rg.slewDown, Rg.syncInterval i,
            Key.grandmasterIdentity i]) noCells))
  ∧ (∀ (s : State) (dt : Nat) (i : Fin 2) (p : Port),
      let u := s.after dt
      s.operates = true →
      (u.get (Rg.isolated p.val) ≠ 0 → (∀ m, m ≠ .pdelayLost → Runs (.gptpMessage dt i p m) s fun t =>
          t.outs = [] ∧ leavesRest u t (keysIn []) noCells)
        ∧ Runs (.pdelayRequest dt p) s fun t => t.outs = [] ∧ leavesRest u t (keysIn []) noCells)
      ∧ (u.takesPart p.val = true → u.get (Rg.isolated p.val) = 0 →
          Runs (.pdelayRequest dt p) s fun t => t.outs = [.gptp p.val gptpPdelayRequest u.vtime []]
          ∧ leavesRest u t (keysIn []) noCells)
      ∧ (u.takesPart p.val = true → Runs (.gptpMessage dt i p .pdelayLost) s fun t =>
          t.get (Rg.pdelayLost p.val) = u.get (Rg.pdelayLost p.val) + 1
          ∧ t.get (Rg.pdelayOk p.val) = (if 9 ≤ u.get (Rg.pdelayLost p.val) then 0 else u.get (Rg.pdelayOk p.val))
          ∧ leavesRest u t (keysIn [Rg.pdelayLost p.val, Rg.pdelayOk p.val]) noCells)
      ∧ (u.takesPart p.val = true → u.get (Rg.isolated p.val) = 0 →
        (Runs (.gptpMessage dt i p .pdelayRequest) s fun t =>
          (∃ d, t.outs = [.gptp p.val gptpPdelayResponse (u.vtime + ns (u.get (Key.ingressLatency p.val))) [],
            .gptp p.val gptpPdelayFollowUp (u.vtime + d - ns (u.get (Key.egressLatency p.val))) []])
          ∧ leavesRest u t (keysIn []) noCells)
        ∧ (∀ t1 t2 t3 t4 : Nat,
            let d : Int := ((t4 : Int) + ns (u.get (Key.ingressLatency p.val))
              - (t1 - ns (u.get (Key.egressLatency p.val))) - (t3 - t2)) / 2
            Runs (.gptpMessage dt i p (.pdelayResponse t1 t2 t3 t4)) s fun t =>
              t.get (Key.meanLinkDelay p.val) = (d / 65536).toNat % 2 ^ 32
              ∧ t.get (Rg.pdelayOk p.val) = (if d ≤ Config.linkDelayLimit (u.kind p.val) then 1 else 0) ∧ t.get (Rg.pdelayLost p.val) = 0
              ∧ leavesRest u t (keysIn [Rg.pdelayLost p.val, Rg.pdelayOk p.val, Key.meanLinkDelay p.val]) noCells)
        ∧ (∀ tlv, u.gptpRole i.val p.val = 2 → Runs (.gptpMessage dt i p (.followUp tlv)) s fun t =>
            t.get (Rg.followTlv i.val) = tlv.toNat + 1 ∧ leavesRest u t (keysIn [Rg.followTlv i.val]) noCells)
        ∧ (Runs (.gptpMessage dt i p (.signaling true)) s fun t => t.get (Rg.neighborAt i.val p.val) = u.now + 1
            ∧ leavesRest u t (keysIn [Rg.neighborAt i.val p.val]) noCells)
        ∧ (∀ (p1 : BitVec 8) (quality : BitVec 32) (p2 : BitVec 8) (gm : BitVec 64) (steps : BitVec 16) (source : BitVec 80)
              (path : List (BitVec 64)),
            let root := ((p1.toNat * 2 ^ 32 + quality.toNat) * 2 ^ 8 + p2.toNat) * 2 ^ 64 + gm.toNat
            let v := priorityVector root steps.toNat source.toNat p.val
            let own := source.toNat / 2 ^ 16 = ownClock ∨ 255 ≤ steps.toNat ∨ ∃ x ∈ path, x.toNat = ownClock
            (own → Runs (.gptpMessage dt i p (.announce p1 quality p2 gm steps source path)) s fun t => leavesRest u t (keysIn []) noCells)
            ∧ (¬ own → u.instRuns i.val = true → u.partOf i.val p.val = true → u.sendsTime i.val p.val = true →
              (u.get (Key.externalPortConfiguration i.val) ≠ 0 ∨ (u.announced i.val p.val = none ∧ v < u.masterVector i.val p.val)
                ∨ ∃ old, u.announced i.val p.val = some old ∧ (v ≤ old ∨ old / 2 ^ 16 % 2 ^ 80 = source.toNat)) →
              Runs (.gptpMessage dt i p (.announce p1 quality p2 gm steps source path)) s fun t =>
                t.announced i.val p.val = some v ∧ t.get (Rg.annHops i.val p.val) = path.length
                ∧ (t.gptpRole i.val p.val = 2 → t.get (Key.grandmasterIdentity i.val) = leNat (beBytes 8 gm.toNat))
                ∧ leavesRest u t (keysIn [Rg.annVector i.val p.val, Rg.annAt i.val p.val, Rg.annHops i.val p.val, Rg.annPath i.val p.val,
                    Key.grandmasterIdentity i.val, Key.timeStatus, Key.syncLossEvents, Rg.holdoverAt, Rg.slewUp, Rg.slewDown,
                    Key.frequencyAdjust]) noCells)))
      ∧ (u.isGrandmaster i.val = true → i.val = u.get Key.timeSourceInstance → Runs (.syncTransmit dt i) s fun t =>
          (∀ q < 256, u.gptpRole i.val q = 1 → u.emitsTime i.val q = true → Out.gptp q gptpSync 0 [] ∈ t.outs
            ∧ Out.gptp q gptpFollowUp (u.vtime - ns (u.get (Key.egressLatency q))) followInfo ∈ t.outs)
          ∧ leavesRest u t (keysIn [Rg.annSent i.val]) noCells)
      ∧ (i.val ≠ u.get Key.timeSourceInstance → Runs (.syncTransmit dt i) s fun t =>
          (∀ q v tlv, Out.gptp q gptpSync v tlv ∉ t.outs) ∧ leavesRest u t (keysIn [Rg.annSent i.val]) noCells)
      ∧ (u.instRuns i.val = true → (u.get (Rg.annSent i.val) = 0 ∨ u.get (Rg.annSent i.val) - 1 + ms 1000 ≤ u.now) →
          Runs (.syncTransmit dt i) s fun t => t.get (Rg.annSent i.val) = u.now + 1
            ∧ (∀ q < 256, u.gptpRole i.val q = 1 → u.emitsTime i.val q = true →
                ∃ path, Out.gptp q gptpAnnounce (u.masterVector i.val q / 2 ^ 16) path ∈ t.outs)))

/-! ### Streams and the gateway -/

/-- R242, R282 (STREAM_UNBLOCK, GATEWAY_CHANNEL_ENABLE, SHUT_DOWN_END): StreamUnblock unblocks the stream that it names; a write of 1
enables a Disabled channel; a write of 0 to an Enabled one shuts it down, and no routed copy stays queued on the port; during the
shut-down the write is pending, and at its end the channel is Enabled if an enable is pending and Disabled otherwise. -/
def Obligations.StreamsAndChannelsAreSwitched : Prop :=
  (∀ (s : State) (dt : Nat) (path : Path) (v : Nat),
    let u := s.facing dt path
    u.admits path 0x6000 15 = true → v < 4096 → Runs (.streamUnblock dt path (BitVec.ofNat 64 v)) s fun t => t.status = 0
      ∧ t.fld .live 0xF077 v F.stBlocked = 0
      ∧ (∀ f ∈ layout 0xF077, f ≠ F.stBlocked → t.fld .live 0xF077 v f = u.fld .live 0xF077 v f)
      ∧ leavesRest u t (keysIn [u.keyAt 0x6000 15]) (rowCells .live 0xF077 v))
  ∧ (∀ (s : State) (dt : Nat) (path : Path) (p : Port) (b : Bool),
    let u := s.facing dt path
    let x := if b then 1 else 0
    u.admits path (0x200A + 16 * p.val) 1 = true →
    (u.get (Key.gatewayChannelState p.val) = 0 → Runs (.gatewayChannelEnable dt path p (if b then 1 else 0)) s fun t => t.status = 0
      ∧ t.get (Key.gatewayChannelEnable p.val) = x ∧ t.get (Key.gatewayChannelState p.val) = 2 * x
      ∧ leavesRest u t (keysIn [Key.gatewayChannelEnable p.val, Key.gatewayChannelState p.val]) noCells)
    ∧ (u.get (Key.gatewayChannelState p.val) = 1 → Runs (.gatewayChannelEnable dt path p (if b then 1 else 0)) s fun t => t.status = 0
      ∧ t.get (Key.gatewayChannelEnable p.val) = x ∧ t.get (Key.gatewayPendingEnable p.val) = x
      ∧ leavesRest u t (keysIn [Key.gatewayChannelEnable p.val, Key.gatewayPendingEnable p.val]) noCells)
    ∧ (u.get (Key.gatewayChannelState p.val) = 2 → Runs (.gatewayChannelEnable dt path p 0) s fun t => t.status = 0
      ∧ t.get (Key.gatewayChannelEnable p.val) = 0 ∧ t.get (Key.gatewayChannelState p.val) = 1
      ∧ (∀ c ∈ t.copies, c.port = p.val → c.tc < 8 → c.pair ≠ none → c.phase = .wire)
      ∧ forwardsOnly u t (keysIn [Key.gatewayChannelEnable p.val, Rg.shutFrom p.val]) noCells))
  ∧ (∀ (s : State) (dt : Nat) (p : Port), s.operates = true → s.get (Key.gatewayChannelState p.val) = 1 →
    Runs (.shutDownEnd dt p) s fun t =>
      t.get (Key.gatewayChannelState p.val) = (if s.get (Key.gatewayPendingEnable p.val) = 0 then 0 else 2)
      ∧ t.get (Key.gatewayPendingEnable p.val) = 0
      ∧ leavesRest (s.after dt) t (keysIn [Key.gatewayChannelState p.val, Key.gatewayPendingEnable p.val, Key.shutDownDuration p.val])
          noCells)

/-! ### The integrity engine -/

/-- R305 (JOB_SUBMIT): the write of a slot number ends with the first status that applies; only the last makes the slot Queued, and
256 jobs in flight count a refusal. The condition on the counter holds for every Op (log entry 20).
R306, R307, R310, R326 (JOB_DISPATCH): the first job of the page whose turn it is runs on a unit with a free context; without a usable
CMAC key it ends with 0x02, beyond the 4,096 octets of the page's buffer with 0x01, and MacGenerateFresh takes and stores the counter's
next value, or ends with 0x05 where the counter is at its last value, which exhausts it, or its key is exhausted. A job on a restored
counter whose key slot was not restored does not run (R326); that its status is 0x02 is log entry 145. That 0x01 is the status of a
message beyond octet 4,096, and that it is given at dispatch, is log entry 68.
R308, R319 (JOB_SLOT_FREE, PAGE_ENABLE, PAGE_CLOSING_END): a write of 0 to the State of a Done slot frees it; a write of 0 to the
PageEnable of an Enabled page ends its queued jobs with 0x03 and makes it Closing, and a write in Closing is pending; once no job
of it runs, its job and data rows are 0 and it is Enabled or Disabled as the pending enable says. -/
def Obligations.JobsAreSubmittedAndDispatched : Prop :=
  (∀ (s : State) (dt : Nat) (path : Path) (p : Fin 64) (v : Fin 16),
      let u := s.facing dt path
      let row := 16 * p.val + v.val
      let key := u.job row F.jobKeySlot
      let ctr := u.job row F.jobCounter
      let base := u.page p.val F.pageKeyBase
      let first := u.page p.val F.pageFreshBase
      let st := if u.get (Key.pageState p.val) ≠ 2 then 2 else if u.page p.val F.pageQuota ≤ v.val then 1
        else if u.job row F.jobState ≠ 0 then 3
        else if ¬ (base ≤ key ∧ key < base + u.page p.val F.pageKeyCount) then 2
        else if ¬ (first ≤ ctr ∧ ctr < first + u.page p.val F.pageFreshCount) then 2
        else if 256 ≤ u.jobsInFlight then 4 else 0
      u.admits path (0x8100 + p.val) 1 = true → Runs (.jobSubmit dt path p (BitVec.ofNat 64 v.val)) s fun t =>
        (st ≠ 0 → t.status = min st 3 ∧ leavesRest u t (keysIn (if st = 4 then [Key.submitBusyRefusals] else [])) noCells)
        ∧ (st = 4 → t.get Key.submitBusyRefusals = u.counted Key.submitBusyRefusals)
        ∧ (st = 0 → t.status = 0 ∧ t.job row F.jobState = 1 ∧ t.job row F.jobStatus = 0 ∧ t.job row F.jobResult = 0
            ∧ (∀ f ∈ layout 0xF096, ¬ f ∈ [F.jobState, F.jobStatus, F.jobResult] → t.job row f = u.job row f)
            ∧ leavesRest u t (keysIn [u.keyAt (0x8100 + p.val) 1, Rg.jobOrder row, Rg.jobsSubmitted]) (rowCells .live 0xF096 row)))
  ∧ (∀ (s : State) (dt : Nat) (unit : Fin 4) (p row : Nat),
      let u := s.after dt
      let key := u.job row F.jobKeySlot
      let c := u.job row F.jobCounter
      let op := u.job row F.jobOp
      let len := u.job row F.jobOffset + u.job row F.jobLength
      let rows := rowCells .live 0xF096 row
      s.operates = true → ((u.jobsIn 2).filter fun r => u.get (Rg.jobUnit r) == unit.val + 1).length < 16 →
      u.nextPage = some p → u.nextJob p = some row →
      (u.aesKey key (jobUser row) = none → Runs (.jobDispatch dt unit) s fun t => t.job row F.jobState = 3 ∧ t.job row F.jobStatus = 2
        ∧ leavesRest u t (keysIn [Rg.pageServed]) rows)
      ∧ (u.aesKey key (jobUser row) ≠ none → (op = 1 ∨ op = 2) → 4096 < len → Runs (.jobDispatch dt unit) s fun t =>
          t.job row F.jobState = 3 ∧ t.job row F.jobStatus = 1 ∧ leavesRest u t (keysIn [Rg.pageServed]) rows)
      ∧ (u.aesKey key (jobUser row) ≠ none → (op = 1 ∨ op = 2) → len ≤ 4096 → Runs (.jobDispatch dt unit) s fun t =>
          t.job row F.jobState = 2 ∧ t.get (Rg.jobUnit row) = unit.val + 1
          ∧ leavesRest u t (keysIn [Rg.pageServed, Rg.jobUnit row]) rows)
      ∧ (u.aesKey key (jobUser row) ≠ none → (op = 3 ∨ op = 4) → u.get (Rg.staleFresh c) ≠ 0 →
          Runs (.jobDispatch dt unit) s fun t => t.job row F.jobState = 3 ∧ t.job row F.jobStatus = 2
            ∧ leavesRest u t (keysIn [Rg.pageServed]) rows)
      ∧ (u.aesKey key (jobUser row) ≠ none → op = 4 → u.fresh c F.freshKeySlot = key → u.fldOn .live 0xF094 c F.freshLoaded = true →
          u.get (Rg.staleFresh c) = 0 → len ≤ 4096 →
          u.keyExhausted key = false → Runs (.jobDispatch dt unit) s fun t => t.job row F.jobState = 2
            ∧ t.get (Rg.jobUnit row) = unit.val + 1 ∧ leavesRest u t (keysIn [Rg.pageServed, Rg.jobUnit row]) rows)
      ∧ (u.aesKey key (jobUser row) ≠ none → op = 3 → u.fresh c F.freshKeySlot = key → u.fldOn .live 0xF094 c F.freshLoaded = true →
          u.get (Rg.staleFresh c) = 0 → len ≤ 4096 → u.fresh c F.freshWidth ≤ 64 →
          (u.fresh c F.freshValue < u.freshLast c → u.keyExhausted key = true → Runs (.jobDispatch dt unit) s fun t => t.job row F.jobState = 3
            ∧ t.job row F.jobStatus = 5 ∧ leavesRest u t (keysIn [Rg.pageServed]) rows)
          ∧ (u.fresh c F.freshValue < u.freshLast c → u.keyExhausted key = false → Runs (.jobDispatch dt unit) s fun t => t.job row F.jobState = 2
            ∧ t.fresh c F.freshValue = u.fresh c F.freshValue + 1 ∧ t.get (Rg.jobValue row) = u.fresh c F.freshValue + 1
            ∧ leavesRest u t (keysIn [Rg.pageServed, Rg.jobUnit row, Rg.jobValue row]) (bothCells rows (rowCells .live 0xF094 c)))
          ∧ (u.freshLast c ≤ u.fresh c F.freshValue → Runs (.jobDispatch dt unit) s fun t => t.job row F.jobState = 3
            ∧ t.job row F.jobStatus = 5 ∧ t.fresh c F.freshValue = u.fresh c F.freshValue ∧ t.fldOn .live 0xF094 c F.freshExhausted = true
            ∧ t.get (Rg.exhaustedGen c)
              = (if u.fldOn .live 0xF094 c F.freshExhausted = true then u.get (Rg.exhaustedGen c) else u.slotGeneration key + 1)
            ∧ leavesRest u t (keysIn [Rg.pageServed, Rg.exhaustedGen c]) (bothCells rows (rowCells .live 0xF094 c)))))
  ∧ ((∀ (s : State) (dt : Nat) (path : Path) (p : Fin 64) (v : Fin 16),
      let u := s.facing dt path
      let row := 16 * p.val + v.val
      u.admitsRow path 0xF096 row 0 1 = true → u.job row F.jobState = 3 → Runs (.jobSlotFree dt path p v) s fun t => t.status = 0
        ∧ t.job row F.jobState = 0 ∧ (∀ f ∈ layout 0xF096, f ≠ F.jobState → t.job row f = u.job row f)
        ∧ leavesRest u t (keysIn []) (rowCells .live 0xF096 row))
    ∧ (∀ (s : State) (dt : Nat) (path : Path) (p : Fin 64) (b : Bool),
      let u := s.facing dt path
      let x := if b then 1 else 0
      u.admits path (0x8100 + p.val) 3 = true →
      (u.get (Key.pageState p.val) = 0 → Runs (.pageEnable dt path p (if b then 1 else 0)) s fun t => t.status = 0
        ∧ t.get (Key.pageEnable p.val) = x ∧ t.get (Key.pageState p.val) = 2 * x
        ∧ leavesRest u t (keysIn [Key.pageEnable p.val, Key.pageState p.val]) noCells)
      ∧ (u.get (Key.pageState p.val) = 1 → Runs (.pageEnable dt path p (if b then 1 else 0)) s fun t => t.status = 0
        ∧ t.get (Key.pageEnable p.val) = x ∧ t.get (Key.pagePendingEnable p.val) = x
        ∧ leavesRest u t (keysIn [Key.pageEnable p.val, Key.pagePendingEnable p.val]) noCells)
      ∧ (u.get (Key.pageState p.val) = 2 → Runs (.pageEnable dt path p 0) s fun t => t.status = 0
        ∧ t.get (Key.pageEnable p.val) = 0 ∧ t.get (Key.pageState p.val) = 1
        ∧ (∀ v < 16, u.job (16 * p.val + v) F.jobState = 1 → t.job (16 * p.val + v) F.jobState = 3 ∧ t.job (16 * p.val + v) F.jobStatus = 3)
        ∧ (∀ v < 16, u.job (16 * p.val + v) F.jobState ≠ 1 → ∀ f ∈ layout 0xF096, t.job (16 * p.val + v) f = u.job (16 * p.val + v) f)
        ∧ leavesRest u t (keysIn [Key.pageEnable p.val, Key.pageState p.val]) (fun g a => ∃ v < 16, rowCells .live 0xF096 (16 * p.val + v) g a)))
    ∧ (∀ (s : State) (dt : Nat) (p : Fin 64),
      let u := s.after dt
      s.operates = true → s.get (Key.pageState p.val) = 1 → (∀ v < 16, s.job (16 * p.val + v) F.jobState ≠ 2) →
      Runs (.pageClosingEnd dt p) s fun t =>
        (∀ v < 16, t.rowOctets .live 0xF096 (16 * p.val + v) 0 64 = List.replicate 64 0#8)
        ∧ (∀ r < 64, t.rowOctets .live 0xF097 (64 * p.val + r) 0 64 = List.replicate 64 0#8)
        ∧ t.get (Key.pageState p.val) = (if s.get (Key.pagePendingEnable p.val) = 0 then 0 else 2)
        ∧ t.get (Key.pagePendingEnable p.val) = 0
        ∧ leavesRest u t (keysIn [Key.pageState p.val, Key.pagePendingEnable p.val])
            (fun g a => (∃ v < 16, rowCells .live 0xF096 (16 * p.val + v) g a) ∨ ∃ r < 64, rowCells .live 0xF097 (64 * p.val + r) g a)))

/-- R307, R309, R310, R311 (MAC_GENERATE, MAC_VERIFY, MAC_GENERATE_FRESH, MAC_VERIFY_FRESH): a running job becomes Done at vehicle time:
generation writes the first MacLength octets of the CMAC and zeros (the record seal's own job ends with its PDU, R346); verification
answers match or mismatch; a fresh verification is decided in the order of R311, and only a match of a newer value advances the counter.
That the message is read at completion is log entry 67, and the seal's job in row 992 log entry 74. -/
def Obligations.JobsComplete : Prop :=
  ∀ (s : State) (dt : Nat) (p : Fin 64) (v : Fin 16),
    let u := s.after dt
    let row := 16 * p.val + v.val
    let c := u.job row F.jobCounter
    let n := u.job row F.jobMacLength
    let x := u.job row F.jobFresh
    let done := fun (t : State) (status result : Nat) => t.job row F.jobState = 3 ∧ t.job row F.jobStatus = status
      ∧ t.job row F.jobResult = result ∧ t.job row F.jobTime = u.vns % 2 ^ 64
    let writes := fun (t : State) (mac : List Byte) => t.rowOctets .live 0xF096 row 24 16 = octetsAt (mac.take n) 0 16
    let rest := fun (t : State) => leavesRest u t (keysIn []) (rowCells .live 0xF096 row)
    let exhausted := u.keyExhausted (u.job row F.jobKeySlot)
    let mac := fun (y : Nat) => u.jobMac row (u.freshOctets c y)
    s.operates = true → u.job row F.jobState = 2 →
    (u.job row F.jobOp = 1 → row ≠ sealRow → Runs (.macGenerate dt p v) s fun t => done t 0 0 ∧ writes t (u.jobMac row []) ∧ rest t)
    ∧ (row = sealRow → Runs (.macGenerate dt p v) s fun t => leavesRest u t (keysIn []) noCells)
    ∧ (u.job row F.jobOp = 2 → Runs (.macVerify dt p v) s fun t =>
        done t 0 (if (u.rowOctets .live 0xF096 row 24 16).take n = (u.jobMac row []).take n then 1 else 2) ∧ rest t)
    ∧ (u.job row F.jobOp = 3 → exhausted = false → Runs (.macGenerateFresh dt p v) s fun t => done t 0 0
        ∧ writes t (mac (u.get (Rg.jobValue row))) ∧ t.job row F.jobFresh = u.get (Rg.jobValue row) % 2 ^ 64 ∧ rest t)
    ∧ (u.job row F.jobOp = 3 → exhausted = true → Runs (.macGenerateFresh dt p v) s fun t => done t 5 0 ∧ rest t)
    ∧ (u.job row F.jobOp = 4 → Runs (.macVerifyFresh dt p v) s fun t =>
        let last := exhausted = true ∨ u.freshLast c ≤ u.fresh c F.freshValue
        let stale := x ≤ u.fresh c F.freshValue ∨ u.freshLast c < x
        let wrong := (u.rowOctets .live 0xF096 row 24 16).take n ≠ (mac x).take n
        (last → done t 5 0) ∧ (¬ last → stale → done t 0 3) ∧ (¬ last → ¬ stale → wrong → done t 0 2)
        ∧ (last ∨ stale ∨ wrong → t.fresh c F.freshValue = u.fresh c F.freshValue)
        ∧ (¬ last → ¬ stale → ¬ wrong → done t 0 1 ∧ t.fresh c F.freshValue = x)
        ∧ leavesRest u t (keysIn []) (bothCells (rowCells .live 0xF096 row) (rowCells .live 0xF094 c)))

/-- R312, R313, R326 (FRESHNESS_COUNTER_LOAD): a write of any octets of a row that touches Value, Width or KeySlot ends with 0x02 and changes
nothing while the counter is loaded under the present generation of its key slot; where it is accepted, the fields that it touches take
their legal values, the others stay, Value is below 2^Width, and the counter is loaded under the slot's generation with Warned and
Exhausted clear, and usable again where it was restored without its key slot. A write that touches none of the three changes nothing. -/
def Obligations.LoadedCountersAreNotRewritten : Prop :=
  ∀ (s : State) (dt : Nat) (path : Path) (row : BitVec 24) (off : Nat) (data : List Byte),
    let u := s.facing dt path
    let r := row.toNat
    let n := data.length
    let touches := F.freshValue.touched off n = true ∨ F.freshWidth.touched off n = true ∨ F.freshKeySlot.touched off n = true
    let mayLoad := u.fldOn .live 0xF094 r F.freshLoaded = false
      ∨ u.slotGeneration (u.fresh r F.freshKeySlot) ≠ u.fresh r F.freshGeneration
    let x := fun (f : Fld) => if f.touched off n = true
      then clampTo f.legal f.width f.dflt (bits (leNat (overlay (u.rowOctets .live 0xF094 r 0 16) off data)) f.bit f.width) else u.fresh r f
    u.admitsRow path 0xF094 r off n = true →
    (touches → ¬ mayLoad →
      Runs (.freshnessCounterLoad dt path row off data) s fun t => t.status = 2 ∧ leavesRest u t (keysIn []) noCells)
    ∧ (touches → mayLoad → Runs (.freshnessCounterLoad dt path row off data) s fun t => t.status = 0
      ∧ t.fresh r F.freshWidth = x F.freshWidth ∧ t.fresh r F.freshKeySlot = x F.freshKeySlot
      ∧ t.fresh r F.freshValue = min (x F.freshValue) (2 ^ x F.freshWidth - 1)
      ∧ t.fldOn .live 0xF094 r F.freshLoaded = true ∧ t.fresh r F.freshWarned = 0 ∧ t.fresh r F.freshExhausted = 0
      ∧ t.fresh r F.freshGeneration = u.slotGeneration (t.fresh r F.freshKeySlot) % 2 ^ F.freshGeneration.width
      ∧ t.get (Rg.exhaustedGen r) = 0 ∧ t.get (Rg.staleFresh r) = 0
      ∧ leavesRest u t (keysIn [Rg.exhaustedGen r, Rg.staleFresh r]) (bothCells (rowCells .live 0xF094 r) clampCells))
    ∧ (¬ touches → Runs (.freshnessCounterLoad dt path row off data) s fun t => t.status = 0 ∧ leavesRest u t (keysIn []) noCells)

/-- R314, R315, R316, R317, R465 (ARBITER_REFILL, ARBITER_GRANT, REQUESTER_MASK): a refill gives every requester that is not masked its
weight and a masked one 0, counts those that wait, and sets the starvation flag of one that has waited in more than StarvationWindows
refills, with its vector; a grant goes to the highest credit among the requesters that are not masked, ties to the lowest number, with
credits and masks as they stood at the end of the fabric cycle before, and charges its words; a mask takes a requester's credit, its wait
count and, if it is the owner, its ownership; a requester whose mask is released competes from the next fabric cycle on, and one of the host
DMA stays masked while the endpoint is in reset or may not master the bus. That a winner whose mask was asserted in the cycle of the decision
is charged, and is not owner, is log entry 146. -/
def Obligations.TheArbiterGrantsByCredit : Prop :=
  ∀ (s : State) (dt : Nat) (words : List Nat), s.operates = true →
    let u := s.after dt
    let seen := fun (t : State) (r : Nat) => t.seenCredit r = u.seenCredit r ∧ t.seenMasked r = u.seenMasked r
    (Runs (.arbiterRefill dt words) s fun t =>
      (∀ r < 8,
        let waits := ¬ (wordsOf words r = 0 ∨ u.masked r = true)
        let flags := waits ∧ u.get Key.starvationWindows < u.get (Rg.waits r) + 1
        t.get (Rg.credit r) = (if u.masked r then 0 else u.get (Key.arbiterWeight r)) ∧ seen t r
        ∧ t.get (Rg.waits r) = u.get (Rg.waits r) + (if waits then 1 else 0)
        ∧ ((t.get Key.starvationFlags).testBit r = true ↔ (u.get Key.starvationFlags).testBit r = true ∨ flags)
        ∧ (flags → (u.get Key.starvationFlags).testBit r = false → u.get Key.starvationVector ≠ 255 →
            Out.vector (u.get Key.starvationVector) ∈ t.outs))
      ∧ leavesRest u t (fun k => k = Key.starvationFlags
          ∨ ∃ r < 8, k ∈ [Rg.credit r, Rg.waits r, Rg.creditOld r, Rg.maskOld r, Rg.seenAt r]) noCells)
    ∧ (∀ w < 8, wordsOf words w ≠ 0 → u.seenMasked w = false →
        (∀ r < 8, wordsOf words r ≠ 0 → u.seenMasked r = false →
            u.seenCredit r < u.seenCredit w ∨ (u.seenCredit r = u.seenCredit w ∧ w ≤ r)) →
        Runs (.arbiterGrant dt words) s fun t =>
          t.get Key.grantOwner = (if u.masked w then 255 else w) ∧ t.get Rg.transferring = (if u.masked w then 0 else 1)
          ∧ t.get (Rg.credit w) = u.get (Rg.credit w) - wordsOf words w ∧ t.get (Rg.waits w) = 0 ∧ seen t w
          ∧ t.get (Key.wordsGranted w) = u.counted (Key.wordsGranted w) (wordsOf words w)
          ∧ leavesRest u t (keysIn [Rg.credit w, Rg.waits w, Rg.creditOld w, Rg.maskOld w, Rg.seenAt w, Key.grantOwner, Rg.transferring,
              Key.wordsGranted w]) noCells)
    ∧ ((∀ r < 8, wordsOf words r = 0 ∨ u.seenMasked r = true) → Runs (.arbiterGrant dt words) s fun t =>
        t.get Rg.transferring = 0 ∧ leavesRest u t (keysIn [Rg.transferring]) noCells)
    ∧ (∀ r : Fin 8, u.get Key.maskState < 256 →
        (Runs (.requesterMask dt r true) s fun t => t.masked r.val = true ∧ t.get (Rg.credit r.val) = 0 ∧ t.get (Rg.waits r.val) = 0
          ∧ t.get Key.grantOwner = (if u.get Key.grantOwner = r.val then 255 else u.get Key.grantOwner) ∧ seen t r.val
          ∧ (∀ q, q ≠ r.val → t.masked q = u.masked q)
          ∧ leavesRest u t (keysIn [Key.maskState, Rg.credit r.val, Rg.waits r.val, Rg.creditOld r.val, Rg.maskOld r.val, Rg.seenAt r.val,
              Key.grantOwner, Rg.transferring]) noCells)
        ∧ (u.heldMasked r.val = false → Runs (.requesterMask dt r false) s fun t =>
          t.masked r.val = false ∧ (∀ q, q ≠ r.val → t.masked q = u.masked q) ∧ seen t r.val
          ∧ leavesRest u t (keysIn [Key.maskState, Rg.creditOld r.val, Rg.maskOld r.val, Rg.seenAt r.val]) noCells)
        ∧ (u.heldMasked r.val = true → Runs (.requesterMask dt r false) s fun t => leavesRest u t (keysIn []) noCells))

/-! ### Keys -/

/-- R334, R335, R336 (KEY_LOAD, KEY_INVALIDATE): a load into a fixed slot or under a latched tamper, of a Root, Anchor or Continuation
kind without its root, or under an unfit parent ends with 0x02 and changes nothing; one into an Invalidating slot is held; else the
slot takes the key, with the next Generation and one more Depth than its parent. An invalidation zeroises a Loaded slot at once,
raises its Generation and starts the sweep.
R335, R339 (SWEEP_END, TAMPER): at the end of a sweep no slot is Invalidating, and with no load held every Loaded slot that is not
usable is Orphaned with the next Generation; an accepted tamper latches, and in Service every slot's material and every session
key is zero, while in the other modes slot 0 is invalidated where it is Loaded and a sweep runs; until a wake has restored the keys the
wrapping key is lost; while PORST_N is low TAMPER_N is not watched (R455). What a sweep orphans is log entry 72, the state of a slot
after a tamper in Service log entry 23, and the sweep without a Loaded slot 0 log entry 133. -/
def Obligations.KeysAreLoadedAndDestroyed : Prop :=
  (∀ (s : State) (dt : Nat) (path : Path) (row : BitVec 24) (data : List Byte),
      let u := s.facing dt path
      let n := row.toNat
      let fld := fun (x : State) (f : Fld) => x.fld .live 0xF098 n f
      let old := setBits (leNat (u.rowOctets .live 0xF098 n 0 64)) F.keyOp.bit F.keyOp.width 0
      let img := (mergeFields (layout 0xF098) old (leNat data) 0 64).1
      let x := setBits img F.keyOp.bit F.keyOp.width 0
      let kind := imageField img F.keyKind
      let parent := imageField img F.keyParent
      let cells := bothCells keyCells clampCells
      u.admitsRow path 0xF098 n 0 64 = true → data.length = 64 →
      (imageField img F.keyOp = 1 →
        ((n < 4 ∨ u.get Key.tamperLatched ≠ 0 ∨ kind = 0 ∨ kind = 8 ∨ kind = 15 ∨ parent = n ∨ u.usable parent = false
            ∨ (u.slotKind parent ≠ 8 ∧ u.slotKind parent ≠ 9) ∨ imageField img F.keyParentGen ≠ u.slotGeneration parent
            ∨ u.fld .live 0xF098 parent F.keyDepth = 7) →
          Runs (.keyLoad dt path row 0 data) s fun t => t.status = 2 ∧ leavesRest u t (keysIn []) noCells)
        ∧ (u.loadCase n x = .refuse 5 → Runs (.keyLoad dt path row 0 data) s fun t => t.status = 5 ∧ leavesRest u t (keysIn []) noCells)
        ∧ (u.loadCase n x = .hold → Runs (.keyLoad dt path row 0 data) s fun t => t.status = 0 ∧ fld t F.keyPending = 1
            ∧ t.get (Rg.heldLoad n) = x + 1 ∧ (∀ f ∈ layout 0xF098, f ≠ F.keyPending → fld t f = fld u f)
            ∧ leavesRest u t (keysIn [Rg.heldLoad n]) (bothCells (rowCells .live 0xF098 n) clampCells))
        ∧ (u.loadCase n x = .load → Runs (.keyLoad dt path row 0 data) s fun t => t.status = 0
            ∧ (∀ f ∈ [F.keyMaterial, F.keyKind, F.keyUsage, F.keyParent, F.keyParentGen, F.keyRetain], fld t f = imageField img f)
            ∧ fld t F.keyGeneration = u.slotGeneration n + 1 ∧ fld t F.keyState = 1
            ∧ fld t F.keyDepth = u.fld .live 0xF098 parent F.keyDepth + 1
            ∧ forwardsOnly u t sealRegs cells))
      ∧ (imageField img F.keyOp = 2 →
        ((n < 4 ∨ u.slotKind n = 15) → Runs (.keyInvalidate dt path row 0 data) s fun t =>
            t.status = 2 ∧ leavesRest u t (keysIn []) noCells)
        ∧ (4 ≤ n → u.slotKind n ≠ 15 → (u.slotState n = 0 ∨ u.slotState n = 2) → Runs (.keyInvalidate dt path row 0 data) s fun t =>
            t.status = 0 ∧ leavesRest u t (keysIn []) clampCells)
        ∧ (4 ≤ n → u.slotKind n ≠ 15 → u.slotState n = 3 → Runs (.keyInvalidate dt path row 0 data) s fun t => t.status = 0
            ∧ fld t F.keyPending = 0 ∧ t.get (Rg.heldLoad n) = 0
            ∧ leavesRest u t (keysIn [Rg.heldLoad n]) (bothCells (rowCells .live 0xF098 n) clampCells))
        ∧ (4 ≤ n → u.slotKind n ≠ 15 → u.slotState n = 1 → Runs (.keyInvalidate dt path row 0 data) s fun t => t.status = 0
            ∧ fld t F.keyMaterial = 0 ∧ fld t F.keyGeneration = min (u.slotGeneration n + 1) 0xFFFF ∧ fld t F.keyState = 3
            ∧ t.get Key.sweepActive = 1
            ∧ forwardsOnly u t (fun k => sealRegs k ∨ k = Key.sweepActive) cells)))
  ∧ ((∀ (s : State) (dt : Nat),
      let u := s.after dt
      s.operates = true → s.get Key.sweepActive ≠ 0 → (∀ n < 1024, s.get (Rg.heldLoad n) = 0) →
      Runs (.sweepEnd dt) s fun t => t.get Key.sweepActive = 0
        ∧ (∀ n < 1024, u.slotState n = 3 → t.slotState n = 0 ∧ t.slotGeneration n = u.slotGeneration n)
        ∧ (∀ n < 1024, u.slotState n = 1 → u.usable n = false → u.slotKind n ≠ 15 →
            t.slotState n = 2 ∧ t.slotGeneration n = min (u.slotGeneration n + 1) 0xFFFF)
        ∧ (s.get Key.tamperLatched ≠ 0 → (∀ n < 1024, t.fld .live 0xF098 n F.keyMaterial = 0) ∧ ∀ k < 32, t.get (Rg.sessionKey k) = 0)
        ∧ forwardsOnly u t (fun k => sealRegs k ∨ k ∈ [Key.sweepActive, Key.jtagState, Key.jtagUnlock, Key.keyGuardMode]
            ∨ (∃ i < 1024, k = Rg.heldLoad i) ∨ ∃ i < 32, k = Rg.sessionKey i) keyCells)
    ∧ (∀ (s : State) (dt : Nat), s.get Rg.porstLow ≠ 0 → exec (.tamper dt) s = .next (s.after dt))
    ∧ (∀ (s : State) (dt : Nat), s.get Rg.porstLow = 0 → s.get Key.deviceState ≠ 2 → Runs (.tamper dt) s fun t => t.get Key.tamperLatched = 1
        ∧ (s.get Key.keyGuardMode = 1 → (∀ n < 1024, t.fld .live 0xF098 n F.keyMaterial = 0) ∧ ∀ k < 32, t.get (Rg.sessionKey k) = 0)
        ∧ (s.get Key.keyGuardMode ≠ 1 → t.get Key.sweepActive = 1
            ∧ (s.slotState 0 = 1 → t.slotState 0 = 3 ∧ t.fld .live 0xF098 0 F.keyMaterial = 0)
            ∧ (s.slotState 0 ≠ 1 → ∀ f ∈ layout 0xF098, t.fld .live 0xF098 0 f = s.fld .live 0xF098 0 f))
        ∧ (2 ≤ s.get Key.deviceState → t.get Rg.wrapKey = 0)
        ∧ forwardsOnly (s.after dt) t (fun k => sealRegs k ∨ k = Key.sweepActive ∨ k = Key.tamperLatched ∨ k = Rg.wrapKey
            ∨ (∃ i < 1024, k = Rg.heldLoad i) ∨ ∃ i < 32, k = Rg.sessionKey i) keyCells)
    ∧ (∀ (s : State) (dt : Nat), s.get Rg.porstLow = 0 → s.get Key.deviceState = 2 → Runs (.tamper dt) s fun t => t.get Key.tamperLatched = 1
        ∧ t.get Rg.wrapKey = 0 ∧ (∀ n < 1024, ∀ f ∈ layout 0xF098, t.fld .live 0xF098 n f = s.fld .live 0xF098 n f)
        ∧ forwardsOnly (s.after dt) t (fun k => sealRegs k ∨ k = Key.tamperLatched ∨ k = Rg.wrapKey) keyCells))

/-! ### The signature unit -/

/-- R341, R342, R343, R344 (SIGN_DATA, SIGN_DIGEST, VERIFY_DATA, VERIFY_DIGEST, SIGNATURE_OPERATION_END, ATTEST_GENERATE): a row
submitted while the unit works is queued; on the idle unit it runs, or ends with 0x02 for a key that is not usable, that does not
suit or that is slot 1; at the end of its operation a row is done with its verdict, or with a signature under some nonce, unless its key
no longer serves it; attestation
without slot 1 ends with 0x02. -/
def Obligations.SignatureJobsRun : Prop :=
  (∀ (s : State) (dt : Nat) (path : Path) (r : Fin 2) (data : List Byte),
    let u := s.facing dt path
    let x := fun (f : Fld) => bits (leNat data) f.bit f.width
    let key := x F.sjobKeySlot
    let rest := fun (t : State) => leavesRest u t (keysIn [Rg.signUser]) (rowCells .live 0xF099 r.val)
    let fit := key ≠ 1 ∧ u.usable key = true ∧ suits (x F.sjobOp) (u.slotKind key) = true
      ∧ (onData (x F.sjobOp) = true → u.page (x F.sjobPage) F.pageUser = r.val + 1)
    let queued := fun (t : State) => t.status = 0 ∧ t.sjob r.val F.sjobState = 1
      ∧ (∀ f ∈ [F.sjobOp, F.sjobKeySlot, F.sjobPage, F.sjobOffset, F.sjobLength, F.sjobDigest, F.sjobSigR], t.sjob r.val f = x f) ∧ rest t
    let starts := fun (t : State) => t.status = 0 ∧ t.sjob r.val F.sjobState = 2
      ∧ t.get Rg.signUser = (if r.val = 0 then 2 else 4) ∧ rest t
    let ends := fun (st : Nat) (t : State) => t.status = 0 ∧ t.sjob r.val F.sjobState = 3 ∧ t.sjob r.val F.sjobStatus = st
      ∧ t.get Rg.signUser = 0 ∧ rest t
    u.admitsRow path 0xF099 r.val 0 256 = true → data.length = 256 → u.sjob r.val F.sjobState = 0 → x F.sjobState = 1 →
    1 ≤ x F.sjobOp → x F.sjobOp ≤ 4 → x F.sjobOffset ≤ 4095 → x F.sjobLength ≤ 4096 →
    (u.get Rg.signUser ≠ 0 → Runs (.signData dt path r 0 data) s queued ∧ Runs (.signDigest dt path r 0 data) s queued
      ∧ Runs (.verifyData dt path r 0 data) s queued ∧ Runs (.verifyDigest dt path r 0 data) s queued)
    ∧ (u.get Rg.signUser = 0 → u.get Rg.stmtKind = 0 → u.get Rg.attestWanted = 0 → u.sjob (1 - r.val) F.sjobState ≠ 1 →
      (fit → (onData (x F.sjobOp) = true → x F.sjobOffset + x F.sjobLength ≤ 4096) →
        Runs (.signData dt path r 0 data) s starts ∧ Runs (.signDigest dt path r 0 data) s starts
        ∧ Runs (.verifyData dt path r 0 data) s starts ∧ Runs (.verifyDigest dt path r 0 data) s starts)
      ∧ (¬ fit → Runs (.signData dt path r 0 data) s (ends 2) ∧ Runs (.signDigest dt path r 0 data) s (ends 2)
        ∧ Runs (.verifyData dt path r 0 data) s (ends 2) ∧ Runs (.verifyDigest dt path r 0 data) s (ends 2))
      ∧ (fit → onData (x F.sjobOp) = true → 4096 < x F.sjobOffset + x F.sjobLength →
        Runs (.signData dt path r 0 data) s (ends 1) ∧ Runs (.signDigest dt path r 0 data) s (ends 1)
        ∧ Runs (.verifyData dt path r 0 data) s (ends 1) ∧ Runs (.verifyDigest dt path r 0 data) s (ends 1))))
  ∧ (∀ (s : State) (dt : Nat) (r : Fin 2),
    let u := s.after dt
    let op := u.sjob r.val F.sjobOp
    let n := u.sjob r.val F.sjobKeySlot
    let c := curveOf (u.slotKind n)
    let digest := if onData op then
        digestOf (u.slotKind n) (u.gloveData (u.sjob r.val F.sjobPage) (u.sjob r.val F.sjobOffset) (u.sjob r.val F.sjobLength))
      else u.rowOctets .live 0xF099 r.val 16 c.size
    s.operates = true → u.get Rg.signUser = (if r.val = 0 then 2 else 4) → u.sjob r.val F.sjobState = 2 →
    (∀ st, u.signJobFault r.val = some st → Runs (.signatureOperationEnd dt) s fun t => t.sjob r.val F.sjobState = 3
      ∧ t.sjob r.val F.sjobStatus = st ∧ leavesRest u t (keysIn [Rg.signUser, Rg.stmtRun]) (tableCells .live 0xF099))
    ∧ (u.signJobFault r.val = none → Runs (.signatureOperationEnd dt) s fun t => t.sjob r.val F.sjobState = 3 ∧ t.sjob r.val F.sjobStatus = 0
      ∧ t.sjob r.val F.sjobTime = u.vns % 2 ^ 64
      ∧ (signs op = true → ∃ k, 1 ≤ k ∧ k < c.n ∧
          let sig := ecdsaSign c (u.scalarOf n) k digest
          t.rowOctets .live 0xF099 r.val 64 sig.length = sig)
      ∧ (signs op = false → t.sjob r.val F.sjobResult
          = (if ecdsaVerify c (u.publicOf n).1 (u.publicOf n).2 digest (u.rowOctets .live 0xF099 r.val 64 (2 * c.size)) then 1 else 2))
      ∧ leavesRest u t (keysIn [Rg.signUser, Rg.stmtRun]) (tableCells .live 0xF099)))
  ∧ (∀ (s : State) (dt : Nat) (path : Path) (v : BitVec 64),
    let u := s.facing dt path
    u.admits path 0x8300 1 = true →
    (u.usable 1 = false ∨ u.get Key.tamperLatched ≠ 0 → Runs (.attestGenerate dt path v) s fun t => t.status = 2
      ∧ leavesRest u t (keysIn []) noCells)
    ∧ (u.usable 1 = true → u.get Key.tamperLatched = 0 → Runs (.attestGenerate dt path v) s fun t => t.status = 3
      ∧ t.get Key.attestGenerate = 3 ∧ t.get Rg.attestWanted = 1
      ∧ leavesRest u t (keysIn [Key.attestGenerate, Rg.attestWanted, Rg.signUser, Rg.stmtRun])
          (bothCells (tableCells .live 0xF099) clampCells)))

/-! ### The record seal -/

/-- R350, R351 (RECORD_SEAL_ENABLE, SEAL_KEY_SLOT, SEAL_CLOSING_END): enabling a Disabled seal takes it to Running, or to Stalled where its
slots do not serve; disabling takes it to Closing, in which a write is pending and at whose end it is Disabled or runs again; a
change of its slots takes a Running seal to Stalled and a Stalled one to Running as they serve, and one of the seal's key while it closes
ends the open chain; a seal that RecordSealEnable 0 has closed begins its next chain for that cause.
R304, R346, R347, R348, R349 (RECORD_TAKE, RECORD_SEALED, BATCH_CUT): a Running seal takes the record that port 244 gives and holds at
most 64, and a Stalled one drops and counts it; when its job on page 62 is complete the oldest record takes the next sequence number of
the chain and the MAC of the chain's last MAC and itself; a batch that is due covers what was emitted since the last. No record begins to
leave once its copy has expired (R278). That the seal has one job at a time, and when a record takes its fields, is log entry 74; how the
unit is shared is log entry 75. -/
def Obligations.RecordsAreSealed : Prop :=
  ((∀ (s : State) (dt : Nat) (path : Path) (b : Bool),
      let u := s.facing dt path
      let x := if b then 1 else 0
      let st := u.get Key.recordSealState
      u.admits path 0x8400 1 = true → Runs (.recordSealEnable dt path (if b then 1 else 0)) s fun t => t.status = 0
        ∧ t.get Key.recordSealEnable = x
        ∧ (st = 0 → t.get Key.recordSealState = (if b then (if u.sealReady then 2 else 3) else 0))
        ∧ (st = 1 → t.get Key.recordSealState = 1 ∧ t.get Key.recordSealPendingEnable = x)
        ∧ ((st = 2 ∨ st = 3) → t.get Key.recordSealState = (if b then st else 1))
        ∧ forwardsOnly u t (fun k => k = Key.recordSealEnable ∨ sealRegs k) keyCells)
    ∧ (∀ (s : State) (dt : Nat) (path : Path) (sign : Bool) (v : Nat),
      let u := s.facing dt path
      let sub := if sign then 5 else 4
      let st := u.get Key.recordSealState
      u.admits path 0x8400 sub = true → 4 ≤ v → v < 1024 → Runs (.sealKeySlot dt path sign (BitVec.ofNat 64 v)) s fun t => t.status = 0
        ∧ t.get (if sign then Key.sealSignSlot else Key.sealKeySlot) = v
        ∧ (st = 1 → t.get Key.recordSealState = 1 ∧ (t.sealReady = true → u.get Rg.sealCause = 8 → u.get Rg.sealKeyGen ≠ t.sealKeyId →
            t.get Rg.stmtKind = 3 ∧ t.get Rg.chainOpen = 0 ∧ t.get Rg.sealKeyGen = t.sealKeyId))
        ∧ (st = 0 → leavesRest u t (keysIn [if sign then Key.sealSignSlot else Key.sealKeySlot]) noCells)
        ∧ ((st = 2 ∨ st = 3) → t.get Key.recordSealState = (if t.sealReady then 2 else 3))
        ∧ forwardsOnly u t (fun k => k = (if sign then Key.sealSignSlot else Key.sealKeySlot) ∨ sealRegs k) keyCells)
    ∧ (∀ (s : State) (dt : Nat), s.operates = true → s.get Key.deviceState = 0 → s.get Key.recordSealState = 1 → Runs (.sealClosingEnd dt) s fun t =>
        t.get Key.recordSealState = (if s.get Key.recordSealPendingEnable = 0 then 0 else if s.sealReady then 2 else 3)
        ∧ t.get Key.recordSealPendingEnable = 0
        ∧ (s.get Key.recordSealPendingEnable = 0 → s.get Key.recordSealEnable = 0 → t.get Rg.sealCause = 5)
        ∧ forwardsOnly (s.after dt) t sealRegs keyCells))
  ∧ (∀ (s : State) (dt : Nat),
      let u := s.after dt
      s.operates = true →
      (∀ c f a, u.isUp 244 = true → u.pick 244 false u.vtime [7, 6, 5, 4, 3, 2, 1, 0] = (some (c, f), a) → u.expired c = false →
        (u.get Key.recordSealState = 2 → u.get Rg.recordsTaken - u.get Rg.recordsOut < 64 → Runs (.recordTake dt) s fun t =>
          t.get Rg.recordsTaken = u.get Rg.recordsTaken + 1 ∧ (∀ d ∈ t.copies, d.seq ≠ c.seq)
          ∧ forwardsOnly u t sealRegs (rowCells .live 0xF096 sealRow))
        ∧ (u.get Key.recordSealState = 3 → Runs (.recordTake dt) s fun t => t.get Rg.recordsTaken = u.get Rg.recordsTaken
          ∧ t.get Key.sealDrops = u.counted Key.sealDrops ∧ t.get Rg.sealLoss = 1 ∧ (∀ d ∈ t.copies, d.seq ≠ c.seq)
          ∧ forwardsOnly u t sealRegs noCells))
      ∧ (∀ k, (u.get Key.recordSealState = 1 ∨ u.get Key.recordSealState = 2) → u.completes sealRow 1 = true → u.canSeal = true →
          u.aesKey (u.get Key.sealKeySlot) 3 = some k → Runs (.recordSealed dt) s fun t =>
            let i := u.get Rg.recordsOut
            let pdu := u.sealPatch (beBytes (u.get (Rg.recordLength i)) (u.get (Rg.recordOctets i)))
            t.get Rg.recordsOut = i + 1 ∧ t.get Key.lastSequence = u.get Rg.sealNext ∧ t.get Rg.sealNext = u.get Rg.sealNext + 1
            ∧ t.get Rg.sealMac = beNat (cmac k (beBytes 16 (u.get Rg.sealMac) ++ pdu))
            ∧ t.get Key.recordsSealed = u.counted Key.recordsSealed ∧ t.get Rg.sealLoss = 0
            ∧ forwardsOnly u t sealRegs keyCells)
      ∧ (u.completes sealRow 1 = false → u.canSeal = false → Runs (.recordSealed dt) s fun t => leavesRest u t (keysIn []) noCells)
      ∧ (u.cutDue = true → Runs (.batchCut dt) s fun t => t.get Rg.stmtKind = 2 ∧ t.get Rg.sealFirst = u.get Rg.sealNext
          ∧ t.get Rg.sealCount = 0 ∧ t.get Rg.cutAt = u.now
          ∧ leavesRest u t sealRegs (tableCells .live 0xF099)))

/-! ### Consent rings -/

/-- R358, R365, R372 (RING_ENABLE, RING_CLOSING_END): an enable of a Disabled ring that shares a port with another ring ends with 0x04
and changes nothing, and another one makes it Awake, with no member ready and none silent; in Closing the write is pending; a write of
0 to any other ring puts it into Closing and sets its members' RO fields to 0; at the end it is Awake or Disabled as the pending
enable says.
R360, R361, R362, R365, R366 (LOCAL_CONSENT, RING_MESSAGE, RING_PERIOD, COMMIT_WINDOW, SILENCE_TIMEOUT): a message that is not valid is only
counted, and a valid one updates its member's row, whatever the ring's state; a message without ReadyToSleep, and the withdrawal of
LocalConsent, abort a commit window, wake a ring from BusSleep, and are held in BusSleepEntry and past WindowEnd; a ring whose holders
have been gone for RingPeriod enters its window; every period sends a message where a port of the ring carries it, and Sequence rises with
it (R360); a member without messages for longer than SilenceTimeout is
silent. From when silence counts is log entry 76, the sequence of the messages log entry 77. A port that a test isolates receives no
message (R419). -/
def Obligations.RingsFollowConsent : Prop :=
  ((∀ (s : State) (dt : Nat) (path : Path) (r : Fin 32) (b : Bool),
      let u := s.facing dt path
      let x := if b then 1 else 0
      let st := u.get (Key.ringState r.val)
      u.admits path (0x9100 + r.val) 1 = true →
      (st = 0 → u.ringConflict r.val = true → Runs (.ringEnable dt path r 1) s fun t => t.status = 4 ∧ leavesRest u t (keysIn []) noCells)
      ∧ (st = 0 → u.ringConflict r.val = false → Runs (.ringEnable dt path r 1) s fun t => t.status = 0
          ∧ t.get (Key.ringEnable r.val) = 1 ∧ t.get (Key.ringState r.val) = 1
          ∧ (∀ m < 64, t.member r.val m F.memberReady = 0 ∧ t.member r.val m F.memberSilent = 0
              ∧ t.member r.val m F.memberLast = u.vns % 2 ^ 64)
          ∧ leavesRest u t (fun k => k = Key.ringEnable r.val ∨ ringRegs u r.val k) ringCells)
      ∧ (st = 5 → Runs (.ringEnable dt path r (if b then 1 else 0)) s fun t => t.status = 0 ∧ t.get (Key.ringEnable r.val) = x
          ∧ t.get (Key.ringPendingEnable r.val) = x
          ∧ leavesRest u t (keysIn [Key.ringEnable r.val, Key.ringPendingEnable r.val]) noCells)
      ∧ (1 ≤ st → st ≤ 4 → Runs (.ringEnable dt path r 0) s fun t => t.status = 0 ∧ t.get (Key.ringEnable r.val) = 0
          ∧ t.get (Key.ringState r.val) = 5
          ∧ (∀ m < 64, ∀ f ∈ [F.memberReady, F.memberSilent, F.memberHolding, F.memberSeq, F.memberLast, F.memberHeld],
              t.member r.val m f = 0)
          ∧ forwardsOnly u t (fun k => k = Key.ringEnable r.val ∨ ringRegs u r.val k) ringCells))
    ∧ (∀ (s : State) (dt : Nat) (r : Fin 32), s.operates = true → s.get (Key.ringState r.val) = 5 →
      (s.get (Rg.closingEntry r.val) = 0 ∨ s.stepsDone r.val = true) → Runs (.ringClosingEnd dt r) s fun t =>
        t.get (Key.ringState r.val) = (if s.get (Key.ringPendingEnable r.val) = 0 then 0 else 1)
        ∧ t.get (Key.ringPendingEnable r.val) = 0
        ∧ forwardsOnly (s.after dt) t (ringRegs s r.val) ringCells))
  ∧ (∀ (s : State) (dt : Nat) (r : Fin 32),
      let wakes := fun (u t : State) =>
        (u.get (Key.ringState r.val) = 2 → u.now ≤ u.get (Rg.windowEnd r.val) →
          t.get (Key.ringState r.val) = 1 ∧ t.get (Key.abortedCommits r.val) = u.counted (Key.abortedCommits r.val))
        ∧ (u.get (Key.ringState r.val) = 2 → u.get (Rg.windowEnd r.val) < u.now →
          t.get (Key.ringState r.val) = 2 ∧ t.get (Rg.ringHeld r.val) = 1)
        ∧ (u.get (Key.ringState r.val) = 4 → u.get Key.deviceState = 0 → t.get (Key.ringState r.val) = 1)
        ∧ (u.get (Key.ringState r.val) = 3 → t.get (Key.ringState r.val) = 3 ∧ t.get (Rg.ringHeld r.val) = 1)
      let rest := fun (own : Nat) (u t : State) => forwardsOnly u t (fun k => ringRegs u r.val k ∨ k = Rg.heldRings ∨ k = own) ringCells
      let numbered := fun (u t : State) =>
        ((∃ q, u.inRing r.val q = true ∧ u.carriesRing q = true) → t.get (Rg.ringSeq r.val) = (u.get (Rg.ringSeq r.val) + 1) % 256)
        ∧ ((∀ q, u.inRing r.val q = true → u.carriesRing q = false) → t.get (Rg.ringSeq r.val) = u.get (Rg.ringSeq r.val))
      s.operates = true →
      (∀ (p : Port) (sender : BitVec 6) (bs : List Byte),
        let u := s.after dt
        let m := beAt bs 0 1 % 64
        (u.get (Rg.isolated p.val) ≠ 0 → Runs (.ringMessage dt r p sender bs) s fun t => leavesRest u t (keysIn []) noCells)
        ∧ (u.isUp p.val = true → u.get (Rg.isolated p.val) = 0 →
        (u.validMessage r.val p.val sender.toNat bs = false → Runs (.ringMessage dt r p sender bs) s fun t =>
            t.get (Key.badRingMessages r.val) = u.counted (Key.badRingMessages r.val)
            ∧ leavesRest u t (keysIn [Key.badRingMessages r.val]) noCells)
        ∧ (u.validMessage r.val p.val sender.toNat bs = true → Runs (.ringMessage dt r p sender bs) s fun t =>
            t.member r.val m F.memberReady = beAt bs 1 1 / 128 ∧ t.member r.val m F.memberSilent = 0
            ∧ t.member r.val m F.memberSeq = beAt bs 3 1 ∧ t.member r.val m F.memberLast = u.vns % 2 ^ 64
            ∧ (beAt bs 1 1 < 128 → wakes u t) ∧ rest Rg.heldRings u t)))
      ∧ (∀ path : Path,
        let u := s.facing dt path
        u.admits path (0x9100 + r.val) 4 = true → Runs (.localConsent dt path r 0) s fun t => t.status = 0
          ∧ t.get (Key.localConsent r.val) = 0 ∧ wakes u t ∧ rest (Key.localConsent r.val) u t)
      ∧ (let u := s.after dt
        (u.get (Key.ringState r.val) = 2 → Runs (.ringPeriod dt r) s fun t => t.get (Key.ringState r.val) = 2
          ∧ numbered u t ∧ rest Rg.heldRings u t)
        ∧ (u.get (Key.ringState r.val) = 1 → u.holderCount r.val ≠ 0 → Runs (.ringPeriod dt r) s fun t =>
            t.get (Key.ringState r.val) = 1 ∧ t.get (Rg.consentSince r.val) = 0
            ∧ numbered u t ∧ rest Rg.heldRings u t)
        ∧ (u.get (Key.ringState r.val) = 1 → u.holderCount r.val = 0 → u.get (Rg.consentSince r.val) ≠ 0 →
            u.get (Rg.consentSince r.val) - 1 + ms (u.ring r.val F.ringPeriod) ≤ u.now → Runs (.commitWindow dt r) s fun t =>
              t.get (Key.ringState r.val) = 2 ∧ t.get (Rg.windowEnd r.val) = u.now + ms (u.ring r.val F.ringWindow)
              ∧ numbered u t ∧ rest Rg.heldRings u t)
        ∧ (∀ m : Fin 64, 1 ≤ u.get (Key.ringState r.val) → u.get (Key.ringState r.val) ≤ 4 → u.member r.val m.val F.memberValid = 1 →
            u.get (Rg.memberSeen (64 * r.val + m.val)) + u.ring r.val F.ringSilence * ms (u.ring r.val F.ringPeriod) < u.now →
            Runs (.silenceTimeout dt r m) s fun t => t.member r.val m.val F.memberSilent = 1
              ∧ t.get (Key.ringState r.val) = u.get (Key.ringState r.val) ∧ leavesRest u t (ringRegs u r.val) ringCells)))

/-- R366, R368, R369, R370, R376 (WINDOW_END, SLEEP_STEP_COMPLETE, BUS_SLEEP_FORCED, FALSE_WAKE_TIMEOUT, WAKE_UP_PULSE,
WAKE_UP_REQUEST, TC10_SLEEP_REQUEST): at WindowEnd every port of the ring is held in low power and the Up ones flush; with the last sleep
step the ring is in BusSleep, or Awake where a request is held; 20 ms after WindowEnd the steps are forced, in a Closing that began in
BusSleepEntry too; a wake without traffic (the model's reading of the instant itself: log entry 130) and with local consent returns to
sleep, from the commit window too; a TC10 wake wakes the ring (log entry 78), and a TC10 sleep request is acknowledged only in
BusSleepEntry, and refused on a port outside any ring; a port that a test isolates hears neither (R419). That BusSleeps counts at the last
step is log entry 80, and that a port which is not Up has no step to complete, so that a ring with none Up is in BusSleep at once, log
entry 158. -/
def Obligations.RingsSleepAndWake : Prop :=
  ∀ (s : State) (dt : Nat) (r : Fin 32) (p : Port),
    let u := s.after dt
    let st := u.get (Key.ringState r.val)
    let rest := fun (t : State) => forwardsOnly u t (fun k => ringRegs u r.val k ∨ testRegs k) (bothCells ringCells testCells)
    let somewhereUp := ∃ q, u.inRing r.val q = true ∧ u.portState q = 2
    let sleeps := fun (t : State) =>
      ((u.get (Rg.ringHeld r.val) = 0 ∨ somewhereUp) → ∀ q, u.inRing r.val q = true → t.get (Rg.lowPower q) = 1
        ∧ (u.portState q = 2 → t.portState q = 4 ∧ t.get (Key.linkDownReason q) = 2))
      ∧ (somewhereUp → t.get (Key.ringState r.val) = 3)
      ∧ (¬ somewhereUp → t.get (Key.ringState r.val) = (if u.get (Rg.ringHeld r.val) = 0 then 4 else 1))
    s.operates = true →
    (st = 2 → u.get (Rg.windowEnd r.val) ≤ u.now → Runs (.windowEnd dt r) s fun t => sleeps t ∧ rest t)
    ∧ (st = 3 → u.inRing r.val p.val = true →
      ((∃ q, u.inRing r.val q = true ∧ q ≠ p.val ∧ u.get (Rg.stepDone q) = 0) → Runs (.sleepStepComplete dt r p) s fun t =>
          t.get (Rg.stepDone p.val) = 1 ∧ t.get (Key.ringState r.val) = 3 ∧ leavesRest u t (keysIn [Rg.stepDone p.val]) noCells)
      ∧ ((∀ q, u.inRing r.val q = true → q ≠ p.val → u.get (Rg.stepDone q) ≠ 0) → Runs (.sleepStepComplete dt r p) s fun t =>
          t.get (Key.ringState r.val) = (if u.get (Rg.ringHeld r.val) = 0 then 4 else 1)
          ∧ t.get (Key.busSleeps r.val) = u.counted (Key.busSleeps r.val) ∧ rest t))
    ∧ ((st = 3 ∨ (st = 5 ∧ u.get (Rg.closingEntry r.val) ≠ 0)) → u.get (Rg.windowEnd r.val) + ms 20 ≤ u.now →
        Runs (.busSleepForced dt r) s fun t =>
          t.get (Key.ringState r.val) = (if st = 5 then 5 else if u.get (Rg.ringHeld r.val) = 0 then 4 else 1)
          ∧ (st = 5 ∨ u.get (Rg.ringHeld r.val) = 0 → ∀ q, u.inRing r.val q = true → t.get (Rg.stepDone q) ≠ 0)
          ∧ t.get (Key.busSleepsForced r.val)
            = u.counted (Key.busSleepsForced r.val) ((u.ringPorts r.val).filter fun q => u.get (Rg.stepDone q) == 0).length
          ∧ rest t)
    ∧ ((st = 1 ∨ st = 2) → u.get (Rg.ringWoke r.val) ≠ 0 → u.get (Rg.ringWoke r.val) - 1 + ms (u.ring r.val F.ringFalseWake) ≤ u.now →
      (u.heardSince r.val (u.get (Rg.ringWoke r.val)) = false → u.get (Key.localConsent r.val) ≠ 0 →
        Runs (.falseWakeTimeout dt r) s fun t => t.get (Key.falseWakes r.val) = u.counted (Key.falseWakes r.val) ∧ sleeps t ∧ rest t)
      ∧ (u.get (Key.localConsent r.val) = 0 ∨ u.heardSince r.val (u.get (Rg.ringWoke r.val)) = true →
        Runs (.falseWakeTimeout dt r) s fun t => t.get (Key.ringState r.val) = st
        ∧ t.get (Rg.ringWoke r.val) = 0 ∧ leavesRest u t (keysIn [Rg.ringWoke r.val]) noCells))
    ∧ (st = 4 → u.ringOf p.val = some r.val → u.kind p.val = 2 → u.get Key.deviceState = 0 →
      u.get (Rg.isolated p.val) = 0 →
      (u.get (Rg.lowPower p.val) ≠ 0 → Runs (.wakeUpPulse dt p) s fun t => t.get (Key.ringState r.val) = 1 ∧ rest t)
      ∧ (Runs (.wakeUpRequest dt p) s fun t => t.get (Key.ringState r.val) = 1 ∧ rest t))
    ∧ (u.kind p.val = 2 → u.get (Rg.isolated p.val) = 0 →
      (u.ringOf p.val = some r.val → Runs (.tc10SleepRequest dt p) s fun t =>
        t.outs = [.signal p.val (if st = 3 then sigSleepAck else sigSleepRefused) 0] ∧ leavesRest u t (keysIn []) noCells)
      ∧ (u.ringOf p.val = none → Runs (.tc10SleepRequest dt p) s fun t =>
        t.outs = [.signal p.val sigSleepRefused 0] ∧ leavesRest u t (keysIn []) noCells))
    ∧ (u.get (Rg.isolated p.val) ≠ 0 →
      (Runs (.wakeUpPulse dt p) s fun t => leavesRest u t (keysIn []) noCells)
      ∧ (Runs (.wakeUpRequest dt p) s fun t => leavesRest u t (keysIn []) noCells)
      ∧ (Runs (.tc10SleepRequest dt p) s fun t => t.outs = [] ∧ leavesRest u t (keysIn []) noCells))

/-! ### Wake inputs and sleep -/

/-- R373, R374 (WAKE_INPUT_ACTIVATION, WAKE_INPUT_DEACTIVATION, WAKE_INPUT_STUCK, WAKE_INPUT_UNMASK): an activation of a watched input is
counted, and the one that finds 16 wakes in 60 s masks the input as chatter; an input that is Active for 10 s without a frame on the ports
of its rings, decided or still arriving, is masked as stuck; one that has been inactive for 100 ms is unmasked. An input with Enable 0 is
neither watched nor counted, and while PORST_N is low no activation is seen (R455). That a frame which is not yet decided, or which ended
without a decision, keeps an input from being masked as stuck is log entry 130.
R356, R357, R378, R380, R381, R382 (SLEEP_ENTRY, SLEEP_ENTRY_COMPLETE, SLEEP_ENTRY_TIMEOUT, DEVICE_WAKE): with sleep enabled and every
enabled ring in BusSleep the device enters SleepEntry, and whether the image fits is settled then; once its ports have flushed it keeps an
image, or none where retention is off or the image did not fit, and is Asleep, with INH_OUT low, or Waking at once where a request is
held; past SleepEntryTimeout it sleeps without an image and counts it; a wake with an image that reads back unaltered and whose safety
segment has the digest recorded runs again (R447), and one without it is a cold start of its kind (R382). The size of the image beyond its
rows, its keys and the segment is log entry 26, the reasons of the flush log entry 79, and what the world contributes to a wake log entry
82. -/
def Obligations.TheDeviceSleepsAndWakes : Prop :=
  (∀ (s : State) (dt : Nat) (i : Fin 16),
      let u := s.after dt
      let n := i.val
      let counted := fun (t : State) (f : Fld) => t.wakeIn n f = min (u.wakeIn n f + 1) (2 ^ 32 - 1)
      let others := fun (t : State) => ∀ j < 16, j ≠ n → ∀ f ∈ layout 0xF0A3, t.wakeIn j f = u.wakeIn j f
      (u.wakeIn n F.wakeEnable ≠ 1 →
        (Runs (.wakeInputActivation dt i) s fun t => leavesRest u t (keysIn []) noCells)
        ∧ (Runs (.wakeInputDeactivation dt i) s fun t => leavesRest u t (keysIn []) noCells)
        ∧ (Runs (.wakeInputStuck dt i) s fun t => leavesRest u t (keysIn []) noCells))
      ∧ (u.wakeIn n F.wakeEnable = 1 →
      (u.get Rg.porstLow ≠ 0 → Runs (.wakeInputActivation dt i) s fun t => leavesRest u t (keysIn []) noCells)
      ∧ (u.wakeIn n F.wakeActive = 0 → u.get Rg.porstLow = 0 → Runs (.wakeInputActivation dt i) s fun t => t.wakeIn n F.wakeActive = 1
        ∧ counted t F.wakeActivations ∧ t.get (Rg.inputOn n) = u.now + 1
        ∧ (u.wakeIn n F.wakeMasked = 0 → 16 ≤ u.recentWakes n →
            t.wakeIn n F.wakeMasked = 1 ∧ t.wakeIn n F.wakeCause = 1 ∧ counted t F.wakeMaskEvents)
        ∧ (u.wakeIn n F.wakeMasked = 0 → u.recentWakes n < 16 → t.wakeIn n F.wakeMasked = 0
            ∧ t.get (Rg.inputWake n (u.wakeSlot n)) = u.now + 1)
        ∧ others t)
      ∧ (u.wakeIn n F.wakeActive = 1 → Runs (.wakeInputDeactivation dt i) s fun t => t.wakeIn n F.wakeActive = 0
        ∧ t.get (Rg.inputOff n) = u.now + 1 ∧ others t)
      ∧ (u.wakeIn n F.wakeActive = 1 → u.wakeIn n F.wakeMasked = 0 → u.get (Rg.inputOn n) - 1 + ms 10000 ≤ u.now →
          (∀ r q, (u.wakeIn n F.wakeRings).testBit r = true → u.inRing r q = true →
            u.get (Rg.trafficAt q) < u.get (Rg.inputOn n) ∧ u.get (Rg.arrivalAt q) < u.get (Rg.inputOn n)
            ∧ ∀ f ∈ u.frames, f.port = q → f.second = false → f.decided = none → f.arrived + 1 < u.get (Rg.inputOn n)
                ∨ u.isRingMessage q f f.parse = true) →
          Runs (.wakeInputStuck dt i) s fun t => t.wakeIn n F.wakeMasked = 1 ∧ t.wakeIn n F.wakeCause = 2
            ∧ counted t F.wakeMaskEvents ∧ others t)
      ∧ (u.wakeIn n F.wakeMasked = 0 → (∃ r < 32, (u.wakeIn n F.wakeRings).testBit r = true ∧ u.arrivedSince r (u.get (Rg.inputOn n)) = true) →
          Runs (.wakeInputStuck dt i) s fun t => leavesRest u t (keysIn []) noCells)
      ∧ (u.wakeIn n F.wakeMasked = 1 → u.wakeIn n F.wakeActive = 0 → u.get (Rg.inputOff n) - 1 + ms 100 ≤ u.now →
          Runs (.wakeInputUnmask dt i) s fun t => t.wakeIn n F.wakeMasked = 0 ∧ t.wakeIn n F.wakeCause = 0 ∧ others t)))
  ∧ ((∀ (s : State) (dt : Nat), (s.after dt).maySleep = true → Runs (.sleepEntry dt) s fun t => t.get Key.deviceState = 1
      ∧ t.get Rg.heldRings = 0 ∧ t.vtime = (s.after dt).vtime ∧ t.saved = s.saved
      ∧ t.get Rg.imageFits = (if (s.after dt).imageSize ≤ 2097152 then 1 else 0)
      ∧ (s.get Key.commitState ≤ 1 → s.get Key.recordSealState = 2 → t.get Key.recordSealState = 1)
      ∧ ∀ r < 32, t.get (Key.ringState r) = s.get (Key.ringState r))
    ∧ (∀ (s : State) (dt : Nat),
      let u := s.after dt
      let asleep := fun (t : State) => t.get Key.deviceState = (if u.get Rg.heldRings = 0 then 2 else 3)
        ∧ t.get Rg.inhLow = (if u.get Rg.heldRings = 0 then 1 else 0) ∧ t.frames = [] ∧ t.copies = [] ∧ t.sketch = [] ∧ t.fair = []
        ∧ t.get Rg.asleepTime = u.vtime
      (u.readyToSleep = true →
        (u.get Key.retentionEnable = 0 → Runs (.sleepEntryComplete dt) s fun t => t.saved = none ∧ t.get Rg.sleepKind = 2 ∧ asleep t)
        ∧ (u.get Key.retentionEnable ≠ 0 → Runs (.sleepEntryComplete dt) s fun t =>
            (if u.get Rg.imageFits ≠ 0 then t.saved ≠ none ∧ t.get Rg.sleepKind = 1
              else t.saved = none ∧ t.get Rg.sleepKind = 2 ∧ t.get Key.retentionOverflows = u.counted Key.retentionOverflows)
            ∧ asleep t))
      ∧ (u.get Key.deviceState = 1 → u.get Rg.sleepFrom ≠ 0 → u.get Rg.sleepFrom - 1 + ms (u.get Key.sleepEntryTimeout) ≤ u.now →
          Runs (.sleepEntryTimeout dt) s fun t => t.saved = none ∧ t.get Key.failSafeSleeps = u.counted Key.failSafeSleeps
            ∧ t.get Rg.sleepKind = 3 ∧ asleep t))
    ∧ (∀ (s : State) (dt : Nat) (env : StartEnv) (img : Saved), s.get Key.deviceState = 3 → s.saved = some img → env.segmentOk = true →
        beNat (sha256 img.segment) = Store.get regDefault img.regs Rg.segmentDigest →
        Runs (.deviceWake dt env) s fun t => t.get Key.deviceState = 0 ∧ t.get Key.lastWakeKind = 1 ∧ t.get Rg.wrapKey = 0
          ∧ t.vtime = vehicle ((s.after dt).get Rg.asleepTime + 2000000000 * env.ticks) ∧ t.saved = s.saved)
    ∧ (∀ (s : State) (dt : Nat) (env : StartEnv), s.get Key.deviceState = 3 →
        (∀ img, s.saved = some img → env.segmentOk = false ∨ beNat (sha256 img.segment) ≠ Store.get regDefault img.regs Rg.segmentDigest) →
        Runs (.deviceWake dt env) s fun t => t.get Key.lastWakeKind = (if s.saved = none ∧ s.get Rg.sleepKind = 3 then 3 else 2)
          ∧ t.get Rg.wrapKey = 0 ∧ t.get Key.startupState ∈ [0x02, 0x0B, 0x10, 0x11, 0x12, 0x13, 0x14]
          ∧ (env.injectionOk = false → t.get Key.deviceState = 0 ∧ t.get Key.startupState = 2 ∧ t.get Key.safetyState = 4)))

/-! ### Self-tests -/

/-- R414, R416, R417, R418, R420, R421, R422 (SELF_TEST_RUN, SELF_TEST_ABORT, TEST_STEPS_END, RESTORING_END, HOLD_THRESHOLD,
REFCLK_MEASUREMENT, TEMPERATURE_MEASUREMENT): a start ends with the first status that applies, or holds its port and still runs; an abort
stops a running test with its cause and the signature of the steps that ran; the steps' codes give the signature; at the end of the
restore the verdict stands in the row with its cause, which is 0x08 where the read-back differs, and the port is free; a measurement out
of range stops every running test, one within it only sets its object, and while the temperature sensor's own test runs none is taken
(R414). How many steps an aborted run had, and their codes, are open (log entry 24); its verdict is log entry 87, the wait for the frame
on the wire log entry 88, and the status of a held start log entry 131. -/
def Obligations.SelfTestsRun : Prop :=
  let signature := fun steps : List (Byte × StepResult) =>
    crc32c (steps.flatMap fun c => [c.1, match c.2 with | .inside => 0#8 | .below => 1#8 | .above => 2#8])
  (∀ (s : State) (dt : Nat) (path : Path) (r : Nat),
    let u := s.facing dt path
    let v := BitVec.ofNat 64 r
    r < 66 →
    (u.admits path 0xB000 1 = true →
      (u.test r F.stbState = 1 → Runs (.selfTestRun dt path v) s fun t => t.status = 3 ∧ leavesRest u t (keysIn []) noCells)
      ∧ (u.test r F.stbState = 2 → Runs (.selfTestRun dt path v) s fun t => t.status = 3 ∧ t.test r F.stbPending = 1
          ∧ t.get Key.selfTestRun = 3 ∧ leavesRest u t (keysIn [Key.selfTestRun, Rg.testLast]) testCells)
      ∧ (u.test r F.stbState = 0 → ∀ st, u.testCase r = .refuse st → Runs (.selfTestRun dt path v) s fun t => t.status = st
          ∧ leavesRest u t (keysIn []) noCells)
      ∧ (u.test r F.stbState = 0 → u.testCase r = .notStarted → Runs (.selfTestRun dt path v) s fun t => t.status = 0
          ∧ t.test r F.stbVerdict = 5 ∧ t.get Key.selfTestRun = 0 ∧ t.get Rg.testLast = 0
              ∧ leavesRest u t (keysIn [Key.selfTestRun, Rg.testLast]) testCells)
      ∧ (u.test r F.stbState = 0 → u.testCase r = .start → Runs (.selfTestRun dt path v) s fun t => t.status = 3
          ∧ t.test r F.stbState = 1 ∧ t.get Key.selfTestRun = 3 ∧ t.get (Rg.testFrom r) = u.now ∧ t.get Rg.testLast = r + 1
          ∧ (r < 64 → t.get (Rg.testedBy (u.holderOf r)) = r + 1
              ∧ (u.sending (u.holderOf r) = none → t.get (Rg.isolated (u.holderOf r)) ≠ 0))
          ∧ forwardsOnly u t (fun k => testRegs k ∨ k = Rg.testLast) testCells))
    ∧ (u.admits path 0xB000 2 = true → u.test r F.stbState = 1 → Runs (.selfTestAbort dt path v) s fun t => t.status = 0
        ∧ t.test r F.stbState = 2 ∧ t.get (Rg.testCause r) = 2
        ∧ (∀ d ok up, u.operates = true → u.test r F.stbPending = 0 → u.get Rg.periodicFrom = 0 →
            Runs (.restoringEnd d (Fin.ofNat 128 r) ok up) t fun x => x.test r F.stbVerdict = 4
              ∧ x.test r F.stbCause = (if ok then 2 else 8))
        ∧ (∃ steps : List (Byte × StepResult), steps.length = t.get (Rg.testSteps r) ∧ t.get (Rg.testSignature r) = signature steps)
        ∧ leavesRest u t (keysIn [u.keyAt 0xB000 2, Rg.testCause r, Rg.testSignature r, Rg.testSteps r]) testCells)
    ∧ (u.admits path 0xB000 2 = true → u.test r F.stbState = 2 → Runs (.selfTestAbort dt path v) s fun t => t.status = 0
        ∧ t.test r F.stbPending = 0 ∧ (∀ f ∈ layout 0xF0B1, f ≠ F.stbPending → t.test r f = u.test r f)
        ∧ leavesRest u t (keysIn [u.keyAt 0xB000 2]) testCells)
    ∧ (u.admits path 0xB000 2 = true → u.test r F.stbState ≠ 1 → u.test r F.stbState ≠ 2 →
        Runs (.selfTestAbort dt path v) s fun t => t.status = 0 ∧ leavesRest u t (keysIn [u.keyAt 0xB000 2]) noCells))
  ∧ (∀ (s : State) (dt : Nat) (row : Fin 128) (codes : List (Byte × StepResult)),
    s.operates = true → s.test row.val F.stbState = 1 → Runs (.testStepsEnd dt row codes) s fun t =>
      t.test row.val F.stbState = 2 ∧ t.get (Rg.testSteps row.val) = codes.length
      ∧ t.get (Rg.testSignature row.val) = signature codes
      ∧ leavesRest (s.after dt) t (keysIn [Rg.testSignature row.val, Rg.testSteps row.val]) testCells)
  ∧ (∀ (s : State) (dt : Nat) (row : Fin 128) (ok up : Bool),
    let u := s.after dt
    let p := u.get (Rg.testPort row.val) - 1
    s.operates = true → u.test row.val F.stbState = 2 → u.test row.val F.stbPending = 0 → u.get Rg.periodicFrom = 0 →
    u.get (Rg.testPort row.val) ≤ 256 →
    Runs (.restoringEnd dt row ok up) s fun t => t.test row.val F.stbState = 0
      ∧ t.test row.val F.stbVerdict = u.testVerdict row.val ok
      ∧ t.test row.val F.stbCause = (if ok then u.get (Rg.testCause row.val) % 2 ^ F.stbCause.width else 8)
      ∧ t.test row.val F.stbSteps = u.get (Rg.testSteps row.val) % 2 ^ F.stbSteps.width
      ∧ t.test row.val F.stbSignature = u.get (Rg.testSignature row.val) % 2 ^ 32
      ∧ (row.val < 64 → t.get (Rg.testedBy p) = 0 ∧ t.get (Rg.isolated p) = 0)
      ∧ (row.val < 64 → u.portState p = 2 → up = false → t.portState p = 4)
      ∧ (u.get Rg.testLast = row.val + 1 → t.get Key.selfTestRun = 0)
      ∧ forwardsOnly u t (fun k => testRegs k ∨ k = Rg.testLast ∨ portRegs p k) (bothCells testCells portCells))
  ∧ (∀ (s : State) (dt : Nat) (p : Port),
    let u := s.after dt
    let row := u.get (Rg.testedBy p.val) - 1
    s.operates = true → u.get (Rg.testedBy p.val) ≠ 0 → row < 66 → u.portState p.val = 2 → u.test row F.stbState = 1 →
    u.get (Rg.testThreshold row) ≤ ((List.range 8).map fun tc => u.depthCells p.val tc).sum → Runs (.holdThreshold dt p) s fun t =>
      t.test row F.stbState = 2 ∧ t.get (Rg.testCause row) = 1
      ∧ leavesRest u t (keysIn [Rg.testCause row, Rg.testSignature row, Rg.testSteps row]) testCells)
  ∧ (∀ (s : State) (dt count : Nat),
    let u := s.after dt
    s.operates = true → Runs (.refclkMeasurement dt count) s fun t =>
      t.get Key.refclkDeviation = ofSigned 32 (max (-2147483648) (min 2147483647 (refclkPpm count))) ∧ t.get Key.xtalStatus = 0
      ∧ (100 < (refclkPpm count).natAbs → ∀ r < 66, u.test r F.stbState = 1 → t.test r F.stbState = 2 ∧ t.get (Rg.testCause r) = 3)
      ∧ leavesRest u t (fun k => k = Key.refclkDeviation ∨ k = Key.xtalStatus ∨ testRegs k) testCells)
  ∧ (∀ (s : State) (dt : Nat) (x : Int),
    let u := s.after dt
    let read := fun (t : State) => t.get Key.junctionTemperature = ofSigned 32 (max (-2147483648) (min 2147483647 x))
    s.operates = true →
    (u.test 65 F.stbState = 0 → (x < -40000 ∨ 135000 < x) → Runs (.temperatureMeasurement dt x) s fun t => read t
      ∧ (∀ r < 66, u.test r F.stbState = 1 → t.test r F.stbState = 2 ∧ t.get (Rg.testCause r) = 4)
      ∧ leavesRest u t (fun k => k = Key.junctionTemperature ∨ testRegs k) testCells)
    ∧ (u.test 65 F.stbState = 0 → -40000 ≤ x → x ≤ 135000 → Runs (.temperatureMeasurement dt x) s fun t => read t
      ∧ leavesRest u t (keysIn [Key.junctionTemperature]) noCells)
    ∧ (u.test 65 F.stbState ≠ 0 → Runs (.temperatureMeasurement dt x) s fun t => leavesRest u t (keysIn []) noCells))

/-! ### Functional safety -/

/-- R190, R386, R388, R393, R394, R395, R396, R399, R401, R407 (FAULT_DETECTED, RESYNCHRONISATION_END, PARTITION_RESTART_END,
ENTER_FAIL_SAFE, SAFE_RELEASE, WATCHDOG_SERVICE, WATCHDOG_EXPIRY): a sampling divergence starts a resynchronisation, a core mismatch a
partition restart and the third mismatch in a second fail-safe; while the partition is stopped SAFE_N is asserted and ports 240 to 243 are
not Up; an invalid two-rail code of the comparator is a mismatch too, and a failed injection test or a collector's invalid code fail-safe
(R386); a corrected error is counted alone; a lookup's uncorrectable error discards its frame and frees the row of an unstaged table, and
a failed cell CRC ends the copy on the wire with the Varnish (R190, R401); a restart clears the partition's data memory and ends in
Running, or in fail-safe where its injection test failed, and not at all where the firmware's digest is not the one recorded (log entry
138); a SleepEntry that waited for a commit which the stop ends goes on (R379); SAFE_N is released only after a passed injection test; a
late watchdog service is fail-safe, and so is an expiry at the instant of a mismatch, with both logged (R407). Which group a report
records, and that the third mismatch counts whatever its kind, is log entry 84; that a copy which has begun to leave outlives the lookup's
error is log entry 148; that a resynchronisation in a start or a restart leaves SafetyState is log entry 138. -/
def Obligations.TheSafetyPartitionReacts : Prop :=
  let stops := fun (u t : State) (st : Nat) => t.get Key.safetyState = st ∧ t.get Rg.safeReleased = 0
    ∧ (∀ q ∈ [240, 241, 242, 243], u.kind q = 7 → t.portState q ≠ 2)
    ∧ (u.get Key.commitState = 2 → t.get Key.commitState = 1 ∧ t.get Key.sketchCommit = 3)
    ∧ (u.get Key.deviceState = 1 → u.get Rg.sleepFrom = 0 → u.get Key.commitState = 2 → t.get Rg.sleepFrom = u.now + 1)
  let logged := fun (u t : State) (source reaction unit : Nat) => u.get Key.faultLogCount < 32 →
    u.get Key.faultLogCount < t.get Key.faultLogCount ∧ t.fld .live 0xF0B0 (u.get Key.faultLogCount) F.flogSource = source
      ∧ t.fld .live 0xF0B0 (u.get Key.faultLogCount) F.flogReaction = reaction
      ∧ t.fld .live 0xF0B0 (u.get Key.faultLogCount) F.flogUnit = unit
  let log := keysIn [Key.faultLogCount, Key.faultLogOverflow]
  (∀ (s : State) (dt : Nat) (groups : BitVec 8) (edge : Bool),
    let u := s.after dt
    let soft := groups = 0x20#8 ∧ edge = true
    let near := u.mismatchesNear
    s.operates = true →
    (u.get Key.safetyState = 2 → Runs (.faultDetected dt (.lockstep groups edge)) s fun t => leavesRest u t (keysIn []) noCells)
    ∧ (u.get Key.safetyState = 4 → Runs (.faultDetected dt (.lockstep groups edge)) s fun t =>
      t.get Key.mismatches = u.counted Key.mismatches ∧ t.get Key.safetyState = 4 ∧ t.get Key.failSafeCause = u.get Key.failSafeCause
      ∧ leavesRest u t safetyRegs safetyCells)
    ∧ (u.get Key.safetyState ≠ 2 → u.get Key.safetyState ≠ 4 → Runs (.faultDetected dt (.lockstep groups edge)) s fun t =>
      t.get Key.mismatches = u.counted Key.mismatches ∧ t.get (Rg.mismatchAt 0) = u.now + 1
      ∧ t.get (Rg.mismatchAt 1) = u.get (Rg.mismatchAt 0) ∧ t.get (Rg.mismatchAt 2) = u.get (Rg.mismatchAt 1)
      ∧ (soft → t.get Key.samplingDivergences = u.counted Key.samplingDivergences)
      ∧ (¬ soft → t.get Key.coreMismatches = u.counted Key.coreMismatches
          ∧ t.get Key.lastMismatchGroup = lowestGroup groups.toNat)
      ∧ (near < 2 → soft → t.get Key.safetyState = (if u.get Key.safetyState = 1 then 2 else u.get Key.safetyState))
      ∧ (near < 2 → ¬ soft → stops u t 3)
      ∧ (2 ≤ near → stops u t 4 ∧ t.get Key.failSafeCause = 0x40)
      ∧ (u.get Key.deviceState = 0 ∨ u.get Rg.sleepFrom ≠ 0 → forwardsOnly u t safetyRegs safetyCells)))
  ∧ (∀ (s : State) (dt : Nat) (g : Fin 8),
    let u := s.after dt
    let near := u.mismatchesNear
    s.operates = true → u.get Key.safetyState ≠ 2 → Runs (.faultDetected dt (.comparatorCode g)) s fun t =>
      t.get Key.mismatches = u.counted Key.mismatches ∧ t.get Key.comparatorFaults = u.counted Key.comparatorFaults
      ∧ t.get Key.lastMismatchGroup = g.val ∧ t.get (Rg.mismatchAt 0) = u.now + 1
      ∧ (near < 2 → u.get Key.safetyState ≠ 4 → stops u t 3 ∧ logged u t 3 2 g.val)
      ∧ (2 ≤ near → u.get Key.safetyState ≠ 4 → stops u t 4 ∧ t.get Key.failSafeCause = 0x40 ∧ logged u t 3 3 g.val)
      ∧ (u.get Key.safetyState = 4 → t.get Key.safetyState = 4 ∧ t.get Key.failSafeCause = u.get Key.failSafeCause ∧ logged u t 3 3 g.val)
      ∧ (u.get Key.deviceState = 0 ∨ u.get Rg.sleepFrom ≠ 0 → forwardsOnly u t safetyRegs safetyCells))
  ∧ (∀ (s : State) (dt : Nat) (x : FaultReport) (source unit : Nat),
    let u := s.after dt
    s.operates = true → ((∃ g, x = .injectionFailed g ∧ source = 4 ∧ unit = g.val) ∨ (x = .collectorCode ∧ source = 6 ∧ unit = 0xFF)) →
    Runs (.faultDetected dt x) s fun t => logged u t source 3 unit ∧ (source = 4 → t.get Rg.injectionOk = 0)
      ∧ (u.get Key.safetyState ≠ 4 → stops u t 4 ∧ t.get Key.failSafeCause = source)
      ∧ (u.get Key.safetyState = 4 → t.get Key.safetyState = 4 ∧ t.get Key.failSafeCause = u.get Key.failSafeCause)
      ∧ (u.get Key.deviceState = 0 ∨ u.get Rg.sleepFrom ≠ 0 → forwardsOnly u t safetyRegs safetyCells))
  ∧ (∀ (s : State) (dt : Nat), s.operates = true → Runs (.faultDetected dt .corrected) s fun t =>
      t.get Key.correctedErrors = s.counted Key.correctedErrors ∧ leavesRest (s.after dt) t (keysIn [Key.correctedErrors]) noCells)
  ∧ (∀ (s : State) (dt : Nat) (table : BitVec 16) (row : BitVec 24) (id : Nat),
    let u := s.after dt
    let idx := table.toNat
    let open' := ∃ tab, tableOf idx = some tab ∧ tab.staged = false ∧ row.toNat < tab.rows
    let regs := fun k => k = Key.uncorrectedErrors ∨ log k
    s.operates = true → Runs (.faultDetected dt (.lookup table row id)) s fun t =>
      t.get Key.uncorrectedErrors = u.counted Key.uncorrectedErrors
      ∧ (idx ≠ 0xF0B0 → logged u t 0x21 5 0xFF ∧ (u.get Key.faultLogCount < 32 →
          t.fld .live 0xF0B0 (u.get Key.faultLogCount) F.flogOd = idx ∧ t.fld .live 0xF0B0 (u.get Key.faultLogCount) F.flogRow = row.toNat))
      ∧ (∀ f, u.frame? id = some f → (∀ c ∈ u.copies, c.frame = id → c.begun = false) → (∀ c ∈ t.copies, c.frame ≠ id)
          ∧ (f.complete = true → t.frame? id = none) ∧ (f.complete = false → ∀ x ∈ t.frames, x.id = id → x.stage = .draining))
      ∧ (∀ f, u.frame? id = some f → (∃ c ∈ u.copies, c.frame = id ∧ c.begun = true) → ∀ c ∈ t.copies, c.frame = id → c.begun = true)
      ∧ (∀ tab, tableOf idx = some tab → tab.staged = false → row.toNat < tab.rows →
          t.rowOctets .live idx row.toNat 0 tab.stride = List.replicate tab.stride 0#8)
      ∧ (¬ open' → forwardsOnly u t regs (tableCells .live 0xF0B0))
      ∧ (idx ∉ [0xF002, 0xF003, 0xF098] → forwardsOnly u t regs (bothCells (tableCells .live 0xF0B0) (rowCells .live idx row.toNat))))
  ∧ (∀ (s : State) (dt : Nat) (p : Port),
    let u := s.after dt
    let regs := fun k => k = Key.cellCrcErrors ∨ log k
    s.operates = true →
    Runs (.faultDetected dt (.cellCrc p)) s fun t => t.get Key.cellCrcErrors = u.counted Key.cellCrcErrors ∧ logged u t 0x22 5 p.val
      ∧ (u.sending p.val = none → leavesRest u t regs (tableCells .live 0xF0B0))
      ∧ (∀ c, u.sending p.val = some c → t.get (Key.varnishedFrames c.port) = u.counted (Key.varnishedFrames c.port)
          ∧ (∃ bs, Out.frame c.port bs true ∈ t.outs) ∧ t.copies = u.copies.filter (fun d => !(d.seq == c.seq))
          ∧ forwardsOnly u t regs (tableCells .live 0xF0B0)))
  ∧ (∀ (s : State) (dt : Nat), s.operates = true → s.get Key.safetyState = 2 → Runs (.resynchronisationEnd dt) s fun t =>
      t.get Key.safetyState = 1 ∧ leavesRest (s.after dt) t (keysIn [Key.safetyState]) noCells)
  ∧ (∀ (s : State) (dt : Nat) (ok : Bool) (digest : BitVec 256), s.operates = true → s.get Key.safetyState = 3 →
      (digest.toNat ≠ s.get Rg.segmentDigest → Runs (.partitionRestartEnd dt ⟨ok, digest⟩) s fun t => t.get Key.safetyState = 3
        ∧ t.get Rg.safetyData = 0 ∧ t.get Rg.watchdogAt = 0 ∧ leavesRest (s.after dt) t (keysIn [Rg.safetyData, Rg.watchdogAt]) noCells)
      ∧ (digest.toNat = s.get Rg.segmentDigest →
      Runs (.partitionRestartEnd dt ⟨ok, digest⟩) s fun t => t.get Key.safetyState = (if ok then 1 else 4) ∧ t.get Rg.watchdogAt = 0
        ∧ t.get Rg.safetyData = 0
        ∧ t.get Rg.injectionOk = (if ok then 1 else 0) ∧ (ok = false → t.get Key.failSafeCause = 4)
        ∧ (ok = false → s.get Key.faultLogCount < 32 → t.fld .live 0xF0B0 (s.get Key.faultLogCount) F.flogSource = 4
            ∧ t.fld .live 0xF0B0 (s.get Key.faultLogCount) F.flogUnit < 8)
        ∧ (ok = true ∨ s.get Key.deviceState = 0 ∨ s.get Rg.sleepFrom ≠ 0 → forwardsOnly (s.after dt) t safetyRegs safetyCells)))
  ∧ (∀ (s : State) (dt : Nat) (path : Path) (v : BitVec 64),
    let u := s.facing dt path
    (u.admits path 0xA000 14 = true → Runs (.enterFailSafe dt path v) s fun t => t.status = 0 ∧ t.get Key.safetyState = 4
      ∧ t.get Key.failSafeCause = 0x41 ∧ t.get Rg.safeReleased = 0
      ∧ (∀ q ∈ [240, 241, 242, 243], u.kind q = 7 → t.portState q ≠ 2)
      ∧ (u.get Key.deviceState = 0 ∨ u.get Rg.sleepFrom ≠ 0 → forwardsOnly u t safetyRegs (bothCells safetyCells clampCells)))
    ∧ (u.admits path 0xA000 13 = true → u.get Rg.injectionOk ≠ 0 → Runs (.safeRelease dt path v) s fun t => t.status = 0
      ∧ t.get Rg.safeReleased = 1 ∧ leavesRest u t (keysIn [Rg.safeReleased, Key.safeRelease]) clampCells)
    ∧ (u.admits path 0xA000 13 = true → u.get Rg.injectionOk = 0 → Runs (.safeRelease dt path v) s fun t => t.status = 2
      ∧ leavesRest u t (keysIn []) noCells)
    ∧ (u.admits path 0xA000 15 = true → Runs (.watchdogService dt path v) s fun t => t.status = 0
      ∧ t.get Rg.watchdogAt = u.now + 1 ∧ leavesRest u t (keysIn [Rg.watchdogAt, Key.watchdogService]) clampCells))
  ∧ (∀ (s : State) (dt : Nat),
    let u := s.after dt
    s.operates = true → u.get Rg.watchdogAt ≠ 0 → (u.get Key.safetyState = 1 ∨ u.get Key.safetyState = 2) →
    u.get Rg.watchdogAt - 1 + ms (u.get Key.watchdogPeriod) < u.now → Runs (.watchdogExpiry dt) s fun t =>
      t.get Key.safetyState = 4 ∧ t.get Key.failSafeCause = 5
      ∧ (u.get Key.deviceState = 0 ∨ u.get Rg.sleepFrom ≠ 0 → forwardsOnly u t safetyRegs safetyCells))
  ∧ (∀ (s : State) (dt : Nat),
    let u := s.after dt
    s.operates = true → (u.get Key.safetyState = 3 ∨ u.get Key.safetyState = 4) →
    (u.get (Rg.mismatchAt 0) ≠ u.now + 1 → Runs (.watchdogExpiry dt) s fun t => leavesRest u t (keysIn []) noCells)
    ∧ (u.get (Rg.mismatchAt 0) = u.now + 1 → u.get Rg.watchdogAt ≠ 0 →
      u.get Rg.watchdogAt - 1 + ms (u.get Key.watchdogPeriod) < u.now → Runs (.watchdogExpiry dt) s fun t =>
        t.get Key.safetyState = 4
        ∧ t.get Key.failSafeCause = (if u.get Key.safetyState = 4 then u.get Key.failSafeCause else 5)
        ∧ (u.get Key.safetyState = 4 → u.get Key.faultLogCount < 32 → t.get Key.faultLogCount = u.get Key.faultLogCount + 1)))

/-- R386, R400, R402, R403, R404 (FAULT_DETECTED, TAKE_OVER, PIPELINE_TEST, PIPELINE_TEST_END): a faulty pipeline fails, its decisions in
flight are discarded with their frames and counted in FailoverDiscards, and P4, where it is Idle, begins its take-over check; a report of a
pipeline that has failed is stored without a reaction; with the check passed P4 hosts the ports, and else P4 has failed too; a test is
refused with 0x03 unless P4 is Idle and the pipeline Active, and moves its ports to P4 until it ends; a periodic run goes on to its next
pipeline. Which frames a decision in flight still holds is log entry 57, the reaction and the count of a failover log entry 85, the ports
of a pipeline that failed its test log entry 86, and the order of a periodic run log entry 132. -/
def Obligations.PipelinesFailOver : Prop :=
  (∀ (s : State) (dt : Nat) (n : Fin 5) (m : Fin 3),
    let u := s.after dt
    let k := Key.pipelineState n.val
    let held := fun (i : Nat) => u.now < u.get (Rg.slotUntil n.val i) ∧ u.get (Rg.slotFrame n.val i) ≠ 0
    s.operates = true →
    (u.get k = 2 → Runs (.faultDetected dt (.pipeline n m)) s fun t => t.get k = 2
      ∧ (u.get Key.faultLogCount < 32 → t.get Key.faultLogCount = u.get Key.faultLogCount + 1
          ∧ t.fld .live 0xF0B0 (u.get Key.faultLogCount) F.flogSource = 0x10 + m.val
          ∧ t.fld .live 0xF0B0 (u.get Key.faultLogCount) F.flogUnit = n.val)
      ∧ leavesRest u t (keysIn [Key.faultLogCount, Key.faultLogOverflow]) (tableCells .live 0xF0B0))
    ∧ (u.get k ≠ 2 → u.get Rg.pipeTested = 0 → Runs (.faultDetected dt (.pipeline n m)) s fun t => t.get k = 2
      ∧ (n.val < 4 → u.get (Key.pipelineState 4) = 0 → t.get (Key.pipelineState 4) = 4 ∧ t.get Rg.fenced = n.val + 1
          ∧ t.get Rg.fencedAt = u.now)
      ∧ (n.val < 4 → u.get (Key.pipelineState 4) ≠ 0 → t.get (Key.pipelineState 4) = u.get (Key.pipelineState 4))
      ∧ (n.val = 4 → t.get Key.spareHosts = 255 ∧ t.get Rg.hosted = 0)
      ∧ (∀ i < 64, t.get (Rg.slotUntil n.val i) ≤ u.now ∨ t.get (Rg.slotFrame n.val i) = 0)
      ∧ ((∀ i < 64, ¬ held i) → t.get Key.failoverDiscards = u.get Key.failoverDiscards ∧ leavesRest u t safetyRegs safetyCells)
      ∧ (∀ i < 64, ∀ f, held i → (∀ j < 64, j ≠ i → ¬ held j) → u.frame? (u.get (Rg.slotFrame n.val i) - 1) = some f →
          (∀ c ∈ u.copies, c.frame = f.id → c.begun = false) →
          t.get Key.failoverDiscards = u.counted Key.failoverDiscards ∧ (∀ c ∈ t.copies, c.frame ≠ f.id)
          ∧ (f.complete = true → t.frame? f.id = none))
      ∧ (∀ i < 64, ∀ f, held i → (∀ j < 64, j ≠ i → ¬ held j) → u.frame? (u.get (Rg.slotFrame n.val i) - 1) = some f →
          (∃ c ∈ u.copies, c.frame = f.id ∧ c.begun = true) →
          t.get Key.failoverDiscards = u.get Key.failoverDiscards ∧ t.frames = u.frames ∧ t.copies = u.copies)
      ∧ forwardsOnly u t safetyRegs safetyCells))
  ∧ (∀ (s : State) (dt : Nat) (n : Fin 4) (ok : Bool),
    let u := s.after dt
    s.operates = true → u.get (Key.pipelineState 4) = 4 → u.get Rg.fenced = n.val + 1 → Runs (.takeOver dt ok) s fun t =>
      t.get (Key.pipelineState 4) = (if ok then 1 else 2) ∧ t.get Key.spareHosts = (if ok then n.val else 255)
      ∧ t.get Rg.hosted = (if ok then n.val + 1 else 0) ∧ t.get Rg.fenced = 0
      ∧ t.get Key.failovers = (if ok then u.counted Key.failovers else u.get Key.failovers)
      ∧ leavesRest u t safetyRegs safetyCells)
  ∧ (∀ (s : State) (dt : Nat) (path : Path) (n : Fin 5),
    let u := s.facing dt path
    let ready := u.get (Key.pipelineState 4) = 0 ∧ (n.val < 4 → u.get (Key.pipelineState n.val) = 1)
    u.admits path 0xA010 12 = true →
    (¬ ready → Runs (.pipelineTest dt path (BitVec.ofNat 64 n.val)) s fun t => t.status = 3 ∧ leavesRest u t (keysIn []) noCells)
    ∧ (ready → Runs (.pipelineTest dt path (BitVec.ofNat 64 n.val)) s fun t => t.status = 3 ∧ t.get Key.pipelineTest = 3
        ∧ t.get (Key.pipelineState n.val) = 3 ∧ t.get Rg.pipeTested = n.val + 1
        ∧ (n.val < 4 → t.get (Key.pipelineState 4) = 1 ∧ t.get Key.spareHosts = n.val)
        ∧ leavesRest u t (keysIn [Key.pipelineTest, Key.pipelineState n.val, Key.pipelineState 4, Key.spareHosts, Rg.hosted,
            Rg.pipeTested]) noCells))
  ∧ (∀ (s : State) (dt : Nat) (n m : Fin 5),
    let u := s.after dt
    s.operates = true → u.get Rg.pipeTested = n.val + 1 → n.val < m.val → u.get Rg.periodicFrom ≠ 0 →
    u.get Rg.pipeTurn = m.val + 1 → (m.val < 4 → u.get (Key.pipelineState m.val) = 1) →
    Runs (.pipelineTestEnd dt .passed) s fun t => t.get (Key.pipelineState n.val) = 1 ∧ t.get Rg.pipeTested = m.val + 1
      ∧ t.get (Key.pipelineState m.val) = 3 ∧ t.get Key.pipelineTest = 0 ∧ t.get Key.pipelineTestResult = 0
      ∧ (m.val < 4 → t.get (Key.pipelineState 4) = 1 ∧ t.get Key.spareHosts = m.val)
      ∧ t.get Rg.pipeTurn = (if m.val = 4 then 0 else m.val + 2)
      ∧ leavesRest u t safetyRegs safetyCells)
  ∧ (∀ (s : State) (dt : Nat) (n : Fin 5) (result : TestEnd), s.operates = true → s.get Rg.pipeTested = n.val + 1 →
    s.get Rg.periodicFrom = 0 →
    Runs (.pipelineTestEnd dt result) s fun t => t.get Rg.pipeTested = 0 ∧ t.get Key.pipelineTest = 0
      ∧ t.get Key.pipelineTestResult = (match result with | .passed => 0 | .failed => 1 | .aborted => 2)
      ∧ t.get (Key.pipelineState n.val) = (match result with | .failed => 2 | _ => if n.val = 4 then 0 else 1)
      ∧ (n.val < 4 → result ≠ .failed → t.get (Key.pipelineState 4) = 0 ∧ t.get Key.spareHosts = 255)
      ∧ leavesRest (s.after dt) t safetyRegs safetyCells)

/-- R390 (ISOLATION_VIOLATION): a violation increases IsolationViolations by 1 and stores an entry of source 0x31 whose unit names the
requester, while the fault log has room (R388); it starts no reaction. -/
def Obligations.IsolationViolationsAreLogged : Prop :=
  (∀ (s : State) (dt : Nat) (requester : BitVec 8) (address : BitVec 64),
    let n := s.get Key.faultLogCount
    s.operates = true → n < 32 → Runs (.isolationViolation dt requester address) s fun t =>
      t.get Key.isolationViolations = s.counted Key.isolationViolations ∧ t.get Key.faultLogCount = n + 1
      ∧ t.fld .live 0xF0B0 n F.flogSource = 0x31 ∧ t.fld .live 0xF0B0 n F.flogReaction = 6
      ∧ t.fld .live 0xF0B0 n F.flogUnit = requester.toNat ∧ t.fld .live 0xF0B0 n F.flogAddress = address.toNat
      ∧ leavesRest (s.after dt) t (keysIn [Key.isolationViolations, Key.faultLogCount]) (rowCells .live 0xF0B0 n))

/-- R80, R386, R388, R401, R404, R423 (SCRUB, LATENT_TEST_OVERDUE, PERIODIC_TEST_RUN, PERIODIC_TEST_END, PERIODIC_TEST_LIMIT,
ISOLATION_VIOLATION): a corrected word is counted; a row in error is restored from the Sketch, or zero where its table is not staged, with
what a change of the keys does where it is a key's and the end of its sessions where it is a client's or a session's; the periodic run takes
the rows whose InPeriodic is set and the pipelines in turn, aborts at its limit what it runs, and passes only with every one of them passed;
an isolation violation that finds the fault log full counts in FaultLogOverflow. That a second write begins the run anew is log entry 139,
the order of the pipelines and the operand of the end log entry 132, and when LatentTestAge counts log entry 89. -/
def Obligations.LatentFaultsAreFound : Prop :=
  (∀ (s : State) (dt : Nat), s.operates = true → Runs (.scrub dt [.corrected]) s fun t =>
    t.get Key.correctedErrors = s.counted Key.correctedErrors ∧ leavesRest (s.after dt) t (keysIn [Key.correctedErrors]) noCells)
  ∧ (∀ (s : State) (dt : Nat) (table : BitVec 16) (row : BitVec 24) (tab : Tab),
    let u := s.after dt
    let idx := table.toNat
    let log := keysIn [Key.faultLogCount, Key.faultLogOverflow]
    s.operates = true → tableOf idx = some tab → row.toNat < tab.rows →
    (tab.staged = true → u.get Key.commitState = 0 → Runs (.scrub dt [.row table row]) s fun t =>
      t.rowOctets .fair idx row.toNat 0 tab.stride = u.rowOctets .sketch idx row.toNat 0 tab.stride
      ∧ leavesRest u t log (bothCells (rowCells .fair idx row.toNat) (tableCells .live 0xF0B0)))
    ∧ (tab.staged = false → Runs (.scrub dt [.row table row]) s fun t =>
      t.rowOctets .live idx row.toNat 0 tab.stride = List.replicate tab.stride 0#8
      ∧ (idx = 0xF002 → ∀ k < 32, u.session k F.rsessState ≠ 0 → u.session k F.rsessClient = row.toNat → t.session k F.rsessState = 0
          ∧ t.sessionKey k = none)
      ∧ (idx = 0xF003 → u.session row.toNat F.rsessState ≠ 0 → t.sessionKey row.toNat = none)
      ∧ (idx = 0xF002 ∨ idx = 0xF003 → leavesRest u t (fun k => sessionRegs k ∨ log k)
          (bothCells sessionCells (bothCells (rowCells .live idx row.toNat) (tableCells .live 0xF0B0))))
      ∧ (idx ∉ [0xF002, 0xF003, 0xF098] → leavesRest u t log (bothCells (rowCells .live idx row.toNat) (tableCells .live 0xF0B0)))
      ∧ (idx = 0xF098 → forwardsOnly u t (fun k => sealRegs k ∨ log k) (bothCells keyCells (tableCells .live 0xF0B0)))))
  ∧ (∀ (s : State) (dt : Nat), s.operates = true → 28800 ≤ (s.after dt).latentAge → s.get Rg.overdueTold = 0 →
    s.get Key.faultLogCount < 32 → Runs (.latentTestOverdue dt) s fun t => t.get Rg.overdueTold = 1
      ∧ t.fld .live 0xF0B0 (s.get Key.faultLogCount) F.flogSource = 0x32
      ∧ leavesRest (s.after dt) t (keysIn [Rg.overdueTold, Key.faultLogCount]) (rowCells .live 0xF0B0 (s.get Key.faultLogCount)))
  ∧ (∀ (s : State) (dt : Nat) (path : Path) (v : BitVec 64),
    let u := s.facing dt path
    u.admits path 0xA000 17 = true → Runs (.periodicTestRun dt path v) s fun t => t.status = 3 ∧ t.get Key.periodicTestRun = 3
      ∧ t.get Rg.periodicFrom = u.now + 1 ∧ (∀ r < 66, u.test r F.stbPeriodic ≠ 1 → t.get (Rg.periodicRow r) = 0)
      ∧ (∀ r < 66, u.test r F.stbPeriodic = 1 → t.get (Rg.periodicRow r) ∈ [1, 3, 4])
      ∧ (u.get Rg.pipeTested = 0 → u.get (Key.pipelineState 4) = 0 → u.get (Key.pipelineState 0) = 1 →
          t.get (Key.pipelineState 0) = 3 ∧ t.get (Key.pipelineState 4) = 1 ∧ t.get Rg.pipeTested = 1)
      ∧ forwardsOnly u t (fun k => safetyRegs k ∨ testRegs k) (bothCells testCells clampCells))
  ∧ (∀ (s : State) (dt : Nat) (ok : Bool),
    let u := s.after dt
    s.operates = true → u.get Rg.periodicFrom ≠ 0 →
    (Runs (.periodicTestEnd dt ok) s fun t => t.get Rg.periodicFrom = 0 ∧ t.get Key.periodicTestRun = 0
      ∧ (t.get Key.periodicTestResult = 0 ↔
          ok = true ∧ u.get Rg.pipeTurn = 0 ∧ u.get Rg.pipeOwn = 0 ∧ u.get Rg.pipeBad = 0
            ∧ ∀ r < 66, u.get (Rg.periodicRow r) = 0 ∨ u.get (Rg.periodicRow r) = 2)
      ∧ (ok = true → t.get Rg.injectionOk = 1)
      ∧ t.get Rg.latentBase = 0 ∧ t.get Rg.latentSince = u.now
      ∧ leavesRest u t (fun k => safetyRegs k ∨ testRegs k) noCells)
    ∧ (u.get Rg.periodicFrom - 1 + ms 20 ≤ u.now → Runs (.periodicTestLimit dt) s fun t =>
      (∀ r < 66, t.get (Rg.periodicRow r) = (if u.get (Rg.periodicRow r) = 1 then 4 else u.get (Rg.periodicRow r)))
      ∧ (∀ r < 66, u.test r F.stbState = 1 → u.get (Rg.periodicRow r) = 3 →
          t.test r F.stbState = 2 ∧ t.get (Rg.testCause r) = 7)
      ∧ leavesRest u t testRegs testCells))
  ∧ (∀ (s : State) (dt : Nat) (requester : BitVec 8) (address : BitVec 64),
    s.operates = true → 32 ≤ s.get Key.faultLogCount → Runs (.isolationViolation dt requester address) s fun t =>
      t.get Key.isolationViolations = s.counted Key.isolationViolations
      ∧ t.get Key.faultLogOverflow = s.counted Key.faultLogOverflow
      ∧ leavesRest (s.after dt) t (keysIn [Key.isolationViolations, Key.faultLogOverflow]) noCells)

/-! ### Updates -/

/-- R439, R440, R443 (UPDATE_OPEN, ERASE_COMPLETE, UPDATE_WINDOW_WRITE, ROW_PROGRAMMED): an update of a kind opens on its inactive slot
for the path that opens it, unless a session is open (0x03) or its kind is in trial (0x04); the erased slot receives; a full row is
queued for its owner, once, and programmed into the slot; a row that reads back differently rejects the session; a row that the session
has not written reads 0xFF. The target where no slot of its kind is active is log entry 94, what a failed row holds log entry 95, and what
a row of UpdateWindow reads log entry 98.
R434, R438, R441, R443 (UPDATE_VERIFY, UPDATE_CHECK_END, UPDATE_ACTIVATE, UPDATE_ABORT): a check starts only while receiving, and ends in
Verified, or in Rejected with the code of the first fault; only a verified image is made preferred, in trial, by a write of the copy of the
boot control block that is not in force (its layout is log entry 25, the time of the write log entry 137); an abort programs the row in
progress, discards the queue and erases the target's header. The final status of a check that an abort ends is log entry 95, an update
command with no session log entry 96. -/
def Obligations.UpdatesRun : Prop :=
  ((∀ (s : State) (dt : Nat) (path : Path) (fw : Bool),
      let u := s.facing dt path
      let kind := if fw then 1 else 2
      let v := BitVec.ofNat 64 kind
      u.admits path 0xC100 1 = true → u.recovering = false →
      (u.updateOpen = true → Runs (.updateOpen dt path v) s fun t => t.status = 3 ∧ leavesRest u t (keysIn []) noCells)
      ∧ (u.updateOpen = false → u.get Key.safetyState ≠ 3 → u.get Key.safetyState ≠ 4 →
        (u.get (Rg.trial (kind - 1)) ≠ 0 → Runs (.updateOpen dt path v) s fun t => t.status = 4 ∧ leavesRest u t (keysIn []) noCells)
        ∧ (u.get (Rg.trial (kind - 1)) = 0 → u.activeSlot kind ≤ 1 → Runs (.updateOpen dt path v) s fun t => t.status = 0
          ∧ t.get Key.updateState = 1 ∧ t.get Key.updateOwner = ownerCode path ∧ t.get Rg.updateKind = kind
          ∧ t.get Rg.updateSlot = 1 - u.activeSlot kind ∧ t.get Key.updateQueueFree = 256 ∧ t.get Key.updateReject = 0
          ∧ leavesRest u t updateRegs noCells)))
    ∧ (∀ (s : State) (dt : Nat) (path : Path) (row : BitVec 24),
      let u := s.facing dt path
      u.serves path = true → u.foreignRow path 0xF0C0 row.toNat = false → row.toNat < 32768 → u.get (Rg.updateWritten row.toNat) = 0 →
      exec (.readRow dt path 0xF0C0 row false 0 256) s = .next { u with status := 0, data := List.replicate 256 0xFF#8 })
    ∧ (∀ (s : State) (dt : Nat), s.operates = true → s.get Key.updateState = 1 → Runs (.eraseComplete dt) s fun t =>
        t.get Key.updateState = 2
        ∧ (∀ a, inSlot (s.get Rg.updateKind) (s.get Rg.updateSlot) a = true → t.octet .flash a = 0xFF#8)
        ∧ leavesRest (s.after dt) t (keysIn [Key.updateState])
            (flashCells fun a => inSlot (s.get Rg.updateKind) (s.get Rg.updateSlot) a = true))
    ∧ (∀ (s : State) (dt : Nat) (path : Path) (row : BitVec 24) (data : List Byte),
      let u := s.facing dt path
      let n := row.toNat
      let i := u.get Rg.updateTaken
      u.admitsRow path 0xF0C0 n 0 256 = true → data.length = 256 →
      (u.ownsUpdate path = false → Runs (.updateWindowWrite dt path row 0 data) s fun t => t.status = 2 ∧ leavesRest u t (keysIn []) noCells)
      ∧ (u.ownsUpdate path = true → u.get Key.updateState = 2 → u.get (Rg.updateWritten n) ≠ 0 →
        Runs (.updateWindowWrite dt path row 0 data) s fun t => t.status = 2 ∧ leavesRest u t (keysIn []) noCells)
      ∧ (u.ownsUpdate path = true → u.get Key.updateState = 2 → u.get (Rg.updateWritten n) = 0 → 256 ≤ i - u.get Rg.updateDone →
        Runs (.updateWindowWrite dt path row 0 data) s fun t => t.status = 3 ∧ leavesRest u t (keysIn []) noCells)
      ∧ (u.ownsUpdate path = true → u.get Key.updateState = 2 → u.get (Rg.updateWritten n) = 0 → i - u.get Rg.updateDone < 256 →
        Runs (.updateWindowWrite dt path row 0 data) s fun t => t.status = 0 ∧ t.get Rg.updateTaken = i + 1
          ∧ t.get (Rg.updateRow i) = n ∧ t.get (Rg.updateData i) = leNat data ∧ t.get (Rg.updateWritten n) ≠ 0
          ∧ leavesRest u t (keysIn [Rg.updateTaken, Rg.updateRow i, Rg.updateData i, Rg.updateWritten n, Key.updateQueueFree]) noCells))
    ∧ (∀ (s : State) (dt : Nat) (ok : Bool),
      let u := s.after dt
      let i := u.get Rg.updateDone
      let a := slotBase (u.get Rg.updateKind) (u.get Rg.updateSlot) + 256 * u.get (Rg.updateRow i)
      let cells := flashCells fun b => a ≤ b ∧ b < a + 256
      s.operates = true → (u.get Key.updateState = 2 ∨ u.get Key.updateState = 3) → i < u.get Rg.updateTaken →
      u.get Rg.updateAborting = 0 → Runs (.rowProgrammed dt ok) s fun t => t.get Rg.updateDone = i + 1
        ∧ (ok = true → t.octets .flash a 256 = leBytes 256 (u.get (Rg.updateData i)) ∧ t.get Key.updateState = u.get Key.updateState
            ∧ t.get Key.updateQueueFree = 256 - (u.get Rg.updateTaken - (i + 1)))
        ∧ (ok = false → t.get Key.updateState = 5 ∧ t.get Key.updateReject = 8 ∧ t.get Rg.updateTaken = t.get Rg.updateDone
            ∧ t.get Key.updateQueueFree = 256)
        ∧ leavesRest u t updateRegs cells))
  ∧ ((∀ (s : State) (dt : Nat) (path : Path) (v : BitVec 64),
      let u := s.facing dt path
      let slot := u.get Rg.updateSlot
      let a := slotBase (u.get Rg.updateKind) slot
      let i := u.get Rg.updateDone
      let busy := i < u.get Rg.updateTaken
      let r := a + 256 * u.get (Rg.updateRow i)
      (u.admits path 0xC100 3 = true →
        (u.get Key.updateState = 2 → Runs (.updateVerify dt path v) s fun t => t.status = 3 ∧ t.get Key.updateState = 3
          ∧ t.get Key.updateVerify = 3 ∧ leavesRest u t (keysIn [Key.updateState, Key.updateVerify]) clampCells)
        ∧ (u.get Key.updateState ≠ 2 → Runs (.updateVerify dt path v) s fun t => t.status = 4 ∧ leavesRest u t (keysIn []) noCells))
      ∧ (u.admits path 0xC100 4 = true →
        (u.get Key.updateState ≠ 4 → Runs (.updateActivate dt path v) s fun t => t.status = 4 ∧ leavesRest u t (keysIn []) noCells)
        ∧ (u.get Key.updateState = 4 → Runs (.updateActivate dt path v) s fun t => t.status = 0 ∧ t.get Key.updateState = 6
          ∧ t.get Key.updateOwner = 255 ∧ t.get Rg.trialCount = 0
          ∧ (u.get Rg.updateKind = 1 → t.get (Rg.preferred 0) = slot ∧ t.get Key.firmwareTrial = 1
              ∧ t.get (Rg.preferred 1) = u.get (Rg.preferred 1))
          ∧ (u.get Rg.updateKind ≠ 1 → t.get (Rg.preferred 1) = slot ∧ t.get Key.odTrial = 1
              ∧ t.get (Rg.preferred 0) = u.get (Rg.preferred 0))
          ∧ bootWritten u t ∧ leavesRest u t updateRegs (bothCells clampCells (bootCells u))))
      ∧ (u.admits path 0xC100 5 = true →
        (u.updateOpen = false → Runs (.updateAbort dt path v) s fun t => t.status = 4 ∧ leavesRest u t (keysIn []) noCells)
        ∧ (u.updateOpen = true → Runs (.updateAbort dt path v) s fun t => t.status = 0 ∧ t.get Key.updateState = 0
          ∧ t.get Key.updateOwner = 255 ∧ t.get Key.updateQueueFree = 256 ∧ (∀ b, a ≤ b → b < a + 256 → t.octet .flash b = 0xFF#8)
          ∧ (busy → 0 < u.get (Rg.updateRow i) → t.octets .flash r 256 = leBytes 256 (u.get (Rg.updateData i)))
          ∧ leavesRest u t updateRegs (bothCells clampCells
              (flashCells fun b => (a ≤ b ∧ b < a + 256) ∨ (busy ∧ r ≤ b ∧ b < r + 256))))))
    ∧ (∀ (s : State) (dt : Nat),
      let u := s.after dt
      let found := u.imageFault (u.get Rg.updateKind) (u.get Rg.updateSlot)
      s.operates = true → u.get Key.updateState = 3 → u.get Rg.updateDone = u.get Rg.updateTaken → u.get Rg.updateAborting = 0 →
      Runs (.updateCheckEnd dt) s fun t => t.get Key.updateVerify = 0
        ∧ (found = none → t.get Key.updateState = 4 ∧ t.get Key.updateReject = u.get Key.updateReject)
        ∧ (∀ c, found = some c → t.get Key.updateState = 5 ∧ t.get Key.updateReject = c)
        ∧ leavesRest u t (keysIn [Key.updateState, Key.updateVerify, Key.updateReject]) noCells))

/-- R442 (UPDATE_CONFIRM): both trial flags and TrialStarts are cleared, in the boot control block too (R438; its layout is log entry 25), and
the rollback counter rises to the lower SecurityVersion of the active images, at most to 64, and never falls; an image whose
SecurityVersion is below it is no valid one. Where one of the two kinds has no active slot the counter stays (log entry 97). -/
def Obligations.UpdateConfirmEndsTheTrials : Prop :=
  ∀ (s : State) (dt : Nat) (path : Path) (v : BitVec 64),
    let u := s.facing dt path
    u.admits path 0xC000 9 = true → Runs (.updateConfirm dt path v) s fun t => t.status = 0
      ∧ t.get (Rg.trial 0) = 0 ∧ t.get (Rg.trial 1) = 0 ∧ t.get Key.firmwareTrial = 0 ∧ t.get Key.odTrial = 0
      ∧ t.get Key.trialStarts = 0 ∧ u.get Key.rollbackCounter ≤ t.get Key.rollbackCounter
      ∧ (∀ kind slot, t.securityVersion kind slot < t.get Key.rollbackCounter → t.imageFault kind slot ≠ none)
      ∧ (u.activeSlot 1 < 2 → u.activeSlot 2 < 2 → t.get Key.rollbackCounter = max (u.get Key.rollbackCounter)
          (min 64 (min (u.securityVersion 1 (u.activeSlot 1)) (u.securityVersion 2 (u.activeSlot 2)))))
      ∧ bootWritten u t
      ∧ leavesRest u t (fun k => updateRegs k ∨ k = Key.updateConfirm) (bothCells clampCells (bootCells u))

/-! ### Starts, resets and pins -/

/-- R404, R410, R436, R438, R443, R444, R445, R446, R459 (PORST_ASSERT, SYSTEM_RESTART, RECOVERY_REQUEST, JTAG_UNLOCK, IMAGE_KEY_WRITE):
PORST_N and a SystemRestart set every register but what they spare, every staged table and every frame to its state at reset, and only a
restart keeps the retention image; after PORST_N the boot control block is the one in force in the flash, where a write that it cut off has
left the other copy as it was; a restart ends with 0x03 while that block is being written, and keeps the age of the latent test; a recovery
request is kept for the next start; JtagUnlock invalidates slot 0 where it is Loaded (R335); an ImageKeys row is programmed once, and
revoked only beside another that is Programmed. What a cut-off write leaves is log entry 137, the layout of the block log entry 25, the
release of PORST_N log entry 19, and the sweep without a Loaded slot 0 log entry 133.
R398, R425, R432, R437, R438, R444, R464, R467 (COLD_START): a cold start whose injection test fails ends in fail-safe at StartupState
0x02; a failed MBIST ends it in MemoryFault, no valid firmware in NoFirmware; the flash, whose reset is released, runs in 8D-8D-8D mode
where its layout descriptor is valid; whatever the world contributes, it ends in one of the states that a start has, and in 0x0B the ports
and pages are enabled in Service; until the first ticks have been counted it only waits, with PORST_N released (log entry 19). That a start
is one command is log entry 27; the failed injection test at a cold start is log entry 93, a recovery request with no valid OD slot log
entry 92, the crystal's state and the fail-safe record at a start log entry 134. -/
def Obligations.ResetsAndColdStarts : Prop :=
  ((∀ (s : State) (dt : Nat), Runs (.porstAssert dt) s fun t =>
      (∀ k, sparedReg k = true → t.get k = (s.after dt).get k)
      ∧ (∀ k, sparedReg k = false → k ∉ bootRegs → k ≠ Rg.porstLow → k ≠ Rg.latentSince → t.get k = State.reset.get k)
      ∧ t.get Rg.porstLow = 1 ∧ t.get Rg.latentSince = (s.after dt).now
      ∧ bootRegs.map t.get = [t.bootBlock.firmware, t.bootBlock.image, t.bootBlock.firmwareTrial, t.bootBlock.imageTrial, t.bootBlock.starts,
          t.bootBlock.sequence, t.bootBlock.firmwareTrial % regMod Key.firmwareTrial, t.bootBlock.imageTrial % regMod Key.odTrial,
          t.bootBlock.starts % regMod Key.trialStarts]
      ∧ (let u := s.after dt
        let a := slotBase (u.get Rg.updateKind) (u.get Rg.updateSlot)
        let b := bootBase (u.get Rg.bootWriting - 1)
        ∀ x, t.octet .flash x
          = (if 1 ≤ u.get Key.updateState ∧ u.get Key.updateState ≤ 3 ∧ a ≤ x ∧ x < a + 256 then 0xFF#8
             else if u.get Rg.bootWriting ≠ 0 ∧ u.now < u.get Rg.bootUntil ∧ b ≤ x ∧ x < b + 16 then 0xFF#8 else u.octet .flash x))
      ∧ (∀ a, t.octet .live a = (if a / 2 ^ 36 = 0xF0C1 then s.octet .live a else State.reset.octet .live a))
      ∧ (∀ a, t.octet .fair a = State.reset.octet .fair a ∧ t.octet .sketch a = State.reset.octet .sketch a)
      ∧ t.frames = [] ∧ t.copies = [] ∧ t.saved = none ∧ t.vtime = 0 ∧ t.outs = [.signal 0 sigXspiReset 0])
    ∧ (∀ (s : State) (dt : Nat) (path : Path) (v : BitVec 64),
      let u := s.facing dt path
      (u.admits path 0xC000 11 = true → u.now < u.get Rg.bootUntil → Runs (.systemRestart dt path v) s fun t => t.status = 3
        ∧ leavesRest u t (keysIn []) noCells)
      ∧ (u.admits path 0xC000 11 = true → u.get Rg.bootUntil ≤ u.now → Runs (.systemRestart dt path v) s fun t => t.status = 0
        ∧ t.get Rg.latentBase = u.latentTime ∧ t.get Rg.latentSince = u.now
        ∧ (∀ k, keptReg k = false → t.get k = State.reset.get k) ∧ t.get Rg.startKind = 6 ∧ t.get Rg.inhLow = u.get Rg.inhLow
        ∧ (∀ a, keptCell a = false → t.octet .live a = State.reset.octet .live a)
        ∧ (∀ a, t.octet .fair a = State.reset.octet .fair a) ∧ t.frames = [] ∧ t.copies = [] ∧ t.saved = u.saved)
      ∧ (u.admits path 0xC000 10 = true → Runs (.recoveryRequest dt path v) s fun t => t.status = 0 ∧ t.get Rg.recoveryAsked = 1
        ∧ leavesRest u t (keysIn [Rg.recoveryAsked, Key.recoveryRequest]) clampCells)
      ∧ (u.admits path 0xC000 12 = true → Runs (.jtagUnlock dt path v) s fun t => t.status = 3 ∧ t.get Key.jtagState = 1
        ∧ t.get Key.sweepActive = 1 ∧ (u.slotState 0 = 1 → t.slotState 0 = 3 ∧ t.fld .live 0xF098 0 F.keyMaterial = 0)
        ∧ (u.slotState 0 ≠ 1 → ∀ f ∈ layout 0xF098, t.fld .live 0xF098 0 f = u.fld .live 0xF098 0 f)
        ∧ forwardsOnly u t (fun k => sealRegs k ∨ k ∈ [Key.jtagState, Key.jtagUnlock, Key.sweepActive]) (bothCells keyCells clampCells)))
    ∧ (∀ (s : State) (dt : Nat) (path : Path) (row : Fin 2) (data : List Byte),
      let u := s.facing dt path
      let st := u.fld .live 0xF0C1 row.val F.ikeyState
      let new := beAt data 32 1
      u.admitsRow path 0xF0C1 row.val 0 data.length = true → 33 ≤ data.length →
      (st = 0 → new = 1 → Runs (.imageKeyWrite dt path row 0 data) s fun t => t.status = 0
        ∧ t.fld .live 0xF0C1 row.val F.ikeyState = 1 ∧ t.rowOctets .live 0xF0C1 row.val 0 32 = data.take 32
        ∧ leavesRest u t (keysIn []) (rowCells .live 0xF0C1 row.val))
      ∧ (st = 1 → new = 2 → u.fld .live 0xF0C1 (1 - row.val) F.ikeyState = 1 → Runs (.imageKeyWrite dt path row 0 data) s fun t =>
          t.status = 0 ∧ t.fld .live 0xF0C1 row.val F.ikeyState = 2 ∧ t.rowOctets .live 0xF0C1 row.val 0 32
            = u.rowOctets .live 0xF0C1 row.val 0 32 ∧ leavesRest u t (keysIn []) (rowCells .live 0xF0C1 row.val))
      ∧ (¬ (st = 0 ∧ new = 1) → ¬ (st = 1 ∧ new = 2 ∧ u.fld .live 0xF0C1 (1 - row.val) F.ikeyState = 1) →
          Runs (.imageKeyWrite dt path row 0 data) s fun t => t.status = 2 ∧ leavesRest u t (keysIn []) noCells)))
  ∧ (∀ (s : State) (dt : Nat) (env : StartEnv),
      let u := s.after dt
      s.get Key.deviceState = 0 → s.get Key.startupState = 1 →
      (s.get Key.xtalStatus = 1 → Runs (.coldStart dt env) s fun t => t.get Rg.porstLow = 0 ∧ leavesRest u t (keysIn [Rg.porstLow]) noCells)
      ∧ (s.get Key.xtalStatus ≠ 1 →
      (env.injectionOk = false → Runs (.coldStart dt env) s fun t => t.get Key.startupState = 2 ∧ t.get Key.safetyState = 4
        ∧ t.get Rg.injectionOk = 0 ∧ t.get Rg.xspiReset = 1
        ∧ (s.get Key.safetyState ≠ 4 → t.get Key.failSafeCause = 4))
      ∧ (env.injectionOk = true → env.mbistFailed ≠ [] → Runs (.coldStart dt env) s fun t => t.get Key.startupState = 0x10
        ∧ t.get Key.mbistResult = 3 ∧ t.get Key.keyGuardMode = 3)
      ∧ (env.injectionOk = true → env.mbistFailed = [] → u.get (Rg.preferred 0) ≤ 1 → u.imageFault 1 0 ≠ none → u.imageFault 1 1 ≠ none →
        Runs (.coldStart dt env) s fun t => t.get Key.startupState = 0x11 ∧ t.get Key.keyGuardMode = 3)
      ∧ (env.injectionOk = true → Runs (.coldStart dt env) s fun t => t.get Rg.xspiReset = 1
          ∧ t.get Rg.flashMode = (if descriptorFits u.layoutDescriptor then 1 else 0))
      ∧ (Runs (.coldStart dt env) s fun t => t.get Key.startupState ∈ [0x02, 0x0B, 0x10, 0x11, 0x12, 0x13, 0x14]
        ∧ (t.get Key.startupState = 0x0B → t.get Rg.portsEnabled = 1 ∧ t.get Key.keyGuardMode = 1
            ∧ t.get Key.startupDuration = env.totalMicros % 2 ^ 32))))

/-- R113, R314, R460, R464, R465, R470 (SUPPLY_UP, XTAL_START, XTAL_STOPPED, PCIE_PERST, PCIE_LINK_UP, BUS_MASTER_ENABLE, PPS_PULSE,
PPS_END, OD_WRITE): the supplies raise INH_OUT, and the ticks count anew (with the fail-safe record at 0x00: log entry 134); XtalStatus follows the
crystal; PCIE_PERST_N low takes down the link and bus mastering and masks the host's requesters, whose masks then follow Bus Master
Enable (that it can be set only while the link is up is log entry 100); the pulse rises at the whole second on the pins that carry it then,
within the tolerance of log entry 99, and falls after PpsWidth; a write of GpioDirection or PpsOutput that takes a pin from it takes the
pin from the pulse that runs. -/
def Obligations.PinsAndClocksAct : Prop :=
  ∀ (s : State) (dt : Nat),
    let u := s.after dt
    let host := fun (t : State) (b : Bool) => t.masked 0 = b ∧ t.masked 1 = b ∧ ∀ r, 2 ≤ r → t.masked r = u.masked r
    let regs := fun k => k ∈ [Rg.perstHigh, Rg.pcieLink, Rg.busMaster, Key.maskState, Key.grantOwner, Rg.transferring]
      ∨ (2 ^ 24 ≤ k ∧ Rg.numberOf k = 53) ∨ ∃ p, 224 ≤ p ∧ p ≤ 255 ∧ portRegs p k
    (Runs (.supplyUp dt) s fun t => t.get Rg.inhLow = 0 ∧ t.get Key.xtalStatus = 1 ∧ t.get Key.failSafeCause = 0
      ∧ leavesRest u t (keysIn [Rg.inhLow, Key.xtalStatus, Key.failSafeCause]) noCells)
    ∧ (Runs (.xtalStart dt) s fun t => t.get Key.xtalStatus = 0 ∧ leavesRest u t (keysIn [Key.xtalStatus]) noCells)
    ∧ (s.get Key.deviceState = 0 → s.inReset = false → s.get Key.xtalStatus = 0 → Runs (.xtalStopped dt) s fun t => t.get Key.xtalStatus = 2
      ∧ leavesRest u t (keysIn [Key.xtalStatus]) noCells)
    ∧ (Runs (.pciePerst dt true) s fun t => t.get Rg.perstHigh = 1 ∧ leavesRest u t (keysIn [Rg.perstHigh]) noCells)
    ∧ (u.get Key.maskState < 256 → Runs (.pciePerst dt false) s fun t => t.get Rg.perstHigh = 0 ∧ t.get Rg.pcieLink = 0
      ∧ t.get Rg.busMaster = 0 ∧ host t true ∧ (∀ p, 224 ≤ p → p < 232 → u.kind p = 7 → t.portState p ≠ 2)
      ∧ forwardsOnly u t regs portCells)
    ∧ (s.operates = true → u.get Rg.perstHigh ≠ 0 → 7 ≤ u.get Key.startupState → Runs (.pcieLinkUp dt) s fun t =>
        t.get Rg.pcieLink = 1 ∧ forwardsOnly u t regs portCells)
    ∧ (∀ b : Bool, s.operates = true → u.get Rg.perstHigh ≠ 0 → u.get Rg.pcieLink ≠ 0 → u.get Key.maskState < 256 →
        Runs (.busMasterEnable dt b) s fun t => t.get Rg.busMaster = (if b then 1 else 0) ∧ host t (!b)
          ∧ (b = false → ∀ p, 224 ≤ p → p < 232 → u.kind p = 7 → t.portState p ≠ 2)
          ∧ forwardsOnly u t regs portCells)
    ∧ (s.operates = true → u.pulsePins ≠ 0 → u.atSecond = true → Runs (.ppsPulse dt) s fun t =>
        t.outs = [.signal 0 sigPps u.pulsePins] ∧ t.get Rg.ppsFrom = u.now + 1 ∧ t.get Rg.ppsPins = u.pulsePins
        ∧ leavesRest u t (keysIn [Rg.ppsFrom, Rg.ppsPins]) noCells)
    ∧ (s.operates = true → u.get Rg.ppsFrom ≠ 0 → u.get Rg.ppsFrom - 1 + ns (u.get Key.ppsWidth) ≤ u.now →
        Runs (.ppsEnd dt) s fun t => t.outs = [.signal 0 sigPps 0] ∧ t.get Rg.ppsFrom = 0 ∧ t.get Rg.ppsPins = 0
          ∧ leavesRest u t (keysIn [Rg.ppsFrom, Rg.ppsPins]) noCells)
    ∧ (∀ (path : Path) (sub : BitVec 8) (v : BitVec 64) (o : Obj),
      let w := s.facing dt path
      let k := w.keyAt 0xC200 sub.toNat
      w.admits path 0xC200 sub.toNat = true → (sub = 3 ∨ sub = 7) → w.objAt 0xC200 sub.toNat = some o →
      Runs (.odWrite dt path 0xC200 sub v) s fun t => t.status = 0
        ∧ t.get k = w.legalValue 0xC200 sub.toNat o (ofSlot o.ty v.toNat) % regMod k
        ∧ t.get Rg.ppsPins = w.get Rg.ppsPins &&& t.get Key.gpioDirection &&& t.get Key.ppsOutput
        ∧ leavesRest w t (keysIn [k, Rg.ppsPins]) (rowCells .live 0xF000 (0xC200 * 256 + sub.toNat)))

/-! ### Commands that clear -/

/-- POSTED_ERROR_CLEAR (R59), CLAMP_COUNTERS_CLEAR (R62), PORT_COUNTERS_CLEAR (R124), CLASSIFIER_COUNTERS_CLEAR (R162),
QUEUE_COUNTERS_CLEAR (R197), FORWARDING_COUNTERS_CLEAR (R198), GATE_COUNTERS_CLEAR (R230), SHAPING_COUNTERS_CLEAR (R231), TIME_COUNTERS_CLEAR
(R232), DELIVERY_FAULT_LOG_CLEAR (R262), STREAM_COUNTERS_CLEAR (R263), SAMPLING_CLEAR (R264), GATEWAY_FAILURE_CLEAR (R280),
GATEWAY_PORT_COUNTERS_CLEAR (R290), GATEWAY_COUNTERS_CLEAR (R291), STARVATION_CLEAR (R317), MACSEC_COUNTERS_CLEAR (R323),
KEEP_AWAKE_LOG_CLEAR (R371), RING_COUNTERS_CLEAR (R383) and FAULT_LOG_CLEAR (R388): each ends with 0x00, its counters are 0 and its log or
table is empty, and nothing else changes. -/
def Obligations.ClearsZeroTheirSpan : Prop :=
  ∀ (s : State) (dt : Nat) (path : Path) (p : Port) (r : Fin 32) (v : BitVec 64),
    let u := s.facing dt path
    let cleared := fun (idx sub : Nat) (ks : List Nat) (cs : Nat → Prop) (t : State) =>
      t.status = 0 ∧ (∀ k ∈ ks, t.get k = 0) ∧ (∀ a, cs a → t.octet .live a = octetDefault a)
        ∧ leavesRest u t (keysIn (u.keyAt idx sub :: ks)) (bothCells (fun g a => g = .live ∧ cs a) clampCells)
    let table := fun (idx a : Nat) => a / 2 ^ 36 = idx
    let none' := fun (_ : Nat) => False
    let port := fun (idx : Nat) => idx + 16 * p.val
    (u.admits path 0x1E10 3 = true → Runs (.postedErrorClear dt path v) s
      (cleared 0x1E10 3 [Key.postedErrorCount, Key.postedErrorOverflow] (table 0xF001)))
    ∧ (u.admits path 0x1E20 1 = true → Runs (.clampCountersClear dt path v) s
      (cleared 0x1E20 1 [] (table 0xF000)))
    ∧ (u.admits path (port 0x2006) 14 = true → Runs (.portCountersClear dt path p v) s
      (cleared (port 0x2006) 14 (spanKeys (port 0x2006) 1 13) none'))
    ∧ (u.admits path 0x4000 18 = true → Runs (.classifierCountersClear dt path v) s
      (cleared 0x4000 18 (spanKeys 0x4000 6 6 ++ spanKeys 0x4000 9 17) (fun a => table 0xF049 a ∨ table 0xF04A a)))
    ∧ (u.admits path (port 0x2003) 44 = true → Runs (.queueCountersClear dt path p v) s
      (cleared (port 0x2003) 44 (spanKeys (port 0x2003) 25 40 ++ spanKeys (port 0x2003) 42 43) none'))
    ∧ (u.admits path 0x3000 19 = true → Runs (.forwardingCountersClear dt path v) s
      (cleared 0x3000 19 (spanKeys 0x3000 8 17) none'))
    ∧ (u.admits path (port 0x2004) 14 = true → Runs (.gateCountersClear dt path p v) s
      (cleared (port 0x2004) 14 (spanKeys (port 0x2004) 6 8) none'))
    ∧ (u.admits path (port 0x2005) 10 = true → Runs (.shapingCountersClear dt path p v) s
      (cleared (port 0x2005) 10 (spanKeys (port 0x2005) 6 9) none'))
    ∧ (u.admits path 0x6000 11 = true → Runs (.deliveryFaultLogClear dt path v) s
      (cleared 0x6000 11 [Key.deliveryFaultLogCount, Key.deliveryFaultOverflow] (table 0xF07A)))
    ∧ (u.admits path (port 0x2007) 28 = true → Runs (.samplingClear dt path p v) s
      (cleared (port 0x2007) 28
        (spanKeys (port 0x2007) 1 16 ++ Key.unadmittedRemovals p.val :: (List.range 8).map (Rg.sampled p.val))
        (fun a => table 0xF07B a ∧ a / 2 ^ 12 % 2 ^ 24 / 8 = p.val)))
    ∧ (u.admits path (port 0x200A) 24 = true → Runs (.gatewayPortCountersClear dt path p v) s
      (cleared (port 0x200A) 24 (spanKeys (port 0x200A) 20 22) none'))
    ∧ (u.admits path 0x7000 6 = true → Runs (.gatewayFailureClear dt path v) s
      (cleared 0x7000 6 [Key.gatewayFailureCount, Key.gatewayFailureOverflow] (table 0xF082)))
    ∧ (u.admits path 0x7000 15 = true → Runs (.gatewayCountersClear dt path v) s
      (cleared 0x7000 15 (spanKeys 0x7000 2 3 ++ spanKeys 0x7000 8 9 ++ [Key.gatewayResidenceMax]) (table 0xF083)))
    ∧ (u.admits path (port 0x200B) 8 = true → Runs (.macsecCountersClear dt path p v) s
      (cleared (port 0x200B) 8 (spanKeys (port 0x200B) 1 7) none'))
    ∧ (u.admits path 0x9000 14 = true → Runs (.keepAwakeLogClear dt path v) s
      (cleared 0x9000 14 [Key.keepAwakeLogCount, Key.keepAwakeLogOverflow] (table 0xF0A2)))
    ∧ (u.admits path 0xA000 12 = true → Runs (.faultLogClear dt path v) s
      (cleared 0xA000 12 [Key.faultLogCount, Key.faultLogOverflow] (table 0xF0B0)))
    ∧ (u.admits path 0x5000 14 = true → Runs (.timeCountersClear dt path v) s fun t => t.status = 0 ∧ t.get Key.timeSteps = 0
        ∧ t.get Key.syncLossEvents = 0
        ∧ (∀ k < 4096, t.fld .live 0xF065 k F.atssShaped = 0 ∧ t.fld .live 0xF065 k F.atssDiscards = 0
            ∧ t.fld .live 0xF065 k F.atssBucket = u.fld .live 0xF065 k F.atssBucket)
        ∧ leavesRest u t (keysIn [Key.timeSteps, Key.syncLossEvents, u.keyAt 0x5000 14]) (bothCells (tableCells .live 0xF065) clampCells))
    ∧ (u.admits path 0x6000 14 = true → Runs (.streamCountersClear dt path v) s fun t => t.status = 0
        ∧ t.get Key.stepExemptions = 0 ∧ t.get Key.transitionExemptions = 0
        ∧ (∀ k < 4096, ∀ f ∈ layout 0xF077, t.fld .live 0xF077 k f
            = (if f ∈ [F.stBound, F.stBlocked, F.stSuspended, F.stAdmitted, F.stSequence] then u.fld .live 0xF077 k f else 0))
        ∧ (∀ a, table 0xF078 a → t.octet .live a = octetDefault a)
        ∧ leavesRest u t (keysIn [Key.stepExemptions, Key.transitionExemptions, u.keyAt 0x6000 14])
            (bothCells (fun g a => g = .live ∧ (table 0xF077 a ∨ table 0xF078 a)) clampCells))
    ∧ (u.admits path 0x8010 12 = true → Runs (.starvationClear dt path v) s fun t => t.status = 0
        ∧ t.get Key.starvationFlags = u.get Key.starvationFlags &&& (255 - v.toNat % 256)
        ∧ leavesRest u t (keysIn [Key.starvationFlags, u.keyAt 0x8010 12]) noCells)
    ∧ (u.admits path (0x9100 + r.val) 12 = true → Runs (.ringCountersClear dt path r v) s fun t => t.status = 0
        ∧ (∀ k ∈ [Key.abortedCommits r.val, Key.falseWakes r.val, Key.busSleepsForced r.val, Key.badRingMessages r.val,
            Key.busSleeps r.val], t.get k = 0)
        ∧ (∀ m < 64, t.member r.val m F.memberHeld = 0 ∧ t.member r.val m F.memberReady = u.member r.val m F.memberReady)
        ∧ leavesRest u t (fun k => ringRegs u r.val k) (bothCells ringCells clampCells))
end

