-- ==== Sys2Proof/Laws/Bits.lean ====
section
/-! SUPPORT. The laws of octet strings and bit fields. -/

namespace Sys2Proof.Machine

@[simp] theorem leBytes_length (n v : Nat) : (leBytes n v).length = n := by
  induction n generalizing v with
  | zero => rfl
  | succ n ih => simp [leBytes, ih]

/-- A number cut to `n` octets survives being written out and read back. -/
theorem leNat_leBytes (n v : Nat) : leNat (leBytes n v) = v % 256 ^ n := by
  induction n generalizing v with
  | zero => simp [leBytes, leNat, Nat.mod_one]
  | succ n ih =>
    have h : v % 256 ^ (n + 1) = v % 256 + 256 * (v / 256 % 256 ^ n) := by
      rw [show (256 : Nat) ^ (n + 1) = 256 * 256 ^ n by ring, Nat.mod_mul]
    rw [h]
    simp [leBytes, leNat, ih]

theorem leNat_lt (bs : List Byte) : leNat bs < 256 ^ bs.length := by
  induction bs with
  | nil => simp [leNat]
  | cons b bs ih =>
    have hb : b.toNat < 256 := b.isLt
    simp only [leNat, List.length_cons, Nat.pow_succ']
    omega

/-- Octets survive being read and written out again. -/
theorem leBytes_leNat (bs : List Byte) : leBytes bs.length (leNat bs) = bs := by
  induction bs with
  | nil => rfl
  | cons b bs ih =>
    have hb : b.toNat < 256 := b.isLt
    simp only [leNat, List.length_cons, leBytes]
    have h1 : (b.toNat + 256 * leNat bs) / 256 = leNat bs := by omega
    have h2 : BitVec.ofNat 8 (b.toNat + 256 * leNat bs) = b := by
      apply BitVec.eq_of_toNat_eq
      simp only [BitVec.toNat_ofNat]
      omega
    simp only [h1, h2, ih]

/-- A field reads as what was put in it, cut to its width. -/
theorem bits_setBits (v lo w x : Nat) : bits (setBits v lo w x) lo w = x % 2 ^ w := by
  have hlo : 0 < 2 ^ lo := Nat.two_pow_pos lo
  unfold bits setBits
  have h1 : v / 2 ^ (lo + w) * 2 ^ (lo + w) + x % 2 ^ w * 2 ^ lo + v % 2 ^ lo
      = v % 2 ^ lo + 2 ^ lo * (x % 2 ^ w + 2 ^ w * (v / 2 ^ (lo + w))) := by
    rw [Nat.pow_add]; ring
  rw [h1, Nat.add_mul_div_left _ _ hlo, Nat.div_eq_of_lt (Nat.mod_lt v hlo), Nat.zero_add, Nat.add_mul_mod_self_left,
    Nat.mod_mod]

/-- A field whose bits lie below another is not changed by it. -/
theorem bits_setBits_below (v lo w x lo' w' : Nat) (h : lo' + w' ≤ lo) : bits (setBits v lo w x) lo' w' = bits v lo' w' := by
  unfold bits setBits
  obtain ⟨d, rfl⟩ := Nat.exists_eq_add_of_le h
  have h1 : v / 2 ^ (lo' + w' + d + w) * 2 ^ (lo' + w' + d + w) + x % 2 ^ w * 2 ^ (lo' + w' + d) + v % 2 ^ (lo' + w' + d)
      = v % 2 ^ (lo' + w' + d) + 2 ^ (lo' + w') * (2 ^ d * (x % 2 ^ w) + 2 ^ (d + w) * (v / 2 ^ (lo' + w' + d + w))) := by
    rw [Nat.pow_add 2 (lo' + w') d, show lo' + w' + d + w = (lo' + w') + (d + w) by omega, Nat.pow_add 2 (lo' + w') (d + w)]
    ring
  rw [h1]
  have key : ∀ a b, (a + 2 ^ (lo' + w') * b) / 2 ^ lo' % 2 ^ w' = a / 2 ^ lo' % 2 ^ w' := by
    intro a b
    rw [Nat.pow_add, Nat.mul_assoc, Nat.add_mul_div_left _ _ (Nat.two_pow_pos _), Nat.add_mul_mod_self_left]
  rw [key]
  conv_rhs => rw [← Nat.mod_add_div v (2 ^ (lo' + w' + d)), Nat.pow_add 2 (lo' + w') d, Nat.mul_assoc, key]
  rw [Nat.pow_add 2 (lo' + w') d]

/-- A field whose bits lie above another is not changed by it. -/
theorem bits_setBits_above (v lo w x lo' w' : Nat) (h : lo + w ≤ lo') : bits (setBits v lo w x) lo' w' = bits v lo' w' := by
  have hlt : x % 2 ^ w * 2 ^ lo + v % 2 ^ lo < 2 ^ (lo + w) := by
    have h1 := Nat.mod_lt x (Nat.two_pow_pos w)
    have h2 := Nat.mod_lt v (Nat.two_pow_pos lo)
    calc x % 2 ^ w * 2 ^ lo + v % 2 ^ lo < x % 2 ^ w * 2 ^ lo + 2 ^ lo := by omega
      _ = (x % 2 ^ w + 1) * 2 ^ lo := by ring
      _ ≤ 2 ^ w * 2 ^ lo := Nat.mul_le_mul_right _ h1
      _ = 2 ^ (lo + w) := by rw [Nat.pow_add]; ring
  unfold bits setBits
  obtain ⟨d, rfl⟩ := Nat.exists_eq_add_of_le h
  have e1 : v / 2 ^ (lo + w) * 2 ^ (lo + w) + x % 2 ^ w * 2 ^ lo + v % 2 ^ lo
      = (x % 2 ^ w * 2 ^ lo + v % 2 ^ lo) + 2 ^ (lo + w) * (v / 2 ^ (lo + w)) := by ring
  rw [e1, Nat.pow_add 2 (lo + w) d, ← Nat.div_div_eq_div_mul, ← Nat.div_div_eq_div_mul,
    Nat.add_mul_div_left _ _ (Nat.two_pow_pos _), Nat.div_eq_of_lt hlt, Nat.zero_add]

end Sys2Proof.Machine
end

