-- ==== Sys2Proof/Laws/Store.lean ====
section
/-! SUPPORT. The laws of the sparse stores: read after write, and that every operation keeps the canonical form. -/

namespace Sys2Proof.Machine

variable {α : Type} {d : Nat → α}

@[simp] theorem Store.get_nil (k : Nat) : Store.get d [] k = d k := rfl

theorem Store.above_mono {j k : Nat} {m : Store α} (h : j ≤ k) (ha : Store.above k m = true) : Store.above j m = true := by
  simp only [Store.above, List.all_eq_true, decide_eq_true_eq] at *
  intro c hc
  exact Nat.lt_of_le_of_lt h (ha c hc)

theorem Store.above_filter {k : Nat} {m : Store α} {p : Nat × α → Bool} (h : Store.above k m = true) :
    Store.above k (m.filter p) = true := by
  simp only [Store.above, List.all_eq_true, decide_eq_true_eq] at *
  intro c hc
  exact h c (List.mem_of_mem_filter hc)

/-- A part of a canonical store is canonical. -/
theorem Store.wf_filter [DecidableEq α] {m : Store α} {p : Nat × α → Bool} (h : Store.wf d m = true) : Store.wf d (m.filter p) = true := by
  induction m with
  | nil => rfl
  | cons c m ih =>
    obtain ⟨k, v⟩ := c
    simp only [Store.wf, Bool.and_eq_true] at h
    by_cases hp : p (k, v) = true
    · simpa [List.filter_cons_of_pos hp, Store.wf, Store.above_filter h.2.1, ih h.2.2] using h.1
    · simp [List.filter_cons_of_neg hp, ih h.2.2]

theorem Store.wf_erase [DecidableEq α] {m : Store α} (k : Nat) (h : Store.wf d m = true) : Store.wf d (Store.erase k m) = true :=
  Store.wf_filter h

theorem Store.above_insert {j k : Nat} {v : α} {m : Store α} (hk : j < k) (h : Store.above j m = true) :
    Store.above j (Store.insert k v m) = true := by
  induction m with
  | nil => simp [Store.insert, Store.above, hk]
  | cons c m ih =>
    obtain ⟨i, w⟩ := c
    simp only [Store.above, List.all_cons, Bool.and_eq_true, decide_eq_true_eq] at h
    simp only [Store.insert]
    split
    · simpa [Store.above, hk, h.1] using h.2
    · have := ih (by simpa [Store.above] using h.2)
      simpa [Store.above, h.1] using this

theorem Store.wf_insert [DecidableEq α] {k : Nat} {v : α} {m : Store α} (hv : v ≠ d k) (hk : ∀ c ∈ m, c.1 ≠ k) (h : Store.wf d m = true) :
    Store.wf d (Store.insert k v m) = true := by
  induction m with
  | nil => simp [Store.insert, Store.wf, Store.above, hv]
  | cons c m ih =>
    obtain ⟨i, w⟩ := c
    simp only [Store.wf, Bool.and_eq_true, decide_eq_true_eq] at h
    simp only [Store.insert]
    split
    · rename_i hlt
      have ha : Store.above k m = true := Store.above_mono (Nat.le_of_lt hlt) h.2.1
      simp [Store.wf, hv, h.1, h.2.1, h.2.2]
      simpa [Store.above, hlt] using ha
    · rename_i hlt
      have hne : i ≠ k := hk (i, w) (by simp)
      have hik : i < k := by omega
      simp [Store.wf, h.1, Store.above_insert hik h.2.1, ih (fun c hc => hk c (by simp [hc])) h.2.2]

/-- A write keeps the canonical form. -/
theorem Store.wf_set [DecidableEq α] {m : Store α} (k : Nat) (v : α) (h : Store.wf d m = true) : Store.wf d (Store.set d m k v) = true := by
  unfold Store.set
  split
  · exact Store.wf_erase k h
  · rename_i hv
    refine Store.wf_insert hv ?_ (Store.wf_erase k h)
    intro c hc
    simpa [Store.erase] using (List.mem_filter.mp hc).2

/-! ### Read after write -/

theorem Store.get_erase_self (m : Store α) (k : Nat) : Store.get d (Store.erase k m) k = d k := by
  induction m with
  | nil => rfl
  | cons c m ih =>
    obtain ⟨i, w⟩ := c
    by_cases h : i = k
    · simpa [Store.erase, h] using ih
    · simpa [Store.erase, h, Store.get] using ih

theorem Store.get_erase_ne (m : Store α) {j k : Nat} (h : j ≠ k) : Store.get d (Store.erase k m) j = Store.get d m j := by
  induction m with
  | nil => rfl
  | cons c m ih =>
    obtain ⟨i, w⟩ := c
    by_cases hi : i = k
    · subst hi
      simpa [Store.erase, Store.get, Ne.symm h] using ih
    · by_cases hj : i = j
      · simp [Store.erase, Store.get, hj, hj ▸ hi]
      · simpa [Store.erase, hi, Store.get, hj] using ih

theorem Store.get_insert_self (m : Store α) (k : Nat) (v : α) (h : ∀ c ∈ m, c.1 ≠ k) :
    Store.get d (Store.insert k v m) k = v := by
  induction m with
  | nil => simp [Store.insert, Store.get]
  | cons c m ih =>
    obtain ⟨i, w⟩ := c
    simp only [Store.insert]
    split
    · simp [Store.get]
    · have hne : i ≠ k := h (i, w) (by simp)
      simp [Store.get, hne, ih (fun c hc => h c (by simp [hc]))]

theorem Store.get_insert_ne (m : Store α) {j k : Nat} (v : α) (h : j ≠ k) :
    Store.get d (Store.insert k v m) j = Store.get d m j := by
  induction m with
  | nil => simp [Store.insert, Store.get, Ne.symm h]
  | cons c m ih =>
    obtain ⟨i, w⟩ := c
    simp only [Store.insert]
    split
    · simp [Store.get, Ne.symm h]
    · simp only [Store.get, ih]

/-- A key reads as what was written under it. -/
@[simp] theorem Store.get_set_self [DecidableEq α] (m : Store α) (k : Nat) (v : α) : Store.get d (Store.set d m k v) k = v := by
  unfold Store.set
  split
  · rename_i h; rw [Store.get_erase_self, h]
  · refine Store.get_insert_self _ _ _ fun c hc => ?_
    simpa [Store.erase] using (List.mem_filter.mp hc).2

/-- A write leaves every other key alone. -/
@[simp] theorem Store.get_set_ne [DecidableEq α] (m : Store α) {j k : Nat} (v : α) (h : j ≠ k) :
    Store.get d (Store.set d m k v) j = Store.get d m j := by
  unfold Store.set
  split
  · exact Store.get_erase_ne m h
  · rw [Store.get_insert_ne _ _ h, Store.get_erase_ne _ h]

theorem Store.mem_insert {k : Nat} {v : α} {m : Store α} {c : Nat × α} (h : c ∈ Store.insert k v m) : c = (k, v) ∨ c ∈ m := by
  induction m with
  | nil => simpa [Store.insert] using h
  | cons e m ih =>
    obtain ⟨i, w⟩ := e
    simp only [Store.insert] at h
    split at h
    · simpa using h
    · rcases List.mem_cons.mp h with h | h
      · exact .inr (by simp [h])
      · rcases ih h with h | h
        · exact .inl h
        · exact .inr (by simp [h])

/-- Every entry after a write is the one written or was there. -/
theorem Store.mem_set [DecidableEq α] {m : Store α} {k : Nat} {v : α} {c : Nat × α} (h : c ∈ Store.set d m k v) : c = (k, v) ∨ c ∈ m := by
  unfold Store.set at h
  split at h
  · exact .inr (List.mem_of_mem_filter h)
  · rcases Store.mem_insert h with h | h
    · exact .inl h
    · exact .inr (List.mem_of_mem_filter h)

end Sys2Proof.Machine
end

