-- ==== Sys2Proof/Laws/State.lean ====
section
/-! SUPPORT. What each act does to each field of the state, and reading a register or an octet after it. -/

namespace Sys2Proof.Machine

variable (s : State)

@[simp] theorem run_put_pending (k v : Nat) : ((Act.put k v).run s).pending = s.pending := rfl
@[simp] theorem run_put_now (k v : Nat) : ((Act.put k v).run s).now = s.now := rfl
@[simp] theorem run_put_vtime (k v : Nat) : ((Act.put k v).run s).vtime = s.vtime := rfl
@[simp] theorem run_put_live (k v : Nat) : ((Act.put k v).run s).live = s.live := rfl
@[simp] theorem run_put_sketch (k v : Nat) : ((Act.put k v).run s).sketch = s.sketch := rfl
@[simp] theorem run_put_fair (k v : Nat) : ((Act.put k v).run s).fair = s.fair := rfl
@[simp] theorem run_put_prev (k v : Nat) : ((Act.put k v).run s).prev = s.prev := rfl
@[simp] theorem run_put_flash (k v : Nat) : ((Act.put k v).run s).flash = s.flash := rfl
@[simp] theorem run_put_frames (k v : Nat) : ((Act.put k v).run s).frames = s.frames := rfl
@[simp] theorem run_put_copies (k v : Nat) : ((Act.put k v).run s).copies = s.copies := rfl
@[simp] theorem run_put_saved (k v : Nat) : ((Act.put k v).run s).saved = s.saved := rfl
@[simp] theorem run_put_status (k v : Nat) : ((Act.put k v).run s).status = s.status := rfl
@[simp] theorem run_put_data (k v : Nat) : ((Act.put k v).run s).data = s.data := rfl
@[simp] theorem run_put_outs (k v : Nat) : ((Act.put k v).run s).outs = s.outs := rfl
@[simp] theorem run_put_free (k v : Nat) : ((Act.put k v).run s).free = s.free := rfl

@[simp] theorem run_swap_pending : ((Act.swap).run s).pending = s.pending := rfl
@[simp] theorem run_swap_now : ((Act.swap).run s).now = s.now := rfl
@[simp] theorem run_swap_vtime : ((Act.swap).run s).vtime = s.vtime := rfl
@[simp] theorem run_swap_regs : ((Act.swap).run s).regs = s.regs := rfl
@[simp] theorem run_swap_live : ((Act.swap).run s).live = s.live := rfl
@[simp] theorem run_swap_sketch : ((Act.swap).run s).sketch = s.sketch := rfl
@[simp] theorem run_swap_flash : ((Act.swap).run s).flash = s.flash := rfl
@[simp] theorem run_swap_frames : ((Act.swap).run s).frames = s.frames := rfl
@[simp] theorem run_swap_copies : ((Act.swap).run s).copies = s.copies := rfl
@[simp] theorem run_swap_saved : ((Act.swap).run s).saved = s.saved := rfl
@[simp] theorem run_swap_status : ((Act.swap).run s).status = s.status := rfl
@[simp] theorem run_swap_data : ((Act.swap).run s).data = s.data := rfl
@[simp] theorem run_swap_outs : ((Act.swap).run s).outs = s.outs := rfl
@[simp] theorem run_swap_free : ((Act.swap).run s).free = s.free := rfl

@[simp] theorem run_discard_pending : ((Act.discard).run s).pending = s.pending := rfl
@[simp] theorem run_discard_now : ((Act.discard).run s).now = s.now := rfl
@[simp] theorem run_discard_vtime : ((Act.discard).run s).vtime = s.vtime := rfl
@[simp] theorem run_discard_regs : ((Act.discard).run s).regs = s.regs := rfl
@[simp] theorem run_discard_live : ((Act.discard).run s).live = s.live := rfl
@[simp] theorem run_discard_fair : ((Act.discard).run s).fair = s.fair := rfl
@[simp] theorem run_discard_prev : ((Act.discard).run s).prev = s.prev := rfl
@[simp] theorem run_discard_flash : ((Act.discard).run s).flash = s.flash := rfl
@[simp] theorem run_discard_frames : ((Act.discard).run s).frames = s.frames := rfl
@[simp] theorem run_discard_copies : ((Act.discard).run s).copies = s.copies := rfl
@[simp] theorem run_discard_saved : ((Act.discard).run s).saved = s.saved := rfl
@[simp] theorem run_discard_status : ((Act.discard).run s).status = s.status := rfl
@[simp] theorem run_discard_data : ((Act.discard).run s).data = s.data := rfl
@[simp] theorem run_discard_outs : ((Act.discard).run s).outs = s.outs := rfl
@[simp] theorem run_discard_free : ((Act.discard).run s).free = s.free := rfl

@[simp] theorem run_setFrames_pending (l : List Frame) : ((Act.setFrames l).run s).pending = s.pending := rfl
@[simp] theorem run_setFrames_now (l : List Frame) : ((Act.setFrames l).run s).now = s.now := rfl
@[simp] theorem run_setFrames_vtime (l : List Frame) : ((Act.setFrames l).run s).vtime = s.vtime := rfl
@[simp] theorem run_setFrames_regs (l : List Frame) : ((Act.setFrames l).run s).regs = s.regs := rfl
@[simp] theorem run_setFrames_live (l : List Frame) : ((Act.setFrames l).run s).live = s.live := rfl
@[simp] theorem run_setFrames_sketch (l : List Frame) : ((Act.setFrames l).run s).sketch = s.sketch := rfl
@[simp] theorem run_setFrames_fair (l : List Frame) : ((Act.setFrames l).run s).fair = s.fair := rfl
@[simp] theorem run_setFrames_prev (l : List Frame) : ((Act.setFrames l).run s).prev = s.prev := rfl
@[simp] theorem run_setFrames_flash (l : List Frame) : ((Act.setFrames l).run s).flash = s.flash := rfl
@[simp] theorem run_setFrames_copies (l : List Frame) : ((Act.setFrames l).run s).copies = s.copies := rfl
@[simp] theorem run_setFrames_saved (l : List Frame) : ((Act.setFrames l).run s).saved = s.saved := rfl
@[simp] theorem run_setFrames_status (l : List Frame) : ((Act.setFrames l).run s).status = s.status := rfl
@[simp] theorem run_setFrames_data (l : List Frame) : ((Act.setFrames l).run s).data = s.data := rfl
@[simp] theorem run_setFrames_outs (l : List Frame) : ((Act.setFrames l).run s).outs = s.outs := rfl
@[simp] theorem run_setFrames_free (l : List Frame) : ((Act.setFrames l).run s).free = s.free := rfl

@[simp] theorem run_setCopies_pending (l : List Copy) : ((Act.setCopies l).run s).pending = s.pending := rfl
@[simp] theorem run_setCopies_now (l : List Copy) : ((Act.setCopies l).run s).now = s.now := rfl
@[simp] theorem run_setCopies_vtime (l : List Copy) : ((Act.setCopies l).run s).vtime = s.vtime := rfl
@[simp] theorem run_setCopies_regs (l : List Copy) : ((Act.setCopies l).run s).regs = s.regs := rfl
@[simp] theorem run_setCopies_live (l : List Copy) : ((Act.setCopies l).run s).live = s.live := rfl
@[simp] theorem run_setCopies_sketch (l : List Copy) : ((Act.setCopies l).run s).sketch = s.sketch := rfl
@[simp] theorem run_setCopies_fair (l : List Copy) : ((Act.setCopies l).run s).fair = s.fair := rfl
@[simp] theorem run_setCopies_prev (l : List Copy) : ((Act.setCopies l).run s).prev = s.prev := rfl
@[simp] theorem run_setCopies_flash (l : List Copy) : ((Act.setCopies l).run s).flash = s.flash := rfl
@[simp] theorem run_setCopies_frames (l : List Copy) : ((Act.setCopies l).run s).frames = s.frames := rfl
@[simp] theorem run_setCopies_saved (l : List Copy) : ((Act.setCopies l).run s).saved = s.saved := rfl
@[simp] theorem run_setCopies_status (l : List Copy) : ((Act.setCopies l).run s).status = s.status := rfl
@[simp] theorem run_setCopies_data (l : List Copy) : ((Act.setCopies l).run s).data = s.data := rfl
@[simp] theorem run_setCopies_outs (l : List Copy) : ((Act.setCopies l).run s).outs = s.outs := rfl
@[simp] theorem run_setCopies_free (l : List Copy) : ((Act.setCopies l).run s).free = s.free := rfl

@[simp] theorem run_clock_pending (n v : Nat) : ((Act.clock n v).run s).pending = s.pending := rfl
@[simp] theorem run_clock_regs (n v : Nat) : ((Act.clock n v).run s).regs = s.regs := rfl
@[simp] theorem run_clock_live (n v : Nat) : ((Act.clock n v).run s).live = s.live := rfl
@[simp] theorem run_clock_sketch (n v : Nat) : ((Act.clock n v).run s).sketch = s.sketch := rfl
@[simp] theorem run_clock_fair (n v : Nat) : ((Act.clock n v).run s).fair = s.fair := rfl
@[simp] theorem run_clock_prev (n v : Nat) : ((Act.clock n v).run s).prev = s.prev := rfl
@[simp] theorem run_clock_flash (n v : Nat) : ((Act.clock n v).run s).flash = s.flash := rfl
@[simp] theorem run_clock_frames (n v : Nat) : ((Act.clock n v).run s).frames = s.frames := rfl
@[simp] theorem run_clock_copies (n v : Nat) : ((Act.clock n v).run s).copies = s.copies := rfl
@[simp] theorem run_clock_saved (n v : Nat) : ((Act.clock n v).run s).saved = s.saved := rfl
@[simp] theorem run_clock_status (n v : Nat) : ((Act.clock n v).run s).status = s.status := rfl
@[simp] theorem run_clock_data (n v : Nat) : ((Act.clock n v).run s).data = s.data := rfl
@[simp] theorem run_clock_outs (n v : Nat) : ((Act.clock n v).run s).outs = s.outs := rfl
@[simp] theorem run_clock_free (n v : Nat) : ((Act.clock n v).run s).free = s.free := rfl

@[simp] theorem run_answer_pending (n : Nat) (l : List Byte) : ((Act.answer n l).run s).pending = s.pending := rfl
@[simp] theorem run_answer_now (n : Nat) (l : List Byte) : ((Act.answer n l).run s).now = s.now := rfl
@[simp] theorem run_answer_vtime (n : Nat) (l : List Byte) : ((Act.answer n l).run s).vtime = s.vtime := rfl
@[simp] theorem run_answer_regs (n : Nat) (l : List Byte) : ((Act.answer n l).run s).regs = s.regs := rfl
@[simp] theorem run_answer_live (n : Nat) (l : List Byte) : ((Act.answer n l).run s).live = s.live := rfl
@[simp] theorem run_answer_sketch (n : Nat) (l : List Byte) : ((Act.answer n l).run s).sketch = s.sketch := rfl
@[simp] theorem run_answer_fair (n : Nat) (l : List Byte) : ((Act.answer n l).run s).fair = s.fair := rfl
@[simp] theorem run_answer_prev (n : Nat) (l : List Byte) : ((Act.answer n l).run s).prev = s.prev := rfl
@[simp] theorem run_answer_flash (n : Nat) (l : List Byte) : ((Act.answer n l).run s).flash = s.flash := rfl
@[simp] theorem run_answer_frames (n : Nat) (l : List Byte) : ((Act.answer n l).run s).frames = s.frames := rfl
@[simp] theorem run_answer_copies (n : Nat) (l : List Byte) : ((Act.answer n l).run s).copies = s.copies := rfl
@[simp] theorem run_answer_saved (n : Nat) (l : List Byte) : ((Act.answer n l).run s).saved = s.saved := rfl
@[simp] theorem run_answer_outs (n : Nat) (l : List Byte) : ((Act.answer n l).run s).outs = s.outs := rfl
@[simp] theorem run_answer_free (n : Nat) (l : List Byte) : ((Act.answer n l).run s).free = s.free := rfl

@[simp] theorem run_emit_pending (o : Out) : ((Act.emit o).run s).pending = s.pending := rfl
@[simp] theorem run_emit_now (o : Out) : ((Act.emit o).run s).now = s.now := rfl
@[simp] theorem run_emit_vtime (o : Out) : ((Act.emit o).run s).vtime = s.vtime := rfl
@[simp] theorem run_emit_regs (o : Out) : ((Act.emit o).run s).regs = s.regs := rfl
@[simp] theorem run_emit_live (o : Out) : ((Act.emit o).run s).live = s.live := rfl
@[simp] theorem run_emit_sketch (o : Out) : ((Act.emit o).run s).sketch = s.sketch := rfl
@[simp] theorem run_emit_fair (o : Out) : ((Act.emit o).run s).fair = s.fair := rfl
@[simp] theorem run_emit_prev (o : Out) : ((Act.emit o).run s).prev = s.prev := rfl
@[simp] theorem run_emit_flash (o : Out) : ((Act.emit o).run s).flash = s.flash := rfl
@[simp] theorem run_emit_frames (o : Out) : ((Act.emit o).run s).frames = s.frames := rfl
@[simp] theorem run_emit_copies (o : Out) : ((Act.emit o).run s).copies = s.copies := rfl
@[simp] theorem run_emit_saved (o : Out) : ((Act.emit o).run s).saved = s.saved := rfl
@[simp] theorem run_emit_status (o : Out) : ((Act.emit o).run s).status = s.status := rfl
@[simp] theorem run_emit_data (o : Out) : ((Act.emit o).run s).data = s.data := rfl
@[simp] theorem run_emit_free (o : Out) : ((Act.emit o).run s).free = s.free := rfl

@[simp] theorem run_quiet_pending : ((Act.quiet).run s).pending = s.pending := rfl
@[simp] theorem run_quiet_now : ((Act.quiet).run s).now = s.now := rfl
@[simp] theorem run_quiet_vtime : ((Act.quiet).run s).vtime = s.vtime := rfl
@[simp] theorem run_quiet_regs : ((Act.quiet).run s).regs = s.regs := rfl
@[simp] theorem run_quiet_live : ((Act.quiet).run s).live = s.live := rfl
@[simp] theorem run_quiet_sketch : ((Act.quiet).run s).sketch = s.sketch := rfl
@[simp] theorem run_quiet_fair : ((Act.quiet).run s).fair = s.fair := rfl
@[simp] theorem run_quiet_prev : ((Act.quiet).run s).prev = s.prev := rfl
@[simp] theorem run_quiet_flash : ((Act.quiet).run s).flash = s.flash := rfl
@[simp] theorem run_quiet_frames : ((Act.quiet).run s).frames = s.frames := rfl
@[simp] theorem run_quiet_copies : ((Act.quiet).run s).copies = s.copies := rfl
@[simp] theorem run_quiet_saved : ((Act.quiet).run s).saved = s.saved := rfl
@[simp] theorem run_quiet_free : ((Act.quiet).run s).free = s.free := rfl

@[simp] theorem run_drawn_pending : ((Act.drawn).run s).pending = s.pending := rfl
@[simp] theorem run_drawn_now : ((Act.drawn).run s).now = s.now := rfl
@[simp] theorem run_drawn_vtime : ((Act.drawn).run s).vtime = s.vtime := rfl
@[simp] theorem run_drawn_regs : ((Act.drawn).run s).regs = s.regs := rfl
@[simp] theorem run_drawn_live : ((Act.drawn).run s).live = s.live := rfl
@[simp] theorem run_drawn_sketch : ((Act.drawn).run s).sketch = s.sketch := rfl
@[simp] theorem run_drawn_fair : ((Act.drawn).run s).fair = s.fair := rfl
@[simp] theorem run_drawn_prev : ((Act.drawn).run s).prev = s.prev := rfl
@[simp] theorem run_drawn_flash : ((Act.drawn).run s).flash = s.flash := rfl
@[simp] theorem run_drawn_frames : ((Act.drawn).run s).frames = s.frames := rfl
@[simp] theorem run_drawn_copies : ((Act.drawn).run s).copies = s.copies := rfl
@[simp] theorem run_drawn_saved : ((Act.drawn).run s).saved = s.saved := rfl
@[simp] theorem run_drawn_status : ((Act.drawn).run s).status = s.status := rfl
@[simp] theorem run_drawn_data : ((Act.drawn).run s).data = s.data := rfl
@[simp] theorem run_drawn_outs : ((Act.drawn).run s).outs = s.outs := rfl

@[simp] theorem run_retain_pending (p q : Nat → Bool) (w : List (Nat × List Byte)) (g : List Byte) :
    ((Act.retain p q w g).run s).pending = s.pending := rfl
@[simp] theorem run_retain_now (p q : Nat → Bool) (w : List (Nat × List Byte)) (g : List Byte) :
    ((Act.retain p q w g).run s).now = s.now := rfl
@[simp] theorem run_retain_vtime (p q : Nat → Bool) (w : List (Nat × List Byte)) (g : List Byte) :
    ((Act.retain p q w g).run s).vtime = s.vtime := rfl
@[simp] theorem run_retain_regs (p q : Nat → Bool) (w : List (Nat × List Byte)) (g : List Byte) :
    ((Act.retain p q w g).run s).regs = s.regs := rfl
@[simp] theorem run_retain_live (p q : Nat → Bool) (w : List (Nat × List Byte)) (g : List Byte) :
    ((Act.retain p q w g).run s).live = s.live := rfl
@[simp] theorem run_retain_sketch (p q : Nat → Bool) (w : List (Nat × List Byte)) (g : List Byte) :
    ((Act.retain p q w g).run s).sketch = s.sketch := rfl
@[simp] theorem run_retain_fair (p q : Nat → Bool) (w : List (Nat × List Byte)) (g : List Byte) :
    ((Act.retain p q w g).run s).fair = s.fair := rfl
@[simp] theorem run_retain_prev (p q : Nat → Bool) (w : List (Nat × List Byte)) (g : List Byte) :
    ((Act.retain p q w g).run s).prev = s.prev := rfl
@[simp] theorem run_retain_flash (p q : Nat → Bool) (w : List (Nat × List Byte)) (g : List Byte) :
    ((Act.retain p q w g).run s).flash = s.flash := rfl
@[simp] theorem run_retain_frames (p q : Nat → Bool) (w : List (Nat × List Byte)) (g : List Byte) :
    ((Act.retain p q w g).run s).frames = s.frames := rfl
@[simp] theorem run_retain_copies (p q : Nat → Bool) (w : List (Nat × List Byte)) (g : List Byte) :
    ((Act.retain p q w g).run s).copies = s.copies := rfl
@[simp] theorem run_retain_status (p q : Nat → Bool) (w : List (Nat × List Byte)) (g : List Byte) :
    ((Act.retain p q w g).run s).status = s.status := rfl
@[simp] theorem run_retain_data (p q : Nat → Bool) (w : List (Nat × List Byte)) (g : List Byte) :
    ((Act.retain p q w g).run s).data = s.data := rfl
@[simp] theorem run_retain_outs (p q : Nat → Bool) (w : List (Nat × List Byte)) (g : List Byte) :
    ((Act.retain p q w g).run s).outs = s.outs := rfl
@[simp] theorem run_retain_free (p q : Nat → Bool) (w : List (Nat × List Byte)) (g : List Byte) :
    ((Act.retain p q w g).run s).free = s.free := rfl

@[simp] theorem run_forget_pending : ((Act.forget).run s).pending = s.pending := rfl
@[simp] theorem run_forget_now : ((Act.forget).run s).now = s.now := rfl
@[simp] theorem run_forget_vtime : ((Act.forget).run s).vtime = s.vtime := rfl
@[simp] theorem run_forget_regs : ((Act.forget).run s).regs = s.regs := rfl
@[simp] theorem run_forget_live : ((Act.forget).run s).live = s.live := rfl
@[simp] theorem run_forget_sketch : ((Act.forget).run s).sketch = s.sketch := rfl
@[simp] theorem run_forget_fair : ((Act.forget).run s).fair = s.fair := rfl
@[simp] theorem run_forget_prev : ((Act.forget).run s).prev = s.prev := rfl
@[simp] theorem run_forget_flash : ((Act.forget).run s).flash = s.flash := rfl
@[simp] theorem run_forget_frames : ((Act.forget).run s).frames = s.frames := rfl
@[simp] theorem run_forget_copies : ((Act.forget).run s).copies = s.copies := rfl
@[simp] theorem run_forget_status : ((Act.forget).run s).status = s.status := rfl
@[simp] theorem run_forget_data : ((Act.forget).run s).data = s.data := rfl
@[simp] theorem run_forget_outs : ((Act.forget).run s).outs = s.outs := rfl
@[simp] theorem run_forget_free : ((Act.forget).run s).free = s.free := rfl

@[simp] theorem run_keepRegs_pending (p : Nat → Bool) : ((Act.keepRegs p).run s).pending = s.pending := rfl
@[simp] theorem run_keepRegs_now (p : Nat → Bool) : ((Act.keepRegs p).run s).now = s.now := rfl
@[simp] theorem run_keepRegs_vtime (p : Nat → Bool) : ((Act.keepRegs p).run s).vtime = s.vtime := rfl
@[simp] theorem run_keepRegs_live (p : Nat → Bool) : ((Act.keepRegs p).run s).live = s.live := rfl
@[simp] theorem run_keepRegs_sketch (p : Nat → Bool) : ((Act.keepRegs p).run s).sketch = s.sketch := rfl
@[simp] theorem run_keepRegs_fair (p : Nat → Bool) : ((Act.keepRegs p).run s).fair = s.fair := rfl
@[simp] theorem run_keepRegs_prev (p : Nat → Bool) : ((Act.keepRegs p).run s).prev = s.prev := rfl
@[simp] theorem run_keepRegs_flash (p : Nat → Bool) : ((Act.keepRegs p).run s).flash = s.flash := rfl
@[simp] theorem run_keepRegs_frames (p : Nat → Bool) : ((Act.keepRegs p).run s).frames = s.frames := rfl
@[simp] theorem run_keepRegs_copies (p : Nat → Bool) : ((Act.keepRegs p).run s).copies = s.copies := rfl
@[simp] theorem run_keepRegs_saved (p : Nat → Bool) : ((Act.keepRegs p).run s).saved = s.saved := rfl
@[simp] theorem run_keepRegs_status (p : Nat → Bool) : ((Act.keepRegs p).run s).status = s.status := rfl
@[simp] theorem run_keepRegs_data (p : Nat → Bool) : ((Act.keepRegs p).run s).data = s.data := rfl
@[simp] theorem run_keepRegs_outs (p : Nat → Bool) : ((Act.keepRegs p).run s).outs = s.outs := rfl
@[simp] theorem run_keepRegs_free (p : Nat → Bool) : ((Act.keepRegs p).run s).free = s.free := rfl

@[simp] theorem run_skip : Act.skip.run s = s := rfl
@[simp] theorem run_seq (a b : Act) : (Act.seq a b).run s = b.run (a.run s) := rfl
@[simp] theorem run_dep (f : State → Act) : (Act.dep f).run s = (f s).run s := rfl
@[simp] theorem run_all_nil : (Act.all []).run s = s := rfl
@[simp] theorem run_all_cons (a : Act) (l : List Act) : (Act.all (a :: l)).run s = (Act.all l).run (a.run s) := rfl
@[simp] theorem run_when_true (a : Act) : (Act.when true a).run s = a.run s := rfl
@[simp] theorem run_when_false (a : Act) : (Act.when false a).run s = s := rfl
@[simp] theorem run_each_nil {α : Type} (f : α → Act) : (Act.each [] f).run s = s := rfl
@[simp] theorem run_each_cons {α : Type} (f : α → Act) (x : α) (l : List α) :
    (Act.each (x :: l) f).run s = (Act.each l f).run ((f x).run s) := rfl

theorem run_when (c : Bool) (a : Act) : (Act.when c a).run s = if c then a.run s else s := by cases c <;> rfl

@[simp] theorem run_clock_now (n v : Nat) : ((Act.clock n v).run s).now = max s.now n := rfl
@[simp] theorem run_clock_vtime (n v : Nat) : ((Act.clock n v).run s).vtime = v % 2 ^ 80 := rfl
@[simp] theorem run_answer_status (n : Nat) (l : List Byte) : ((Act.answer n l).run s).status = n % 256 := rfl
@[simp] theorem run_answer_data (n : Nat) (l : List Byte) : ((Act.answer n l).run s).data = l := rfl
@[simp] theorem run_emit_outs (o : Out) : ((Act.emit o).run s).outs = s.outs ++ [o] := rfl
@[simp] theorem run_quiet_outs : (Act.quiet.run s).outs = [] := rfl
@[simp] theorem run_quiet_status : (Act.quiet.run s).status = 0 := rfl
@[simp] theorem run_quiet_data : (Act.quiet.run s).data = [] := rfl
@[simp] theorem run_setFrames_frames (l : List Frame) : ((Act.setFrames l).run s).frames = l := rfl
@[simp] theorem run_setCopies_copies (l : List Copy) : ((Act.setCopies l).run s).copies = l := rfl
@[simp] theorem run_swap_fair : (Act.swap.run s).fair = s.sketch := rfl
@[simp] theorem run_swap_prev : (Act.swap.run s).prev = s.fair := rfl
@[simp] theorem run_discard_sketch : (Act.discard.run s).sketch = s.fair := rfl
@[simp] theorem run_drawn_free : (Act.drawn.run s).free = s.free + 1 := rfl
@[simp] theorem run_forget_saved : (Act.forget.run s).saved = none := rfl

/-! ### Registers -/

/-- A register reads as what was put in it, cut to its width. -/
@[simp] theorem get_put_self (k v : Nat) : ((Act.put k v).run s).get k = v % regMod k := by simp [State.get, Act.run]

/-- A put leaves every other register alone. -/
@[simp] theorem get_put_ne {j k : Nat} (v : Nat) (h : j ≠ k) : ((Act.put k v).run s).get j = s.get j := by
  simp [State.get, Act.run, h]

theorem get_put (j k v : Nat) : ((Act.put k v).run s).get j = if j = k then v % regMod k else s.get j := by
  split
  · subst j; simp
  · simp [*]

/-- A state with the same register file has the same registers. -/
theorem get_congr {s t : State} (h : t.regs = s.regs) (k : Nat) : t.get k = s.get k := by simp [State.get, h]
theorem flag_congr {s t : State} (h : t.regs = s.regs) (k : Nat) : t.flag k = s.flag k := by simp [State.flag, get_congr h]

@[simp] theorem get_swap (k : Nat) : ((Act.swap).run s).get k = s.get k := rfl
@[simp] theorem get_discard (k : Nat) : ((Act.discard).run s).get k = s.get k := rfl
@[simp] theorem get_setFrames (l : List Frame) (k : Nat) : ((Act.setFrames l).run s).get k = s.get k := rfl
@[simp] theorem get_setCopies (l : List Copy) (k : Nat) : ((Act.setCopies l).run s).get k = s.get k := rfl
@[simp] theorem get_clock (n v : Nat) (k : Nat) : ((Act.clock n v).run s).get k = s.get k := rfl
@[simp] theorem get_answer (n : Nat) (l : List Byte) (k : Nat) : ((Act.answer n l).run s).get k = s.get k := rfl
@[simp] theorem get_emit (o : Out) (k : Nat) : ((Act.emit o).run s).get k = s.get k := rfl
@[simp] theorem get_quiet (k : Nat) : ((Act.quiet).run s).get k = s.get k := rfl
@[simp] theorem get_drawn (k : Nat) : ((Act.drawn).run s).get k = s.get k := rfl
@[simp] theorem get_retain (p q : Nat → Bool) (l : List (Nat × List Byte)) (g : List Byte) (k : Nat) : ((Act.retain p q l g).run s).get k = s.get k := rfl
@[simp] theorem get_forget (k : Nat) : ((Act.forget).run s).get k = s.get k := rfl
@[simp] theorem get_cell (g : Gen) (a : Nat) (b : Byte) (k : Nat) : ((Act.cell g a b).run s).get k = s.get k := by
  cases g <;> rfl
@[simp] theorem get_keepCells (g : Gen) (p : Nat → Bool) (k : Nat) : ((Act.keepCells g p).run s).get k = s.get k := by
  cases g <;> rfl

theorem flag_eq (k : Nat) : s.flag k = (s.get k != 0) := rfl

/-! ### Octets -/

@[simp] theorem octet_cell_self (g : Gen) (a : Nat) (b : Byte) : ((Act.cell g a b).run s).octet g a = b := by
  cases g <;> simp [State.octet, Act.run, State.mem, State.withMem]

theorem octet_cell_ne (g : Gen) {a c : Nat} (b : Byte) (h : c ≠ a) : ((Act.cell g a b).run s).octet g c = s.octet g c := by
  cases g <;> simp [State.octet, Act.run, State.mem, State.withMem, h]

theorem octet_cell_gen {g h : Gen} (a c : Nat) (b : Byte) (hg : h ≠ g) : ((Act.cell g a b).run s).octet h c = s.octet h c := by
  cases g <;> cases h <;> first | rfl | exact absurd rfl hg

/-- A put leaves every octet alone. -/
@[simp] theorem octet_put (k v : Nat) (g : Gen) (a : Nat) : ((Act.put k v).run s).octet g a = s.octet g a := by cases g <;> rfl

end Sys2Proof.Machine
end

