-- ==== Sys2Proof/Laws/Ops.lean ====
section
/-! SUPPORT. What each shared operation of Machine/Ops.lean does, and what it leaves alone. -/

namespace Sys2Proof.Machine

variable (s : State)

/-! ### Octets and fields of table rows -/

@[simp] theorem get_block (g : Gen) (a : Nat) (bs : List Byte) (k : Nat) : ((Act.block g a bs).run s).get k = s.get k := by
  induction bs generalizing a s with
  | nil => rfl
  | cons b bs ih => simp [Act.block, ih]

@[simp] theorem get_setRow (g : Gen) (idx row off : Nat) (bs : List Byte) (k : Nat) :
    ((Act.setRow g idx row off bs).run s).get k = s.get k := get_block s g _ bs k

@[simp] theorem get_setF (g : Gen) (idx row : Nat) (f : Fld) (v k : Nat) :
    ((Act.setF g idx row f v).run s).get k = s.get k := by simp [Act.setF]

@[simp] theorem get_bumpF (g : Gen) (idx row : Nat) (f : Fld) (n k : Nat) :
    ((Act.bumpF g idx row f n).run s).get k = s.get k := by simp [Act.bumpF]

@[simp] theorem get_clearTable (g : Gen) (idx : Nat) (p : Nat → Bool) (k : Nat) :
    ((Act.clearTable g idx p).run s).get k = s.get k := by simp [Act.clearTable]

/-- An octet outside a stored block reads as before. -/
theorem octet_block_ne (g : Gen) (a : Nat) (bs : List Byte) {c : Nat} (h : c < a ∨ a + bs.length ≤ c) :
    ((Act.block g a bs).run s).octet g c = s.octet g c := by
  induction bs generalizing a s with
  | nil => rfl
  | cons b bs ih =>
    simp only [List.length_cons] at h
    simp only [Act.block, run_seq]
    rw [ih _ (a + 1) (by omega), octet_cell_ne _ _ _ (by omega)]

/-- An octet of another memory reads as before. -/
theorem octet_block_gen {g h : Gen} (a : Nat) (bs : List Byte) (c : Nat) (hg : h ≠ g) :
    ((Act.block g a bs).run s).octet h c = s.octet h c := by
  induction bs generalizing a s with
  | nil => rfl
  | cons b bs ih => simp only [Act.block, run_seq]; rw [ih, octet_cell_gen _ _ _ _ hg]

/-- The octets of a stored block read as what was stored. -/
theorem octet_block_self (g : Gen) (a : Nat) (bs : List Byte) {i : Nat} (h : i < bs.length) :
    ((Act.block g a bs).run s).octet g (a + i) = bs[i] := by
  induction bs generalizing a s i with
  | nil => simp at h
  | cons b bs ih =>
    simp only [Act.block, run_seq]
    cases i with
    | zero => rw [octet_block_ne _ _ _ _ (by omega)]; simp
    | succ i =>
      have := ih ((Act.cell g a b).run s) (a + 1) (i := i) (by simpa using h)
      simpa [Nat.add_assoc, Nat.add_comm 1 i] using this

/-- A stored block reads back whole. -/
theorem octets_block_self (g : Gen) (a : Nat) (bs : List Byte) : ((Act.block g a bs).run s).octets g a bs.length = bs := by
  refine List.ext_getElem (by simp [State.octets]) fun i h1 h2 => ?_
  simp only [State.octets, List.getElem_map, List.getElem_range]
  exact octet_block_self s g a bs h2

theorem octets_block_ne (g : Gen) (a : Nat) (bs : List Byte) {c n : Nat} (h : c + n ≤ a ∨ a + bs.length ≤ c) :
    ((Act.block g a bs).run s).octets g c n = s.octets g c n := by
  unfold State.octets
  refine List.map_congr_left fun i hi => octet_block_ne s g a bs ?_
  have := List.mem_range.mp hi
  omega

/-- The octets of a row that a field takes, and where the field stands in them. -/
def Fld.first (f : Fld) : Nat := f.bit / 8
def Fld.span (f : Fld) : Nat := (f.bit % 8 + f.width + 7) / 8

theorem fld_eq (g : Gen) (idx row : Nat) (f : Fld) :
    s.fld g idx row f = bits (leNat (s.octets g (cellKey idx row f.first) f.span)) (f.bit % 8) f.width := rfl

theorem octets_length (g : Gen) (a n : Nat) : (s.octets g a n).length = n := by simp [State.octets]

theorem setBits_lt {v lo w x n : Nat} (hv : v < 2 ^ n) (h : lo + w ≤ n) : setBits v lo w x < 2 ^ n := by
  unfold setBits
  obtain ⟨d, rfl⟩ := Nat.exists_eq_add_of_le h
  have h1 := Nat.mod_lt x (Nat.two_pow_pos w)
  have h2 := Nat.mod_lt v (Nat.two_pow_pos lo)
  have h3 : v / 2 ^ (lo + w) < 2 ^ d := by
    rw [Nat.div_lt_iff_lt_mul (Nat.two_pow_pos _), ← Nat.pow_add]
    exact lt_of_lt_of_eq hv (by ring_nf)
  have h4 : x % 2 ^ w * 2 ^ lo + v % 2 ^ lo < 2 ^ (lo + w) := by
    calc x % 2 ^ w * 2 ^ lo + v % 2 ^ lo < x % 2 ^ w * 2 ^ lo + 2 ^ lo := by omega
      _ = (x % 2 ^ w + 1) * 2 ^ lo := by ring
      _ ≤ 2 ^ w * 2 ^ lo := Nat.mul_le_mul_right _ h1
      _ = 2 ^ (lo + w) := by rw [Nat.pow_add]; ring
  calc v / 2 ^ (lo + w) * 2 ^ (lo + w) + x % 2 ^ w * 2 ^ lo + v % 2 ^ lo
      < v / 2 ^ (lo + w) * 2 ^ (lo + w) + 2 ^ (lo + w) := by omega
    _ = (v / 2 ^ (lo + w) + 1) * 2 ^ (lo + w) := by ring
    _ ≤ 2 ^ d * 2 ^ (lo + w) := Nat.mul_le_mul_right _ h3
    _ = 2 ^ (lo + w + d) := by rw [← Nat.pow_add]; ring_nf

/-- A field reads as what was set in it, cut to its width. -/
@[simp] theorem fld_setF_self (g : Gen) (idx row : Nat) (f : Fld) (v : Nat) :
    ((Act.setF g idx row f v).run s).fld g idx row f = v % 2 ^ f.width := by
  simp only [Act.setF, run_dep]
  rw [fld_eq]
  have hl : (leBytes ((f.bit % 8 + f.width + 7) / 8)
      (setBits (leNat (s.rowOctets g idx row (f.bit / 8) ((f.bit % 8 + f.width + 7) / 8))) (f.bit % 8) f.width v)).length
      = f.span := by simp [Fld.span]
  have hb := octets_block_self s g (cellKey idx row (f.bit / 8)) (leBytes ((f.bit % 8 + f.width + 7) / 8)
      (setBits (leNat (s.rowOctets g idx row (f.bit / 8) ((f.bit % 8 + f.width + 7) / 8))) (f.bit % 8) f.width v))
  rw [hl] at hb
  simp only [Act.setRow, Fld.first]
  rw [hb, leNat_leBytes, Nat.mod_eq_of_lt, bits_setBits]
  have h0 : leNat (s.rowOctets g idx row (f.bit / 8) ((f.bit % 8 + f.width + 7) / 8)) < 256 ^ ((f.bit % 8 + f.width + 7) / 8) := by
    refine lt_of_lt_of_eq (leNat_lt _) ?_
    simp [State.rowOctets, octets_length]
  have e : (256 : Nat) ^ ((f.bit % 8 + f.width + 7) / 8) = 2 ^ (8 * ((f.bit % 8 + f.width + 7) / 8)) := by
    rw [show (256 : Nat) = 2 ^ 8 by norm_num, ← Nat.pow_mul]
  rw [e] at h0 ⊢
  exact setBits_lt h0 (by omega)

theorem fld_setF_octets (g : Gen) (idx row idx' row' : Nat) (f f' : Fld) (v : Nat)
    (h : cellKey idx' row' f'.first + f'.span ≤ cellKey idx row f.first ∨ cellKey idx row f.first + f.span ≤ cellKey idx' row' f'.first) :
    ((Act.setF g idx row f v).run s).fld g idx' row' f' = s.fld g idx' row' f' := by
  rw [fld_eq, fld_eq]
  simp only [Act.setF, run_dep, Act.setRow]
  rw [octets_block_ne]
  simpa [Fld.first, Fld.span] using h

/-- A field leaves alone every field of its row that has no octet in common with it. -/
theorem fld_setF_apart (g : Gen) (idx row : Nat) (f f' : Fld) (v : Nat)
    (h : f'.first + f'.span ≤ f.first ∨ f.first + f.span ≤ f'.first) :
    ((Act.setF g idx row f v).run s).fld g idx row f' = s.fld g idx row f' := by
  refine fld_setF_octets s g idx row idx row f f' v ?_
  unfold cellKey
  omega

/-- A field leaves every other row alone. -/
theorem fld_setF_row (g : Gen) (idx row row' : Nat) (f f' : Fld) (v : Nat) (h : row' ≠ row)
    (hf : f.first + f.span ≤ 4096) (hf' : f'.first + f'.span ≤ 4096) :
    ((Act.setF g idx row f v).run s).fld g idx row' f' = s.fld g idx row' f' := by
  refine fld_setF_octets s g idx row idx row' f f' v ?_
  unfold cellKey
  omega

/-- A field leaves every other memory alone. -/
theorem fld_setF_gen {g g' : Gen} (idx row idx' row' : Nat) (f f' : Fld) (v : Nat) (h : g' ≠ g) :
    ((Act.setF g idx row f v).run s).fld g' idx' row' f' = s.fld g' idx' row' f' := by
  rw [fld_eq, fld_eq]
  simp only [Act.setF, run_dep, Act.setRow]
  congr 2
  unfold State.octets
  exact List.map_congr_left fun i _ => octet_block_gen s _ _ _ h

@[simp] theorem fld_put (k v : Nat) (g : Gen) (idx row : Nat) (f : Fld) : ((Act.put k v).run s).fld g idx row f = s.fld g idx row f := by
  cases g <;> rfl

/-! ### Counters and draws -/

/-- A counter that stops at its maximum (R37). -/
theorem get_bump_self (k n : Nat) : ((Act.bump k n).run s).get k = min (s.get k + n) (regMod k - 1) % regMod k := by
  simp [Act.bump]

@[simp] theorem get_bump_ne {j k : Nat} (n : Nat) (h : j ≠ k) : ((Act.bump k n).run s).get j = s.get j := by simp [Act.bump, h]

@[simp] theorem get_zero_mem {ks : List Nat} {k : Nat} (h : k ∈ ks) : ((Act.zero ks).run s).get k = 0 := by
  unfold Act.zero
  induction ks generalizing s with
  | nil => simp at h
  | cons j ks ih =>
    simp only [run_each_cons]
    by_cases hk : k ∈ ks
    · exact ih _ hk
    · have hj : k = j := by simpa [hk] using h
      subst hj
      have : ∀ (l : List Nat) (t : State), k ∉ l → ((Act.each l fun k => Act.put k 0).run t).get k = t.get k := by
        intro l
        induction l with
        | nil => intro t _; rfl
        | cons i l ihl =>
          intro t hl
          simp only [List.mem_cons, not_or] at hl
          simp only [run_each_cons]
          rw [ihl _ hl.2, get_put_ne _ _ hl.1]
      rw [this _ _ hk]
      simp

@[simp] theorem get_zero_not_mem {ks : List Nat} {k : Nat} (h : k ∉ ks) : ((Act.zero ks).run s).get k = s.get k := by
  unfold Act.zero
  induction ks generalizing s with
  | nil => rfl
  | cons j ks ih =>
    simp only [List.mem_cons, not_or] at h
    simp only [run_each_cons]
    rw [ih _ h.2, get_put_ne _ _ h.1]

theorem run_draw (use : Nat → Act) : (Act.draw use).run s = (use (Config.freeValue s.free)).run (Act.drawn.run s) := rfl

theorem run_drawIn (lo hi : Nat) (use : Nat → Act) :
    (Act.drawIn lo hi use).run s = (use (lo + Config.freeValue s.free % (hi + 1 - lo))).run (Act.drawn.run s) := rfl

@[simp] theorem get_vectorOf (j k : Nat) : ((Act.vectorOf j).run s).get k = s.get k := by
  simp only [Act.vectorOf, run_dep, run_when]
  split <;> simp

/-- A register that notifies reads as what was put in it. -/
theorem get_putNotify_self (k v vec : Nat) (h : v < regMod k) : ((Act.putNotify k v vec).run s).get k = v := by
  simp only [Act.putNotify, run_dep]
  split
  · simpa using ‹s.get k = v›
  · simp [Nat.mod_eq_of_lt h]

@[simp] theorem get_putNotify_ne {j k : Nat} (v vec : Nat) (h : j ≠ k) : ((Act.putNotify k v vec).run s).get j = s.get j := by
  simp only [Act.putNotify, run_dep]
  split <;> simp [h]

end Sys2Proof.Machine
end

