-- ==== Sys2Proof/Laws/Run.lean ====
section
/-! SUPPORT. What no act can do, by induction over the acts: touch the queue, turn back true time or the count of free values,
or leave a state that is not sound. -/

namespace Sys2Proof.Machine

/-- No act touches the queue of waiting commands. -/
@[simp] theorem run_pending (a : Act) (s : State) : (a.run s).pending = s.pending := by
  induction a generalizing s with
  | seq a b iha ihb => simp [Act.run, iha, ihb]
  | dep f ih => simpa [Act.run] using ih s s
  | cell g => cases g <;> rfl
  | keepCells g => cases g <;> rfl
  | _ => rfl

/-- True time never goes back. -/
theorem now_le_run (a : Act) (s : State) : s.now ≤ (a.run s).now := by
  induction a generalizing s with
  | seq a b iha ihb => exact Nat.le_trans (iha s) (ihb _)
  | dep f ih => simpa [Act.run] using ih s s
  | cell g => cases g <;> exact Nat.le_refl _
  | keepCells g => cases g <;> exact Nat.le_refl _
  | clock n v => exact Nat.le_max_left _ _
  | _ => exact Nat.le_refl _

/-- The count of free values never falls. -/
theorem free_le_run (a : Act) (s : State) : s.free ≤ (a.run s).free := by
  induction a generalizing s with
  | seq a b iha ihb => exact Nat.le_trans (iha s) (ihb _)
  | dep f ih => simpa [Act.run] using ih s s
  | cell g => cases g <;> exact Nat.le_refl _
  | keepCells g => cases g <;> exact Nat.le_refl _
  | drawn => exact Nat.le_succ _
  | _ => exact Nat.le_refl _

theorem regsSound_filter {m : Store Nat} {p : Nat × Nat → Bool} (h : regsSound m = true) : regsSound (m.filter p) = true := by
  simp only [regsSound, Bool.and_eq_true, List.all_eq_true] at *
  exact ⟨Store.wf_filter h.1, fun c hc => h.2 c (List.mem_of_mem_filter hc)⟩

theorem regsSound_set {m : Store Nat} (k v : Nat) (h : regsSound m = true) :
    regsSound (Store.set regDefault m k (v % regMod k)) = true := by
  simp only [regsSound, Bool.and_eq_true, List.all_eq_true] at *
  refine ⟨Store.wf_set _ _ h.1, fun c hc => ?_⟩
  rcases Store.mem_set hc with rfl | hc
  · rcases Nat.eq_zero_or_pos (regMod k) with h0 | h0
    · simp [regFits, h0]
    · simp [regFits, Nat.mod_lt v h0]
  · exact h.2 c hc

theorem memSound_filter {g : Gen} {m : Store Byte} {p : Nat × Byte → Bool} (h : memSound g m = true) :
    memSound g (m.filter p) = true := Store.wf_filter h

/-- The parts of a sound state. -/
theorem sound_iff (s : State) : s.sound = true ↔ regsSound s.regs = true ∧ (∀ g, memSound g (s.mem g) = true) ∧
    (∀ x ∈ s.saved, Saved.sound x = true) ∧ s.vtime < 2 ^ 80 ∧ s.status < 256 := by
  simp only [State.sound, Bool.and_eq_true, decide_eq_true_eq, Option.all_eq_true_iff_get, Option.mem_def]
  constructor
  · rintro ⟨⟨⟨⟨⟨⟨⟨⟨h1, h2⟩, h3⟩, h4⟩, h5⟩, h6⟩, h7⟩, h8⟩, h9⟩
    refine ⟨h1, fun g => by cases g <;> assumption, fun x hx => ?_, h8, h9⟩
    have := h7 (by simp [hx])
    simpa [hx] using this
  · rintro ⟨h1, hm, h7, h8, h9⟩
    exact ⟨⟨⟨⟨⟨⟨⟨⟨h1, hm .live⟩, hm .sketch⟩, hm .fair⟩, hm .prev⟩, hm .flash⟩,
      fun h => h7 _ (by simp)⟩, h8⟩, h9⟩

theorem mem_withMem (s : State) (g h : Gen) (m : Store Byte) : (s.withMem g m).mem h = if h = g then m else s.mem h := by
  cases g <;> cases h <;> rfl

theorem withMem_rest (s : State) (g : Gen) (m : Store Byte) : (s.withMem g m).regs = s.regs ∧ (s.withMem g m).saved = s.saved ∧
    (s.withMem g m).vtime = s.vtime ∧ (s.withMem g m).status = s.status := by cases g <;> exact ⟨rfl, rfl, rfl, rfl⟩

theorem sound_withMem {s : State} {g : Gen} {m : Store Byte} (h : s.sound = true) (hm : memSound g m = true) :
    (s.withMem g m).sound = true := by
  rw [sound_iff] at *
  obtain ⟨e1, e2, e3, e4⟩ := withMem_rest s g m
  rw [e1, e2, e3, e4]
  refine ⟨h.1, fun x => ?_, h.2.2⟩
  rw [mem_withMem]
  split
  · subst x; exact hm
  · exact h.2.1 x

theorem memSound_set {s : State} (h : s.sound = true) (g : Gen) (a : Nat) (b : Byte) :
    memSound g (Store.set (memDefault g) (s.mem g) a b) = true := Store.wf_set _ _ (((sound_iff s).mp h).2.1 g)

/-- Every act keeps a sound state sound. -/
theorem sound_run (a : Act) (s : State) (h : s.sound = true) : (a.run s).sound = true := by
  induction a generalizing s with
  | seq a b iha ihb => exact ihb _ (iha s h)
  | dep f ih => simpa [Act.run] using ih s s h
  | cell g a b => exact sound_withMem h (memSound_set h g a b)
  | keepCells g p => exact sound_withMem h (memSound_filter (((sound_iff s).mp h).2.1 g))
  | put k v =>
    obtain ⟨h1, hm, hr⟩ := (sound_iff s).mp h
    exact (sound_iff _).mpr ⟨regsSound_set k v h1, fun g => by cases g <;> exact hm _, hr⟩
  | keepRegs p =>
    obtain ⟨h1, hm, hr⟩ := (sound_iff s).mp h
    exact (sound_iff _).mpr ⟨regsSound_filter h1, fun g => by cases g <;> exact hm _, hr⟩
  | swap =>
    obtain ⟨h1, hm, hr⟩ := (sound_iff s).mp h
    exact (sound_iff _).mpr ⟨h1, fun g => by
      cases g <;> first | exact hm _ | exact hm .sketch | exact hm .fair, hr⟩
  | discard =>
    obtain ⟨h1, hm, hr⟩ := (sound_iff s).mp h
    exact (sound_iff _).mpr ⟨h1, fun g => by cases g <;> first | exact hm _ | exact hm .fair, hr⟩
  | clock n v =>
    obtain ⟨h1, hm, h3, h4, h5⟩ := (sound_iff s).mp h
    exact (sound_iff _).mpr ⟨h1, fun g => by cases g <;> exact hm _, h3, Nat.mod_lt _ (by decide), h5⟩
  | answer st d =>
    obtain ⟨h1, hm, h3, h4, h5⟩ := (sound_iff s).mp h
    exact (sound_iff _).mpr ⟨h1, fun g => by cases g <;> exact hm _, h3, h4, Nat.mod_lt _ (by decide)⟩
  | quiet =>
    obtain ⟨h1, hm, h3, h4, h5⟩ := (sound_iff s).mp h
    exact (sound_iff _).mpr ⟨h1, fun g => by cases g <;> exact hm _, h3, h4, show (0 : Nat) < 256 by decide⟩
  | retain p q w =>
    obtain ⟨h1, hm, h3, h4⟩ := (sound_iff s).mp h
    refine (sound_iff _).mpr ⟨h1, fun g => by cases g <;> exact hm _, fun x hx => ?_, h4⟩
    simp only [Act.run, Option.mem_def, Option.some.injEq] at hx
    subst hx
    simp only [Saved.sound, Bool.and_eq_true]
    exact ⟨⟨regsSound_filter h1, memSound_filter (hm .live)⟩, hm .fair⟩
  | forget =>
    obtain ⟨h1, hm, h3, h4⟩ := (sound_iff s).mp h
    exact (sound_iff _).mpr ⟨h1, fun g => by cases g <;> exact hm _, fun x hx => by simp [Act.run] at hx, h4⟩
  | _ => exact h

end Sys2Proof.Machine
end

