-- ==== Sys2Proof/Laws/Access.lean ====
section
/-! SUPPORT. The time before a command, and what an access comes to once R8 and R40 admit it. -/

namespace Sys2Proof.Machine

variable (s : State) (dt : Nat)

/-! ### The time before a command -/

theorem command_eq (a : Act) : command dt a s = .next (a.run (s.after dt)) := rfl

theorem after_eq : s.after dt = (tick dt).run s := rfl

/-- The time before a command changes only true time, vehicle time, the answer, the outputs, the count of free values and what
is left to slew. -/
theorem after_rest : (s.after dt).pending = s.pending ∧ (s.after dt).live = s.live ∧ (s.after dt).sketch = s.sketch
    ∧ (s.after dt).fair = s.fair ∧ (s.after dt).prev = s.prev ∧ (s.after dt).flash = s.flash ∧ (s.after dt).frames = s.frames
    ∧ (s.after dt).copies = s.copies ∧ (s.after dt).saved = s.saved ∧ (s.after dt).status = 0 ∧ (s.after dt).data = []
    ∧ (s.after dt).outs = [] ∧ (s.after dt).now = s.now + dt := by
  simp only [State.after, tick, run_seq, run_dep]
  split
  · simp
  · split
    · simp [run_drawIn]
    · split <;> simp [run_drawIn]

@[simp] theorem after_pending : (s.after dt).pending = s.pending := (after_rest s dt).1
@[simp] theorem after_live : (s.after dt).live = s.live := (after_rest s dt).2.1
@[simp] theorem after_sketch : (s.after dt).sketch = s.sketch := (after_rest s dt).2.2.1
@[simp] theorem after_fair : (s.after dt).fair = s.fair := (after_rest s dt).2.2.2.1
@[simp] theorem after_prev : (s.after dt).prev = s.prev := (after_rest s dt).2.2.2.2.1
@[simp] theorem after_flash : (s.after dt).flash = s.flash := (after_rest s dt).2.2.2.2.2.1
@[simp] theorem after_frames : (s.after dt).frames = s.frames := (after_rest s dt).2.2.2.2.2.2.1
@[simp] theorem after_copies : (s.after dt).copies = s.copies := (after_rest s dt).2.2.2.2.2.2.2.1
@[simp] theorem after_saved : (s.after dt).saved = s.saved := (after_rest s dt).2.2.2.2.2.2.2.2.1
@[simp] theorem after_status : (s.after dt).status = 0 := (after_rest s dt).2.2.2.2.2.2.2.2.2.1
@[simp] theorem after_data : (s.after dt).data = [] := (after_rest s dt).2.2.2.2.2.2.2.2.2.2.1
@[simp] theorem after_outs : (s.after dt).outs = [] := (after_rest s dt).2.2.2.2.2.2.2.2.2.2.2.1
@[simp] theorem after_now : (s.after dt).now = s.now + dt := (after_rest s dt).2.2.2.2.2.2.2.2.2.2.2.2

/-- The time before a command leaves every register alone but what is left to slew. -/
theorem after_get {k : Nat} (h1 : k ≠ Rg.slewUp) (h2 : k ≠ Rg.slewDown) : (s.after dt).get k = s.get k := by
  simp only [State.after, tick, run_seq, run_dep]
  split
  · simp
  · split
    · simp [run_drawIn, h1]
    · split <;> simp [run_drawIn, h2]

/-- An object of the dictionary reads the same once time has passed. -/
theorem after_object {k : Nat} (h : k < 2 ^ 24) : (s.after dt).get k = s.get k :=
  after_get s dt (by unfold Rg.slewUp Rg.at'; omega) (by unfold Rg.slewDown Rg.at'; omega)

@[simp] theorem after_octet (g : Gen) (a : Nat) : (s.after dt).octet g a = s.octet g a := by
  cases g <;> simp [State.octet, State.mem]

@[simp] theorem after_octets (g : Gen) (a n : Nat) : (s.after dt).octets g a n = s.octets g a n := by
  unfold State.octets; simp

@[simp] theorem after_fld (g : Gen) (idx row : Nat) (f : Fld) : (s.after dt).fld g idx row f = s.fld g idx row f := by
  simp [State.fld, State.rowOctets]

@[simp] theorem after_fldOn (g : Gen) (idx row : Nat) (f : Fld) : (s.after dt).fldOn g idx row f = s.fldOn g idx row f := by
  simp [State.fldOn]

/-- The switched domains work after the time before a command where they did before it. -/
@[simp] theorem after_operates : (s.after dt).operates = s.operates := by
  have h : (s.after dt).get Rg.porstLow = s.get Rg.porstLow := after_get s dt (by decide) (by decide)
  simp only [State.operates, State.unpowered, State.inReset, State.flag, after_object s dt (k := Key.deviceState) (by decide), h]

/-- They do in Running and SleepEntry, out of reset. -/
theorem operates_iff : s.operates = true ↔ s.get Key.deviceState < 2 ∧ s.get Rg.porstLow = 0 := by
  simp [State.operates, State.unpowered, State.inReset, State.flag]

/-- An event in the switched domains, while they work. -/
theorem run_powered {a : Act} (h : s.operates = true) : (powered a).run s = a.run s := by
  simp only [powered, run_dep, h, run_when_true]

/-- An event in the switched domains, while they do not. -/
theorem run_powered_off {a : Act} (h : s.operates = false) : (powered a).run s = s := by
  simp only [powered, run_dep, h, run_when_false]

/-- A command whose meaning is an act answers the state that the act leaves. -/
theorem runs_of {c : Instr} {s : State} {dt : Nat} {a : Act} {P : State → Prop} (hc : exec c s = command dt a s)
    (h : P (a.run (s.after dt))) : Runs c s P := ⟨_, hc, h⟩

/-- An event answers the state that its act leaves, while the switched domains are powered. -/
theorem runs_powered {c : Instr} {s : State} {dt : Nat} {a : Act} {P : State → Prop}
    (hc : exec c s = command dt (powered a) s) (hd : s.operates = true) (h : P (a.run (s.after dt))) : Runs c s P := by
  refine runs_of hc ?_
  rw [run_powered _ (by rw [after_operates]; exact hd)]
  exact h

/-! ### Accesses -/

variable (path : Path) (idx sub v : Nat)

/-- A write runs in the state that its path faces. -/
theorem command_scalarWrite : command dt (scalarWrite path idx sub v) s
    = .next ((writeScalarAt (s.facing dt path) path idx sub v).act.run (s.facing dt path)) := rfl

theorem command_scalarRead : command dt (scalarRead path idx sub) s
    = .next ((readScalarAt (s.facing dt path) path idx sub).act.run (s.facing dt path)) := rfl

theorem command_rowWrite (row : Nat) (sketch : Bool) (off : Nat) (bs : List Byte) :
    command dt (rowWrite path idx row sketch off bs) s
      = .next ((writeRowAt (s.facing dt path) path idx row sketch off bs).act.run (s.facing dt path)) := rfl

theorem command_rowRead (row : Nat) (sketch : Bool) (off n : Nat) :
    command dt (rowRead path idx row sketch off n) s
      = .next ((readRowAt (s.facing dt path) path idx row sketch off n).act.run (s.facing dt path)) := rfl

/-- What an admitted write of an object does: the value is made legal, its clamp is counted, and the object takes it. -/
theorem writeScalarAt_admits (h : s.admits path idx sub = true) :
    ∃ o, s.objAt idx sub = some o ∧
      (let x := s.legalValue idx sub o (ofSlot o.ty v)
       let w := writeValue s path idx sub x o
       writeScalarAt s path idx sub v
         = ⟨w.status, Act.all [Act.when (w.taken && isClamp idx (ofSlot o.ty v) x) (countClamp idx sub), w.effect], w.taken⟩) := by
  simp only [State.admits, Bool.and_eq_true, Option.isNone_iff_eq_none, bne_iff_ne, ne_eq] at h
  obtain ⟨⟨⟨h1, h2⟩, h3⟩, h4⟩ := h
  cases ho : s.objAt idx sub with
  | none => simp [ho] at h4
  | some o =>
    refine ⟨o, rfl, ?_⟩
    simp only [ho, Bool.and_eq_true, Bool.not_eq_true'] at h4
    simp [writeScalarAt, h1, h2, h3, ho, h4.1.1, h4.1.2, h4.2]

end Sys2Proof.Machine
end

