-- ==== Sys2Proof/Laws/Frame.lean ====
section
/-! SUPPORT. What an act cannot touch: a property over the language of acts from which the frames of the commands follow. -/

namespace Sys2Proof.Machine

/-- An act writes registers only where `ks` holds and octets only where `cs` holds, and touches neither traffic nor time nor the
retention image. -/
def Within (ks : Nat → Prop) (cs : Gen → Nat → Prop) : Act → Prop
  | .skip => True
  | .seq a b => Within ks cs a ∧ Within ks cs b
  | .dep f => ∀ s, Within ks cs (f s)
  | .put k _ => ks k
  | .cell g a _ => cs g a
  | .keepRegs p => ∀ k, ks k ∨ p k = true
  | .keepCells g p => ∀ a, cs g a ∨ p a = true
  | .swap => ∀ a, cs .prev a ∧ cs .fair a
  | .discard => ∀ a, cs .sketch a
  | .setFrames _ => False
  | .setCopies _ => False
  | .clock _ _ => False
  | .answer _ _ => True
  | .emit _ => True
  | .quiet => True
  | .drawn => True
  | .retain _ _ _ _ => False
  | .forget => False

variable {ks : Nat → Prop} {cs : Gen → Nat → Prop} {s u t : State}

theorem leavesRest_refl : leavesRest s s ks cs := ⟨fun _ _ => rfl, fun _ _ _ => rfl, rfl, rfl, rfl, rfl, rfl⟩

theorem leavesRest_trans (h : leavesRest s u ks cs) (h' : leavesRest u t ks cs) : leavesRest s t ks cs :=
  ⟨fun k hk => (h'.1 k hk).trans (h.1 k hk), fun g a hc => (h'.2.1 g a hc).trans (h.2.1 g a hc), h'.2.2.1.trans h.2.2.1,
    h'.2.2.2.1.trans h.2.2.2.1, h'.2.2.2.2.1.trans h.2.2.2.2.1, h'.2.2.2.2.2.1.trans h.2.2.2.2.2.1,
    h'.2.2.2.2.2.2.trans h.2.2.2.2.2.2⟩

/-- Dropping entries leaves every kept key alone. -/
theorem Store.get_filter {α : Type} (d : Nat → α) (m : Store α) (p : Nat → Bool) (k : Nat) (h : p k = true) :
    Store.get d (m.filter fun c => p c.1) k = Store.get d m k := by
  induction m with
  | nil => rfl
  | cons c m ih =>
    obtain ⟨j, v⟩ := c
    by_cases hj : p j = true
    · simp [Store.get, hj, ih]
    · have : j ≠ k := fun e => hj (e ▸ h)
      simp [Store.get, hj, ih, this]

/-- What an act cannot touch, it leaves as it was. -/
theorem run_leavesRest (a : Act) : ∀ s : State, Within ks cs a → leavesRest s (a.run s) ks cs := by
  induction a with
  | skip => intro s _; exact leavesRest_refl
  | seq a b iha ihb => intro s h; exact leavesRest_trans (iha s h.1) (ihb _ h.2)
  | dep f ih => intro s h; exact ih s s (h s)
  | put k v =>
    intro s h
    refine ⟨fun j hj => get_put_ne s v fun e => hj (e ▸ h), fun g a _ => ?_, rfl, rfl, rfl, rfl, rfl⟩
    cases g <;> rfl
  | cell g a b =>
    intro s h
    refine ⟨fun k _ => get_cell s g a b k, fun g' a' hc => ?_, ?_, ?_, ?_, ?_, ?_⟩
    · by_cases hg : g' = g
      · subst hg; exact octet_cell_ne s _ _ fun e => hc (e ▸ h)
      · exact octet_cell_gen s _ _ _ hg
    all_goals cases g <;> rfl
  | keepRegs p =>
    intro s h
    refine ⟨fun k hk => Store.get_filter _ _ p k ((h k).resolve_left hk), fun g a _ => ?_, rfl, rfl, rfl, rfl, rfl⟩
    cases g <;> rfl
  | keepCells g p =>
    intro s h
    refine ⟨fun k _ => get_keepCells s g p k, fun g' a hc => ?_, ?_, ?_, ?_, ?_, ?_⟩
    · by_cases hg : g' = g
      · subst hg
        have hp := (h a).resolve_left hc
        cases g' <;> exact Store.get_filter _ _ p a hp
      · revert hg; cases g <;> cases g' <;> intro hg <;> first | rfl | exact absurd rfl hg
    all_goals cases g <;> rfl
  | swap =>
    intro s h
    refine ⟨fun _ _ => rfl, fun g a hc => ?_, rfl, rfl, rfl, rfl, rfl⟩
    cases g <;> first | rfl | exact absurd (h a).1 hc | exact absurd (h a).2 hc
  | discard =>
    intro s h
    refine ⟨fun _ _ => rfl, fun g a hc => ?_, rfl, rfl, rfl, rfl, rfl⟩
    cases g <;> first | rfl | exact absurd (h a) hc
  | answer st d => intro s _; exact ⟨fun _ _ => rfl, fun g _ _ => by cases g <;> rfl, rfl, rfl, rfl, rfl, rfl⟩
  | emit o => intro s _; exact ⟨fun _ _ => rfl, fun g _ _ => by cases g <;> rfl, rfl, rfl, rfl, rfl, rfl⟩
  | quiet => intro s _; exact ⟨fun _ _ => rfl, fun g _ _ => by cases g <;> rfl, rfl, rfl, rfl, rfl, rfl⟩
  | drawn => intro s _; exact ⟨fun _ _ => rfl, fun g _ _ => by cases g <;> rfl, rfl, rfl, rfl, rfl, rfl⟩
  | setFrames l => intro s h; exact h.elim
  | setCopies l => intro s h; exact h.elim
  | clock n v => intro s h; exact h.elim
  | retain p q w => intro s h; exact h.elim
  | forget => intro s h; exact h.elim

/-! ### The named operations -/

@[simp] theorem within_skip : Within ks cs .skip := trivial
@[simp] theorem within_seq (a b : Act) : Within ks cs (.seq a b) ↔ Within ks cs a ∧ Within ks cs b := Iff.rfl
@[simp] theorem within_dep (f : State → Act) : Within ks cs (.dep f) ↔ ∀ s, Within ks cs (f s) := Iff.rfl
@[simp] theorem within_put (k v : Nat) : Within ks cs (.put k v) ↔ ks k := Iff.rfl
@[simp] theorem within_cell (g : Gen) (a : Nat) (b : Byte) : Within ks cs (.cell g a b) ↔ cs g a := Iff.rfl
@[simp] theorem within_answer (st : Nat) (d : List Byte) : Within ks cs (.answer st d) := trivial
@[simp] theorem within_emit (o : Out) : Within ks cs (.emit o) := trivial
@[simp] theorem within_drawn : Within ks cs .drawn := trivial

theorem within_all {l : List Act} : Within ks cs (Act.all l) ↔ ∀ a ∈ l, Within ks cs a := by
  induction l with
  | nil => simp [Act.all]
  | cons a l ih => simp [Act.all, ih]

@[simp] theorem within_all_nil : Within ks cs (Act.all []) := trivial
@[simp] theorem within_all_cons (a : Act) (l : List Act) :
    Within ks cs (Act.all (a :: l)) ↔ Within ks cs a ∧ Within ks cs (Act.all l) := Iff.rfl

theorem within_each {α : Type} {l : List α} {f : α → Act} (h : ∀ x ∈ l, Within ks cs (f x)) : Within ks cs (Act.each l f) := by
  refine within_all.mpr fun a ha => ?_
  obtain ⟨x, hx, rfl⟩ := List.mem_map.mp ha
  exact h x hx

theorem within_when {c : Bool} {a : Act} (h : c = true → Within ks cs a) : Within ks cs (Act.when c a) := by
  cases c with
  | true => exact h rfl
  | false => trivial

theorem within_block (g : Gen) (bs : List Byte) : ∀ a, (∀ i, i < bs.length → cs g (a + i)) → Within ks cs (Act.block g a bs) := by
  induction bs with
  | nil => intro _ _; trivial
  | cons b bs ih =>
    intro a h
    refine ⟨h 0 (by simp), ih (a + 1) fun i hi => ?_⟩
    have := h (i + 1) (by simpa using hi)
    rwa [Nat.add_assoc, Nat.add_comm 1 i]

/-- Octets of a row lie in the row. -/
theorem rowCells_mem {g : Gen} {idx row off : Nat} (h : off < 4096) : rowCells g idx row g (cellKey idx row off) :=
  ⟨rfl, by unfold cellKey; omega, by unfold cellKey; omega⟩

theorem tableCells_mem {g : Gen} {idx row off : Nat} (hr : row < 2 ^ 24) (ho : off < 4096) :
    tableCells g idx g (cellKey idx row off) := ⟨rfl, by unfold cellKey; omega⟩

theorem within_setF (g : Gen) (idx row : Nat) (f : Fld) (v : Nat)
    (h : ∀ i, i < (f.bit % 8 + f.width + 7) / 8 → cs g (cellKey idx row (f.bit / 8) + i)) : Within ks cs (Act.setF g idx row f v) := by
  intro s
  exact within_block g _ _ fun i hi => h i (by simpa using hi)

theorem within_bumpF (g : Gen) (idx row : Nat) (f : Fld) (n : Nat)
    (h : ∀ i, i < (f.bit % 8 + f.width + 7) / 8 → cs g (cellKey idx row (f.bit / 8) + i)) : Within ks cs (Act.bumpF g idx row f n) :=
  fun _ => within_setF g idx row f _ h

@[simp] theorem within_bump (k n : Nat) : Within ks cs (Act.bump k n) ↔ ks k := ⟨fun h => h .reset, fun h _ => h⟩

theorem within_zero {l : List Nat} (h : ∀ k ∈ l, ks k) : Within ks cs (Act.zero l) := within_each fun k hk => h k hk

@[simp] theorem within_vectorOf (k : Nat) : Within ks cs (Act.vectorOf k) := fun _ => within_when fun _ => trivial

theorem within_putNotify {k v vec : Nat} (h : ks k) : Within ks cs (Act.putNotify k v vec) := by
  intro s
  by_cases hv : s.get k = v
  · simp [hv]
  · simp [hv, h]

theorem within_draw {use : Nat → Act} (h : ∀ r, Within ks cs (use r)) : Within ks cs (Act.draw use) := fun _ => ⟨trivial, h _⟩

theorem within_drawIn {lo hi : Nat} {use : Nat → Act} (h : ∀ r, Within ks cs (use r)) : Within ks cs (Act.drawIn lo hi use) :=
  within_draw fun _ => h _

theorem within_clearTable {g : Gen} {idx : Nat} {p : Nat → Bool} (h : ∀ a, tableCells g idx g a → cs g a) :
    Within ks cs (Act.clearTable g idx p) := by
  intro a
  by_cases ha : a / 2 ^ 36 = idx
  · exact .inl (h a ⟨rfl, ha⟩)
  · refine .inr ?_
    simp only [Bool.not_eq_true', Bool.and_eq_false_iff, beq_eq_false_iff_ne]
    exact .inl ha

theorem within_mono {ks' : Nat → Prop} {cs' : Gen → Nat → Prop} (hk : ∀ k, ks k → ks' k) (hc : ∀ g a, cs g a → cs' g a)
    (a : Act) : Within ks cs a → Within ks' cs' a := by
  induction a with
  | seq a b iha ihb => exact fun h => ⟨iha h.1, ihb h.2⟩
  | dep f ih => exact fun h s => ih s (h s)
  | put k v => exact hk k
  | cell g a b => exact hc g a
  | keepRegs p => exact fun h k => (h k).imp_left (hk k)
  | keepCells g p => exact fun h a => (h a).imp_left (hc g a)
  | swap => exact fun h a => ⟨hc _ _ (h a).1, hc _ _ (h a).2⟩
  | discard => exact fun h a => hc _ _ (h a)
  | _ => exact id

end Sys2Proof.Machine
end

