-- ==== Sys2Proof/Laws/Keys.lean ====
section
/-! SUPPORT. The widths of the objects' registers, by key. -/

namespace Sys2Proof.Machine

theorem template_port {g p : Nat} (hg : g < 16) (hp : p < 256) : template (0x2000 + g + 16 * p) = (0x2000 + g, p) := by
  unfold template
  rw [if_pos (by omega)]
  congr 1
  · omega
  · omega

theorem key_index {x sub : Nat} (hs : sub < 256) : (x * 256 + sub) / 256 = x := by omega
theorem key_sub {x sub : Nat} (hs : sub < 256) : (x * 256 + sub) % 256 = sub := by omega
theorem key_low {x sub : Nat} : (x * 256 + sub) % 16 = sub % 16 := by omega
theorem key_object {x sub : Nat} (hx : x < 65536) (hs : sub < 256) : x * 256 + sub < 2 ^ 24 := by
  have : (2 : Nat) ^ 24 = 65536 * 256 := by norm_num
  omega

theorem objOfKey_port {g p sub : Nat} (hg : g < 16) (hp : p < 256) (hs : sub < 256) :
    objOfKey ((0x2000 + g + 16 * p) * 256 + sub) = objOfKey ((0x2000 + g) * 256 + sub) := by
  have h1 := template_port hg hp
  have h2 := template_port hg (show 0 < 256 by decide)
  simp only [Nat.mul_zero, Nat.add_zero] at h2
  have b1 : 0x2000 + g + 16 * p < 65536 := by omega
  have b2 : 0x2000 + g < 65536 := by omega
  generalize 0x2000 + g + 16 * p = x at *
  generalize 0x2000 + g = y at *
  unfold objOfKey
  rw [if_pos (key_object b1 hs), if_pos (key_object b2 hs)]
  simp only [key_index hs, key_sub hs, key_low, h1, h2]

/-- The width of a port's object does not depend on the port. -/
theorem regMod_port {g p sub : Nat} (hg : g < 16) (hp : p < 256) (hs : sub < 256) :
    regMod ((0x2000 + g + 16 * p) * 256 + sub) = regMod ((0x2000 + g) * 256 + sub) := by
  unfold regMod
  rw [objOfKey_port hg hp hs]

/-- An internal register has no width. -/
theorem regMod_internal {k : Nat} (h : 2 ^ 24 ≤ k) : regMod k = 0 := by
  unfold regMod objOfKey
  rw [if_neg (Nat.not_lt.mpr h)]

@[simp] theorem regMod_partNumber : regMod Key.partNumber = 18446744073709551616 := by decide
@[simp] theorem regMod_siliconRevision : regMod Key.siliconRevision = 256 := by decide
@[simp] theorem regMod_temperatureGrade : regMod Key.temperatureGrade = 256 := by decide
@[simp] theorem regMod_sketchCommit : regMod Key.sketchCommit = 256 := by decide
@[simp] theorem regMod_commitTime : regMod Key.commitTime = 18446744073709551616 := by decide
@[simp] theorem regMod_commitTimeFrac : regMod Key.commitTimeFrac = 65536 := by decide
@[simp] theorem regMod_commitState : regMod Key.commitState = 256 := by decide
@[simp] theorem regMod_fairCopyGeneration : regMod Key.fairCopyGeneration = 4294967296 := by decide
@[simp] theorem regMod_commitRefusal : regMod Key.commitRefusal = 65536 := by decide
@[simp] theorem regMod_sketchDiscard : regMod Key.sketchDiscard = 256 := by decide
@[simp] theorem regMod_pciVendorId : regMod Key.pciVendorId = 65536 := by decide
@[simp] theorem regMod_hostReadStatus : regMod Key.hostReadStatus = 256 := by decide
@[simp] theorem regMod_hostReadTarget : regMod Key.hostReadTarget = 18446744073709551616 := by decide
@[simp] theorem regMod_hostReadFailures : regMod Key.hostReadFailures = 4294967296 := by decide
@[simp] theorem regMod_apertureBinding {n : Nat} (h : n < 16) : regMod (Key.apertureBinding n) = 18446744073709551616 :=
  (by decide : ∀ x : Fin 16, regMod (Key.apertureBinding x.val) = 18446744073709551616) ⟨n, h⟩
@[simp] theorem regMod_apertureStride {n : Nat} (h : n < 16) : regMod (Key.apertureStride n) = 65536 :=
  (by decide : ∀ x : Fin 16, regMod (Key.apertureStride x.val) = 65536) ⟨n, h⟩
@[simp] theorem regMod_postedErrorCount : regMod Key.postedErrorCount = 256 := by decide
@[simp] theorem regMod_postedErrorOverflow : regMod Key.postedErrorOverflow = 4294967296 := by decide
@[simp] theorem regMod_postedErrorClear : regMod Key.postedErrorClear = 256 := by decide
@[simp] theorem regMod_postedErrorVectorEnable : regMod Key.postedErrorVectorEnable = 2 := by decide
@[simp] theorem regMod_clampCountersClear : regMod Key.clampCountersClear = 256 := by decide
@[simp] theorem regMod_remoteOdEnable : regMod Key.remoteOdEnable = 2 := by decide
@[simp] theorem regMod_sessionIdleTimeout : regMod Key.sessionIdleTimeout = 4294967296 := by decide
@[simp] theorem regMod_openSessions : regMod Key.openSessions = 256 := by decide
@[simp] theorem regMod_sessionRefusals : regMod Key.sessionRefusals = 4294967296 := by decide
@[simp] theorem regMod_badPduCount : regMod Key.badPduCount = 4294967296 := by decide
@[simp] theorem regMod_odStationAddress : regMod Key.odStationAddress = 281474976710656 := by decide
@[simp] theorem regMod_ethPortMask : regMod Key.ethPortMask = 18446744073709551616 := by decide
@[simp] theorem regMod_canChannelMaskLow : regMod Key.canChannelMaskLow = 18446744073709551616 := by decide
@[simp] theorem regMod_canChannelMaskHigh : regMod Key.canChannelMaskHigh = 4294967296 := by decide
@[simp] theorem regMod_canRequestId : regMod Key.canRequestId = 4294967296 := by decide
@[simp] theorem regMod_canResponseId : regMod Key.canResponseId = 4294967296 := by decide
@[simp] theorem regMod_canIdFormat : regMod Key.canIdFormat = 256 := by decide
@[simp] theorem regMod_canFrameFormat : regMod Key.canFrameFormat = 256 := by decide
@[simp] theorem regMod_isoTpBlockSize : regMod Key.isoTpBlockSize = 256 := by decide
@[simp] theorem regMod_isoTpStMin : regMod Key.isoTpStMin = 256 := by decide
@[simp] theorem regMod_remoteOdRateLimit : regMod Key.remoteOdRateLimit = 4294967296 := by decide
@[simp] theorem regMod_remoteOdRateDrops : regMod Key.remoteOdRateDrops = 4294967296 := by decide
@[simp] theorem regMod_remoteOdClass : regMod Key.remoteOdClass = 256 := by decide
@[simp] theorem regMod_sessionForceClose : regMod Key.sessionForceClose = 256 := by decide
@[simp] theorem regMod_attachmentKind {p : Nat} (h : p < 256) : regMod (Key.attachmentKind p) = 256 :=
  (regMod_port (g := 0) (sub := 1) (by decide) h (by decide)).trans (by decide)
@[simp] theorem regMod_attachmentBinding {p : Nat} (h : p < 256) : regMod (Key.attachmentBinding p) = 256 :=
  (regMod_port (g := 0) (sub := 2) (by decide) h (by decide)).trans (by decide)
@[simp] theorem regMod_portEnable {p : Nat} (h : p < 256) : regMod (Key.portEnable p) = 2 :=
  (regMod_port (g := 0) (sub := 3) (by decide) h (by decide)).trans (by decide)
@[simp] theorem regMod_portState {p : Nat} (h : p < 256) : regMod (Key.portState p) = 256 :=
  (regMod_port (g := 1) (sub := 1) (by decide) h (by decide)).trans (by decide)
@[simp] theorem regMod_pendingEnable {p : Nat} (h : p < 256) : regMod (Key.pendingEnable p) = 2 :=
  (regMod_port (g := 1) (sub := 2) (by decide) h (by decide)).trans (by decide)
@[simp] theorem regMod_linkUpTime {p : Nat} (h : p < 256) : regMod (Key.linkUpTime p) = 18446744073709551616 :=
  (regMod_port (g := 1) (sub := 3) (by decide) h (by decide)).trans (by decide)
@[simp] theorem regMod_linkDownReason {p : Nat} (h : p < 256) : regMod (Key.linkDownReason p) = 256 :=
  (regMod_port (g := 1) (sub := 4) (by decide) h (by decide)).trans (by decide)
@[simp] theorem regMod_flushDuration {p : Nat} (h : p < 256) : regMod (Key.flushDuration p) = 4294967296 :=
  (regMod_port (g := 1) (sub := 5) (by decide) h (by decide)).trans (by decide)
@[simp] theorem regMod_linkEventVector {p : Nat} (h : p < 256) : regMod (Key.linkEventVector p) = 256 :=
  (regMod_port (g := 1) (sub := 6) (by decide) h (by decide)).trans (by decide)
@[simp] theorem regMod_maxFrameLength {p : Nat} (h : p < 256) : regMod (Key.maxFrameLength p) = 65536 :=
  (regMod_port (g := 2) (sub := 1) (by decide) h (by decide)).trans (by decide)
@[simp] theorem regMod_serdesMode {p : Nat} (h : p < 256) : regMod (Key.serdesMode p) = 256 :=
  (regMod_port (g := 2) (sub := 2) (by decide) h (by decide)).trans (by decide)
@[simp] theorem regMod_speedSelect {p : Nat} (h : p < 256) : regMod (Key.speedSelect p) = 256 :=
  (regMod_port (g := 2) (sub := 3) (by decide) h (by decide)).trans (by decide)
@[simp] theorem regMod_fecMode {p : Nat} (h : p < 256) : regMod (Key.fecMode p) = 256 :=
  (regMod_port (g := 2) (sub := 4) (by decide) h (by decide)).trans (by decide)
@[simp] theorem regMod_t1Speed {p : Nat} (h : p < 256) : regMod (Key.t1Speed p) = 256 :=
  (regMod_port (g := 2) (sub := 5) (by decide) h (by decide)).trans (by decide)
@[simp] theorem regMod_t1Role {p : Nat} (h : p < 256) : regMod (Key.t1Role p) = 256 :=
  (regMod_port (g := 2) (sub := 6) (by decide) h (by decide)).trans (by decide)
@[simp] theorem regMod_plcaEnable {p : Nat} (h : p < 256) : regMod (Key.plcaEnable p) = 2 :=
  (regMod_port (g := 8) (sub := 49) (by decide) h (by decide)).trans (by decide)
@[simp] theorem regMod_plcaNodeId {p : Nat} (h : p < 256) : regMod (Key.plcaNodeId p) = 256 :=
  (regMod_port (g := 8) (sub := 50) (by decide) h (by decide)).trans (by decide)
@[simp] theorem regMod_plcaNodeCount {p : Nat} (h : p < 256) : regMod (Key.plcaNodeCount p) = 256 :=
  (regMod_port (g := 8) (sub := 51) (by decide) h (by decide)).trans (by decide)
@[simp] theorem regMod_plcaToTimer {p : Nat} (h : p < 256) : regMod (Key.plcaToTimer p) = 256 :=
  (regMod_port (g := 8) (sub := 52) (by decide) h (by decide)).trans (by decide)
@[simp] theorem regMod_plcaBurstCount {p : Nat} (h : p < 256) : regMod (Key.plcaBurstCount p) = 256 :=
  (regMod_port (g := 8) (sub := 53) (by decide) h (by decide)).trans (by decide)
@[simp] theorem regMod_plcaBurstTimer {p : Nat} (h : p < 256) : regMod (Key.plcaBurstTimer p) = 256 :=
  (regMod_port (g := 8) (sub := 54) (by decide) h (by decide)).trans (by decide)
@[simp] theorem regMod_canMode {p : Nat} (h : p < 256) : regMod (Key.canMode p) = 256 :=
  (regMod_port (g := 8) (sub := 65) (by decide) h (by decide)).trans (by decide)
@[simp] theorem regMod_nominalBitRate {p : Nat} (h : p < 256) : regMod (Key.nominalBitRate p) = 4294967296 :=
  (regMod_port (g := 8) (sub := 66) (by decide) h (by decide)).trans (by decide)
@[simp] theorem regMod_nominalSamplePoint {p : Nat} (h : p < 256) : regMod (Key.nominalSamplePoint p) = 65536 :=
  (regMod_port (g := 8) (sub := 67) (by decide) h (by decide)).trans (by decide)
@[simp] theorem regMod_dataBitRate {p : Nat} (h : p < 256) : regMod (Key.dataBitRate p) = 4294967296 :=
  (regMod_port (g := 8) (sub := 68) (by decide) h (by decide)).trans (by decide)
@[simp] theorem regMod_dataSamplePoint {p : Nat} (h : p < 256) : regMod (Key.dataSamplePoint p) = 65536 :=
  (regMod_port (g := 8) (sub := 69) (by decide) h (by decide)).trans (by decide)
@[simp] theorem regMod_tdcEnable {p : Nat} (h : p < 256) : regMod (Key.tdcEnable p) = 2 :=
  (regMod_port (g := 8) (sub := 70) (by decide) h (by decide)).trans (by decide)
@[simp] theorem regMod_autoBusOffRecovery {p : Nat} (h : p < 256) : regMod (Key.autoBusOffRecovery p) = 2 :=
  (regMod_port (g := 8) (sub := 71) (by decide) h (by decide)).trans (by decide)
@[simp] theorem regMod_xlPwmEnable {p : Nat} (h : p < 256) : regMod (Key.xlPwmEnable p) = 2 :=
  (regMod_port (g := 8) (sub := 72) (by decide) h (by decide)).trans (by decide)
@[simp] theorem regMod_listenOnly {p : Nat} (h : p < 256) : regMod (Key.listenOnly p) = 2 :=
  (regMod_port (g := 8) (sub := 73) (by decide) h (by decide)).trans (by decide)
@[simp] theorem regMod_canErrorState {p : Nat} (h : p < 256) : regMod (Key.canErrorState p) = 256 :=
  (regMod_port (g := 9) (sub := 65) (by decide) h (by decide)).trans (by decide)
@[simp] theorem regMod_transmitErrorCount {p : Nat} (h : p < 256) : regMod (Key.transmitErrorCount p) = 256 :=
  (regMod_port (g := 9) (sub := 66) (by decide) h (by decide)).trans (by decide)
@[simp] theorem regMod_receiveErrorCount {p : Nat} (h : p < 256) : regMod (Key.receiveErrorCount p) = 256 :=
  (regMod_port (g := 9) (sub := 67) (by decide) h (by decide)).trans (by decide)
@[simp] theorem regMod_busOffCount {p : Nat} (h : p < 256) : regMod (Key.busOffCount p) = 4294967296 :=
  (regMod_port (g := 9) (sub := 68) (by decide) h (by decide)).trans (by decide)
@[simp] theorem regMod_linRole {p : Nat} (h : p < 256) : regMod (Key.linRole p) = 256 :=
  (regMod_port (g := 8) (sub := 81) (by decide) h (by decide)).trans (by decide)
@[simp] theorem regMod_linBitRate {p : Nat} (h : p < 256) : regMod (Key.linBitRate p) = 65536 :=
  (regMod_port (g := 8) (sub := 82) (by decide) h (by decide)).trans (by decide)
@[simp] theorem regMod_linNoResponse {p : Nat} (h : p < 256) : regMod (Key.linNoResponse p) = 4294967296 :=
  (regMod_port (g := 9) (sub := 81) (by decide) h (by decide)).trans (by decide)
@[simp] theorem regMod_linSlotEmpty {p : Nat} (h : p < 256) : regMod (Key.linSlotEmpty p) = 4294967296 :=
  (regMod_port (g := 9) (sub := 82) (by decide) h (by decide)).trans (by decide)
@[simp] theorem regMod_serialProtocol {p : Nat} (h : p < 256) : regMod (Key.serialProtocol p) = 256 :=
  (regMod_port (g := 8) (sub := 97) (by decide) h (by decide)).trans (by decide)
@[simp] theorem regMod_serialBitRate {p : Nat} (h : p < 256) : regMod (Key.serialBitRate p) = 4294967296 :=
  (regMod_port (g := 8) (sub := 98) (by decide) h (by decide)).trans (by decide)
@[simp] theorem regMod_j1708Priority {p : Nat} (h : p < 256) : regMod (Key.j1708Priority p) = 256 :=
  (regMod_port (g := 8) (sub := 99) (by decide) h (by decide)).trans (by decide)
@[simp] theorem regMod_klineInit {p : Nat} (h : p < 256) : regMod (Key.klineInit p) = 256 :=
  (regMod_port (g := 8) (sub := 100) (by decide) h (by decide)).trans (by decide)
@[simp] theorem regMod_klineTargetAddress {p : Nat} (h : p < 256) : regMod (Key.klineTargetAddress p) = 256 :=
  (regMod_port (g := 8) (sub := 101) (by decide) h (by decide)).trans (by decide)
@[simp] theorem regMod_messageGap {p : Nat} (h : p < 256) : regMod (Key.messageGap p) = 65536 :=
  (regMod_port (g := 8) (sub := 102) (by decide) h (by decide)).trans (by decide)
@[simp] theorem regMod_serialCollisions {p : Nat} (h : p < 256) : regMod (Key.serialCollisions p) = 4294967296 :=
  (regMod_port (g := 9) (sub := 97) (by decide) h (by decide)).trans (by decide)
@[simp] theorem regMod_rxFrames {p : Nat} (h : p < 256) : regMod (Key.rxFrames p) = 18446744073709551616 :=
  (regMod_port (g := 6) (sub := 1) (by decide) h (by decide)).trans (by decide)
@[simp] theorem regMod_rxOctets {p : Nat} (h : p < 256) : regMod (Key.rxOctets p) = 18446744073709551616 :=
  (regMod_port (g := 6) (sub := 2) (by decide) h (by decide)).trans (by decide)
@[simp] theorem regMod_txFrames {p : Nat} (h : p < 256) : regMod (Key.txFrames p) = 18446744073709551616 :=
  (regMod_port (g := 6) (sub := 3) (by decide) h (by decide)).trans (by decide)
@[simp] theorem regMod_txOctets {p : Nat} (h : p < 256) : regMod (Key.txOctets p) = 18446744073709551616 :=
  (regMod_port (g := 6) (sub := 4) (by decide) h (by decide)).trans (by decide)
@[simp] theorem regMod_rxCheckErrors {p : Nat} (h : p < 256) : regMod (Key.rxCheckErrors p) = 18446744073709551616 :=
  (regMod_port (g := 6) (sub := 5) (by decide) h (by decide)).trans (by decide)
@[simp] theorem regMod_rxLengthErrors {p : Nat} (h : p < 256) : regMod (Key.rxLengthErrors p) = 18446744073709551616 :=
  (regMod_port (g := 6) (sub := 6) (by decide) h (by decide)).trans (by decide)
@[simp] theorem regMod_ingressDiscards {p : Nat} (h : p < 256) : regMod (Key.ingressDiscards p) = 18446744073709551616 :=
  (regMod_port (g := 6) (sub := 7) (by decide) h (by decide)).trans (by decide)
@[simp] theorem regMod_notUpDiscards {p : Nat} (h : p < 256) : regMod (Key.notUpDiscards p) = 18446744073709551616 :=
  (regMod_port (g := 6) (sub := 8) (by decide) h (by decide)).trans (by decide)
@[simp] theorem regMod_flushDiscards {p : Nat} (h : p < 256) : regMod (Key.flushDiscards p) = 18446744073709551616 :=
  (regMod_port (g := 6) (sub := 9) (by decide) h (by decide)).trans (by decide)
@[simp] theorem regMod_egressAborts {p : Nat} (h : p < 256) : regMod (Key.egressAborts p) = 18446744073709551616 :=
  (regMod_port (g := 6) (sub := 10) (by decide) h (by decide)).trans (by decide)
@[simp] theorem regMod_egressFormatDrops {p : Nat} (h : p < 256) : regMod (Key.egressFormatDrops p) = 18446744073709551616 :=
  (regMod_port (g := 6) (sub := 11) (by decide) h (by decide)).trans (by decide)
@[simp] theorem regMod_rxControlDiscards {p : Nat} (h : p < 256) : regMod (Key.rxControlDiscards p) = 18446744073709551616 :=
  (regMod_port (g := 6) (sub := 12) (by decide) h (by decide)).trans (by decide)
@[simp] theorem regMod_linkDownEvents {p : Nat} (h : p < 256) : regMod (Key.linkDownEvents p) = 4294967296 :=
  (regMod_port (g := 6) (sub := 13) (by decide) h (by decide)).trans (by decide)
@[simp] theorem regMod_countersClear2006 {p : Nat} (h : p < 256) : regMod (Key.countersClear2006 p) = 256 :=
  (regMod_port (g := 6) (sub := 14) (by decide) h (by decide)).trans (by decide)
@[simp] theorem regMod_malformedAction : regMod Key.malformedAction = 256 := by decide
@[simp] theorem regMod_noMatchAction : regMod Key.noMatchAction = 256 := by decide
@[simp] theorem regMod_fragmentOrphanAction : regMod Key.fragmentOrphanAction = 256 := by decide
@[simp] theorem regMod_fragmentLifetime : regMod Key.fragmentLifetime = 4294967296 := by decide
@[simp] theorem regMod_fragmentEntriesInUse : regMod Key.fragmentEntriesInUse = 65536 := by decide
@[simp] theorem regMod_fragmentTableFull : regMod Key.fragmentTableFull = 4294967296 := by decide
@[simp] theorem regMod_exceptionAggregateRate : regMod Key.exceptionAggregateRate = 4294967296 := by decide
@[simp] theorem regMod_exceptionAggregateBurst : regMod Key.exceptionAggregateBurst = 65536 := by decide
@[simp] theorem regMod_exceptionAggregateDrops : regMod Key.exceptionAggregateDrops = 4294967296 := by decide
@[simp] theorem regMod_malformedFrames : regMod Key.malformedFrames = 18446744073709551616 := by decide
@[simp] theorem regMod_malformedTail : regMod Key.malformedTail = 18446744073709551616 := by decide
@[simp] theorem regMod_parseIncompleteFrames : regMod Key.parseIncompleteFrames = 18446744073709551616 := by decide
@[simp] theorem regMod_noMatchFrames : regMod Key.noMatchFrames = 18446744073709551616 := by decide
@[simp] theorem regMod_recirculationDrops : regMod Key.recirculationDrops = 18446744073709551616 := by decide
@[simp] theorem regMod_generationDrops : regMod Key.generationDrops = 4294967296 := by decide
@[simp] theorem regMod_acfSplitOverflow : regMod Key.acfSplitOverflow = 4294967296 := by decide
@[simp] theorem regMod_classifierDrops : regMod Key.classifierDrops = 18446744073709551616 := by decide
@[simp] theorem regMod_countersClear4000 : regMod Key.countersClear4000 = 256 := by decide
@[simp] theorem regMod_firewallEnable : regMod Key.firewallEnable = 2 := by decide
@[simp] theorem regMod_openingTimeout : regMod Key.openingTimeout = 4294967296 := by decide
@[simp] theorem regMod_establishedTimeout : regMod Key.establishedTimeout = 4294967296 := by decide
@[simp] theorem regMod_closingTimeout : regMod Key.closingTimeout = 4294967296 := by decide
@[simp] theorem regMod_activeTimeout : regMod Key.activeTimeout = 4294967296 := by decide
@[simp] theorem regMod_sessionsInUse : regMod Key.sessionsInUse = 65536 := by decide
@[simp] theorem regMod_sessionCreateFailures : regMod Key.sessionCreateFailures = 4294967296 := by decide
@[simp] theorem regMod_sessionFlush : regMod Key.sessionFlush = 256 := by decide
@[simp] theorem regMod_firewallPendingEnable : regMod Key.firewallPendingEnable = 2 := by decide
@[simp] theorem regMod_cutThroughEnable {p : Nat} (h : p < 256) : regMod (Key.cutThroughEnable p) = 2 :=
  (regMod_port (g := 3) (sub := 41) (by decide) h (by decide)).trans (by decide)
@[simp] theorem regMod_cutThroughFrames {p : Nat} (h : p < 256) : regMod (Key.cutThroughFrames p) = 18446744073709551616 :=
  (regMod_port (g := 3) (sub := 42) (by decide) h (by decide)).trans (by decide)
@[simp] theorem regMod_varnishedFrames {p : Nat} (h : p < 256) : regMod (Key.varnishedFrames p) = 18446744073709551616 :=
  (regMod_port (g := 3) (sub := 43) (by decide) h (by decide)).trans (by decide)
@[simp] theorem regMod_queueCountersClear {p : Nat} (h : p < 256) : regMod (Key.queueCountersClear p) = 256 :=
  (regMod_port (g := 3) (sub := 44) (by decide) h (by decide)).trans (by decide)
@[simp] theorem regMod_cellsFree : regMod Key.cellsFree = 4294967296 := by decide
@[simp] theorem regMod_descriptorsFree : regMod Key.descriptorsFree = 4294967296 := by decide
@[simp] theorem regMod_queueEntriesFree : regMod Key.queueEntriesFree = 4294967296 := by decide
@[simp] theorem regMod_arrivalCellsPeak : regMod Key.arrivalCellsPeak = 65536 := by decide
@[simp] theorem regMod_ageingTime : regMod Key.ageingTime = 4294967296 := by decide
@[simp] theorem regMod_floodUnknownUnicast : regMod Key.floodUnknownUnicast = 2 := by decide
@[simp] theorem regMod_dynamicEntries : regMod Key.dynamicEntries = 65536 := by decide
@[simp] theorem regMod_learnFailures : regMod Key.learnFailures = 4294967296 := by decide
@[simp] theorem regMod_descriptorDrops : regMod Key.descriptorDrops = 18446744073709551616 := by decide
@[simp] theorem regMod_queueEntryDrops : regMod Key.queueEntryDrops = 18446744073709551616 := by decide
@[simp] theorem regMod_poolFullDrops : regMod Key.poolFullDrops = 18446744073709551616 := by decide
@[simp] theorem regMod_pushOutEvictions : regMod Key.pushOutEvictions = 18446744073709551616 := by decide
@[simp] theorem regMod_decisionOverruns : regMod Key.decisionOverruns = 18446744073709551616 := by decide
@[simp] theorem regMod_refCountOverflow : regMod Key.refCountOverflow = 4294967296 := by decide
@[simp] theorem regMod_vlanDiscards : regMod Key.vlanDiscards = 18446744073709551616 := by decide
@[simp] theorem regMod_bridgeFiltered : regMod Key.bridgeFiltered = 18446744073709551616 := by decide
@[simp] theorem regMod_internalTargetDrops : regMod Key.internalTargetDrops = 18446744073709551616 := by decide
@[simp] theorem regMod_fdbFlushDynamic : regMod Key.fdbFlushDynamic = 256 := by decide
@[simp] theorem regMod_countersClear3000 : regMod Key.countersClear3000 = 256 := by decide
@[simp] theorem regMod_poolCellsInUse {n : Nat} (h : n < 4) : regMod (Key.poolCellsInUse n) = 4294967296 :=
  (by decide : ∀ x : Fin 4, regMod (Key.poolCellsInUse x.val) = 4294967296) ⟨n, h⟩
@[simp] theorem regMod_gateOperState {p : Nat} (h : p < 256) : regMod (Key.gateOperState p) = 256 :=
  (regMod_port (g := 4) (sub := 1) (by decide) h (by decide)).trans (by decide)
@[simp] theorem regMod_configChangeTime {p : Nat} (h : p < 256) : regMod (Key.configChangeTime p) = 18446744073709551616 :=
  (regMod_port (g := 4) (sub := 2) (by decide) h (by decide)).trans (by decide)
@[simp] theorem regMod_operCycleTime {p : Nat} (h : p < 256) : regMod (Key.operCycleTime p) = 4294967296 :=
  (regMod_port (g := 4) (sub := 3) (by decide) h (by decide)).trans (by decide)
@[simp] theorem regMod_currentEntry {p : Nat} (h : p < 256) : regMod (Key.currentEntry p) = 65536 :=
  (regMod_port (g := 4) (sub := 4) (by decide) h (by decide)).trans (by decide)
@[simp] theorem regMod_currentGateStates {p : Nat} (h : p < 256) : regMod (Key.currentGateStates p) = 256 :=
  (regMod_port (g := 4) (sub := 5) (by decide) h (by decide)).trans (by decide)
@[simp] theorem regMod_transmissionOverruns {p : Nat} (h : p < 256) : regMod (Key.transmissionOverruns p) = 18446744073709551616 :=
  (regMod_port (g := 4) (sub := 6) (by decide) h (by decide)).trans (by decide)
@[simp] theorem regMod_brimDeferrals {p : Nat} (h : p < 256) : regMod (Key.brimDeferrals p) = 18446744073709551616 :=
  (regMod_port (g := 4) (sub := 7) (by decide) h (by decide)).trans (by decide)
@[simp] theorem regMod_configChanges {p : Nat} (h : p < 256) : regMod (Key.configChanges p) = 4294967296 :=
  (regMod_port (g := 4) (sub := 8) (by decide) h (by decide)).trans (by decide)
@[simp] theorem regMod_ingressLatency {p : Nat} (h : p < 256) : regMod (Key.ingressLatency p) = 4294967296 :=
  (regMod_port (g := 4) (sub := 9) (by decide) h (by decide)).trans (by decide)
@[simp] theorem regMod_egressLatency {p : Nat} (h : p < 256) : regMod (Key.egressLatency p) = 4294967296 :=
  (regMod_port (g := 4) (sub := 10) (by decide) h (by decide)).trans (by decide)
@[simp] theorem regMod_logPdelayInterval {p : Nat} (h : p < 256) : regMod (Key.logPdelayInterval p) = 4294967296 :=
  (regMod_port (g := 4) (sub := 11) (by decide) h (by decide)).trans (by decide)
@[simp] theorem regMod_meanLinkDelay {p : Nat} (h : p < 256) : regMod (Key.meanLinkDelay p) = 4294967296 :=
  (regMod_port (g := 4) (sub := 12) (by decide) h (by decide)).trans (by decide)
@[simp] theorem regMod_gateEventVector {p : Nat} (h : p < 256) : regMod (Key.gateEventVector p) = 256 :=
  (regMod_port (g := 4) (sub := 13) (by decide) h (by decide)).trans (by decide)
@[simp] theorem regMod_gateCountersClear {p : Nat} (h : p < 256) : regMod (Key.gateCountersClear p) = 256 :=
  (regMod_port (g := 4) (sub := 14) (by decide) h (by decide)).trans (by decide)
@[simp] theorem regMod_preemptionActive {p : Nat} (h : p < 256) : regMod (Key.preemptionActive p) = 2 :=
  (regMod_port (g := 5) (sub := 1) (by decide) h (by decide)).trans (by decide)
@[simp] theorem regMod_verifyStatus {p : Nat} (h : p < 256) : regMod (Key.verifyStatus p) = 256 :=
  (regMod_port (g := 5) (sub := 2) (by decide) h (by decide)).trans (by decide)
@[simp] theorem regMod_verifyTime {p : Nat} (h : p < 256) : regMod (Key.verifyTime p) = 256 :=
  (regMod_port (g := 5) (sub := 3) (by decide) h (by decide)).trans (by decide)
@[simp] theorem regMod_verifyDisable {p : Nat} (h : p < 256) : regMod (Key.verifyDisable p) = 2 :=
  (regMod_port (g := 5) (sub := 4) (by decide) h (by decide)).trans (by decide)
@[simp] theorem regMod_holdAdvance {p : Nat} (h : p < 256) : regMod (Key.holdAdvance p) = 4294967296 :=
  (regMod_port (g := 5) (sub := 5) (by decide) h (by decide)).trans (by decide)
@[simp] theorem regMod_fragmentsSent {p : Nat} (h : p < 256) : regMod (Key.fragmentsSent p) = 18446744073709551616 :=
  (regMod_port (g := 5) (sub := 6) (by decide) h (by decide)).trans (by decide)
@[simp] theorem regMod_fragmentsReceived {p : Nat} (h : p < 256) : regMod (Key.fragmentsReceived p) = 18446744073709551616 :=
  (regMod_port (g := 5) (sub := 7) (by decide) h (by decide)).trans (by decide)
@[simp] theorem regMod_assemblyErrors {p : Nat} (h : p < 256) : regMod (Key.assemblyErrors p) = 18446744073709551616 :=
  (regMod_port (g := 5) (sub := 8) (by decide) h (by decide)).trans (by decide)
@[simp] theorem regMod_eligibilityHolds {p : Nat} (h : p < 256) : regMod (Key.eligibilityHolds p) = 18446744073709551616 :=
  (regMod_port (g := 5) (sub := 9) (by decide) h (by decide)).trans (by decide)
@[simp] theorem regMod_shapingCountersClear {p : Nat} (h : p < 256) : regMod (Key.shapingCountersClear p) = 256 :=
  (regMod_port (g := 5) (sub := 10) (by decide) h (by decide)).trans (by decide)
@[simp] theorem regMod_vehicleTimeNow : regMod Key.vehicleTimeNow = 18446744073709551616 := by decide
@[simp] theorem regMod_vehicleTimeNowFrac : regMod Key.vehicleTimeNowFrac = 65536 := by decide
@[simp] theorem regMod_timeStatus : regMod Key.timeStatus = 256 := by decide
@[simp] theorem regMod_timeSourceInstance : regMod Key.timeSourceInstance = 256 := by decide
@[simp] theorem regMod_stepThreshold : regMod Key.stepThreshold = 4294967296 := by decide
@[simp] theorem regMod_maxSlewRate : regMod Key.maxSlewRate = 65536 := by decide
@[simp] theorem regMod_holdoverLimit : regMod Key.holdoverLimit = 4294967296 := by decide
@[simp] theorem regMod_offsetFromMaster : regMod Key.offsetFromMaster = 4294967296 := by decide
@[simp] theorem regMod_frequencyAdjust : regMod Key.frequencyAdjust = 4294967296 := by decide
@[simp] theorem regMod_timeSteps : regMod Key.timeSteps = 4294967296 := by decide
@[simp] theorem regMod_lastStepSize : regMod Key.lastStepSize = 4294967296 := by decide
@[simp] theorem regMod_syncLossEvents : regMod Key.syncLossEvents = 4294967296 := by decide
@[simp] theorem regMod_timeEventVector : regMod Key.timeEventVector = 256 := by decide
@[simp] theorem regMod_timeCountersClear : regMod Key.timeCountersClear = 256 := by decide
@[simp] theorem regMod_instanceEnable {i : Nat} (h : i < 2) : regMod (Key.instanceEnable i) = 2 :=
  (by decide : ∀ x : Fin 2, regMod (Key.instanceEnable x.val) = 2) ⟨i, h⟩
@[simp] theorem regMod_domainNumber {i : Nat} (h : i < 2) : regMod (Key.domainNumber i) = 256 :=
  (by decide : ∀ x : Fin 2, regMod (Key.domainNumber x.val) = 256) ⟨i, h⟩
@[simp] theorem regMod_externalPortConfiguration {i : Nat} (h : i < 2) : regMod (Key.externalPortConfiguration i) = 2 :=
  (by decide : ∀ x : Fin 2, regMod (Key.externalPortConfiguration x.val) = 2) ⟨i, h⟩
@[simp] theorem regMod_priority1 {i : Nat} (h : i < 2) : regMod (Key.priority1 i) = 256 :=
  (by decide : ∀ x : Fin 2, regMod (Key.priority1 x.val) = 256) ⟨i, h⟩
@[simp] theorem regMod_priority2 {i : Nat} (h : i < 2) : regMod (Key.priority2 i) = 256 :=
  (by decide : ∀ x : Fin 2, regMod (Key.priority2 x.val) = 256) ⟨i, h⟩
@[simp] theorem regMod_logSyncInterval {i : Nat} (h : i < 2) : regMod (Key.logSyncInterval i) = 4294967296 :=
  (by decide : ∀ x : Fin 2, regMod (Key.logSyncInterval x.val) = 4294967296) ⟨i, h⟩
@[simp] theorem regMod_syncReceiptTimeout {i : Nat} (h : i < 2) : regMod (Key.syncReceiptTimeout i) = 256 :=
  (by decide : ∀ x : Fin 2, regMod (Key.syncReceiptTimeout x.val) = 256) ⟨i, h⟩
@[simp] theorem regMod_grandmasterIdentity {i : Nat} (h : i < 2) : regMod (Key.grandmasterIdentity i) = 18446744073709551616 :=
  (by decide : ∀ x : Fin 2, regMod (Key.grandmasterIdentity x.val) = 18446744073709551616) ⟨i, h⟩
@[simp] theorem regMod_instanceState {i : Nat} (h : i < 2) : regMod (Key.instanceState i) = 256 :=
  (by decide : ∀ x : Fin 2, regMod (Key.instanceState x.val) = 256) ⟨i, h⟩
@[simp] theorem regMod_admittedStreams : regMod Key.admittedStreams = 65536 := by decide
@[simp] theorem regMod_certificateKeySlot : regMod Key.certificateKeySlot = 65536 := by decide
@[simp] theorem regMod_refusalStream : regMod Key.refusalStream = 65536 := by decide
@[simp] theorem regMod_refusalPort : regMod Key.refusalPort = 65536 := by decide
@[simp] theorem regMod_lastCheckDuration : regMod Key.lastCheckDuration = 4294967296 := by decide
@[simp] theorem regMod_deliveryFaultTotal : regMod Key.deliveryFaultTotal = 4294967296 := by decide
@[simp] theorem regMod_deliveryFaultLogCount : regMod Key.deliveryFaultLogCount = 256 := by decide
@[simp] theorem regMod_deliveryFaultOverflow : regMod Key.deliveryFaultOverflow = 4294967296 := by decide
@[simp] theorem regMod_deliveryFaultVector : regMod Key.deliveryFaultVector = 256 := by decide
@[simp] theorem regMod_deliveryFaultLogClear : regMod Key.deliveryFaultLogClear = 256 := by decide
@[simp] theorem regMod_stepExemptions : regMod Key.stepExemptions = 4294967296 := by decide
@[simp] theorem regMod_transitionExemptions : regMod Key.transitionExemptions = 4294967296 := by decide
@[simp] theorem regMod_streamCountersClear : regMod Key.streamCountersClear = 256 := by decide
@[simp] theorem regMod_streamUnblock : regMod Key.streamUnblock = 65536 := by decide
@[simp] theorem regMod_sojournSampleExponent {p : Nat} (h : p < 256) : regMod (Key.sojournSampleExponent p) = 256 :=
  (regMod_port (g := 7) (sub := 17) (by decide) h (by decide)).trans (by decide)
@[simp] theorem regMod_admissionMismatch {p : Nat} (h : p < 256) : regMod (Key.admissionMismatch p) = 2 :=
  (regMod_port (g := 7) (sub := 18) (by decide) h (by decide)).trans (by decide)
@[simp] theorem regMod_unadmittedRemovals {p : Nat} (h : p < 256) : regMod (Key.unadmittedRemovals p) = 18446744073709551616 :=
  (regMod_port (g := 7) (sub := 27) (by decide) h (by decide)).trans (by decide)
@[simp] theorem regMod_samplingClear {p : Nat} (h : p < 256) : regMod (Key.samplingClear p) = 256 :=
  (regMod_port (g := 7) (sub := 28) (by decide) h (by decide)).trans (by decide)
@[simp] theorem regMod_gatewayChannelEnable {p : Nat} (h : p < 256) : regMod (Key.gatewayChannelEnable p) = 2 :=
  (regMod_port (g := 10) (sub := 1) (by decide) h (by decide)).trans (by decide)
@[simp] theorem regMod_gatewayPendingEnable {p : Nat} (h : p < 256) : regMod (Key.gatewayPendingEnable p) = 2 :=
  (regMod_port (g := 10) (sub := 2) (by decide) h (by decide)).trans (by decide)
@[simp] theorem regMod_gatewayChannelState {p : Nat} (h : p < 256) : regMod (Key.gatewayChannelState p) = 256 :=
  (regMod_port (g := 10) (sub := 3) (by decide) h (by decide)).trans (by decide)
@[simp] theorem regMod_inboundFullDrops {p : Nat} (h : p < 256) : regMod (Key.inboundFullDrops p) = 18446744073709551616 :=
  (regMod_port (g := 10) (sub := 20) (by decide) h (by decide)).trans (by decide)
@[simp] theorem regMod_outboundFullDrops {p : Nat} (h : p < 256) : regMod (Key.outboundFullDrops p) = 18446744073709551616 :=
  (regMod_port (g := 10) (sub := 21) (by decide) h (by decide)).trans (by decide)
@[simp] theorem regMod_gatewayDisabledDrops {p : Nat} (h : p < 256) : regMod (Key.gatewayDisabledDrops p) = 18446744073709551616 :=
  (regMod_port (g := 10) (sub := 22) (by decide) h (by decide)).trans (by decide)
@[simp] theorem regMod_shutDownDuration {p : Nat} (h : p < 256) : regMod (Key.shutDownDuration p) = 4294967296 :=
  (regMod_port (g := 10) (sub := 23) (by decide) h (by decide)).trans (by decide)
@[simp] theorem regMod_gatewayPortCountersClear {p : Nat} (h : p < 256) : regMod (Key.gatewayPortCountersClear p) = 256 :=
  (regMod_port (g := 10) (sub := 24) (by decide) h (by decide)).trans (by decide)
@[simp] theorem regMod_noRouteAction : regMod Key.noRouteAction = 256 := by decide
@[simp] theorem regMod_noRouteFrames : regMod Key.noRouteFrames = 18446744073709551616 := by decide
@[simp] theorem regMod_routedFrames : regMod Key.routedFrames = 18446744073709551616 := by decide
@[simp] theorem regMod_gatewayFailureCount : regMod Key.gatewayFailureCount = 256 := by decide
@[simp] theorem regMod_gatewayFailureOverflow : regMod Key.gatewayFailureOverflow = 4294967296 := by decide
@[simp] theorem regMod_gatewayFailureClear : regMod Key.gatewayFailureClear = 256 := by decide
@[simp] theorem regMod_gatewayFailureVector : regMod Key.gatewayFailureVector = 256 := by decide
@[simp] theorem regMod_lifetimeExpiries : regMod Key.lifetimeExpiries = 18446744073709551616 := by decide
@[simp] theorem regMod_transformFailures : regMod Key.transformFailures = 18446744073709551616 := by decide
@[simp] theorem regMod_defaultLifetime : regMod Key.defaultLifetime = 65536 := by decide
@[simp] theorem regMod_refusalRoute : regMod Key.refusalRoute = 65536 := by decide
@[simp] theorem regMod_refusalPair : regMod Key.refusalPair = 256 := by decide
@[simp] theorem regMod_gatewayResidenceMax : regMod Key.gatewayResidenceMax = 4294967296 := by decide
@[simp] theorem regMod_lastGatewayCheckDuration : regMod Key.lastGatewayCheckDuration = 4294967296 := by decide
@[simp] theorem regMod_gatewayCountersClear : regMod Key.gatewayCountersClear = 256 := by decide
@[simp] theorem regMod_jobsInFlight : regMod Key.jobsInFlight = 65536 := by decide
@[simp] theorem regMod_jobsRunning : regMod Key.jobsRunning = 256 := by decide
@[simp] theorem regMod_submitBusyRefusals : regMod Key.submitBusyRefusals = 4294967296 := by decide
@[simp] theorem regMod_integrityEventVector : regMod Key.integrityEventVector = 256 := by decide
@[simp] theorem regMod_arbiterWeight {n : Nat} (h : n < 8) : regMod (Key.arbiterWeight n) = 65536 :=
  (by decide : ∀ x : Fin 8, regMod (Key.arbiterWeight x.val) = 65536) ⟨n, h⟩
@[simp] theorem regMod_starvationWindows : regMod Key.starvationWindows = 65536 := by decide
@[simp] theorem regMod_starvationFlags : regMod Key.starvationFlags = 256 := by decide
@[simp] theorem regMod_starvationVector : regMod Key.starvationVector = 256 := by decide
@[simp] theorem regMod_starvationClear : regMod Key.starvationClear = 256 := by decide
@[simp] theorem regMod_grantOwner : regMod Key.grantOwner = 256 := by decide
@[simp] theorem regMod_maskState : regMod Key.maskState = 256 := by decide
@[simp] theorem regMod_wordsGranted {n : Nat} (h : n < 8) : regMod (Key.wordsGranted n) = 18446744073709551616 :=
  (by decide : ∀ x : Fin 8, regMod (Key.wordsGranted x.val) = 18446744073709551616) ⟨n, h⟩
@[simp] theorem regMod_freshnessWarnRemaining : regMod Key.freshnessWarnRemaining = 18446744073709551616 := by decide
@[simp] theorem regMod_freshnessWarned : regMod Key.freshnessWarned = 65536 := by decide
@[simp] theorem regMod_freshnessExhausted : regMod Key.freshnessExhausted = 65536 := by decide
@[simp] theorem regMod_freshnessEventVector : regMod Key.freshnessEventVector = 256 := by decide
@[simp] theorem regMod_jobSubmit {g : Nat} (h : g < 64) : regMod (Key.jobSubmit g) = 256 :=
  (by decide : ∀ x : Fin 64, regMod (Key.jobSubmit x.val) = 256) ⟨g, h⟩
@[simp] theorem regMod_pageState {g : Nat} (h : g < 64) : regMod (Key.pageState g) = 256 :=
  (by decide : ∀ x : Fin 64, regMod (Key.pageState x.val) = 256) ⟨g, h⟩
@[simp] theorem regMod_pageEnable {g : Nat} (h : g < 64) : regMod (Key.pageEnable g) = 2 :=
  (by decide : ∀ x : Fin 64, regMod (Key.pageEnable x.val) = 2) ⟨g, h⟩
@[simp] theorem regMod_pagePendingEnable {g : Nat} (h : g < 64) : regMod (Key.pagePendingEnable g) = 2 :=
  (by decide : ∀ x : Fin 64, regMod (Key.pagePendingEnable x.val) = 2) ⟨g, h⟩
@[simp] theorem regMod_pageJobsInFlight {g : Nat} (h : g < 64) : regMod (Key.pageJobsInFlight g) = 256 :=
  (by decide : ∀ x : Fin 64, regMod (Key.pageJobsInFlight x.val) = 256) ⟨g, h⟩
@[simp] theorem regMod_inVerified {p : Nat} (h : p < 256) : regMod (Key.inVerified p) = 18446744073709551616 :=
  (regMod_port (g := 11) (sub := 1) (by decide) h (by decide)).trans (by decide)
@[simp] theorem regMod_inFailed {p : Nat} (h : p < 256) : regMod (Key.inFailed p) = 18446744073709551616 :=
  (regMod_port (g := 11) (sub := 2) (by decide) h (by decide)).trans (by decide)
@[simp] theorem regMod_inLate {p : Nat} (h : p < 256) : regMod (Key.inLate p) = 18446744073709551616 :=
  (regMod_port (g := 11) (sub := 3) (by decide) h (by decide)).trans (by decide)
@[simp] theorem regMod_inNoSa {p : Nat} (h : p < 256) : regMod (Key.inNoSa p) = 18446744073709551616 :=
  (regMod_port (g := 11) (sub := 4) (by decide) h (by decide)).trans (by decide)
@[simp] theorem regMod_inUntagged {p : Nat} (h : p < 256) : regMod (Key.inUntagged p) = 18446744073709551616 :=
  (regMod_port (g := 11) (sub := 5) (by decide) h (by decide)).trans (by decide)
@[simp] theorem regMod_outProtected {p : Nat} (h : p < 256) : regMod (Key.outProtected p) = 18446744073709551616 :=
  (regMod_port (g := 11) (sub := 6) (by decide) h (by decide)).trans (by decide)
@[simp] theorem regMod_outSaDrops {p : Nat} (h : p < 256) : regMod (Key.outSaDrops p) = 18446744073709551616 :=
  (regMod_port (g := 11) (sub := 7) (by decide) h (by decide)).trans (by decide)
@[simp] theorem regMod_macsecCountersClear {p : Nat} (h : p < 256) : regMod (Key.macsecCountersClear p) = 256 :=
  (regMod_port (g := 11) (sub := 8) (by decide) h (by decide)).trans (by decide)
@[simp] theorem regMod_pufStatus : regMod Key.pufStatus = 256 := by decide
@[simp] theorem regMod_pufDuration : regMod Key.pufDuration = 4294967296 := by decide
@[simp] theorem regMod_keyGuardMode : regMod Key.keyGuardMode = 256 := by decide
@[simp] theorem regMod_tamperLatched : regMod Key.tamperLatched = 2 := by decide
@[simp] theorem regMod_sweepActive : regMod Key.sweepActive = 2 := by decide
@[simp] theorem regMod_keyEventVector : regMod Key.keyEventVector = 256 := by decide
@[simp] theorem regMod_deviceUidHigh : regMod Key.deviceUidHigh = 18446744073709551616 := by decide
@[simp] theorem regMod_deviceUidLow : regMod Key.deviceUidLow = 18446744073709551616 := by decide
@[simp] theorem regMod_attestGenerate : regMod Key.attestGenerate = 256 := by decide
@[simp] theorem regMod_recordSealEnable : regMod Key.recordSealEnable = 2 := by decide
@[simp] theorem regMod_recordSealState : regMod Key.recordSealState = 256 := by decide
@[simp] theorem regMod_recordSealPendingEnable : regMod Key.recordSealPendingEnable = 2 := by decide
@[simp] theorem regMod_sealKeySlot : regMod Key.sealKeySlot = 65536 := by decide
@[simp] theorem regMod_sealSignSlot : regMod Key.sealSignSlot = 65536 := by decide
@[simp] theorem regMod_batchSize : regMod Key.batchSize = 65536 := by decide
@[simp] theorem regMod_recordDestination : regMod Key.recordDestination = 281474976710656 := by decide
@[simp] theorem regMod_recordEtherType : regMod Key.recordEtherType = 65536 := by decide
@[simp] theorem regMod_chainId : regMod Key.chainId = 18446744073709551616 := by decide
@[simp] theorem regMod_lastSequence : regMod Key.lastSequence = 4294967296 := by decide
@[simp] theorem regMod_recordsSealed : regMod Key.recordsSealed = 18446744073709551616 := by decide
@[simp] theorem regMod_sealDrops : regMod Key.sealDrops = 18446744073709551616 := by decide
@[simp] theorem regMod_prevChainId : regMod Key.prevChainId = 18446744073709551616 := by decide
@[simp] theorem regMod_prevLastSequence : regMod Key.prevLastSequence = 4294967296 := by decide
@[simp] theorem regMod_prevLastMacHigh : regMod Key.prevLastMacHigh = 18446744073709551616 := by decide
@[simp] theorem regMod_prevLastMacLow : regMod Key.prevLastMacLow = 18446744073709551616 := by decide
@[simp] theorem regMod_sealEventVector : regMod Key.sealEventVector = 256 := by decide
@[simp] theorem regMod_deviceState : regMod Key.deviceState = 256 := by decide
@[simp] theorem regMod_deviceSleepEnable : regMod Key.deviceSleepEnable = 2 := by decide
@[simp] theorem regMod_retentionEnable : regMod Key.retentionEnable = 2 := by decide
@[simp] theorem regMod_sleepEntryTimeout : regMod Key.sleepEntryTimeout = 65536 := by decide
@[simp] theorem regMod_lastWakeKind : regMod Key.lastWakeKind = 256 := by decide
@[simp] theorem regMod_lastWakeSource : regMod Key.lastWakeSource = 256 := by decide
@[simp] theorem regMod_lastSleepDuration : regMod Key.lastSleepDuration = 18446744073709551616 := by decide
@[simp] theorem regMod_lastWakeLatency : regMod Key.lastWakeLatency = 4294967296 := by decide
@[simp] theorem regMod_deviceWakes : regMod Key.deviceWakes = 4294967296 := by decide
@[simp] theorem regMod_failSafeSleeps : regMod Key.failSafeSleeps = 4294967296 := by decide
@[simp] theorem regMod_sleepEventVector : regMod Key.sleepEventVector = 256 := by decide
@[simp] theorem regMod_keepAwakeLogCount : regMod Key.keepAwakeLogCount = 256 := by decide
@[simp] theorem regMod_keepAwakeLogOverflow : regMod Key.keepAwakeLogOverflow = 4294967296 := by decide
@[simp] theorem regMod_keepAwakeLogClear : regMod Key.keepAwakeLogClear = 256 := by decide
@[simp] theorem regMod_retentionImageSize : regMod Key.retentionImageSize = 4294967296 := by decide
@[simp] theorem regMod_retentionOverflows : regMod Key.retentionOverflows = 4294967296 := by decide
@[simp] theorem regMod_ringEnable {r : Nat} (h : r < 32) : regMod (Key.ringEnable r) = 2 :=
  (by decide : ∀ x : Fin 32, regMod (Key.ringEnable x.val) = 2) ⟨r, h⟩
@[simp] theorem regMod_ringState {r : Nat} (h : r < 32) : regMod (Key.ringState r) = 256 :=
  (by decide : ∀ x : Fin 32, regMod (Key.ringState x.val) = 256) ⟨r, h⟩
@[simp] theorem regMod_ringPendingEnable {r : Nat} (h : r < 32) : regMod (Key.ringPendingEnable r) = 2 :=
  (by decide : ∀ x : Fin 32, regMod (Key.ringPendingEnable x.val) = 2) ⟨r, h⟩
@[simp] theorem regMod_localConsent {r : Nat} (h : r < 32) : regMod (Key.localConsent r) = 2 :=
  (by decide : ∀ x : Fin 32, regMod (Key.localConsent x.val) = 2) ⟨r, h⟩
@[simp] theorem regMod_holderCount {r : Nat} (h : r < 32) : regMod (Key.holderCount r) = 256 :=
  (by decide : ∀ x : Fin 32, regMod (Key.holderCount x.val) = 256) ⟨r, h⟩
@[simp] theorem regMod_lastHolder {r : Nat} (h : r < 32) : regMod (Key.lastHolder r) = 65536 :=
  (by decide : ∀ x : Fin 32, regMod (Key.lastHolder x.val) = 65536) ⟨r, h⟩
@[simp] theorem regMod_abortedCommits {r : Nat} (h : r < 32) : regMod (Key.abortedCommits r) = 4294967296 :=
  (by decide : ∀ x : Fin 32, regMod (Key.abortedCommits x.val) = 4294967296) ⟨r, h⟩
@[simp] theorem regMod_falseWakes {r : Nat} (h : r < 32) : regMod (Key.falseWakes r) = 4294967296 :=
  (by decide : ∀ x : Fin 32, regMod (Key.falseWakes x.val) = 4294967296) ⟨r, h⟩
@[simp] theorem regMod_busSleepsForced {r : Nat} (h : r < 32) : regMod (Key.busSleepsForced r) = 4294967296 :=
  (by decide : ∀ x : Fin 32, regMod (Key.busSleepsForced x.val) = 4294967296) ⟨r, h⟩
@[simp] theorem regMod_badRingMessages {r : Nat} (h : r < 32) : regMod (Key.badRingMessages r) = 4294967296 :=
  (by decide : ∀ x : Fin 32, regMod (Key.badRingMessages x.val) = 4294967296) ⟨r, h⟩
@[simp] theorem regMod_busSleeps {r : Nat} (h : r < 32) : regMod (Key.busSleeps r) = 4294967296 :=
  (by decide : ∀ x : Fin 32, regMod (Key.busSleeps x.val) = 4294967296) ⟨r, h⟩
@[simp] theorem regMod_ringCountersClear {r : Nat} (h : r < 32) : regMod (Key.ringCountersClear r) = 256 :=
  (by decide : ∀ x : Fin 32, regMod (Key.ringCountersClear x.val) = 256) ⟨r, h⟩
@[simp] theorem regMod_safetyState : regMod Key.safetyState = 256 := by decide
@[simp] theorem regMod_mismatches : regMod Key.mismatches = 4294967296 := by decide
@[simp] theorem regMod_samplingDivergences : regMod Key.samplingDivergences = 4294967296 := by decide
@[simp] theorem regMod_coreMismatches : regMod Key.coreMismatches = 4294967296 := by decide
@[simp] theorem regMod_comparatorFaults : regMod Key.comparatorFaults = 4294967296 := by decide
@[simp] theorem regMod_lastMismatchGroup : regMod Key.lastMismatchGroup = 256 := by decide
@[simp] theorem regMod_failSafeCause : regMod Key.failSafeCause = 256 := by decide
@[simp] theorem regMod_isolationViolations : regMod Key.isolationViolations = 4294967296 := by decide
@[simp] theorem regMod_faultVector : regMod Key.faultVector = 256 := by decide
@[simp] theorem regMod_faultLogCount : regMod Key.faultLogCount = 256 := by decide
@[simp] theorem regMod_faultLogOverflow : regMod Key.faultLogOverflow = 4294967296 := by decide
@[simp] theorem regMod_faultLogClear : regMod Key.faultLogClear = 256 := by decide
@[simp] theorem regMod_safeRelease : regMod Key.safeRelease = 256 := by decide
@[simp] theorem regMod_enterFailSafe : regMod Key.enterFailSafe = 256 := by decide
@[simp] theorem regMod_watchdogService : regMod Key.watchdogService = 256 := by decide
@[simp] theorem regMod_watchdogPeriod : regMod Key.watchdogPeriod = 65536 := by decide
@[simp] theorem regMod_periodicTestRun : regMod Key.periodicTestRun = 256 := by decide
@[simp] theorem regMod_periodicTestResult : regMod Key.periodicTestResult = 256 := by decide
@[simp] theorem regMod_correctedErrors : regMod Key.correctedErrors = 18446744073709551616 := by decide
@[simp] theorem regMod_uncorrectedErrors : regMod Key.uncorrectedErrors = 4294967296 := by decide
@[simp] theorem regMod_cellCrcErrors : regMod Key.cellCrcErrors = 4294967296 := by decide
@[simp] theorem regMod_latentTestAge : regMod Key.latentTestAge = 4294967296 := by decide
@[simp] theorem regMod_pipelineState {n : Nat} (h : n < 5) : regMod (Key.pipelineState n) = 256 :=
  (by decide : ∀ x : Fin 5, regMod (Key.pipelineState x.val) = 256) ⟨n, h⟩
@[simp] theorem regMod_spareHosts : regMod Key.spareHosts = 256 := by decide
@[simp] theorem regMod_failovers : regMod Key.failovers = 4294967296 := by decide
@[simp] theorem regMod_failoverDiscards : regMod Key.failoverDiscards = 4294967296 := by decide
@[simp] theorem regMod_interruptionDiscards : regMod Key.interruptionDiscards = 18446744073709551616 := by decide
@[simp] theorem regMod_lastInterruption : regMod Key.lastInterruption = 4294967296 := by decide
@[simp] theorem regMod_pipelineTest : regMod Key.pipelineTest = 256 := by decide
@[simp] theorem regMod_pipelineTestResult : regMod Key.pipelineTestResult = 256 := by decide
@[simp] theorem regMod_selfTestRun : regMod Key.selfTestRun = 256 := by decide
@[simp] theorem regMod_selfTestAbort : regMod Key.selfTestAbort = 256 := by decide
@[simp] theorem regMod_selfTestVector : regMod Key.selfTestVector = 256 := by decide
@[simp] theorem regMod_refclkDeviation : regMod Key.refclkDeviation = 4294967296 := by decide
@[simp] theorem regMod_junctionTemperature : regMod Key.junctionTemperature = 4294967296 := by decide
@[simp] theorem regMod_mbistResult : regMod Key.mbistResult = 256 := by decide
@[simp] theorem regMod_mbistRepairs : regMod Key.mbistRepairs = 65536 := by decide
@[simp] theorem regMod_mbistFailedGroup : regMod Key.mbistFailedGroup = 256 := by decide
@[simp] theorem regMod_mbistDuration : regMod Key.mbistDuration = 4294967296 := by decide
@[simp] theorem regMod_testsRunning : regMod Key.testsRunning = 256 := by decide
@[simp] theorem regMod_startupState : regMod Key.startupState = 256 := by decide
@[simp] theorem regMod_firmwareSlotActive : regMod Key.firmwareSlotActive = 256 := by decide
@[simp] theorem regMod_odSlotActive : regMod Key.odSlotActive = 256 := by decide
@[simp] theorem regMod_firmwareTrial : regMod Key.firmwareTrial = 2 := by decide
@[simp] theorem regMod_odTrial : regMod Key.odTrial = 2 := by decide
@[simp] theorem regMod_trialStarts : regMod Key.trialStarts = 256 := by decide
@[simp] theorem regMod_slotFallbacks : regMod Key.slotFallbacks = 4294967296 := by decide
@[simp] theorem regMod_rollbackCounter : regMod Key.rollbackCounter = 256 := by decide
@[simp] theorem regMod_updateConfirm : regMod Key.updateConfirm = 256 := by decide
@[simp] theorem regMod_recoveryRequest : regMod Key.recoveryRequest = 256 := by decide
@[simp] theorem regMod_systemRestart : regMod Key.systemRestart = 256 := by decide
@[simp] theorem regMod_jtagUnlock : regMod Key.jtagUnlock = 256 := by decide
@[simp] theorem regMod_jtagState : regMod Key.jtagState = 256 := by decide
@[simp] theorem regMod_startupDuration : regMod Key.startupDuration = 4294967296 := by decide
@[simp] theorem regMod_firmwareVersion : regMod Key.firmwareVersion = 4294967296 := by decide
@[simp] theorem regMod_odImageVersion : regMod Key.odImageVersion = 4294967296 := by decide
@[simp] theorem regMod_lastImageRejection : regMod Key.lastImageRejection = 65536 := by decide
@[simp] theorem regMod_updateOpen : regMod Key.updateOpen = 256 := by decide
@[simp] theorem regMod_updateState : regMod Key.updateState = 256 := by decide
@[simp] theorem regMod_updateVerify : regMod Key.updateVerify = 256 := by decide
@[simp] theorem regMod_updateActivate : regMod Key.updateActivate = 256 := by decide
@[simp] theorem regMod_updateAbort : regMod Key.updateAbort = 256 := by decide
@[simp] theorem regMod_updateReject : regMod Key.updateReject = 256 := by decide
@[simp] theorem regMod_updateQueueFree : regMod Key.updateQueueFree = 65536 := by decide
@[simp] theorem regMod_updateOwner : regMod Key.updateOwner = 256 := by decide
@[simp] theorem regMod_bankSelect : regMod Key.bankSelect = 256 := by decide
@[simp] theorem regMod_xtalStatus : regMod Key.xtalStatus = 256 := by decide
@[simp] theorem regMod_gpioDirection : regMod Key.gpioDirection = 4294967296 := by decide
@[simp] theorem regMod_gpioOutput : regMod Key.gpioOutput = 4294967296 := by decide
@[simp] theorem regMod_gpioInput : regMod Key.gpioInput = 4294967296 := by decide
@[simp] theorem regMod_gpioPullDown : regMod Key.gpioPullDown = 4294967296 := by decide
@[simp] theorem regMod_ppsOutput : regMod Key.ppsOutput = 4294967296 := by decide
@[simp] theorem regMod_ppsWidth : regMod Key.ppsWidth = 4294967296 := by decide

end Sys2Proof.Machine
end

