-- ==== Sys2Proof/Tests/Slice0.lean ====
section
/-! SUPPORT. Tests of the model: commands that cannot occur, what a few commands do, and for every statement with hypotheses a
state and operands that meet them. -/

namespace Sys2Proof.Tests

open Sys2Proof.Machine

/-- The state that acts lead to from reset. -/
def build (as : List Act) : State := (Act.all as).run State.reset

/-- The device awake: start-up done, the safety partition and the application cluster running, the host's link up. -/
def awake : List Act :=
  [.put Key.startupState 7, .put Key.safetyState 1, .put Rg.appRunning 1, .put Rg.pcieLink 1, .put Rg.busMaster 1,
    .put Rg.perstHigh 1, .put Rg.portsEnabled 1, .put Key.remoteOdEnable 1]

/-- The awake device with more acts done. -/
def up (as : List Act) : State := build (awake ++ as)

/-! ### The whole machine -/

theorem met_StepRunsTheFrontCommand :
    ({ State.reset with pending := [.xtalStart 5, .supplyUp 6] } : State).pending = .xtalStart 5 :: [.supplyUp 6] := by
  decide +kernel

theorem met_StepsNeverStop : State.reset.pending = [] := by decide +kernel

theorem met_StepKeepsStatesSound : (up [.put Key.ageingTime 700]).sound = true := by decide +kernel

/-- Vehicle time steered up, steered down, left alone, and held in reset. -/
theorem met_TimePassesAndDeadDomainsStay :
    (State.reset.inReset = false ∧ State.reset.get Rg.slewUp = 0 ∧ State.reset.get Rg.slewDown = 0)
    ∧ ((build [.put Rg.slewUp 900]).inReset = false ∧ (build [.put Rg.slewUp 900]).get Rg.slewUp ≠ 0)
    ∧ ((build [.put Rg.slewDown 900]).inReset = false ∧ (build [.put Rg.slewDown 900]).get Rg.slewUp = 0
        ∧ (build [.put Rg.slewDown 900]).get Rg.slewDown ≠ 0)
    ∧ (build [.put Rg.porstLow 1]).inReset = true
    ∧ ((Instr.gateEntry 5 0).needsPower = true ∧ (build [.put Key.deviceState 2]).operates = false
        ∧ (up [.put Rg.porstLow 1]).operates = false) := by
  decide +kernel

/-! ### Accesses to objects -/

theorem met_RefusedObjectWritesChangeNothing :
    ((Instr.sketchCommit 5 .spi 7).asWrite = some ⟨5, .spi, 0x1F10, 1, 7⟩
      ∧ (Instr.keyLoad 5 .safety 9 0 [1]).asRowWrite = some ⟨5, .safety, 0xF098, 9, false, 0, [1]⟩)
    ∧ ((build [.put Key.deviceState 3]).facing 0 .application).serves .application = false
    ∧ (((up []).facing 0 .pcie).serves .pcie = true ∧ tableOf 0x1234 = none ∧ ((up []).facing 0 .pcie).objAt 0x1234 1 = none)
    ∧ (∃ o, ((up []).facing 0 .pcie).objAt 0x1F10 4 = some o ∧ tableOf 0x1F10 = none
        ∧ ((up []).facing 0 .pcie).mayWrite .pcie 0x1F10 4 o = false)
    ∧ (∃ o, ((up [.put Key.commitState 2]).facing 0 .spi).objAt 0x1F10 2 = some o
        ∧ ((up [.put Key.commitState 2]).facing 0 .spi).serves .spi = true
        ∧ ((up [.put Key.commitState 2]).facing 0 .spi).mayWrite .spi 0x1F10 2 o = true
        ∧ ((up [.put Key.commitState 2]).facing 0 .spi).writeBusy 0x1F10 2 o = true)
    ∧ (((up []).facing 0 .pcie).highestSub 0x1F10).isSome
    ∧ (tableOf 0xF040).isSome := by
  refine ⟨by decide +kernel, by decide +kernel, by decide +kernel, ⟨_, rfl, by decide +kernel, by decide +kernel⟩,
    ⟨_, rfl, by decide +kernel, by decide +kernel, by decide +kernel⟩, by decide +kernel, by decide +kernel⟩

theorem met_AbsentObjectsAreNotFound :
    ((0xFFF : Nat) < 0x1000 ∧ (0xD000 : Nat) ≤ 0xEFFF ∧ (0xEFFF : Nat) < 0xF000)
    ∧ ((up []).facing 5 .safety).serves .safety = true
    ∧ (tableOf 0x1F10 = none ∧ ((up []).facing 5 .safety).objAt 0x1F10 99 = none)
    ∧ (tableOf 0x1F11 = none ∧ ((up []).facing 5 .safety).highestSub 0x1F11 = none) ∧ tableOf 0xF010 ≠ none := by
  decide +kernel

theorem met_RefusedObjectWritesChangeNothing_rights :
    (((up []).facing 0 .safety).serves .safety = true ∧ tableOf 0x3000 = none
      ∧ (∃ o, ((up []).facing 0 .safety).objAt 0x3000 1 = some o ∧ o.acc = .ro))
    ∧ (((up []).facing 0 .pcie).serves .pcie = true ∧ tableOf 0x8010 = none
      ∧ (∃ o, ((up []).facing 0 .pcie).objAt 0x8010 1 = some o ∧ o.acc = .rwS ∧ Path.pcie ≠ .safety))
    ∧ (∃ o, ((up []).facing 0 .pcie).objAt 0xA000 14 = some o ∧ o.acc = .cmdS) := by
  refine ⟨⟨by decide +kernel, by decide +kernel, _, rfl, by decide +kernel⟩,
    ⟨by decide +kernel, by decide +kernel, _, rfl, by decide +kernel, by decide +kernel⟩, _, rfl, by decide +kernel⟩

/-- A write above the range of AgeingTime, by a command with a row of its own as well. -/
theorem met_PlainObjectsTakeTheirLegalValue :
    (Instr.writeScalar 5 .spi 0x3000 5 0xFFFFFFFF).asWrite = some ⟨5, .spi, 0x3000, 5, 0xFFFFFFFF⟩
    ∧ ((up []).facing 5 .spi).admits .spi 0x3000 5 = true
    ∧ (∃ o, ((up []).facing 5 .spi).objAt 0x3000 5 = some o ∧ isCommand o = false
        ∧ isClamp 0x3000 (ofSlot o.ty 0xFFFFFFFF) (((up []).facing 5 .spi).legalValue 0x3000 5 o (ofSlot o.ty 0xFFFFFFFF)) = true)
    ∧ plainObject (0x3000 : BitVec 16).toNat (5 : BitVec 8).toNat = true := by
  refine ⟨by decide +kernel, by decide +kernel, ⟨_, rfl, by decide +kernel, by decide +kernel⟩, by decide +kernel⟩

theorem met_ReadsReturnValues :
    ((build [.put Key.deviceState 2]).facing 0 .application).serves .application = false
    ∧ (((up []).facing 0 .pcie).serves .pcie = true ∧ tableOf 0x1234 = none ∧ ((up []).facing 0 .pcie).objAt 0x1234 1 = none)
    ∧ (∃ o, ((up [.put (Rg.testedBy 3) 1]).facing 0 .pcie).objAt 0x2036 1 = some o ∧ tableOf 0x2036 = none
        ∧ ((up []).facing 0 .pcie).foreignRead .pcie 0x2036 1 = false)
    ∧ (∃ o, ((up []).facing 0 .spi).objAt 0x8100 1 = some o ∧ ((up []).facing 0 .spi).foreignRead .spi 0x8100 1 = true)
    ∧ (∃ o, ((up [.put (Rg.testedBy 3) 1]).facing 0 .pcie).objAt 0x2032 1 = some o
        ∧ ((up [.put (Rg.testedBy 3) 1]).facing 0 .pcie).readBusy 0x2032 1 = true)
    ∧ (∃ o, ((up []).facing 0 .pcie).objAt 0x5000 1 = some o ∧ ((up []).facing 0 .pcie).readBusy 0x5000 1 = false)
    ∧ ((up []).facing 0 .pcie).highestSub 0x3000 = some 19
    ∧ (∃ t, tableOf 0xF040 = some t) := by
  refine ⟨by decide +kernel, by decide +kernel, ⟨_, rfl, by decide +kernel, by decide +kernel⟩, ⟨_, rfl, by decide +kernel⟩,
    ⟨_, rfl, by decide +kernel⟩, ⟨_, rfl, by decide +kernel⟩, by decide +kernel, ⟨_, rfl⟩⟩

/-! ### Accesses to rows -/

/-- Each rule that stops a row write, at the edge of its range. -/
theorem met_RefusedRowWritesChangeNothing :
    (Instr.writeRow 5 .spi 0xF040 8191 true 255 [1]).asRowWrite = some ⟨5, .spi, 0xF040, 8191, true, 255, [1]⟩
    ∧ ((build [.put Key.deviceState 3]).facing 0 .spi).serves .spi = false
    ∧ (((up []).facing 0 .spi).serves .spi = true ∧ tableOf 0xF0FF = none)
    ∧ (∃ t, tableOf 0xF040 = some t ∧ t.rows ≤ 8192 ∧ t.stride < 256 + 1 ∧ 8191 < t.rows ∧ 255 + 1 ≤ t.stride ∧ t.staged = true
        ∧ ((up []).facing 0 .spi).mayWriteRow .spi t 8191 false = false
        ∧ ((up [.put Key.commitState 2]).facing 0 .spi).mayWriteRow .spi t 8191 true = true
        ∧ ((up [.put Key.commitState 2]).facing 0 .spi).rowBusy .spi t 8191 255 1 = true
        ∧ 2 ≤ ((up [.put Key.commitState 4]).facing 0 .spi).get Key.commitState
        ∧ ((up [.put Key.commitState 4]).facing 0 .spi).get Key.commitState ≤ 4) := by
  refine ⟨by decide +kernel, by decide +kernel, by decide +kernel, ⟨_, rfl, ?_⟩⟩
  decide +kernel

/-- A write of one field of an action set. -/
theorem met_SketchFieldsTakeTheirLegalValue :
    ∃ t, tableOf (0xF040 : BitVec 16).toNat = some t ∧ ((up []).facing 0 .spi).serves .spi = true ∧ t.staged = true
      ∧ (0 : BitVec 24).toNat < t.rows ∧ 162 + [0xFF#8, 0xFF#8].length ≤ t.stride
      ∧ ((up []).facing 0 .spi).mayWriteRow .spi t 0 true = true ∧ ((up []).facing 0 .spi).rowBusy .spi t 0 162 2 = false
      ∧ F.ternAction ∈ layout 0xF040 ∧ F.ternAction.ro = false ∧ F.ternAction.touched 162 2 = true
      ∧ F.ternValid ∈ layout 0xF040 ∧ F.ternValid.touched 162 2 = false := by
  refine ⟨_, rfl, ?_⟩
  decide +kernel

/-- Ring member 9 of ring 3 has been Holding since the start, and member 10 is not. -/
def holding : State := up [.put (Rg.isHolding 1 3 9) 1, .put (Rg.holdSince 1 3 9) 1]

theorem met_ReadsReturnValues_holding :
    ∃ t, tableOf (0xF0A1 : BitVec 16).toNat = some t ∧ (201 : BitVec 24).toNat < t.rows ∧ 0 + 32 ≤ t.stride
      ∧ (holding.facing (us 7) .spi).serves .spi = true ∧ (holding.facing (us 7) .spi).foreignRow .spi 0xF0A1 201 = false
      ∧ (holding.facing (us 7) .spi).flag (Rg.isHolding 1 (201 / 64) (201 % 64)) = true
      ∧ (holding.facing (us 7) .spi).get (Rg.holdSince 1 3 9) ≠ 0
      ∧ 0 < (holding.facing (us 7) .spi).now - ((holding.facing (us 7) .spi).get (Rg.holdSince 1 3 9) - 1)
      ∧ (holding.facing (us 7) .spi).flag (Rg.isHolding 1 (202 / 64) (202 % 64)) = false := by
  refine ⟨_, rfl, ?_⟩
  decide +kernel

theorem met_ReadsReturnValues_rows :
    ((build [.put Key.deviceState 3]).facing 0 .spi).serves .spi = false
    ∧ (((up []).facing 0 .spi).serves .spi = true ∧ tableOf 0xF0FF = none)
    ∧ (∃ t, tableOf 0xF0A0 = some t ∧ t.rows ≤ 32 ∧ 31 < t.rows ∧ 0 + 64 ≤ t.stride ∧ t.stride < 0 + 65
        ∧ ((up []).facing 0 .safety).foreignRow .safety 0xF0A0 31 = false)
    ∧ (∃ t, tableOf 0xF096 = some t ∧ ((up []).facing 0 .spi).foreignRow .spi 0xF096 1023 = true) := by
  refine ⟨by decide +kernel, by decide +kernel, ⟨_, rfl, ?_⟩, ⟨_, rfl, ?_⟩⟩ <;> decide +kernel

/-! ### The host -/

/-- No object, an object of at most seven octets, a full log of posted errors, and a write of a Fair copy. -/
theorem met_PostedWritesAreAnswered_ends :
    ((up []).after 0).valueOctets 0x1234 1 = none ∧ ((up []).after 0).valueOctets 0x3000 5 = some 4 ∧ (4 : Nat) ≤ 7
    ∧ 16 ≤ ((up [.put Key.postedErrorCount 16]).after 0).get Key.postedErrorCount ∧ (2, 1) ∈ postedReasons
    ∧ (∃ t o, exec (.writeRow 0 .pcie 0xF040 0 false 162 [1, 2]) (up []) = .next o ∧ o.status = 2 ∧ tableOf 0xF040 = some t
        ∧ t.staged = true ∧ ((up []).after 0).mayWriteRow .pcie t 0 true = true) := by
  refine ⟨by decide +kernel, by decide +kernel, by decide +kernel, by decide +kernel, by decide +kernel,
    ⟨_, _, rfl, by decide +kernel, rfl, by decide +kernel, by decide +kernel⟩⟩

theorem met_PostedWritesAreAnswered :
    (((up []).after 0).serves .pcie = true ∧ ((up []).after 0).valueOctets 0x3000 5 = some 4
      ∧ ((up []).after 0).get Key.postedErrorCount < 16)
    ∧ (∃ t, exec (.writeScalar 0 .pcie 0x3000 5 (BitVec.ofNat 64 (leNat (leBytes 8 300)))) (up []) = .next t ∧ t.status = 0)
    ∧ (∃ t o, exec (.writeScalar 0 .pcie 0x3000 1 (BitVec.ofNat 64 (leNat (leBytes 8 300)))) (up []) = .next t ∧ t.status = 2
        ∧ ((up []).after 0).objAt 0x3000 1 = some o ∧ tableOf 0x3000 = none ∧ isCommand o = false)
    ∧ (∃ t, tableOf (((up [.put (Key.apertureBinding 0) 0xF0A0]).after 0).bindingAt 64).1 = some t
        ∧ 64 % 0x4000000 % t.stride + 1 ≤ t.stride
        ∧ (((up [.put (Key.apertureBinding 0) 0xF0A0]).after 0).bindingAt 64).2.2 + 64 % 0x4000000 / t.stride < 2 ^ 24)
    ∧ (∃ t, exec (.writeRow 0 .pcie 0xF0A0 1 false 0 [3]) (up [.put (Key.apertureBinding 0) 0xF0A0]) = .next t ∧ t.status = 0)
    ∧ tableOf (((up []).after 0).bindingAt 0).1 = none := by
  refine ⟨by decide +kernel, ⟨_, rfl, by decide +kernel⟩, ⟨_, _, rfl, by decide +kernel, rfl, by decide +kernel, by decide +kernel⟩,
    ⟨_, rfl, by decide +kernel, by decide +kernel⟩, ⟨_, rfl, by decide +kernel⟩, by decide +kernel⟩

/-- The forms of the host's accesses that complete: a whole slot, a slot read, and octets of a Sketch row in an aperture. -/
def bound : State := up [.put (Key.apertureBinding 0) (0xF040 + 2 ^ 16)]

theorem met_HostReadsComplete_values :
    (∃ o, ((up []).after 0).admits .pcie 0x3000 5 = true ∧ ((up []).after 0).objAt 0x3000 5 = some o ∧ isCommand o = false
      ∧ plainObject 0x3000 5 = true ∧ tableOf 0x3000 = none ∧ ((up []).after 0).foreignRead .pcie 0x3000 5 = false
      ∧ ((up []).after 0).readBusy 0x3000 5 = false)
    ∧ (∃ t, tableOf ((bound.after 0).bindingAt 162).1 = some t ∧ (162 % t.stride + 2 ≤ t.stride) ∧ t.staged = true ∧ 162 / t.stride < t.rows
      ∧ ((bound.after 0).bindingAt 162).2.1 = true ∧ ((bound.after 0).bindingAt 162).2.2 = 0
      ∧ (bound.after 0).mayWriteRow .pcie t 0 true = true ∧ (bound.after 0).rowBusy .pcie t 0 162 2 = false
      ∧ F.ternAction ∈ rowLayout 0xF040 0 ∧ F.ternAction.ro = false ∧ F.ternAction.touched 162 2 = true
      ∧ (bound.after 0).foreignRow .pcie 0xF040 0 = false) := by
  refine ⟨⟨_, by decide +kernel, rfl, by decide +kernel⟩, ⟨_, rfl, ?_⟩⟩
  decide +kernel

theorem met_HostReadsComplete :
    (∃ t, exec (.readScalar 0 .pcie 0x3000 5) (up []) = .next t ∧ t.status = 0)
    ∧ (∃ t, exec (.readScalar 0 .pcie 0x3000 99) (up []) = .next t ∧ t.status ≠ 0)
    ∧ (∃ t, tableOf (((up [.put (Key.apertureBinding 0) 0xF0A0]).after 0).bindingAt 64).1 = some t
        ∧ 64 % 0x4000000 % t.stride + 2 ≤ t.stride)
    ∧ (∃ t, exec (.readRow 0 .pcie 0xF0A0 1 false 0 2) (up [.put (Key.apertureBinding 0) 0xF0A0]) = .next t ∧ t.status = 0)
    ∧ (((up []).after 0).serves .pcie = true ∧ tableOf (((up []).after 0).bindingAt 0).1 = none) := by
  refine ⟨⟨_, rfl, by decide +kernel⟩, ⟨_, rfl, by decide +kernel⟩, ⟨_, rfl, by decide +kernel⟩, ⟨_, rfl, by decide +kernel⟩,
    by decide +kernel⟩

/-- A request frame of R65 with its CRC. -/
def spiAsk (opcode idx sub row off n : Nat) (data : List Byte) : List Byte :=
  let b := beBytes 1 opcode ++ beBytes 2 idx ++ beBytes 1 sub ++ beBytes 3 row ++ beBytes 1 0 ++ beBytes 2 off ++ beBytes 1 n ++ data
  b ++ beBytes 2 (crc16 b)

theorem met_SpiFramesAreAnswered_reset :
    (((up []).after 5).inReset = false ∧ ((up []).after 5).unpowered = false)
    ∧ ((up [.put Rg.porstLow 1]).after 5).inReset = true ∧ ((up [.put Key.deviceState 2]).after 5).unpowered = true := by
  decide +kernel

theorem met_SpiFramesAreAnswered :
    (13 ≤ (spiAsk 9 0x3000 5 0 0 1 []).length ∧ beAt (spiAsk 9 0x3000 5 0 0 1 []) 0 1 = 9)
    ∧ beAt (spiAsk 1 0x3000 5 0 0 33 []) 10 1 = 33
    ∧ (11 + 2 ≤ (spiAsk 1 0x3000 5 0 0 32 []).length
        ∧ beAt (spiAsk 1 0x3000 5 0 0 32 []) 11 2 = crc16 ((spiAsk 1 0x3000 5 0 0 32 []).take 11))
    ∧ beAt (spiAsk 1 0x3000 5 0 0 1 [0]) 11 2 ≠ crc16 ((spiAsk 1 0x3000 5 0 0 1 [0]).take 11)
    ∧ (∃ t, exec (.readScalar 0 .spi 0x3000 5) (up []) = .next t)
    ∧ (∃ o, 13 ≤ (spiAsk 1 0x3000 5 0 0 2 []).length ∧ ((up []).after 5).serves .spi = true ∧ ((up []).after 5).objAt 0x3000 5 = some o
      ∧ ((up []).after 5).foreignRead .spi 0x3000 5 = false ∧ ((up []).after 5).readBusy 0x3000 5 = false) := by
  refine ⟨by decide +kernel, by decide +kernel, by decide +kernel, by decide +kernel, ⟨_, rfl⟩, ⟨_, by decide +kernel,
    by decide +kernel, rfl, by decide +kernel⟩⟩

/-! ### Remote sessions -/

/-- A client at row 0 with the AES key of slot 5, served on port 0. -/
def client : List Act :=
  [.put Key.ethPortMask 1, Act.setF .live 0xF098 0 F.keyState 1, Act.setF .live 0xF098 5 F.keyState 1,
    Act.setF .live 0xF098 5 F.keyKind 1, Act.setF .live 0xF098 5 F.keyUsage 4, Act.setF .live 0xF002 0 F.clientKeySlot 5,
    Act.setF .live 0xF002 0 F.clientTransports 1, Act.setF .live 0xF002 0 F.clientEnable 1]

def zeroKey : List Byte := List.replicate 16 0
def fromHost : Via := .ethernet 0x020000000001 none
def openAsk : List Byte := makePdu 1 0 0 (beBytes 1 0 ++ List.replicate 16 0xAB) none

/-- A session that waits for its Confirm, and one that is open with the key of zeros. -/
def challenged : List Act :=
  client ++ [Act.setF .live 0xF003 3 F.rsessState 1, .put (Rg.clientNonce 3) 7, .put (Rg.deviceNonce 3) 9]
def opened : List Act := client ++ [Act.setF .live 0xF003 3 F.rsessState 2, .put (Rg.sessionKey 3) 1]

theorem met_SessionsAreOpened :
    (pduTaken ((up client).after 5) 0 fromHost openAsk 1 ∧ openAsk.length = 25
      ∧ ((up client).after 5).openFault (beAt openAsk 8 1) fromHost = none)
    ∧ (pduTaken ((up [.put Key.ethPortMask 1]).after 5) 0 fromHost openAsk 1
      ∧ ((up [.put Key.ethPortMask 1]).after 5).openFault (beAt openAsk 8 1) fromHost = some 6
      ∧ ((up [.put Key.ethPortMask 1]).after 5).get (Rg.refuseCount 0) < 10) := by
  unfold pduTaken
  decide +kernel

/-- A Confirm with both nonces and its tag under the client's key. -/
def confirmAsk : List Byte := makePdu 3 3 0 (beBytes 16 7 ++ beBytes 16 9) (some zeroKey)

theorem met_SessionsAreOpened_confirm :
    pduTaken ((up challenged).after 5) 0 fromHost confirmAsk 3 ∧ confirmAsk.length = 56 ∧ pduSession confirmAsk = 3
    ∧ ((up challenged).after 5).session 3 F.rsessState = 1
    ∧ ((up challenged).after 5).clientKey (((up challenged).after 5).session 3 F.rsessClient) = some zeroKey
    ∧ tagFits zeroKey confirmAsk = true
    ∧ taggedBody confirmAsk = beBytes 16 (((up challenged).after 5).get (Rg.clientNonce 3))
        ++ beBytes 16 (((up challenged).after 5).get (Rg.deviceNonce 3))
    ∧ ((up challenged).after 5).now ≤ ((up challenged).after 5).get (Rg.challengeAt 3) + ms 1000 := by
  unfold pduTaken
  decide +kernel

/-- A Request that reads AgeingTime, with sequence 1. -/
def readAsk : List Byte := makePdu 5 3 1
  (beBytes 1 1 ++ beBytes 1 0 ++ beBytes 2 0x3000 ++ beBytes 1 5 ++ beBytes 3 0 ++ beBytes 2 0 ++ beBytes 1 1 ++ beBytes 1 0)
  (some zeroKey)

def repeated : List Act :=
  opened ++ [Act.setF .live 0xF003 3 F.rsessSeq 1, .put (Rg.requestLen 3) readAsk.length, .put (Rg.requestText 3) (leNat readAsk)]

/-- A Request that writes 700 to AgeingTime, and the reading one with the last sequence number of all. -/
def writeAsk : List Byte := makePdu 5 3 1
  (beBytes 1 2 ++ beBytes 1 0 ++ beBytes 2 0x3000 ++ beBytes 1 5 ++ beBytes 3 0 ++ beBytes 2 0 ++ beBytes 1 1 ++ beBytes 1 0 ++ leBytes 8 700)
  (some zeroKey)
def lastAsk : List Byte := makePdu 5 3 0xFFFFFFFF
  (beBytes 1 1 ++ beBytes 1 0 ++ beBytes 2 0x3000 ++ beBytes 1 5 ++ beBytes 3 0 ++ beBytes 2 0 ++ beBytes 1 1 ++ beBytes 1 0)
  (some zeroKey)

/-- The device with the session open. -/
def writing : State := (up opened).after 5

theorem met_RequestsAreExecutedOnce_writes :
    (pduTaken writing 0 fromHost writeAsk 5 ∧ pduSession writeAsk = (3 : Fin 32).val ∧ writing.session 3 F.rsessState = 2
      ∧ writing.sessionKey 3 = some zeroKey ∧ tagFits zeroKey writeAsk = true
      ∧ ((parseOps 16 (taggedBody writeAsk)).map fun l => l.map fun o => (o.opcode, o.len, o.idx, o.sub, leNat o.data)) = some [(2, 1,
          0x3000, 5, 700)]
      ∧ writing.session 3 F.rsessSeq < pduSequence writeAsk ∧ writing.admits (.remote 3) 0x3000 5 = true
      ∧ plainObject 0x3000 5 = true)
    ∧ (pduTaken writing 0 fromHost lastAsk 5 ∧ pduSequence lastAsk = 0xFFFFFFFF ∧ tagFits zeroKey lastAsk = true
      ∧ (parseOps 16 (taggedBody lastAsk)).map List.length = some 1)
    ∧ (((up repeated).after 5).session 3 F.rsessSeq = 1 ∧ ((up (repeated ++ [Act.setF .live 0xF003 3 F.rsessSeq 2])).after 5).session 3 F.rsessSeq = 2) := by
  unfold pduTaken
  refine ⟨⟨?_, by decide +kernel, by decide +kernel, by decide +kernel, by decide +kernel, by decide +kernel, by decide +kernel,
    by decide +kernel, by decide +kernel⟩, ⟨?_, by decide +kernel⟩, by decide +kernel⟩ <;> decide +kernel

theorem met_RequestsAreExecutedOnce :
    (pduTaken ((up opened).after 5) 0 fromHost readAsk 5 ∧ pduSession readAsk = 3
      ∧ ((up opened).after 5).session 3 F.rsessState = 2 ∧ ((up opened).after 5).sessionKey 3 = some zeroKey
      ∧ tagFits zeroKey readAsk = true ∧ pduSequence readAsk ≠ 0xFFFFFFFF
      ∧ ((parseOps 16 (taggedBody readAsk)).map fun l => l.map fun o => (o.opcode, o.len)) = some [(1, 1)]
      ∧ ((up opened).after 5).session 3 F.rsessSeq < pduSequence readAsk)
    ∧ (pduSequence readAsk = ((up repeated).after 5).session 3 F.rsessSeq
      ∧ ((up repeated).after 5).get (Rg.requestLen 3) = readAsk.length
      ∧ ((up repeated).after 5).get (Rg.requestText 3) = leNat readAsk) := by
  unfold pduTaken
  decide +kernel

def closeAsk : List Byte := makePdu 7 3 0 [] (some zeroKey)

theorem met_SessionsEnd :
    (pduTaken ((up opened).after 5) 0 fromHost closeAsk 7 ∧ pduSession closeAsk = 3 ∧ tagFits zeroKey closeAsk = true)
    ∧ (((up challenged).after (ms 1000)).session 3 F.rsessState = 1
      ∧ ((up challenged).after (ms 1000)).get (Rg.challengeAt 3) + ms 1000 ≤ ((up challenged).after (ms 1000)).now)
    ∧ (((up opened).after (ms 20001)).session 3 F.rsessState = 2
      ∧ ((up opened).after (ms 20001)).get (Rg.activeAt 3) + ms (((up opened).after (ms 20001)).get Key.sessionIdleTimeout)
        < ((up opened).after (ms 20001)).now)
    ∧ (((up opened).facing 5 .safety).admits .safety 0x1D00 19 = true ∧ (31 : BitVec 64).toNat < 32)
    ∧ ((up opened).facing 5 .safety).admits .safety 0x1D00 1 = true
    ∧ State.reset.get Rg.appRunning = 0
    ∧ (((up opened).facing 5 .safety).admitsRow .safety 0xF002 63 0 8 = true ∧ (leBytes 8 0x7FFF).length = 8
      ∧ (leNat (leBytes 8 0x7FFF)).testBit 15 = false ∧ ((up opened).facing 5 .safety).session 3 F.rsessState ≠ 0
      ∧ ((up opened).facing 5 .safety).session 3 F.rsessClient ≠ 63)
    ∧ ((up opened).operates = true ∧ (up []).underTest 0x3000 = false ∧ (0x3000 : Nat) ≠ 0x1F10) := by
  unfold pduTaken
  decide +kernel


/-! ### The commit -/

theorem met_SketchDiscardResetsTheSketch :
    (((up [.put Key.commitState 4]).facing 5 .spi).admits .spi 0x1F10 7 = true
      ∧ ((up [.put Key.commitState 2]).facing 5 .spi).admits .spi 0x1F10 7 = true
      ∧ ((up [.put Key.commitState 4]).facing 5 .spi).get Key.commitState = 4 ∧ ((up [.put Key.commitState 2]).facing 5 .spi).get Key.commitState = 2)
    ∧ (((up [.put Key.commitState 3]).facing 5 .spi).admits .spi 0x1F10 7 = true
      ∧ ((up [.put Key.commitState 3]).facing 5 .spi).get Key.commitState = 3
      ∧ ((up [.put Key.commitState 3]).facing 5 .spi).get Rg.prevHeld = 0 ∧ ((up [.put Key.commitState 3]).facing 5 .spi).operates = true)
    ∧ (((up []).facing 5 .spi).get Key.commitState ≠ 2 ∧ ((up []).facing 5 .spi).get Key.commitState ≠ 3
      ∧ ((up []).facing 5 .spi).get Key.commitState ≠ 4) := by
  decide +kernel

/-- A Sketch with a guaranteed stream and no certificate, and one with a route to a port. -/
def guaranteedSketch : State :=
  (up [Act.setF .sketch 0xF071 4095 F.ctxValid 1, Act.setF .sketch 0xF071 4095 F.ctxGuaranteed 1]).facing 5 .spi
def routeSketch (p : Nat) : State :=
  (up [Act.setF .sketch 0xF080 1 F.routeValid 1, Act.setF .sketch 0xF080 1 (F.routePairValid 7) 1,
    Act.setF .sketch 0xF080 1 (F.routePairPort 7) p]).facing 5 .spi

theorem met_CommitsAreChecked_commit :
    (((up [.put Key.commitState 1]).facing 5 .spi).admits .spi 0x1F10 1 = true ∧ ((up []).facing 5 .spi).get Key.deviceState = 0
      ∧ ((up []).facing 5 .spi).get Key.safetyState = 1 ∧ ((up [.put Key.safetyState 2]).facing 5 .spi).get Key.safetyState = 2
      ∧ ((up [.put Key.commitState 1]).facing 5 .spi).get Key.commitState < 2
      ∧ 5 ≤ ((up [.put Key.commitState 5]).facing 5 .spi).get Key.commitState)
    ∧ (((up [.put Key.safetyState 3]).facing 5 .spi).admits .spi 0x1F10 1 = true
      ∧ ((up [.put Key.safetyState 3]).facing 5 .spi).get Key.safetyState ≠ 1 ∧ ((up [.put Key.safetyState 3]).facing 5 .spi).get Key.safetyState ≠ 2)
    ∧ ((up [.put Key.commitState 4]).facing 5 .spi).admits .spi 0x1F10 1 = true := by
  decide +kernel

/-- Each verdict: no guaranteed stream, no certificate, no route, a route to the other recirculation port. -/
theorem met_CommitsAreChecked_verdict :
    (((up []).facing 5 .spi).guaranteedStreams .sketch = [] ∧ guaranteedSketch.guaranteedStreams .sketch = [4095]
      ∧ guaranteedSketch.rowOctets .sketch 0xF076 0 0 5 ≠ ascii "HLRN" ++ [1#8])
    ∧ (match guaranteedSketch.admission with
        | .error (n, x, p) => n == 1 && x == 0xFFFF && p == 0xFFFF
        | .ok _ => false) = true
    ∧ (match (routeSketch 247).admission with
        | .ok l => (routeSketch 247).gatewayCheck l == some (0x0202, 1, 7)
        | .error _ => false) = true
    ∧ (match (routeSketch 64).admission with
        | .ok l => (routeSketch 64).gatewayCheck l == none
        | .error _ => false) = true
    ∧ (1 ∈ (routeSketch 64).rowsWhere .sketch 0xF080 (fun r => (routeSketch 64).fldOn .sketch 0xF080 r F.routeValid)
      ∧ validPairs (routeSketch 64) 1 = [7]) := by
  decide +kernel

/-- Checks under way, and a commit for a time; the vehicle time is 5 when they end. -/
def checking (more : List Act) : State := up ([.put Key.commitState 2] ++ more)

theorem met_CommitsAreChecked :
    ((checking [.put (Rg.verdict 0) 0x0302]).after 5).get (Rg.verdict 0) = 0x0302
    ∧ ((checking []).operates = true ∧ (checking []).get Key.deviceState = 0 ∧ (checking []).get Key.commitState = 2 ∧ ((checking []).after 5).get (Rg.verdict 0) = 0)
    ∧ (((checking [.put Key.commitTime 1]).after (ns 2)).get Key.commitTime ≠ 0
      ∧ ((checking [.put Key.commitTime 1]).after (ns 2)).commitInstant < ((checking [.put Key.commitTime 1]).after (ns 2)).vtime)
    ∧ ((checking [.put Key.commitTime 1]).after (ns 1)).vtime ≤ ((checking [.put Key.commitTime 1]).after (ns 1)).commitInstant
    ∧ ((checking []).after 5).get Key.commitTime = 0
    ∧ (((up [.put Key.commitState 3]).facing 5 .pcie).admits .pcie 0x1F10 2 = true
      ∧ ((up [.put Key.commitState 3]).facing 5 .pcie).get Key.commitState = 3 ∧ (7 : BitVec 64) ≠ 0) := by
  decide +kernel

/-- An old frame that is still arriving. -/
def anyFrame : Frame where
  id := 0
  port := 0
  source := 0
  kind := 0
  octets := List.replicate 64 1
  preemptable := false
  complete := false
  stage := .arriving
  tag := 0
  stamp := 0
  arrived := 0
  decided := none
  pipeline := 0
  second := false
  split := false
  verdict := 0
  headers := 0
  rule := none
  actionSet := none
  actions := 0
  stencil := none
  session := none
  reason := none
  vid := 0
  priority := 0
  cls := 0
  stream := none
  sequence := none
  rtag := none
  eligible := none
  charge := 1
  order := 0
  route := none
  inbound := false
  secured := false
  avtp := 0
  valid := 0
  answerTo := none

def retiring : State := up [.put Rg.prevHeld 1, .put Rg.generation 1, .setFrames [anyFrame]]

theorem met_SwapTakesTheSketchAndRetires :
    ((up [.put Key.commitState 3]).operates = true ∧ (up [.put Key.commitState 3]).get Key.commitState = 3
      ∧ (up [.put Key.commitState 3]).get Rg.swapAt ≤ ((up [.put Key.commitState 3]).after 0).vtime)
    ∧ ((up [.put Key.commitState 4]).operates = true ∧ (up [.put Key.commitState 4]).get Key.commitState = 4 ∧ (up [.put Key.commitState 4]).get Rg.prevHeld = 0)
    ∧ ((up [.put Rg.prevHeld 1]).get Rg.prevHeld = 1 ∧ ∀ f ∈ ((up [.put Rg.prevHeld 1]).after 5).frames, ((up []).after 5).straggler f = false)
    ∧ (retiring.get Rg.prevHeld = 1 ∧ (retiring.after (us 50)).straggler anyFrame = true
      ∧ (retiring.after (us 50)).get Rg.realignFrom + us 50 ≤ (retiring.after (us 50)).now) := by
  decide +kernel

/-! ### Ports -/

theorem met_PortEnableMovesThePort :
    (((up []).facing 5 .spi).admits .spi (0x2000 + 16 * (3 : Port).val) 3 = true ∧ ((up []).facing 5 .spi).recovering = false
      ∧ ((up []).facing 5 .spi).portState (3 : Port).val = 0 ∧ ((up []).facing 5 .spi).kind (3 : Port).val = 1)
    ∧ (((up [.put (Key.portState 3) 2]).facing 5 .spi).admits .spi (0x2000 + 16 * (3 : Port).val) 3 = true
      ∧ ((up [.put (Key.portState 3) 2]).facing 5 .spi).recovering = false
      ∧ ((up [.put (Key.portState 3) 2]).facing 5 .spi).portState (3 : Port).val = 2)
    ∧ (((up [.put (Key.portState 231) 1]).facing 5 .spi).admits .spi (0x2000 + 16 * (231 : Port).val) 3 = true
      ∧ ((up [.put (Key.portState 231) 1]).facing 5 .spi).portState (231 : Port).val = 1)
    ∧ (((up [.put (Key.portState 3) 4]).facing 5 .spi).admits .spi (0x2000 + 16 * (3 : Port).val) 3 = true
      ∧ ((up [.put (Key.portState 3) 4]).facing 5 .spi).portState (3 : Port).val = 4) := by
  decide +kernel

theorem met_BindingsSwapAndFlushesEnd :
    (((up []).facing 5 .safety).admits .safety (0x2000 + 16 * (3 : Port).val) 2 = true ∧ ((up []).facing 5 .safety).attachment 3 = 3)
    ∧ (((up []).facing 5 .safety).attachment 3 ≠ 223 ∧ ((up []).facing 5 .safety).portState 3 = 0
      ∧ ((up []).facing 5 .safety).portState (((up []).facing 5 .safety).holderOf 223) = 0
      ∧ ((up []).facing 5 .safety).get (Rg.testedBy (((up []).facing 5 .safety).holderOf 223)) = 0)
    ∧ ((up [.put (Key.portState 7) 2]).facing 5 .safety).portState (((up [.put (Key.portState 7) 2]).facing 5 .safety).holderOf 7) ≠ 0
    ∧ ((up [.put (Key.portState 7) 4]).operates = true ∧ (up [.put (Key.portState 7) 4]).portState (7 : Port).val = 4
      ∧ (up [.put (Key.portState 7) 4]).get (Key.portEnable (7 : Port).val) = 0)
    ∧ (up [.put (Key.portState 7) 4, .put (Key.portEnable 7) 1]).get (Key.portEnable (7 : Port).val) ≠ 0 := by
  decide +kernel

theorem met_AttachmentsMoveThePort :
    ((up [.put (Key.portState 7) 1]).portState (7 : Port).val = 1 ∧ (up [.put (Key.portState 7) 1]).kind (7 : Port).val ≠ 7
      ∧ (up []).get (Rg.lowPower 7) = 0 ∧ (up []).get (Rg.busOff 7) ≠ 2 ∧ (up []).get (Rg.testedBy 7) = 0
      ∧ (up []).get Rg.sleepFlushed = 0)
    ∧ (up [.put (Key.portState 7) 2]).portState (7 : Port).val = 2
    ∧ ((up [.put (Key.portState 64) 2]).portState (64 : Port).val = 2 ∧ (up []).kind (64 : Port).val = 4)
    ∧ ((build [.put (Key.portState 240) 2]).portState (240 : Port).val = 2 ∧ State.reset.kind (240 : Port).val = 7
      ∧ ((build [.put (Key.portState 240) 2]).after 5).servingRuns (240 : Port).val = false ∧ (232 : Nat) ≤ (240 : Port).val)
    ∧ ((up [.put (Key.portState 64) 4]).portState (64 : Port).val = 4 ∧ (up [.put (Key.portState 64) 4]).get (Rg.busOff 64) = 0)
    ∧ ((up [.put (Key.portState 231) 2]).portState (231 : Port).val = 2 ∧ (up []).kind 231 = 7 ∧ (up []).get Rg.pcieLink ≠ 0) := by
  decide +kernel

/-! ### Tables that age -/

/-- A whole row of FirewallSessions in state 1. -/
def sessionRow : List Byte := leBytes 64 (setBits 0 F.sessState.bit F.sessState.width 1)

theorem met_EntriesAreFreedAndWritten :
    (((up []).facing 5 .spi).admits .spi 0x4100 1 = true ∧ ((up []).facing 5 .spi).get Rg.freeing = 0)
    ∧ (((up [.put Rg.freeing 1, .put Key.firewallEnable 0]).facing 5 .spi).admits .spi 0x4100 1 = true
      ∧ ((up [.put Rg.freeing 1, .put Key.firewallEnable 0]).facing 5 .spi).get Rg.freeing ≠ 0
      ∧ ((up [.put Rg.freeing 1, .put Key.firewallEnable 0]).facing 5 .spi).get Key.firewallEnable = 0)
    ∧ ((up []).facing 5 .spi).admits .spi 0x4100 8 = true
    ∧ (up [.put Rg.freeing 1]).get Rg.freeing ≠ 0
    ∧ (∃ t, tableOf 0xF046 = some t ∧ ((up []).facing 5 .spi).serves .spi = true ∧ (16383 : BitVec 24).toNat < t.rows
        ∧ sessionRow.length = t.stride ∧ ((up []).facing 5 .spi).mayWriteRow .spi t (16383 : BitVec 24).toNat false = true)
    ∧ (((up []).facing 5 .spi).fld .live 0xF046 16383 F.sessState = 0 ∧ bits (leNat sessionRow) F.sessState.bit F.sessState.width = 1
        ∧ clampTo F.sessState.legal F.sessState.width F.sessState.dflt (bits (leNat sessionRow) F.sessState.bit F.sessState.width) ≠ 0) := by
  refine ⟨by decide +kernel, by decide +kernel, by decide +kernel, by decide +kernel, ⟨_, rfl, by decide +kernel⟩, by decide +kernel⟩

def session1 : State := up [Act.setF .live 0xF046 9 F.sessState 1]
def fragment1 : State := up [Act.setF .live 0xF047 9 F.fragValid 1]
def entries : State :=
  up [Act.setF .live 0xF052 1 F.fdbValid 1, Act.setF .live 0xF052 2 F.fdbValid 1, Act.setF .live 0xF052 2 F.fdbStatic 1]
def recovering1 : State := up [Act.setF .fair 0xF074 9 F.recValid 1, .put (Rg.recoveryOn 9) 1]

theorem met_RowsAgeOut :
    ((session1.after (ms 400000)).fld .live 0xF046 (9 : Fin 16384).val F.sessState ≠ 0
      ∧ (session1.after (ms 400000)).get (Rg.sessionAt (9 : Fin 16384).val)
          + (session1.after (ms 400000)).sessionTimeout ((session1.after (ms 400000)).fld .live 0xF046 (9 : Fin 16384).val F.sessState)
        ≤ (session1.after (ms 400000)).now)
    ∧ ((fragment1.after 5).fldOn .live 0xF047 (9 : Fin 1024).val F.fragValid = true
      ∧ (fragment1.after 5).get (Rg.fragmentEnd (9 : Fin 1024).val) ≤ (fragment1.after 5).now)
    ∧ (entries.fldOn .live 0xF052 1 F.fdbValid = true ∧ entries.fldOn .live 0xF052 1 F.fdbStatic = false
      ∧ entries.fldOn .live 0xF052 1 F.fdbHit = false ∧ entries.fldOn .live 0xF052 2 F.fdbStatic = true)
    ∧ ((recovering1.after (ms 70000)).fldOn .fair 0xF074 (9 : Fin 1024).val F.recValid = true
      ∧ (recovering1.after (ms 70000)).get (Rg.recoveryOn (9 : Fin 1024).val) ≠ 0
      ∧ (recovering1.after (ms 70000)).get (Rg.recoveryAt (9 : Fin 1024).val)
          + ms ((recovering1.after (ms 70000)).fld .fair 0xF074 (9 : Fin 1024).val F.recTimeout) ≤ (recovering1.after (ms 70000)).now) := by
  decide +kernel

/-- A whole row of ForwardingDatabase with Valid as given. -/
def fdbRow (valid : Nat) : List Byte :=
  leBytes 16 (setBits (setBits 0 F.fdbAddress.bit F.fdbAddress.width 0x020000000001) F.fdbValid.bit F.fdbValid.width valid)

/-- Rows in use and of each state, parts of rows, and a row that a flush would take. -/
theorem met_EntriesAreFreedAndWritten_parts :
    ((up []).get Rg.freeing = 0 ∧ ((session1.facing 5 .spi).fld .live 0xF046 9 F.sessState ≠ 0)
      ∧ F.sessState.touched 63 1 = false ∧ (clampTo F.sessState.legal F.sessState.width F.sessState.dflt 3 = 3)
      ∧ ∃ f ∈ layout 0xF046, f.ro = false ∧ f.touched 1 1 = true)
    ∧ ((F.fdbVid.touched 0 1 || F.fdbValid.touched 0 1) = false ∧ (F.fdbVid.touched 6 1 || F.fdbValid.touched 6 1) = true
      ∧ (entries.facing 5 .spi).fld .live 0xF052 1 F.fdbValid = 1 ∧ (up []).fld .live 0xF052 1 F.fdbValid = 0
      ∧ bits (leNat (fdbRow 1)) F.fdbGroup.bit F.fdbGroup.width = 0
      ∧ ((up [.put Rg.fdbFlushing 1]).facing 5 .spi).get Rg.fdbFlushing ≠ 0 ∧ ((up [.put Rg.freeing 1]).facing 5 .spi).get Rg.freeing ≠ 0) := by
  decide +kernel

theorem met_EntriesAreFreedAndWritten_fdb :
    ((up []).facing 5 .spi).admits .spi 0x3000 18 = true
    ∧ (up [.put Rg.fdbFlushing 1]).get Rg.fdbFlushing ≠ 0
    ∧ (∃ t, tableOf 0xF052 = some t ∧ (32767 : BitVec 24).toNat < t.rows ∧ (fdbRow 1).length = t.stride
        ∧ ((up []).facing 5 .spi).mayWriteRow .spi t (32767 : BitVec 24).toNat false = true)
    ∧ (bits (leNat (fdbRow 1)) F.fdbValid.bit F.fdbValid.width = 1 ∧ bits (leNat (fdbRow 0)) F.fdbValid.bit F.fdbValid.width = 0
      ∧ ((up []).facing 5 .spi).get Rg.fdbFlushing = 0) := by
  refine ⟨by decide +kernel, by decide +kernel, ⟨_, rfl, by decide +kernel⟩, by decide +kernel⟩

/-! ### The frame path -/

def preempts : List Act := [.put (Key.portState 3) 2, Act.setF .fair 0xF060 3 F.ptimPreempt 1]

def canFrame : BusFrame := ⟨1, 0x123, 0, 0, 0, 8, 0, List.replicate 8 7⟩
/-- A LIN response of two octets, and a port that waits for one of so many. -/
def linFrame : BusFrame := ⟨4, 9, 0, 0, 0, 0, 0, [1, 2]⟩
def linWaits (n enhanced : Nat) : State :=
  up [.put (Key.portState 160) 2, .put (Rg.linExpect 160) 10, .put (Rg.linLength 160) n, .put (Rg.linEnhanced 160) enhanced,
    .put (Rg.linDue 160) 99]

theorem met_FramesEnterTheFabric :
    ((up []).operates = true ∧ (up []).get (Rg.isolated (3 : Port).val) = 0 ∧ (up []).portState (3 : Port).val ≠ 2)
    ∧ ((up []).after 5).isRingMessage 3 (firstWord ((up []).after 5) 3 (.eth [1])) (firstWord ((up []).after 5) 3 (.eth [1])).parse = false
    ∧ ((up preempts).portState (3 : Port).val = 2 ∧ (up preempts).kind (3 : Port).val ≤ 3 ∧ (up preempts).kind (246 : Port).val = 7)
    ∧ (((up preempts).after 5).preemptable (3 : Port).val = true ∧ ((up preempts).after 5).timing (3 : Port).val F.ptimPreempt = 1)
    ∧ ((up [.put (Key.portState 4) 2]).portState (4 : Port).val = 2
      ∧ ((up [.put (Key.portState 4) 2]).after 5).timing (4 : Port).val F.ptimPreempt ≠ 1)
    ∧ ((up [.put (Key.portState 64) 2]).portState (64 : Port).val = 2
      ∧ ((up [.put (Key.portState 64) 2]).after 5).acceptsBus (64 : Port).val canFrame = 1)
    ∧ ((linWaits 2 0).portState (160 : Port).val = 2 ∧ ((linWaits 2 0).after 5).acceptsBus (160 : Port).val linFrame = 1
      ∧ ((linWaits 3 0).after 5).acceptsBus (160 : Port).val linFrame = 2 ∧ ((linWaits 2 1).after 5).acceptsBus (160 : Port).val linFrame = 3
      ∧ ((linWaits 2 0).after 100).acceptsBus (160 : Port).val linFrame = 0)
    ∧ ((246 : Port).val = 246 ∧ (up []).get (Rg.isolated (247 : Port).val) = 0) := by
  decide +kernel

/-- A frame on port 3 whose octets are all 1, and one too short to parse. -/
def arrives : Frame := { anyFrame with complete := true, port := 3, source := 3 }
def broken : Frame := { arrives with octets := List.replicate 12 1 ++ [0x08, 0x00] ++ List.replicate 50 0 }

def busySlots : List Act := (List.range 64).map fun i => .put (Rg.slotUntil 3 i) 100

theorem met_LookaheadDecidesTheFrame :
    ((up [.setFrames [arrives]]).frame? 0 = some arrives ∧ arrives.stage = .arriving ∧ arrives.complete = true
      ∧ lookaheadDone ((up [.setFrames [arrives]]).after 5) { arrives with octets := arrives.octets ++ [2] }
          ({ arrives with octets := arrives.octets ++ [2] } : Frame).parse = true
      ∧ ((up []).after 5).refusedAt { arrives with octets := arrives.octets ++ [2] } = false
      ∧ ((up []).after 5).refusedAt { arrives with octets := List.replicate 12 1 ++ [0x88, 0x08] ++ List.replicate 50 0 } = true
      ∧ ({ arrives with complete := false } : Frame).kind = 0 ∧ ({ arrives with complete := false } : Frame).preemptable = false)
    ∧ ((∀ c ∈ (up []).copies, c.frame ≠ 0)
      ∧ ((up [.put (Key.pipelineState 3) 2, .put (Key.pipelineState 4) 2]).after 5).servedBy .fair arrives.port = none
      ∧ ((up []).after 5).genOf arrives.tag = .fair ∧ arrives.secured = false)
    ∧ (((up busySlots).after 5).servedBy .fair arrives.port = some 3 ∧ ∀ i < 64,
        ((up busySlots).after 5).now < ((up busySlots).after 5).get (Rg.slotUntil 3 i))
    ∧ ((∃ i < 64, ((up []).after 5).get (Rg.slotUntil 3 i) ≤ ((up []).after 5).now)
      ∧ ({ broken with octets := broken.octets ++ [] } : Frame).parse.malformed = true
      ∧ ((up []).after 5).get Key.malformedAction = 0 ∧ ((up []).after 5).secyValidates broken.port = 0) := by
  decide +kernel

def unfinished : Frame := { arrives with complete := false }

theorem met_TailSettlesTheFrame :
    ((up [.setFrames [unfinished]]).frame? 0 = some unfinished ∧ unfinished.complete = false ∧ unfinished.port < 256
      ∧ ingressFault ((up [.setFrames [unfinished]]).after 5)
          { unfinished with octets := unfinished.octets ++ rxOctets (.eth [1, 2, 3, 4]), complete := true, valid := 5 } .good = none
      ∧ (∀ c ∈ (up []).copies, c.frame ≠ 0))
    ∧ (({ unfinished with octets := List.replicate 63 1 } : Frame).octets.length < 64
      ∧ ((up []).after 5).inForce (Key.maxFrameLength 3) < (List.replicate 1523 (1 : Byte)).length)
    ∧ (64 ≤ unfinished.octets.length ∧ (List.replicate 1522 (1 : Byte)).length ≤ ((up []).after 5).inForce (Key.maxFrameLength 3)
      ∧ unfinished.preemptable = false ∧ unfinished.kind = 0)
    ∧ (({ unfinished with preemptable := true } : Frame).preemptable = true ∧ ({ unfinished with kind := 1 } : Frame).kind ≠ 0
      ∧ ((up []).after 5).kind 232 = 7 ∧ RxEnd.badCheck ≠ .good ∧ RxEnd.badAssembly ≠ .good) := by
  decide +kernel

/-- A stored frame with one copy on a port. -/
def stored : Frame := { arrives with stage := .stored }
def anyCopy : Copy where
  frame := 0
  port := 3
  tc := 0
  seq := 0
  role := .forward
  phase := .waiting
  pair := none
  expiry := none
  eligible := none
  outbound := false
  egress := none
  cut := false
  sent := []
  sec := none
  bad := false
  reported := false
  stream := none
  bound := none
  edit := 0
  form := none
  profile := none
  deferred := false
  waited := false

/-- The awake device with a stored frame and one copy of it on a port that is Up. -/
def queued (f : Frame) (c : Copy) (more : List Act := []) : State :=
  up ([.put (Key.portState c.port) 2, .put Rg.entryCount 1, .put Rg.frameCount 1, .setFrames [f], .setCopies [c]] ++ more)

def again : Copy := { anyCopy with port := 246, role := .recirculate }
def looped : Frame := { stored with stage := .recirculating, port := 246 }
def sentNow : Copy := { anyCopy with phase := .wire, sent := List.replicate 64 1 }

theorem met_CopiesLeave :
    (((queued looped again).after 5).pick 246 false ((queued looped again).after 5).vtime [7, 6, 5, 4, 3, 2, 1, 0]).1 = some (again, looped)
    ∧ ((queued looped again).portState 246 = 2 ∧ again.seq < ((queued looped again).after 5).get Rg.entryCount)
    ∧ ((queued looped again [.put Rg.generation 2]).after 5).genKept looped.tag = false
    ∧ ((match (((queued stored anyCopy).after 5).choose 3).1 with
        | .start c f _ _ => c == anyCopy && f == stored
        | _ => false) = true
      ∧ anyCopy.phase ≠ .paused ∧ ((queued stored anyCopy).after 5).sendable anyCopy stored = true
      ∧ (∀ e, anyCopy.expiry = some e → ((queued stored anyCopy).after 5).vtime < e)
      ∧ ((queued stored anyCopy).after 5).secyProtects 3 = false)
    ∧ (match (((up []).after 5).choose 3).1 with
        | .idle => true
        | _ => false) = true ∧ ((up []).after 5).linForeign 3 = []
    ∧ ((queued stored sentNow).sending (3 : Port).val = some sentNow ∧ (queued stored sentNow).frame? sentNow.frame = some stored
      ∧ stored.complete = true ∧ ((queued stored sentNow).after 5).secAlive sentNow = true ∧ sentNow.phase = .wire
      ∧ stored.stage = .stored ∧ ∀ d ∈ ((queued stored sentNow).after 5).copies, d.frame = stored.id → d.seq = sentNow.seq) := by
  refine ⟨by decide +kernel, by decide +kernel, by decide +kernel, ⟨by decide +kernel, by decide +kernel, by decide +kernel,
    fun e h => by simp [anyCopy] at h, by decide +kernel⟩, by decide +kernel, by decide +kernel⟩

def overdue1 : Copy := { anyCopy with stream := some 4, bound := some 0 }

theorem met_QueuesAreWatched :
    (∃ c ∈ ((queued stored { anyCopy with expiry := some 5 }).after 5).copies,
      c.port = (3 : Port).val ∧ c.phase = .waiting ∧ ((queued stored { anyCopy with expiry := some 5 }).after 5).expired c = true)
    ∧ (((queued stored overdue1).after 5).head? 3 0 = some overdue1 ∧ overdue1.reported = false
      ∧ ((queued stored overdue1).after 5).frame? overdue1.frame = some stored
      ∧ stored.stamp + ns 0 < ((queued stored overdue1).after 5).vtime
      ∧ stored.stepAt = none ∧ ((queued stored overdue1).after 5).get (Key.gateOperState 3) = 0
      ∧ ((queued stored overdue1).after 5).get (Rg.gateFirst 3) ≤ ((queued stored overdue1).after 5).vtime
      ∧ ((queued stored overdue1).after 5).get Key.deliveryFaultTotal < 2 ^ 32 - 1)
    ∧ ((∀ c ∈ (queued stored anyCopy).copies, c.port < 256 ∧ c.tc < 8)
      ∧ ((queued stored anyCopy).after 5).get (Key.queueDepthPeak 3 0) < 2 ^ 32) := by
  decide +kernel

/-- A frame of one cell has a depth of one cell in the queue of its copy, and no queue is deeper. -/
theorem met_QueuesAreWatched_depth : ∀ p tc, (up []).depthCells p tc < 2 ^ 32 := by
  intro p tc
  have h : (up []).copies = [] := by decide +kernel
  simp [State.depthCells, State.queue, h, sortBy]

/-- A CAN copy that waits while another node sends, one in the transmit stage of an idle bus, a paused copy, and one whose port is
leaving Up. -/
def canFrame1 : Frame := { stored with kind := 1, octets := mkCell 1 70 0x123 0 0 0 8 0 0 (List.replicate 8 7) }
def waits1 : State := queued canFrame1 { anyCopy with port := 64 } [.setFrames [canFrame1, { anyFrame with id := 1, port := 64, kind := 1 }]]
def halted : Copy := { anyCopy with phase := .paused, sent := List.replicate 64 1 }
def staged1 : Copy := { anyCopy with port := 64, phase := .staged }

theorem met_CopiesLeave_staged :
    ((match ((waits1.after 5).choose 64).1 with
        | .start c f _ _ => c == { anyCopy with port := 64 } && f == canFrame1
        | _ => false) = true
      ∧ (waits1.after 5).sendable { anyCopy with port := 64 } canFrame1 = true ∧ (waits1.after 5).secyProtects 64 = false
      ∧ (waits1.after 5).kind (64 : Port).val = 4)
    ∧ ((match (((queued stored halted (preempts ++ [.put (Key.verifyStatus 3) 3])).after 5).choose 3).1 with
        | .start c _ _ _ => c == halted
        | _ => false) = true)
    ∧ ((queued canFrame1 staged1).sending (64 : Port).val = some staged1 ∧ (queued canFrame1 staged1).receiving (64 : Port).val = false)
    ∧ ((queued canFrame1 staged1 [.put (Key.portState 64) 4]).sending (64 : Port).val = some staged1
      ∧ ((queued canFrame1 staged1 [.put (Key.portState 64) 4]).after 5).portState (64 : Port).val ≠ 2) := by
  decide +kernel

/-- A frame that was decided before its last octet, a copy of it that was cut through, one that its stream finds too long, and one malformed. -/
def early : Frame := { unfinished with stage := .stored, decided := some 0 }
def earlyTail (f : Frame) : Frame := { f with octets := f.octets ++ rxOctets (.eth [1, 2, 3, 4]), complete := true, valid := 5 }
def cutNow : Copy := { anyCopy with phase := .wire, cut := true }

theorem met_TailSettlesTheFrame_decided :
    ((queued early cutNow).frame? 0 = some early ∧ early.complete = false ∧ early.port < 256 ∧ early.stage = .stored
      ∧ early.decided.isSome = true ∧ ingressFault ((queued early cutNow).after 5) (earlyTail early) .good = none)
    ∧ (early.secured = false ∧ (earlyTail early).parse.malformed = false ∧ early.stream.isSome = false
      ∧ (∀ c ∈ ((queued early cutNow).after 5).copies, c.frame = 0 → c.phase ≠ .held ∧ c.phase = .wire ∧ c.cut = true ∧ c.begun = true)
      ∧ ((queued early cutNow).after 5).kind cutNow.port ≤ 3
      ∧ (∀ x ∈ ((queued early cutNow).after 5).copies, x.seq = cutNow.seq → x = cutNow)
      ∧ ((queued early cutNow).after 5).get (Key.varnishedFrames 3) < 2 ^ 32 - 1
      ∧ ((queued early cutNow).after 5).get Key.malformedAction = 0)
    ∧ ((earlyTail { early with octets := broken.octets }).parse.malformed = true ∧ early.verdict ≠ 2) := by
  decide +kernel

/-! ### Gates and preemption -/

/-- A running list of one entry, a change that is due, and a preemptable frame on the wire. -/
def rowImageOf : Nat := setBits (setBits 0 F.ptimCycle.bit F.ptimCycle.width 1000000) F.ptimLength.bit F.ptimLength.width 1
def gated : State :=
  up [.put (Rg.gateOn 3) 1, .put (Key.gateOperState 3) 1, .put (Rg.gateRow 3) rowImageOf,
    .put (Rg.gateList 3 0) (setBits 0 F.gclStates.bit F.gclStates.width 0x81)]
def changing : State := up [.put (Rg.gateChange 3) 1, .put (Rg.gateNextRow 3) rowImageOf]
def verifying (tries : Nat) : State :=
  up (preempts ++ [.put (Key.verifyStatus 3) 2, .put (Rg.verifyTries 3) tries])

def cutting : State := queued stored sentNow (preempts ++ [.put (Key.verifyStatus 3) 3, .put (Rg.preemptAt 3) 6])

theorem met_GatesAndPreemptionRun :
    (gated.get (Rg.gateOn (3 : Port).val) ≠ 0 ∧ (gated.after 5).changeAt (3 : Port).val = none
        ∧ ((gated.after 5).entryAt (3 : Port).val (gated.after 5).vtime) = some ⟨0, 0, 1000000, 0x81, 0⟩)
    ∧ ((changing.after 5).changeAt (3 : Port).val = some 0 ∧ 0 ≤ (changing.after 5).vtime)
    ∧ ((cutting.after 5).get (Rg.preemptAt (3 : Port).val) ≠ 0
      ∧ (cutting.after 5).get (Rg.preemptAt (3 : Port).val) ≤ (cutting.after 5).now + 1
      ∧ (cutting.after 5).sending (3 : Port).val = some sentNow ∧ (cutting.after 5).preempting (3 : Port).val = true
      ∧ (cutting.after 5).get (Rg.testedBy (3 : Port).val) = 0 ∧ ∀ x ∈ (cutting.after 5).copies, x.seq = sentNow.seq → x = sentNow)
    ∧ ((verifying 2).portState (3 : Port).val = 2 ∧ ((verifying 2).after 5).preemptable (3 : Port).val = true
      ∧ ((verifying 2).after 5).timing (3 : Port).val F.ptimPreempt = 1 ∧ ((verifying 2).after 5).inForce (Key.verifyDisable (3 : Port).val) = 0
      ∧ ((verifying 2).after 5).get (Key.verifyStatus (3 : Port).val) = 2 ∧ ((verifying 2).after 5).get (Rg.isolated (3 : Port).val) = 0
      ∧ ((verifying 2).after 5).get (Rg.verifyTries (3 : Port).val) < 3 ∧ 3 ≤ ((verifying 3).after 5).get (Rg.verifyTries (3 : Port).val)) := by
  decide +kernel

/-! ### Bus controllers -/

/-- A classical CAN frame as a cell, and a copy of it in a transmit stage or on the wire of a port. -/
def cell (kind : Nat) : Frame := { stored with kind := kind, octets := mkCell kind 70 0x123 0 0 0 8 0 0 (List.replicate 8 7) }
def onBus (p : Nat) (expiry : Option Nat) : Copy := { anyCopy with port := p, phase := .wire, expiry := expiry, stream := none }
def linMaster (publish : Nat) : State :=
  up [.put (Key.portState 160) 2, .put (Rg.inForce (Key.linRole 160)) 2, Act.setF .fair 0xF010 5 F.linValid 1,
    Act.setF .fair 0xF010 5 F.linFrameId 9, Act.setF .fair 0xF010 5 F.linPublish publish]
def linSlave : State :=
  up [.put (Key.portState 160) 2, .put (Rg.inForce (Key.linRole 160)) 1, Act.setF .fair 0xF010 5 F.linValid 1,
    Act.setF .fair 0xF010 5 F.linFrameId 63]
def kline : State :=
  up [.put (Key.portState 208) 1, .put (Rg.inForce (Key.serialProtocol 208)) 3, .put (Rg.inForce (Key.klineInit 208)) 2]

/-- A routed copy on the wire of port 64, whose gateway channel is closed, and a J1708 message on the wire. -/
def routed1 : Copy := { onBus 64 none with pair := some (0, 0) }
def shut1 : State := queued (cell 1) routed1 [.put (Key.gatewayChannelState 64) 0]
def j1708 : State := queued (cell 5) (onBus 208 none) [.put (Rg.inForce (Key.serialProtocol 208)) 2]

theorem met_BusesRun_ends :
    ((shut1.after 5).sending (64 : Port).val = some routed1 ∧ (shut1.after 5).expired routed1 = false
      ∧ (shut1.after 5).portState (64 : Port).val = 2 ∧ (shut1.after 5).shutOut routed1 = true)
    ∧ (((queued (cell 1) (onBus 64 none) [.put (Key.portState 64) 4]).after 5).sending (64 : Port).val = some (onBus 64 none)
      ∧ ((queued (cell 1) (onBus 64 none) [.put (Key.portState 64) 4]).after 5).expired (onBus 64 none) = false
      ∧ ((queued (cell 1) (onBus 64 none) [.put (Key.portState 64) 4]).after 5).portState (64 : Port).val ≠ 2)
    ∧ (((queued (cell 1) (onBus 64 none)).after 5).shutOut (onBus 64 none) = false
      ∧ (((queued (cell 1) (onBus 64 none)).after 5).pick (64 : Port).val false (((queued (cell 1) (onBus 64 none)).after 5).startAt (64 : Port).val)
          ((classesOf 0 false).filter fun tc => decide (0 < tc))).1 = none)
    ∧ ((j1708.after 5).sending (208 : Port).val = some (onBus 208 none) ∧ (j1708.after 5).expired (onBus 208 none) = false
      ∧ (j1708.after 5).shutOut (onBus 208 none) = false ∧ (j1708.after 5).frame? (onBus 208 none).frame = some (cell 5)
      ∧ (j1708.after 5).sendable (onBus 208 none) (cell 5) = true ∧ (j1708.after 5).portState (208 : Port).val = 2
      ∧ ∀ x ∈ (j1708.after 5).copies, x.seq = (onBus 208 none).seq → x = onBus 208 none) := by
  decide +kernel

theorem met_BusesRun :
    ((queued (cell 1) (onBus 64 (some 5))).kind (64 : Port).val = 4
      ∧ ((queued (cell 1) (onBus 64 (some 5))).after 5).sending (64 : Port).val = some (onBus 64 (some 5))
      ∧ ((queued (cell 1) (onBus 64 (some 5))).after 5).expired (onBus 64 (some 5)) = true)
    ∧ ((queued (cell 5) (onBus 208 (some 5)) [.put (Rg.inForce (Key.serialProtocol 208)) 2]).kind (208 : Port).val = 6
      ∧ ((queued (cell 5) (onBus 208 (some 5)) [.put (Rg.inForce (Key.serialProtocol 208)) 2]).after 5).inForce (Key.serialProtocol (208 : Port).val) = 1
      ∧ ((queued (cell 5) (onBus 208 (some 5)) [.put (Rg.inForce (Key.serialProtocol 208)) 2]).after 5).sending (208 : Port).val
        = some (onBus 208 (some 5)))
    ∧ (kline.portState (208 : Port).val = 1 ∧ kline.kind (208 : Port).val = 6 ∧ (kline.after 5).inForce (Key.serialProtocol (208 : Port).val) = 2
      ∧ (kline.after 5).inForce (Key.klineInit (208 : Port).val) ≠ 0 ∧ (kline.after 5).get (Rg.lowPower (208 : Port).val) = 0)
    ∧ ((linMaster 0).kind (160 : Port).val = 5 ∧ ((linMaster 0).after 5).inForce (Key.linRole (160 : Port).val) = 1
      ∧ (linMaster 0).portState (160 : Port).val = 2
      ∧ ((linMaster 0).after 5).get (Rg.linRow (160 : Port).val) = 0
          ∧ ((linMaster 0).after 5).get (Rg.linUntil (160 : Port).val) ≤ ((linMaster 0).after 5).now ∧ ((linMaster 0).after 5).sending (160 : Port).val = none
      ∧ ((linMaster 0).after 5).get (Rg.testedBy (160 : Port).val) = 0 ∧ ((linMaster 0).after 5).nextLinRow (160 : Port).val = some 5
      ∧ ((linMaster 0).after 5).lin (160 : Port).val 5 F.linPublish = 0 ∧ ((linMaster 1).after 5).lin (160 : Port).val 5 F.linPublish = 1
      ∧ ∀ c ∈ ((linMaster 1).after 5).copies, c.port ≠ (160 : Port).val)
    ∧ (linSlave.portState (160 : Port).val = 2 ∧ (linSlave.after 5).inForce (Key.linRole (160 : Port).val) = 0
      ∧ ((linSlave.after 5).linRows (160 : Port).val).find? (fun i => (linSlave.after 5).lin (160 : Port).val i F.linFrameId == (63 : BitVec 6).toNat) = some 5
      ∧ (linSlave.after 5).lin (160 : Port).val 5 F.linPublish = 0) := by
  decide +kernel


/-! ### The decision -/

/-- A TCP segment over IPv4 with its flags, from 02:00:00:00:00:03 to 02:00:00:00:00:05, with four octets of FCS. -/
def tcp (flags : Nat) (sa da src dst : Nat) (ports : Nat) : List Byte :=
  beBytes 6 da ++ beBytes 6 sa ++ beBytes 2 0x0800 ++ beBytes 2 0x4500 ++ beBytes 2 40 ++ beBytes 4 0 ++ beBytes 2 0x4006 ++ beBytes 2 0
    ++ beBytes 4 src ++ beBytes 4 dst ++ beBytes 4 ports ++ beBytes 4 1 ++ beBytes 4 0 ++ beBytes 1 0x50 ++ beBytes 1 flags ++ beBytes 2 100
    ++ beBytes 4 0 ++ List.replicate 10 0
def asks1 : Frame := { arrives with octets := tcp 2 0x020000000003 0x020000000005 0x0A000001 0x0A000002 0x03E80050 }
def answers1 : Frame :=
  { arrives with port := 5, source := 5, octets := tcp 0x12 0x020000000005 0x020000000003 0x0A000002 0x0A000001 0x005003E8 }

/-- Port 3, 5 and 6 are Up in VLAN 1; row 2 of TernaryRules takes every frame to action set 7, which forwards it and may create a session. -/
def switching (f : Frame) (more : List Act := []) : State :=
  up ([.put (Key.portState 3) 2, .put (Key.portState 5) 2, .put (Key.portState 6) 2, .put Rg.frameCount 1, .put Key.firewallEnable 1,
    Act.setF .fair 0xF040 2 F.ternValid 1, Act.setF .fair 0xF040 2 F.ternAction 7, Act.setF .fair 0xF044 7 F.actForward 1,
    Act.setF .fair 0xF044 7 F.actSessionCreate 1, Act.setF .fair 0xF051 1 F.vlanValid 1,
    Act.setF .fair 0xF051 1 F.vlanMembers (2 ^ 3 + 2 ^ 5 + 2 ^ 6 + 2 ^ 7), .setFrames [f]] ++ more)
def decided (f : Frame) (more : List Act := []) : State := (switching f more).after 5

/-- The frame is decided in that state, whatever else stands in it that does not touch the ports and the slots. -/
theorem asks1_decided : (decided asks1).decides 0 asks1 { asks1 with octets := asks1.octets ++ [] } :=
  ⟨by unfold State.arriving; decide +kernel, by decide +kernel, 3, by decide +kernel, 0, by decide +kernel, by decide +kernel⟩

/-- The session that asks1 begins, at its row, and a way of its bucket that another session holds. -/
def session (n st : Nat) : List Act :=
  [Act.setF .live 0xF046 n F.sessState st, Act.setF .live 0xF046 n F.sessVersion 4, Act.setF .live 0xF046 n F.sessProtocol 6,
    Act.setF .live 0xF046 n F.sessInitiator (leNat (beBytes 16 0xFFFF0A000001)),
    Act.setF .live 0xF046 n F.sessResponder (leNat (beBytes 16 0xFFFF0A000002)), Act.setF .live 0xF046 n F.sessInitPort 1000,
    Act.setF .live 0xF046 n F.sessRespPort 80]
def otherSessions : List Act := (List.range 8).map fun i => Act.setF .live 0xF046 (13656 + i) F.sessState 4

/-- Profile 3 with no field selected, and an entry that matches it. -/
def exactRow : Nat := 4 * (crc32c (3#8 :: exactKey 0 []) % 2 ^ 14)
def exactly : List Act := [Act.setF .fair 0xF042 3 F.profValid 1, Act.setF .fair 0xF041 exactRow F.exactValid 1,
  Act.setF .fair 0xF041 exactRow F.exactProfile 3, Act.setF .fair 0xF040 2 F.ternValid 0]

theorem met_FramesAreClassified_lookups :
    (decided asks1).sound = true
    ∧ ternaryLookup (decided asks1) .fair 5 = some 2
    ∧ ternaryLookup (decided asks1 [Act.setF .fair 0xF040 2 F.ternValid 0]) .fair 5 = none
    ∧ exactLookup (decided asks1 exactly) .fair [] = some exactRow
    ∧ exactLookup (decided asks1) .fair [] = none ∧ sessionLookup (decided asks1) asks1.parse = none
    ∧ sessionLookup (decided asks1 (session 13656 1)) asks1.parse = some (13656, false)
    ∧ sessionLookup (decided asks1 (session 13656 1)) answers1.parse = some (13656, true)
    ∧ (answers1.parse.proto = 6 ∧ answers1.parse.tcp.testBit 0 = false ∧ answers1.parse.tcp.testBit 2 = false
      ∧ answers1.parse.tcp.testBit 1 = true ∧ answers1.parse.tcp.testBit 4 = true ∧ (tcp 1 0 0 0 0 0).length = 64) := by
  decide +kernel

/-- A decided frame with a rule, by the exact match, by neither, and what its session may be. -/
theorem met_FramesAreClassified :
    (decided asks1).decides 0 asks1 { asks1 with octets := asks1.octets ++ [] }
    ∧ (asks1.parse.malformed = false ∧ builtInMatch (decided asks1) asks1 asks1.parse = none ∧ asks1.parse.nonFirst = false
      ∧ asks1.parse.first = false)
    ∧ ((classify (decided asks1) asks1 asks1.parse).rule = some 2 ∧ (classify (decided asks1) asks1 asks1.parse).actionSet = some 7
      ∧ (classify (decided asks1) asks1 asks1.parse).builtIn = none ∧ dropsFrame (classify (decided asks1) asks1 asks1.parse).actions = false)
    ∧ ((classify (decided asks1 [Act.setF .fair 0xF040 2 F.ternValid 0]) asks1 asks1.parse).actionSet = none)
    ∧ dropsFrame (classify (decided asks1 [Act.setF .fair 0xF044 7 F.actDrop 1]) asks1 asks1.parse).actions = true
    ∧ (sessionLookup (decided asks1) asks1.parse = none ∧ sessionsApply (decided asks1) asks1.parse = true
      ∧ actBit (classify (decided asks1) asks1 asks1.parse).actions F.actSessionCreate = 1
      ∧ actBit (classify (decided asks1) asks1 asks1.parse).actions F.actDrop = 0 ∧ createsSession asks1.parse = true)
    ∧ (freeSession (decided asks1) asks1.parse = some 13656 ∧ freeSession (decided asks1 otherSessions) asks1.parse = none) :=
  ⟨asks1_decided, by decide +kernel⟩

/-- Stream 9 is admitted at a class with the port group of port 6 as its target. -/
def floored : List Act := [Act.setF .live 0xF077 9 F.stAdmitted 1, Act.setF .fair 0xF071 9 F.ctxTargetValid 1,
  Act.setF .fair 0xF071 9 F.ctxTarget 1, Act.setF .fair 0xF054 1 F.grpPorts (2 ^ 6)]

/-- Sources and destinations that are known, a port of each kind, and each end of step 7. -/
theorem met_FramesAreQueued :
    ((decided asks1).decides 0 asks1 { asks1 with octets := asks1.octets ++ [] } ∧ asks1.kind = 0 ∧ asks1.answerTo = none
      ∧ actBit (classify (decided asks1) asks1 asks1.parse).actions F.actFixedPort = 0
      ∧ identify (decided asks1) .fair asks1 asks1.parse = none ∧ (decided asks1).genOf asks1.tag = .fair)
    ∧ (frameVid (decided asks1) .fair asks1 asks1.parse = 1 ∧ (decided asks1).fldOn .fair 0xF051 1 F.vlanValid = true
      ∧ (decided asks1).fld .fair 0xF053 3 F.pfwdAccepted = 0 ∧ (decided asks1).fldOn .fair 0xF053 3 F.pfwdIngressFilter = false)
    ∧ (decided asks1 [Act.setF .fair 0xF051 1 F.vlanValid 0]).fldOn .fair 0xF051 1 F.vlanValid = false
    ∧ (destinations (decided asks1) .fair asks1 asks1.parse 1 = 2 ^ 5 + 2 ^ 6 + 2 ^ 7
      ∧ destinations (decided asks1 [.put Key.floodUnknownUnicast 0]) .fair asks1 asks1.parse 1 = 0)
    ∧ ((decided asks1).portState 5 = 2 ∧ (decided asks1).portState 7 ≠ 2 ∧ floorOf (decided asks1) 5 = none
      ∧ floorOf (decided asks1 floored) 6 = some 0 ∧ (decided asks1).depthCells 5 1 + 1 ≤ (decided asks1).get (Key.queueLimit 5 1)
      ∧ (decided asks1 [.put (Key.queueLimit 5 1) 0]).get (Key.queueLimit 5 1) < (decided asks1 [.put (Key.queueLimit 5 1) 0]).depthCells 5 1 + 1)
    ∧ ((members 256 (2 ^ 5 + 2 ^ 6 + 2 ^ 7)).length ≤ 250 ∧ (decided asks1).copies.length + 260 ≤ 131072
      ∧ stepSeven (decided asks1) 1 1 = (some [], false)
      ∧ stepSeven (decided asks1 [Act.setF .fair 0xF050 0 F.poolQuota 0]) 1 1 = (none, true)
      ∧ (decided asks1).isEthernet 5 = true ∧ (decided asks1).secyProtects 5 = false)
    ∧ (fdbLookup (decided asks1) 1 asks1.parse.sa = none ∧ (decided asks1).get Rg.fdbFlushing = 0
      ∧ (decided asks1).fldOn .fair 0xF053 3 F.pfwdLearning = true ∧ asks1.parse.sa / 2 ^ 40 % 2 = 0
      ∧ (decided asks1).fld .live 0xF052 (4 * fdbBucket 1 asks1.parse.sa) F.fdbValid = 0) :=
  ⟨⟨asks1_decided, by decide +kernel⟩, by decide +kernel, by decide +kernel, by decide +kernel, by decide +kernel, by decide +kernel,
    by decide +kernel⟩

/-- A stored frame of a lower class that may be pushed out, and the source of asks1 in the database. -/
def victim : Frame := { stored with id := 7, cls := 0, port := 7 }
def short : State := decided asks1 [.setFrames [victim], .setCopies [{ anyCopy with frame := 7, port := 5 }], Act.setF .fair 0xF050 0 F.poolQuota 1]
def known (st : Nat) : State :=
  decided asks1 [Act.setF .live 0xF052 (4 * fdbBucket 1 0x020000000003) F.fdbValid 1,
    Act.setF .live 0xF052 (4 * fdbBucket 1 0x020000000003) F.fdbVid 1, Act.setF .live 0xF052 (4 * fdbBucket 1 0x020000000003) F.fdbStatic st,
    Act.setF .live 0xF052 (4 * fdbBucket 1 0x020000000003) F.fdbAddress (leNat (beBytes 6 0x020000000003))]

theorem met_FramesAreQueued_pushes :
    stepSeven short 1 1 = (some [victim], true)
    ∧ (fdbLookup (known 0) 1 0x020000000003 = some (4 * fdbBucket 1 0x020000000003)
      ∧ (known 0).fld .live 0xF052 (4 * fdbBucket 1 0x020000000003) F.fdbStatic = 0
      ∧ (known 1).fld .live 0xF052 (4 * fdbBucket 1 0x020000000003) F.fdbStatic ≠ 0)
    ∧ (∀ w < 4, (decided asks1 ((List.range 4).map fun w => Act.setF .live 0xF052 (4 * fdbBucket 1 0x020000000003 + w) F.fdbValid 1)).fld .live
        0xF052 (4 * fdbBucket 1 0x020000000003 + w) F.fdbValid ≠ 0) := by
  decide +kernel

/-- Stream 9 is that of asks1 by its destination and VLAN 1. -/
def streamKey1 : List Byte := beBytes 6 0x020000000005 ++ beBytes 2 1 ++ List.replicate 40 0#8
def streamRow1 : Nat := 4 * (crc32c (1#8 :: streamKey1) % 2 ^ 11)
def streamed (more : List Act := []) : State :=
  decided asks1 ([Act.setF .fair 0xF075 3 F.sportMethods 1, Act.setF .fair 0xF070 streamRow1 F.sidKey (leNat streamKey1),
    Act.setF .fair 0xF070 streamRow1 F.sidMethod 1, Act.setF .fair 0xF070 streamRow1 F.sidValid 1,
    Act.setF .fair 0xF070 streamRow1 F.sidHandle 9, Act.setF .fair 0xF071 9 F.ctxValid 1, Act.setF .fair 0xF071 9 F.ctxCls 1,
    Act.setF .fair 0xF071 9 F.ctxMaxSdu 64, Act.setF .fair 0xF071 9 F.ctxIngress 3] ++ more)
def metered (more : List Act) : State :=
  streamed ([Act.setF .fair 0xF071 9 F.ctxMeterKind 1, Act.setF .fair 0xF071 9 F.ctxMeter 4, Act.setF .fair 0xF072 4 F.flowValid 1] ++ more)
def policed (more : List Act) : State :=
  streamed ([Act.setF .fair 0xF071 9 F.ctxMeterKind 2, Act.setF .fair 0xF071 9 F.ctxMeter 4, Act.setF .fair 0xF073 4 F.polValid 1,
    Act.setF .fair 0xF073 4 F.polStream 9, Act.setF .fair 0xF073 4 F.polReport 1] ++ more)

/-- Each colour of a meter, a policer that passes the frame and one that does not, and each kind of recovery. -/
theorem met_StreamsAreFiltered_meters :
    ((flowMeter (metered [Act.setF .fair 0xF072 4 F.flowCbs 64]) .fair 4 64 false).1 = 0
      ∧ (flowMeter (metered [Act.setF .fair 0xF072 4 F.flowEbs 64]) .fair 4 64 false).1 = 1
      ∧ (flowMeter (metered []) .fair 4 64 false).1 = 2
      ∧ (metered [.put (Rg.meterRed 4) 1]).get (Rg.meterRed 4) ≠ 0 ∧ (metered []).get (Rg.meterRed 4) = 0
      ∧ (streamed []).fldOn .fair 0xF072 4 F.flowValid = false ∧ (metered []).fldOn .fair 0xF072 4 F.flowValid = true)
    ∧ ((strictPolicer (policed [Act.setF .fair 0xF073 4 F.polCbs 64]) .fair 4 64).1 = true ∧ (strictPolicer (policed []) .fair 4 64).1 = false)
    ∧ (recovering1.get (Rg.recoveryOn 9) ≠ 0 ∧ recovering1.fldOn .fair 0xF074 9 F.recMatch = false
      ∧ (up [Act.setF .fair 0xF074 9 F.recMatch 1]).fldOn .fair 0xF074 9 F.recMatch = true ∧ (up []).get (Rg.recoveryOn 9) = 0) := by
  decide +kernel

theorem streamed_decided : (streamed []).decides 0 asks1 { asks1 with octets := asks1.octets ++ [] } :=
  ⟨by unfold State.arriving; decide +kernel, by decide +kernel, 3, by decide +kernel, 0, by decide +kernel, by decide +kernel⟩

theorem met_StreamsAreFiltered :
    ((streamed []).decides 0 asks1 { asks1 with octets := asks1.octets ++ [] }
      ∧ (classify (streamed []) asks1 asks1.parse).builtIn = none ∧ dropsFrame (classify (streamed []) asks1 asks1.parse).actions = false
      ∧ identify (streamed []) .fair asks1 asks1.parse = some 9 ∧ asks1.rxLength = 64)
    ∧ ((streamed [Act.setF .fair 0xF071 9 F.ctxIngress 4]).fld .fair 0xF071 9 F.ctxIngress ≠ 3
      ∧ (streamed [Act.setF .fair 0xF071 9 F.ctxMaxSdu 63]).fld .fair 0xF071 9 F.ctxMaxSdu < asks1.rxLength
      ∧ (streamed [Act.setF .fair 0xF071 9 F.ctxBlockOversize 1]).fld .fair 0xF071 9 F.ctxBlockOversize ≠ 0)
    ∧ (policerOf (policed []) .fair 9 = some 4 ∧ (policed []).fldOn .fair 0xF073 4 F.polReport = true
      ∧ (policed []).fldOn .fair 0xF073 4 F.polValid = true ∧ (classify (policed []) asks1 asks1.parse).reason = none)
    ∧ ((metered [Act.setF .fair 0xF072 4 F.flowDropYellow 1]).fldOn .fair 0xF072 4 F.flowDropYellow = true)
    ∧ ((streamed [Act.setF .fair 0xF071 9 F.ctxMember 1]).fld .fair 0xF071 9 F.ctxMember ≠ 0
      ∧ (streamed [Act.setF .fair 0xF071 9 F.ctxRecoveryValid 1]).fld .fair 0xF071 9 F.ctxRecoveryValid ≠ 0
      ∧ (streamed [Act.setF .fair 0xF074 0 F.recValid 1]).fldOn .fair 0xF074 0 F.recValid = true
      ∧ (recovery (streamed [Act.setF .fair 0xF074 0 F.recTakeNo 1]) .fair 0 none).1 = true ∧ (recovery (streamed []) .fair 0 none).1 = false
      ∧ (streamed [Act.setF .fair 0xF071 9 F.ctxGenerate 1]).fld .fair 0xF071 9 F.ctxGenerate ≠ 0
      ∧ (streamed []).fld .fair 0xF071 9 F.ctxShaperValid = 0
      ∧ (streamed [Act.setF .fair 0xF071 9 F.ctxTargetValid 1]).fld .fair 0xF071 9 F.ctxTargetValid ≠ 0) :=
  ⟨⟨streamed_decided, by decide +kernel⟩, by decide +kernel, by decide +kernel, by decide +kernel, by decide +kernel⟩

/-- A classical CAN cell from port 64, and row 3 of GatewayRoutes, which takes it to ports 65 and 5. -/
def canCell : Frame := { arrives with port := 64, source := 64, kind := 1, octets := mkCell 1 64 0x123 0 0 0 8 0 0 (List.replicate 8 7) }
def routing (more : List Act := []) : State :=
  decided canCell ([.put (Key.portState 64) 2, .put (Key.portState 65) 2, Act.setF .fair 0xF080 3 F.routeValid 1,
    Act.setF .fair 0xF080 3 F.routeSource 64, Act.setF .fair 0xF080 3 F.routeKinds 15, Act.setF .fair 0xF080 3 F.routeMask 0xFFF,
    Act.setF .fair 0xF080 3 F.routeIdent 0x123, Act.setF .fair 0xF080 3 F.routeLifetime 100, Act.setF .fair 0xF080 3 (F.routePairValid 0) 1,
    Act.setF .fair 0xF080 3 (F.routePairPort 0) 65, Act.setF .fair 0xF080 3 (F.routePairValid 7) 1,
    Act.setF .fair 0xF080 3 (F.routePairPort 7) 5, Act.setF .fair 0xF080 3 (F.routePairFormat 7) 4] ++ more)

theorem routing_decided : (routing []).decides 0 canCell { canCell with octets := canCell.octets ++ [] } :=
  ⟨by unfold State.arriving; decide +kernel, by decide +kernel, 0, by decide +kernel, 0, by decide +kernel, by decide +kernel⟩

theorem met_CellsAreRouted :
    ((routing []).decides 0 canCell { canCell with octets := canCell.octets ++ [] } ∧ (routing []).sound = true ∧ canCell.complete = true
      ∧ canCell.kind ≠ 0 ∧ canCell.answerTo = none ∧ (classify (routing []) canCell canCell.parse).builtIn = none
      ∧ dropsFrame (classify (routing []) canCell canCell.parse).actions = false
      ∧ actBit (classify (routing []) canCell canCell.parse).actions F.actFixedPort = 0
      ∧ identify (routing []) .fair canCell canCell.parse = none ∧ cellSource canCell.octets = 64)
    ∧ ((routing []).get (Key.gatewayChannelState 64) = 2 ∧ (routing [.put (Key.gatewayChannelState 64) 0]).get (Key.gatewayChannelState 64) ≠ 2)
    ∧ (routeLookup (routing []) .fair canCell.octets = some 3
      ∧ routeLookup (routing [Act.setF .fair 0xF080 3 F.routeValid 0]) .fair canCell.octets = none
      ∧ routeLookup (routing [Act.setF .fair 0xF080 3 F.routeValid 0, Act.setF .fair 0xF080 16383 F.routeValid 1,
          Act.setF .fair 0xF080 16383 F.routeSource 64, Act.setF .fair 0xF080 16383 F.routeKinds 1]) .fair canCell.octets = some 16383
      ∧ (routing [.put Key.noRouteAction 1]).get Key.noRouteAction ≠ 0)
    ∧ ((convert (routing []) .fair 3 0 canCell.octets).isSome = true ∧ (convert (routing []) .fair 3 7 canCell.octets).isSome = true
      ∧ convert (routing [Act.setF .fair 0xF080 3 (F.routePairFormat 0) 6]) .fair 3 0
          (mkCell 2 64 0x123 0 0 0 9 0 0 (List.replicate 12 7)) = none)
    ∧ (floorOf (routing []) 65 = none ∧ (routing []).portState 65 = 2 ∧ (routing []).isBus 65 = true
      ∧ (routing []).outboundUse 65 (gatewayClass 1) < (routing []).get (Key.outboundLimit 65 (gatewayClass 1))
      ∧ (routing []).inboundUse 64 (gatewayClass 1) < (routing []).get (Key.inboundLimit 64 (gatewayClass 1))
      ∧ (routing []).copies.length + 16 ≤ 131072 ∧ (stepSeven (routing []) 1 1).1 ≠ none
      ∧ (routing []).vtime < canCell.stamp + us ((routing []).fld .fair 0xF080 3 F.routeLifetime * 100)
      ∧ (routing []).secyProtects 65 = false) :=
  ⟨⟨routing_decided, by decide +kernel⟩, by decide +kernel, by decide +kernel, by decide +kernel, by decide +kernel⟩

/-- What a copy of the pair to port 65 can be is sendable there. -/
theorem met_CellsAreRouted_sendable (c : Copy) (port : c.port = 65) (own : c.form = convert (routing []) .fair 3 0 canCell.octets)
    (form : c.profile = none) : (routing []).sendable c canCell = true := by
  have k : (routing []).kind 65 = 4 := by decide +kernel
  have some' : (convert (routing []) .fair 3 0 canCell.octets).isSome = true := by decide +kernel
  have kind : cellKind ((convert (routing []) .fair 3 0 canCell.octets).getD canCell.octets) = 1 := by decide +kernel
  have mode : 1 ≤ (routing []).inForce (Key.canMode 65) := by decide +kernel
  simp [State.sendable, Copy.ethernet, port, own, form, k, some', kind, mode]

/-- The octets of a SecTAG's TCI/AN, of a SecY that validates and protects on port 3, and its SAs with the key of slot 5. -/
def secy (validate : Nat) (more : List Act := []) : State :=
  decided asks1 ([.put (Rg.secyRow 3) (setBits (setBits (setBits (setBits (setBits 0 F.secyEnable.bit F.secyEnable.width 1)
      F.secyProtect.bit F.secyProtect.width 1) F.secyIncludeSci.bit F.secyIncludeSci.width 1) F.secyReplay.bit F.secyReplay.width 1)
      F.secyValidate.bit F.secyValidate.width validate + 1),
    Act.setF .live 0xF098 0 F.keyState 1, Act.setF .live 0xF098 5 F.keyState 1, Act.setF .live 0xF098 5 F.keyKind 1,
    Act.setF .live 0xF098 5 F.keyUsage 2, Act.setF .live 0xF092 12 F.saInUse 1, Act.setF .live 0xF092 12 F.saKeySlot 5,
    Act.setF .live 0xF092 12 F.saPn 9, Act.setF .live 0xF092 240 F.saInUse 1, Act.setF .live 0xF092 240 F.saKeySlot 5,
    Act.setF .live 0xF092 240 F.saPn 5, Act.setF .live 0xF091 12 F.rxscValid 1] ++ more)

/-- asks1 as a peer with the key protects it under PN 9, one octet of it altered, one under SA 1, and one under PN 3. -/
def protected1 (pn : Nat) : List Byte :=
  match (secy 2 [Act.setF .live 0xF092 12 F.saPn pn]).secUse 3 12 with
  | some x => (secy 2).protect 3 x (asks1.octets.take 60)
  | none => []
def secyHeard (bs : List Byte) : SecOutcome := (secy 2 [Act.setF .live 0xF091 12 F.rxscSci (leNat ((secy 2).ownSci 3))]).secVerify 3 bs

theorem met_SecysProtectAndVerify_verdicts :
    secyHeard (protected1 9) = .verified 240 9 ∧ secyHeard ((protected1 9).set 40 7#8) = .failed
    ∧ secyHeard ((protected1 9).set 14 ((protected1 9).getD 14 0#8 ||| 1#8)) = .noSa ∧ secyHeard (protected1 3) = .late
    ∧ (protected1 9).length = 60 + 32 := by
  decide +kernel

/-- asks1 in that form, and a copy of a stored frame before the SecY of port 3. -/
def tagged1 : Frame := { asks1 with octets := protected1 9 ++ List.replicate 4 0#8 }
def secyOut (more : List Act := []) : State :=
  secy 2 ([.setFrames [stored], .setCopies [anyCopy], .put Rg.entryCount 1] ++ more)

/-- A frame of stream 9 that was decided before its last octet and is longer than the stream's MaxSdu, and one with a SecTAG. -/
def early9 : Frame := { early with stream := some 9, rtag := some 0, octets := asks1.octets.take 60 }
def earlySec (pn : Nat) : Frame := { early with secured := true, octets := protected1 pn }
def blocking : State := streamed [Act.setF .fair 0xF071 9 F.ctxMaxSdu 63, Act.setF .fair 0xF071 9 F.ctxBlockOversize 1]

theorem met_TailSettlesTheFrame_bad :
    (early9.stream.isSome = true ∧ identify blocking .fair (earlyTail early9) (earlyTail early9).parse = some 9
      ∧ blocking.fld .fair 0xF071 9 F.ctxMaxSdu < (earlyTail early9).rxLength ∧ blocking.fld .fair 0xF071 9 F.ctxBlockOversize ≠ 0
      ∧ early9.rtag.isSome = true ∧ (earlyTail early9).parse.malformed = false)
    ∧ ((earlySec 9).secured = true ∧ (earlySec 9).stage = .stored ∧ (earlySec 9).decided.isSome = true ∧ (secy 2).secyValidates 3 = 2
      ∧ ingressFault (secy 2) (earlyTail (earlySec 9)) .good = none ∧ (secy 2).get Key.malformedAction = 0
      ∧ (earlyTail (earlySec 9)).data = protected1 9 ∧ (earlyTail (earlySec 3)).data = protected1 3
      ∧ (secy 2 [.setFrames [earlySec 9]]).frame? 0 = some (earlySec 9)) := by
  decide +kernel

theorem met_SecysProtectAndVerify :
    ((secy 2 [.setFrames [tagged1]]).arriving 0 tagged1 { tagged1 with octets := tagged1.octets ++ [] } ∧ tagged1.kind = 0
      ∧ (secy 2).secyValidates 3 = 2 ∧ (secy 1).secyValidates 3 ≠ 0 ∧ tagged1.complete = true ∧ hasSecTag tagged1.octets = true)
    ∧ (hasSecTag asks1.octets = false ∧ (secy 2).arriving 0 asks1 { asks1 with octets := asks1.octets ++ [] } ∧ asks1.parse.typ ≠ 0x88F7
      ∧ asks1.parse.typ ≠ 0x888E) := by
  refine ⟨⟨?_, by decide +kernel⟩, ⟨by decide +kernel, ?_, by decide +kernel⟩⟩ <;> unfold State.arriving <;> decide +kernel

/-- A copy that is to be protected, with the last PN, without a usable SA, and one whose key slot is lost on the wire. -/
def lostKey : Copy := { sentNow with sec := some ⟨12, 9, 5, zeroKey, List.replicate 12 0#8⟩ }

theorem met_SecysProtectAndVerify_sends :
    ((match (secyOut.choose 3).1 with
        | .start c f _ _ => c == anyCopy && f == stored
        | _ => false) = true ∧ anyCopy.phase ≠ .paused ∧ secyOut.sendable anyCopy stored = true ∧ secyOut.expired anyCopy = false
      ∧ secyOut.secyProtects 3 = true ∧ innerType (copyOctets secyOut anyCopy stored) ≠ 0x888E ∧ secyOut.saSends 3 (secyOut.encodingSa 3) = true
      ∧ stored.complete = true ∧ anyCopy.profile = none)
    ∧ (lastPn (imageField (secyOut.secyImage 3) F.secySuite) = 2 ^ 32 - 1
      ∧ (secyOut [Act.setF .live 0xF092 12 F.saPn (2 ^ 32 - 1)]).fld .live 0xF092 12 F.saPn = 2 ^ 32 - 1)
    ∧ ((secyOut [Act.setF .live 0xF092 12 F.saInUse 0]).saSends 3 12 = false ∧ secyOut.get (Key.outSaDrops 3) < 2 ^ 32 - 1)
    ∧ ((3 : Port).val ≠ 245 ∧ (queued stored lostKey).sending 3 = some lostKey ∧ (queued stored lostKey).frame? 0 = some stored
      ∧ ((queued stored lostKey).after 5).secAlive lostKey = false ∧ lostKey.phase = .wire) := by
  decide +kernel
/-! ### Vehicle time -/

/-- Port 3 takes part in both instances, with a role configured in instance 0 and as the slave port of instance 1. -/
def timed (role : Nat) (more : List Act := []) : State :=
  up ([.put (Key.externalPortConfiguration 0) 1, .put (Key.externalPortConfiguration 1) 1, .put (Key.portState 3) 2,
    .put (Key.instanceEnable 0) 1, .put (Key.instanceEnable 1) 1, .put (Key.domainNumber 1) 7, .put (Rg.pdelayOk 3) 1, .put (Rg.neighborAt 1 3) 1,
    Act.setF .live 0xF066 3 F.gptpEnable 1, Act.setF .live 0xF066 3 F.gptpRole role, Act.setF .live 0xF066 259 F.gptpEnable 1,
    Act.setF .live 0xF066 259 F.gptpRole 2] ++ more)

theorem met_SyncSteersVehicleTime :
    ((timed 2).operates = true ∧ ((timed 2).after (ns 900)).gptpRole (0 : Fin 2).val (3 : Port).val = 2
      ∧ (0 : Fin 2).val = ((timed 2).after (ns 900)).get Key.timeSourceInstance
      ∧ (((timed 2).after (ns 900)).offsetOf (3 : Port).val (ns 400)).natAbs ≤ ns (((timed 2).after (ns 900)).get Key.stepThreshold))
    ∧ (ns (((timed 2).after (ns 900)).get Key.stepThreshold)
        < (((timed 2).after (ns 900)).offsetOf (3 : Port).val (ms 90000)).natAbs
      ∧ ((timed 2).after (ns 900)).get Key.commitState ≠ 3)
    ∧ (((timed 1).after (ns 900)).gptpRole (1 : Fin 2).val (3 : Port).val = 2
      ∧ (1 : Fin 2).val ≠ ((timed 1).after (ns 900)).get Key.timeSourceInstance
      ∧ ((timed 1).after (ns 900)).get Key.timeStatus ≠ 4) := by
  decide +kernel

/-- The instances relay and send on a master port. -/
theorem met_SyncSteersVehicleTime_relay :
    (((timed 2).after (ns 900)).get (Rg.isolated (3 : Port).val) = 0
        ∧ ((timed 2 [.put (Rg.isolated 3) 1]).after 5).get (Rg.isolated (3 : Port).val) ≠ 0
      ∧ GptpMsg.pdelayRequest ≠ .pdelayLost) ∧
    ((timed 1).after 5).gptpRole (0 : Fin 2).val 3 = 1 ∧ ((timed 1).after 5).emitsTime (0 : Fin 2).val 3 = true := by decide +kernel

theorem met_TimeFollowsEventsAndMessages :
    (((timed 2 [.put Key.timeStatus 1]).after (ms 9000)).get Key.timeStatus = 1
      ∧ ((timed 2 [.put Key.timeStatus 1]).after (ms 9000)).get (Rg.syncAt 0) - 1 + ((timed 2 [.put Key.timeStatus 1]).after (ms 9000)).syncTimeout 0
        ≤ ((timed 2 [.put Key.timeStatus 1]).after (ms 9000)).now)
    ∧ (((timed 2 [.put Key.timeStatus 2]).after (ms 9000000)).get Key.timeStatus = 2
      ∧ ((timed 2 [.put Key.timeStatus 2]).after (ms 9000000)).get Rg.holdoverAt
          + ms (((timed 2 [.put Key.timeStatus 2]).after (ms 9000000)).get Key.holdoverLimit)
        ≤ ((timed 2 [.put Key.timeStatus 2]).after (ms 9000000)).now)
    ∧ (((timed 1).after 5).isGrandmaster 0 = true ∧ ((timed 1).after 5).get Key.timeStatus ≠ 4)
    ∧ (((timed 1).after 5).takesPart (3 : Port).val = true ∧ ((timed 1).after 5).emitsTime 0 3 = true
      ∧ ((timed 1).after 5).get (Rg.isolated (3 : Port).val) = 0 ∧ ((timed 1).after 5).instRuns (0 : Fin 2).val = true
      ∧ ((timed 1).after 5).partOf (0 : Fin 2).val (3 : Port).val = true ∧ ((timed 1).after 5).sendsTime (0 : Fin 2).val (3 : Port).val = true
      ∧ ((timed 1).after 5).get (Key.externalPortConfiguration (0 : Fin 2).val) ≠ 0
      ∧ ((timed 2).after 5).gptpRole (0 : Fin 2).val (3 : Port).val = 2)
    ∧ ((0 : Fin 2).val = ((timed 1).after 5).get Key.timeSourceInstance ∧ (1 : Fin 2).val ≠ ((timed 1).after 5).get Key.timeSourceInstance
      ∧ ((timed 1).after 5).gptpRole 0 3 = 1 ∧ ((timed 1).after 5).get (Rg.annSent (0 : Fin 2).val) = 0) := by
  decide +kernel

/-- Whatever the clock identity of the device is, an Announce can come from another. -/
theorem met_TimeFollowsEventsAndMessages_source :
    ∃ source : BitVec 80, ¬ (source.toNat / 2 ^ 16 = ownClock ∨ 255 ≤ (3 : BitVec 16).toNat ∨ ∃ x ∈ ([] : List (BitVec 64)), x.toNat = ownClock) := by
  by_cases h : ownClock = 0
  · exact ⟨0x10000, by simp [h]⟩
  · exact ⟨0, by simpa using Ne.symm h⟩

/-! ### Streams and the gateway -/

theorem met_StreamsAndChannelsAreSwitched :
    (((up []).facing 5 .safety).admits .safety 0x6000 15 = true ∧ 4095 < 4096 ∧ F.stBlocked ∈ layout 0xF077)
    ∧ (((up [.put (Key.gatewayChannelState 64) 0]).facing 5 .spi).admits .spi (0x200A + 16 * (64 : Port).val) 1 = true
      ∧ ((up [.put (Key.gatewayChannelState 64) 0]).facing 5 .spi).get (Key.gatewayChannelState (64 : Port).val) = 0)
    ∧ ((up [.put (Key.gatewayChannelState 64) 1]).facing 5 .spi).get (Key.gatewayChannelState (64 : Port).val) = 1
    ∧ ((up [.put (Key.gatewayChannelState 64) 2]).facing 5 .spi).get (Key.gatewayChannelState (64 : Port).val) = 2
    ∧ (up [.put (Key.gatewayChannelState 64) 1]).get (Key.gatewayChannelState (64 : Port).val) = 1 := by
  decide +kernel

/-! ### The integrity engine -/

/-- Page 1, of the host over PCIe, with the keys 5 and 6 and the counters 7 and 8; slot 0 and 5 hold usable keys. -/
def paged (more : List Act := []) : State :=
  up ([.put (Key.pageState 1) 2, Act.setF .live 0xF095 1 F.pageUser 3, Act.setF .live 0xF095 1 F.pageKeyBase 5,
    Act.setF .live 0xF095 1 F.pageKeyCount 2, Act.setF .live 0xF095 1 F.pageFreshBase 7, Act.setF .live 0xF095 1 F.pageFreshCount 2,
    Act.setF .live 0xF098 0 F.keyState 1, Act.setF .live 0xF098 5 F.keyState 1, Act.setF .live 0xF098 5 F.keyKind 1,
    Act.setF .live 0xF098 5 F.keyUsage 1, Act.setF .live 0xF094 7 F.freshLoaded 1, Act.setF .live 0xF094 7 F.freshWidth 8,
    Act.setF .live 0xF094 7 F.freshKeySlot 5] ++ more)

/-- The job of slot 15 of page 1 in a state, with an operation, a key slot and a counter. -/
def jobActs (st op key ctr : Nat) : List Act :=
  [Act.setF .live 0xF096 31 F.jobState st, Act.setF .live 0xF096 31 F.jobOp op, Act.setF .live 0xF096 31 F.jobKeySlot key,
    Act.setF .live 0xF096 31 F.jobCounter ctr, Act.setF .live 0xF096 31 F.jobMacLength 16]

def submits (more : List Act) : State := (paged more).facing 5 .pcie

theorem met_JobsAreSubmittedAndDispatched :
    (submits []).admits .pcie (0x8100 + (1 : Fin 64).val) 1 = true
    ∧ (submits [.put (Key.pageState 1) 1]).get (Key.pageState 1) ≠ 2
    ∧ (submits [Act.setF .live 0xF095 1 F.pageQuota 15]).page 1 F.pageQuota ≤ (15 : Fin 16).val
    ∧ (submits (jobActs 3 1 5 7)).job 31 F.jobState ≠ 0
    ∧ ¬ ((submits (jobActs 0 1 7 7)).page 1 F.pageKeyBase ≤ (submits (jobActs 0 1 7 7)).job 31 F.jobKeySlot
        ∧ (submits (jobActs 0 1 7 7)).job 31 F.jobKeySlot
          < (submits (jobActs 0 1 7 7)).page 1 F.pageKeyBase + (submits (jobActs 0 1 7 7)).page 1 F.pageKeyCount)
    ∧ (isFresh ((submits (jobActs 0 3 5 9)).job 31 F.jobOp) = true ∧ 9 = (submits (jobActs 0 3 5 9)).job 31 F.jobCounter)
    ∧ ((submits (jobActs 0 3 6 8)).page 1 F.pageQuota = 16 ∧ (submits (jobActs 0 3 6 8)).jobsInFlight < 256) := by
  decide +kernel

/-- 256 jobs of other pages are in flight: each row lists its octet 0. -/
def crowded : State := { up [] with live := (List.range 256).map fun i => (cellKey 0xF096 (32 + i) 0, 0x40#8) }

theorem met_JobsAreSubmittedAndDispatched_full : 256 ≤ (crowded.facing 5 .pcie).jobsInFlight := by decide +kernel

def dispatches (op key ctr : Nat) (more : List Act := []) : State := (paged (jobActs 1 op key ctr ++ more)).after 5

theorem met_JobsAreSubmittedAndDispatched_units :
    (((dispatches 1 5 7).jobsIn 2).filter fun r => (dispatches 1 5 7).get (Rg.jobUnit r) == (3 : Fin 4).val + 1).length < 16
    ∧ (dispatches 1 5 7).nextPage = some 1 ∧ (dispatches 1 5 7).nextJob 1 = some 31
    ∧ (dispatches 1 6 7).aesKey ((dispatches 1 6 7).job 31 F.jobKeySlot) 0 = none
    ∧ (dispatches 1 5 7).aesKey ((dispatches 1 5 7).job 31 F.jobKeySlot) 0 ≠ none
    ∧ (4096 < (dispatches 1 5 7 [Act.setF .live 0xF096 31 F.jobOffset 1, Act.setF .live 0xF096 31 F.jobLength 4096]).job 31 F.jobOffset
        + (dispatches 1 5 7 [Act.setF .live 0xF096 31 F.jobOffset 1, Act.setF .live 0xF096 31 F.jobLength 4096]).job 31 F.jobLength)
    ∧ (dispatches 2 5 7).job 31 F.jobOffset + (dispatches 2 5 7).job 31 F.jobLength ≤ 4096
    ∧ ((dispatches 3 5 7).fresh 7 F.freshKeySlot = (dispatches 3 5 7).job 31 F.jobKeySlot
      ∧ (dispatches 3 5 7).fldOn .live 0xF094 7 F.freshLoaded = true ∧ (dispatches 3 5 7).get (Rg.staleFresh 7) = 0
      ∧ (dispatches 3 5 7 [.put (Rg.staleFresh 7) 1]).get (Rg.staleFresh 7) ≠ 0
      ∧ (dispatches 3 5 7 [Act.setF .live 0xF094 7 F.freshExhausted 1, .put (Rg.exhaustedGen 7) 1]).keyExhausted 5 = true ∧ (dispatches 3 5 7).keyExhausted 5 = false
      ∧ (dispatches 3 5 7).fresh 7 F.freshWidth ≤ 64
      ∧ (dispatches 3 5 7 [Act.setF .live 0xF094 7 F.freshValue 254]).fresh 7 F.freshValue
        < (dispatches 3 5 7 [Act.setF .live 0xF094 7 F.freshValue 254]).freshLast 7
      ∧ (dispatches 3 5 7 [Act.setF .live 0xF094 7 F.freshValue 255]).freshLast 7
        ≤ (dispatches 3 5 7 [Act.setF .live 0xF094 7 F.freshValue 255]).fresh 7 F.freshValue) := by
  decide +kernel

/-- A running job; its MAC field is the MAC of its data under counter value 1 where `mac` says so. -/
def runs (op : Nat) (more : List Act := []) : State := (paged (jobActs 2 op 5 7 ++ more)).after 5
def macOf (s : State) (x : Nat) : Nat := leNat (s.jobMac 31 (s.freshOctets 7 x))

theorem met_JobsComplete :
    ((paged (jobActs 2 1 5 7)).operates = true ∧ (runs 1).job (16 * (1 : Fin 64).val + (15 : Fin 16).val) F.jobState = 2
      ∧ (runs 1).job 31 F.jobOp = 1 ∧ (runs 2).job 31 F.jobOp = 2 ∧ (runs 3).job 31 F.jobOp = 3 ∧ (runs 4).job 31 F.jobOp = 4)
    ∧ ((runs 3).keyExhausted ((runs 3).job 31 F.jobKeySlot) = false
      ∧ (runs 3 [Act.setF .live 0xF094 7 F.freshExhausted 1, .put (Rg.exhaustedGen 7) 1]).keyExhausted ((runs 3).job 31 F.jobKeySlot) = true)
    ∧ ((runs 4 [Act.setF .live 0xF094 7 F.freshValue 255]).freshLast 7 ≤ (runs 4 [Act.setF .live 0xF094 7 F.freshValue 255]).fresh 7 F.freshValue)
    ∧ ((runs 4).job 31 F.jobFresh ≤ (runs 4).fresh 7 F.freshValue
      ∧ (runs 4 [Act.setF .live 0xF096 31 F.jobFresh 256]).freshLast 7 < (runs 4 [Act.setF .live 0xF096 31 F.jobFresh 256]).job 31 F.jobFresh)
    ∧ (¬ ((runs 4 [Act.setF .live 0xF096 31 F.jobFresh 1]).job 31 F.jobFresh ≤ (runs 4).fresh 7 F.freshValue)
      ∧ ((runs 4 [Act.setF .live 0xF096 31 F.jobFresh 1]).rowOctets .live 0xF096 31 24 16).take 16
        ≠ ((runs 4 [Act.setF .live 0xF096 31 F.jobFresh 1]).jobMac 31 ((runs 4).freshOctets 7 1)).take 16)
    ∧ (((runs 4 [Act.setF .live 0xF096 31 F.jobFresh 1, Act.setF .live 0xF096 31 F.jobMac (macOf (runs 4) 1)]).rowOctets .live 0xF096 31 24 16).take 16
        = ((runs 4 [Act.setF .live 0xF096 31 F.jobFresh 1]).jobMac 31 ((runs 4).freshOctets 7 1)).take 16) := by
  decide +kernel

theorem met_JobsAreSubmittedAndDispatched_pages :
    ((submits (jobActs 3 1 5 7)).admitsRow .pcie 0xF096 (16 * (1 : Fin 64).val + (15 : Fin 16).val) 0 1 = true
      ∧ (submits (jobActs 3 1 5 7)).job 31 F.jobState = 3)
    ∧ (((paged []).facing 5 .safety).admits .safety (0x8100 + (61 : Fin 64).val) 3 = true
      ∧ ((paged []).facing 5 .safety).get (Key.pageState (61 : Fin 64).val) = 0)
    ∧ ((paged [.put (Key.pageState 1) 1]).facing 5 .safety).get (Key.pageState (1 : Fin 64).val) = 1
    ∧ (((paged []).facing 5 .safety).get (Key.pageState (1 : Fin 64).val) = 2)
    ∧ ((paged [.put (Key.pageState 1) 1]).get (Key.pageState (1 : Fin 64).val) = 1
      ∧ ∀ v < 16, (paged [.put (Key.pageState 1) 1]).job (16 * (1 : Fin 64).val + v) F.jobState ≠ 2) := by
  decide +kernel

def counterRow : List Byte := leBytes 16 (setBits (setBits 0 F.freshKeySlot.bit F.freshKeySlot.width 5) F.freshWidth.bit F.freshWidth.width 64)

/-- A counter that is loaded under its slot's generation, one that is not, and writes that touch one of the three fields or none. -/
theorem met_LoadedCountersAreNotRewritten :
    counterRow.length = 16
    ∧ (((paged []).facing 5 .safety).admitsRow .safety 0xF094 (7 : BitVec 24).toNat 0 16 = true
      ∧ ((paged []).facing 5 .safety).fldOn .live 0xF094 (7 : BitVec 24).toNat F.freshLoaded = true
      ∧ ((paged []).facing 5 .safety).slotGeneration (((paged []).facing 5 .safety).fresh 7 F.freshKeySlot)
        = ((paged []).facing 5 .safety).fresh 7 F.freshGeneration)
    ∧ (((paged []).facing 5 .safety).admitsRow .safety 0xF094 (16383 : BitVec 24).toNat 0 16 = true
      ∧ ((paged []).facing 5 .safety).fldOn .live 0xF094 (16383 : BitVec 24).toNat F.freshLoaded = false)
    ∧ ((paged [Act.setF .live 0xF094 7 F.freshGeneration 9]).slotGeneration ((paged []).fresh 7 F.freshKeySlot)
        ≠ (paged [Act.setF .live 0xF094 7 F.freshGeneration 9]).fresh 7 F.freshGeneration)
    ∧ (F.freshValue.touched 0 1 = true ∧ F.freshWidth.touched 8 1 = true ∧ F.freshKeySlot.touched 11 1 = true)
    ∧ (((paged []).facing 5 .safety).admitsRow .safety 0xF094 7 15 1 = true ∧ F.freshValue.touched 15 1 = false
      ∧ F.freshWidth.touched 15 1 = false ∧ F.freshKeySlot.touched 15 1 = false) := by
  decide +kernel

def credits : State := up [.put Key.maskState 0, .put (Rg.credit 2) 9, .put (Rg.credit 5) 9, .put (Rg.credit 7) 3]

theorem met_TheArbiterGrantsByCredit :
    credits.operates = true
    ∧ (wordsOf [0, 0, 4, 0, 0, 16, 0, 1] 2 ≠ 0 ∧ (credits.after 5).seenMasked 2 = false
      ∧ ∀ r < 8, wordsOf [0, 0, 4, 0, 0, 16, 0, 1] r ≠ 0 → (credits.after 5).seenMasked r = false →
          (credits.after 5).seenCredit r < (credits.after 5).seenCredit 2
            ∨ ((credits.after 5).seenCredit r = (credits.after 5).seenCredit 2 ∧ 2 ≤ r))
    ∧ ((credits.after 5).get Key.maskState < 256 ∧ ∀ r < 8, wordsOf [] r = 0)
    ∧ (up [.put Key.maskState 2]).masked 1 = true
    ∧ ((credits.after 5).heldMasked (1 : Fin 8).val = false ∧ ((up [.put Rg.perstHigh 0]).after 5).heldMasked (1 : Fin 8).val = true) := by
  decide +kernel

/-- Requester 7 has waited as often as StarvationWindows allows and is flagged at the next refill; a mask asserted in a cycle is not seen
in it. -/
def refilled (words : List Nat) (waits : Nat) : State :=
  (refillArbiter words).run ((up [.put Key.maskState 0, .put (Rg.waits 7) waits, .put Key.starvationVector 9]).after 5)
def maskedNow : State := (maskRequester 2 true).run (credits.after 52429)

theorem met_TheArbiterGrantsByCredit_starves :
    ((credits.after 5).get Key.starvationWindows = 64)
    ∧ (refilled [0, 0, 0, 0, 0, 0, 0, 1] 64).get Key.starvationFlags = 2 ^ 7
    ∧ (refilled [0, 0, 0, 0, 0, 0, 0, 1] 63).get Key.starvationFlags = 0
    ∧ (Out.vector 9 ∈ (refilled [0, 0, 0, 0, 0, 0, 0, 1] 64).outs)
    ∧ (maskedNow.masked 2 = true ∧ maskedNow.seenMasked 2 = false ∧ maskedNow.seenCredit 2 = 9) := by
  decide +kernel
/-! ### Keys -/

/-- A loaded root in slot 0 and a loaded anchor with an empty slot above it. -/
def rooted (more : List Act := []) : State :=
  up ([Act.setF .live 0xF098 0 F.keyState 1, Act.setF .live 0xF098 0 F.keyKind 8] ++ more)

/-- A whole row that loads an AES-128 key under slot 0, or invalidates. -/
def keyRow (kind op : Nat) : List Byte :=
  leBytes 64 (setBits (setBits (setBits 0 F.keyKind.bit F.keyKind.width kind) F.keyUsage.bit F.keyUsage.width 1) F.keyOp.bit F.keyOp.width op)

/-- The image that a write of a whole row makes of a slot. -/
def imageAt (u : State) (n : Nat) (data : List Byte) : Nat :=
  (mergeFields (layout 0xF098) (setBits (leNat (u.rowOctets .live 0xF098 n 0 64)) F.keyOp.bit F.keyOp.width 0) (leNat data) 0 64).1
def loadOf (u : State) (n : Nat) (data : List Byte) : LoadCase :=
  u.loadCase n (setBits (imageAt u n data) F.keyOp.bit F.keyOp.width 0)
def asks (more : List Act) : State := (rooted more).facing 5 .safety
def slot9 (st : Nat) : List Act := [Act.setF .live 0xF098 9 F.keyState st]

theorem met_KeysAreLoadedAndDestroyed :
    ((keyRow 1 1).length = 64 ∧ (asks []).admitsRow .safety 0xF098 (9 : BitVec 24).toNat 0 64 = true
      ∧ (asks []).admitsRow .safety 0xF098 (3 : BitVec 24).toNat 0 64 = true ∧ (3 : BitVec 24).toNat < 4
      ∧ imageField (imageAt (asks []) 9 (keyRow 1 1)) F.keyOp = 1 ∧ imageField (imageAt (asks []) 3 (keyRow 1 1)) F.keyOp = 1)
    ∧ (match loadOf (asks [Act.setF .live 0xF098 9 F.keyGeneration 0xFFFF]) 9 (keyRow 1 1) with
        | .refuse 5 => true
        | _ => false) = true
    ∧ (match loadOf (asks (slot9 3)) 9 (keyRow 1 1) with
        | .hold => true
        | _ => false) = true
    ∧ (match loadOf (asks []) 9 (keyRow 1 1) with
        | .load => true
        | _ => false) = true
    ∧ (imageField (imageAt (asks (slot9 1)) 9 (keyRow 1 2)) F.keyOp = 2 ∧ (asks (slot9 1)).slotKind 9 ≠ 15 ∧ (asks (slot9 1)).slotState 9 = 1)
    ∧ ((asks []).slotState 9 = 0 ∧ (asks (slot9 3)).slotState 9 = 3
      ∧ (asks [Act.setF .live 0xF098 9 F.keyKind 15]).slotKind 9 = 15) := by
  decide +kernel

def sweeping (latched : Nat) : State :=
  { build (slot9 3 ++ [Act.setF .live 0xF098 10 F.keyState 1]) with regs := [(Key.tamperLatched, latched), (Key.sweepActive, 1)] }

theorem met_KeysAreLoadedAndDestroyed_swept :
    ((sweeping 0).operates = true ∧ (sweeping 0).get Key.sweepActive ≠ 0 ∧ (∀ n < 1024, (sweeping 0).get (Rg.heldLoad n) = 0)
      ∧ ((sweeping 0).after 5).slotState 9 = 3 ∧ ((sweeping 0).after 5).slotState 10 = 1 ∧ ((sweeping 0).after 5).usable 10 = false
      ∧ ((sweeping 0).after 5).slotKind 10 ≠ 15)
    ∧ (sweeping 1).get Key.tamperLatched ≠ 0
    ∧ ((up []).get Key.deviceState ≠ 2 ∧ (up [.put Key.keyGuardMode 1]).get Key.keyGuardMode = 1
      ∧ (up [.put Key.keyGuardMode 0]).get Key.keyGuardMode ≠ 1 ∧ (rooted []).slotState 0 = 1 ∧ (up []).slotState 0 ≠ 1
      ∧ 2 ≤ (build [.put Key.deviceState 3]).get Key.deviceState ∧ (build [.put Key.deviceState 2]).get Key.deviceState = 2)
    ∧ ((up []).get Rg.porstLow = 0 ∧ (rooted []).get Rg.porstLow = 0 ∧ (build [.put Key.deviceState 3]).get Rg.porstLow = 0
      ∧ (build [.put Key.deviceState 2]).get Rg.porstLow = 0 ∧ (build [.put Rg.porstLow 1]).get Rg.porstLow ≠ 0) := by
  decide +kernel

/-! ### The signature unit -/

/-- An ECDSA P-256 private key in slot 5, a public key in slot 7, and page 2 bound to the user of a row. -/
def signer (more : List Act := []) : State :=
  up ([Act.setF .live 0xF098 0 F.keyState 1, Act.setF .live 0xF098 5 F.keyState 1, Act.setF .live 0xF098 5 F.keyKind 3,
    Act.setF .live 0xF098 5 F.keyMaterial 1, Act.setF .live 0xF098 7 F.keyState 1, Act.setF .live 0xF098 7 F.keyKind 5,
    Act.setF .live 0xF095 2 F.pageUser 1] ++ more)

/-- A whole row of SignatureJobs that asks for an operation. -/
def signRow (op key off len : Nat) : List Byte :=
  leBytes 256 (setBits (setBits (setBits (setBits (setBits (setBits 0 F.sjobState.bit F.sjobState.width 1) F.sjobOp.bit F.sjobOp.width op)
    F.sjobKeySlot.bit F.sjobKeySlot.width key) F.sjobPage.bit F.sjobPage.width 2) F.sjobOffset.bit F.sjobOffset.width off)
    F.sjobLength.bit F.sjobLength.width len)
def ofRow (data : List Byte) (f : Fld) : Nat := bits (leNat data) f.bit f.width
def signs1 (more : List Act) : State := (signer more).facing 5 .safety

def ending (key : Nat) : State :=
  (signer [.put Rg.signUser 2, Act.setF .live 0xF099 0 F.sjobState 2, Act.setF .live 0xF099 0 F.sjobOp 2,
    Act.setF .live 0xF099 0 F.sjobKeySlot key]).after 5

/-- The key of a finished job still serves it, and no longer does. -/
theorem met_SignatureJobsRun_fault : (ending 5).signJobFault 0 = none ∧ (ending 6).signJobFault 0 = some 2 := by decide +kernel

theorem met_SignatureJobsRun :
    ((signs1 []).admitsRow .safety 0xF099 (0 : Fin 2).val 0 256 = true ∧ (signRow 1 5 4095 1).length = 256
      ∧ (signs1 []).sjob 0 F.sjobState = 0 ∧ ofRow (signRow 1 5 4095 1) F.sjobState = 1 ∧ ofRow (signRow 4 5 4095 1) F.sjobOp = 4
      ∧ ofRow (signRow 1 5 4095 1) F.sjobOffset ≤ 4095 ∧ ofRow (signRow 1 5 4095 4096) F.sjobLength ≤ 4096)
    ∧ (signs1 [.put Rg.signUser 2]).get Rg.signUser ≠ 0
    ∧ ((signs1 []).get Rg.signUser = 0 ∧ (signs1 []).get Rg.stmtKind = 0 ∧ (signs1 []).get Rg.attestWanted = 0
      ∧ (signs1 []).sjob (1 - (0 : Fin 2).val) F.sjobState ≠ 1)
    ∧ (ofRow (signRow 1 5 4095 1) F.sjobKeySlot ≠ 1 ∧ (signs1 []).usable 5 = true ∧ suits 1 ((signs1 []).slotKind 5) = true
      ∧ (signs1 []).page 2 F.pageUser = (0 : Fin 2).val + 1
      ∧ ofRow (signRow 1 5 4095 1) F.sjobOffset + ofRow (signRow 1 5 4095 1) F.sjobLength ≤ 4096
      ∧ 4096 < ofRow (signRow 1 5 4095 2) F.sjobOffset + ofRow (signRow 1 5 4095 2) F.sjobLength)
    ∧ ¬ (signs1 []).usable 6 = true
    ∧ (((signer [.put Rg.signUser 2, Act.setF .live 0xF099 0 F.sjobState 2, Act.setF .live 0xF099 0 F.sjobOp 2]).after 5).get Rg.signUser
        = (if (0 : Fin 2).val = 0 then 2 else 4)
      ∧ ((signer [.put Rg.signUser 2, Act.setF .live 0xF099 0 F.sjobState 2,
          Act.setF .live 0xF099 0 F.sjobOp 2]).after 5).sjob (0 : Fin 2).val F.sjobState = 2
      ∧ signs 2 = true ∧ signs 4 = false)
    ∧ (((up []).facing 5 .safety).admits .safety 0x8300 1 = true ∧ ((up []).facing 5 .safety).usable 1 = false
      ∧ (signs1 [Act.setF .live 0xF098 1 F.keyState 1]).usable 1 = true ∧ (signs1 []).get Key.tamperLatched = 0) := by
  decide +kernel

/-! ### The record seal -/

/-- The seal with an AES key in slot 5, a signing key in slot 6 and a record on the queue of port 244. -/
def sealed (st : Nat) (more : List Act := []) : State :=
  queued stored { anyCopy with port := 244 } ([.put Key.recordSealState st, Act.setF .live 0xF098 0 F.keyState 1,
    Act.setF .live 0xF098 5 F.keyState 1, Act.setF .live 0xF098 5 F.keyKind 1, Act.setF .live 0xF098 5 F.keyUsage 8,
    Act.setF .live 0xF098 6 F.keyState 1, Act.setF .live 0xF098 6 F.keyKind 3, Act.setF .live 0xF098 6 F.keyUsage 8,
    .put Key.sealKeySlot 5, .put Key.sealSignSlot 6] ++ more)

/-- One record is in process, and its job on page 62 is complete. -/
def inProcess : List Act := [Act.setF .live 0xF096 sealRow F.jobState 2, Act.setF .live 0xF096 sealRow F.jobOp 1,
  Act.setF .live 0xF096 sealRow F.jobKeySlot 5, .put Rg.recordsTaken 1, .put (Rg.recordLength 0) 3, .put (Rg.recordOctets 0) 0x010203,
      .put Rg.chainOpen 1]

theorem met_RecordsAreSealed :
    (((sealed 0).facing 5 .safety).admits .safety 0x8400 1 = true ∧ ((sealed 0).facing 5 .spi).get Key.recordSealState = 0
      ∧ ((sealed 0).facing 5 .spi).sealReady = true)
    ∧ (((sealed 1).facing 5 .spi).get Key.recordSealState = 1 ∧ ((sealed 2).facing 5 .spi).get Key.recordSealState = 2
      ∧ ((sealed 3).facing 5 .spi).get Key.recordSealState = 3)
    ∧ (((sealed 0).facing 5 .safety).admits .safety 0x8400 4 = true ∧ ((sealed 0).facing 5 .safety).admits .safety 0x8400 5 = true
      ∧ 4 ≤ 1023 ∧ 1023 < 1024)
    ∧ ((sealed 1).operates = true ∧ (sealed 1).get Key.deviceState = 0 ∧ (sealed 1).get Key.recordSealState = 1 ∧ (sealed 1).get Key.recordSealPendingEnable = 0
      ∧ (sealed 1).get Key.recordSealEnable = 0)
    ∧ (((sealed 2).after 5).isUp 244 = true
      ∧ (((sealed 2).after 5).pick 244 false ((sealed 2).after 5).vtime [7, 6, 5, 4, 3, 2, 1, 0]).1 = some ({ anyCopy with port := 244 }, stored)
      ∧ ((sealed 2).after 5).expired { anyCopy with port := 244 } = false
      ∧ ((sealed 2 [.put Rg.recordsTaken 63]).after 5).get Rg.recordsTaken - ((sealed 2 [.put Rg.recordsTaken 63]).after 5).get Rg.recordsOut < 64
      ∧ (((sealed 3).after 5).pick 244 false ((sealed 3).after 5).vtime [7, 6, 5, 4, 3, 2, 1, 0]).1 = some ({ anyCopy with port := 244 }, stored))
    ∧ (((sealed 2).after 5).completes sealRow 1 = false ∧ ((sealed 2).after 5).canSeal = false)
    ∧ ((sealed 1 [.put Rg.sealCause 8, .put Rg.sealKeyGen 9]).sealReady = true
      ∧ (sealed 1 [.put Rg.sealCause 8, .put Rg.sealKeyGen 9]).get Rg.sealKeyGen ≠ (sealed 1 []).sealKeyId)
    ∧ (((sealed 2 inProcess).after 5).completes sealRow 1 = true ∧ ((sealed 2 inProcess).after 5).canSeal = true
        ∧ (((sealed 2 inProcess).after 5).aesKey (((sealed 2 inProcess).after 5).get Key.sealKeySlot) 3).isSome)
    ∧ ((sealed 2 [.put Rg.sealCount 1, .put Rg.sealNext 1, .put Rg.chainOpen 1]).after (ms 60000)).cutDue = true := by
  decide +kernel

/-! ### Consent rings -/

/-- Ring 3 in a state with the ports 3 and 16, a member 9 on port 3, and nobody who holds it awake. -/
def ringed (st : Nat) (more : List Act := []) : State :=
  up ([.put (Key.ringState 3) st, .put (Key.localConsent 3) 1, Act.setF .live 0xF0A0 3 F.ringPorts (2 ^ 3 + 2 ^ 16),
    Act.setF .live 0xF0A0 3 F.ringLocalId 1, Act.setF .live 0xF0A1 201 F.memberValid 1, Act.setF .live 0xF0A1 201 F.memberPort 3,
    Act.setF .live 0xF0A1 201 F.memberReady 1] ++ more)

theorem met_RingsFollowConsent_enable :
    (((ringed 0).facing 5 .spi).admits .spi (0x9100 + (3 : Fin 32).val) 1 = true ∧ ((ringed 0).facing 5 .spi).get (Key.ringState 3) = 0
      ∧ ((ringed 0).facing 5 .spi).ringConflict 3 = false)
    ∧ ((ringed 0 [.put (Key.ringState 31) 1, Act.setF .live 0xF0A0 31 F.ringPorts (2 ^ 16)]).facing 5 .spi).ringConflict 3 = true
    ∧ ((ringed 5).facing 5 .spi).get (Key.ringState 3) = 5
    ∧ (1 ≤ ((ringed 1).facing 5 .spi).get (Key.ringState 3) ∧ ((ringed 4).facing 5 .spi).get (Key.ringState 3) ≤ 4)
    ∧ ((ringed 5).operates = true ∧ (ringed 5).get (Rg.closingEntry (3 : Fin 32).val) = 0
      ∧ (ringed 5 [.put (Rg.stepDone 3) 1, .put (Rg.stepDone 16) 1]).stepsDone (3 : Fin 32).val = true) := by
  decide +kernel

def ringBody (ready ring : Nat) : List Byte := [9, BitVec.ofNat 8 (128 * ready), BitVec.ofNat 8 ring, 7, 0, 0, 0, 0]

theorem met_RingsFollowConsent :
    (((ringed 1 [.put (Key.portState 3) 2]).after 5).isUp (3 : Port).val = true
      ∧ ((ringed 1 [.put (Key.portState 3) 2]).after 5).get (Rg.isolated (3 : Port).val) = 0
      ∧ ((ringed 1 [.put (Rg.isolated 3) 1]).after 5).get (Rg.isolated (3 : Port).val) ≠ 0)
    ∧ (((ringed 1).after 5).validMessage 3 3 9 (ringBody 1 4) = false ∧ ((ringed 1).after 5).validMessage 3 3 9 (ringBody 0 3) = true
      ∧ beAt (ringBody 0 3) 1 1 < 128)
    ∧ (((ringed 2 [.put (Rg.windowEnd 3) 5]).after 5).get (Key.ringState 3) = 2
      ∧ ((ringed 2 [.put (Rg.windowEnd 3) 5]).after 5).now ≤ ((ringed 2 [.put (Rg.windowEnd 3) 5]).after 5).get (Rg.windowEnd 3))
    ∧ (((ringed 2 [.put (Rg.windowEnd 3) 4]).after 5).get (Rg.windowEnd 3) < ((ringed 2 [.put (Rg.windowEnd 3) 4]).after 5).now)
    ∧ (((ringed 4).after 5).get (Key.ringState 3) = 4 ∧ ((ringed 4).after 5).get Key.deviceState = 0)
    ∧ ((ringed 3).after 5).get (Key.ringState 3) = 3
    ∧ ((ringed 1).facing 5 .spi).admits .spi (0x9100 + (3 : Fin 32).val) 4 = true
    ∧ ((ringed 1 [.put (Key.localConsent 3) 0]).after 5).holderCount 3 ≠ 0
    ∧ (((ringed 1 [.put (Rg.consentSince 3) 1]).after (ms 100)).holderCount 3 = 0
      ∧ ((ringed 1 [.put (Rg.consentSince 3) 1]).after (ms 100)).get (Rg.consentSince 3) ≠ 0
      ∧ ((ringed 1 [.put (Rg.consentSince 3) 1]).after (ms 100)).get (Rg.consentSince 3) - 1
          + ms (((ringed 1 [.put (Rg.consentSince 3) 1]).after (ms 100)).ring 3 F.ringPeriod) ≤ ((ringed 1 [.put (Rg.consentSince 3) 1]).after (ms 100)).now)
    ∧ (((ringed 1).after (ms 301)).member 3 (9 : Fin 64).val F.memberValid = 1
      ∧ ((ringed 1).after (ms 301)).get (Rg.memberSeen (64 * 3 + (9 : Fin 64).val))
          + ((ringed 1).after (ms 301)).ring 3 F.ringSilence * ms (((ringed 1).after (ms 301)).ring 3 F.ringPeriod) < ((ringed 1).after (ms 301)).now) := by
  decide +kernel

theorem met_RingsFollowConsent_carries :
    (((ringed 2 [.put (Key.portState 3) 2]).after 5).inRing (3 : Fin 32).val 3 = true
      ∧ ((ringed 2 [.put (Key.portState 3) 2]).after 5).carriesRing 3 = true
      ∧ ((ringed 2 [.put (Key.portState 3) 2]).after 5).get (Key.ringState 3) = 2)
    ∧ ((((ringed 2).after 5).ringPorts 3).all fun q => !((ringed 2).after 5).carriesRing q) = true := by
  decide +kernel

/-- The ports of ring 3 are 3 and 16. -/
theorem ringed_ports (st : Nat) (more : List Act) (q : Nat) (ring : (ringed st more).ringPorts 3 = [3, 16])
    (h : (ringed st more).inRing 3 q = true) : q = 3 ∨ q = 16 := by
  have m : q ∈ (ringed st more).ringPorts 3 := by
    simp [State.inRing] at h
    simp [State.ringPorts, members, h]
  simpa [ring] using m

theorem met_RingsSleepAndWake :
    (((ringed 2).after 5).get (Key.ringState 3) = 2 ∧ ((ringed 2).after 5).get (Rg.windowEnd 3) ≤ ((ringed 2).after 5).now)
    ∧ (((ringed 3).after 5).get (Key.ringState 3) = 3 ∧ ((ringed 3).after 5).inRing 3 (3 : Port).val = true
      ∧ ((ringed 3).after 5).inRing 3 16 = true ∧ ((ringed 3).after 5).get (Rg.stepDone 16) = 0)
    ∧ (∀ q, (ringed 3 [.put (Rg.stepDone 16) 1]).inRing 3 q = true → q ≠ (3 : Port).val →
        (ringed 3 [.put (Rg.stepDone 16) 1]).get (Rg.stepDone q) ≠ 0)
    ∧ (((ringed 5 [.put (Rg.closingEntry 3) 1]).after (ms 20)).get (Rg.closingEntry 3) ≠ 0
        ∧ ((ringed 3).after (ms 20)).get (Rg.windowEnd 3) + ms 20 ≤ ((ringed 3).after (ms 20)).now)
    ∧ (((ringed 1 [.put (Rg.ringWoke 3) 1]).after (ms 5000)).get (Rg.ringWoke 3) ≠ 0
      ∧ ((ringed 1 [.put (Rg.ringWoke 3) 1]).after (ms 5000)).get (Rg.ringWoke 3) - 1
          + ms (((ringed 1 [.put (Rg.ringWoke 3) 1]).after (ms 5000)).ring 3 F.ringFalseWake) ≤ ((ringed 1 [.put (Rg.ringWoke 3) 1]).after (ms 5000)).now
      ∧ ((ringed 1 [.put (Rg.ringWoke 3) 1]).after (ms 5000)).get (Key.localConsent 3) ≠ 0)
    ∧ (((ringed 1 [.put (Rg.ringWoke 3) 1]).after (ms 5000)).heardSince 3 1 = false
      ∧ ((ringed 1 [.put (Rg.ringWoke 3) 1, .put (Rg.trafficAt 16) 1]).after (ms 5000)).heardSince 3 1 = true
      ∧ ((ringed 2 [.put (Rg.ringWoke 3) 1]).after (ms 5000)).get (Key.ringState 3) = 2
      ∧ ((ringed 2 [.put (Rg.ringWoke 3) 1]).after (ms 5000)).get (Rg.ringWoke 3) - 1
          + ms (((ringed 2 [.put (Rg.ringWoke 3) 1]).after (ms 5000)).ring 3 F.ringFalseWake) ≤ ((ringed 2 [.put (Rg.ringWoke 3) 1]).after (ms 5000)).now
      ∧ ((ringed 2 [.put (Rg.ringWoke 3) 1]).after (ms 5000)).heardSince 3 1 = false
      ∧ ((ringed 2 [.put (Rg.ringWoke 3) 1]).after (ms 5000)).get (Key.localConsent 3) ≠ 0)
    ∧ (((ringed 4 [.put (Rg.lowPower 16) 1]).after 5).ringOf (16 : Port).val = some 3
        ∧ ((ringed 4 [.put (Rg.lowPower 16) 1]).after 5).kind (16 : Port).val = 2
      ∧ ((ringed 4 [.put (Rg.lowPower 16) 1]).after 5).get (Rg.lowPower (16 : Port).val) ≠ 0
      ∧ ((ringed 4).after 5).get Key.deviceState = 0 ∧ ((ringed 4).after 5).get (Rg.isolated (16 : Port).val) = 0
      ∧ ((ringed 4 [.put (Rg.isolated 16) 1]).after 5).get (Rg.isolated (16 : Port).val) ≠ 0
      ∧ ((up []).after 5).ringOf (16 : Port).val = none ∧ ((up []).after 5).kind (16 : Port).val = 2
      ∧ ((up []).after 5).get (Rg.isolated (16 : Port).val) = 0) := by
  refine ⟨by decide +kernel, by decide +kernel, fun q h ne => ?_, by decide +kernel, by decide +kernel, by decide +kernel,
    by decide +kernel⟩
  rcases ringed_ports _ _ q (by decide +kernel) h with rfl | rfl
  · exact absurd rfl ne
  · decide +kernel

/-! ### Wake inputs and sleep -/

/-- Input 15, enabled, with more acts done, and its last wakes. -/
def input15 (more : List Act := []) : State := up ([Act.setF .live 0xF0A3 15 F.wakeEnable 1] ++ more)
def chatters : List Act := (List.range 16).map fun n => .put (Rg.inputWake 15 n) 1

/-- Input 15 is Active and serves ring 3, on whose port 3 there is an older frame; then one whose arrival has begun since. -/
def stuck (more : List Act := []) : State :=
  (ringed 1 ([Act.setF .live 0xF0A3 15 F.wakeEnable 1, Act.setF .live 0xF0A3 15 F.wakeActive 1, Act.setF .live 0xF0A3 15 F.wakeRings 8,
    .put (Rg.inputOn 15) 6, .put (Rg.trafficAt 3) 5, .put (Rg.arrivalAt 16) 4] ++ more)).after (ms 10001)

theorem met_TheDeviceSleepsAndWakes_inputs :
    (((up []).after 5).wakeIn (15 : Fin 16).val F.wakeEnable ≠ 1
      ∧ ((input15 [.put Rg.porstLow 1]).after 5).get Rg.porstLow ≠ 0 ∧ (input15.after 5).get Rg.porstLow = 0)
    ∧ (stuck.wakeIn (15 : Fin 16).val F.wakeEnable = 1 ∧ stuck.wakeIn 15 F.wakeActive = 1 ∧ stuck.wakeIn 15 F.wakeMasked = 0
      ∧ stuck.get (Rg.inputOn 15) - 1 + ms 10000 ≤ stuck.now)
    ∧ (∀ r q, (stuck.wakeIn 15 F.wakeRings).testBit r = true → stuck.inRing r q = true →
        stuck.get (Rg.trafficAt q) < stuck.get (Rg.inputOn 15) ∧ stuck.get (Rg.arrivalAt q) < stuck.get (Rg.inputOn 15)
        ∧ ∀ f ∈ stuck.frames, f.port = q → f.second = false → f.decided = none → f.arrived + 1 < stuck.get (Rg.inputOn 15)
            ∨ stuck.isRingMessage q f f.parse = true)
    ∧ (3 < 32 ∧ ((stuck [.put (Rg.arrivalAt 16) 7]).wakeIn 15 F.wakeRings).testBit 3 = true
      ∧ (stuck [.put (Rg.arrivalAt 16) 7]).arrivedSince 3 ((stuck [.put (Rg.arrivalAt 16) 7]).get (Rg.inputOn 15)) = true) := by
  refine ⟨by decide +kernel, by decide +kernel, fun r q bit ring => ?_, by decide +kernel⟩
  have eight : stuck.wakeIn 15 F.wakeRings = 2 ^ 3 := by decide +kernel
  rw [eight, Nat.testBit_two_pow, decide_eq_true_eq] at bit
  subst bit
  have m : q ∈ stuck.ringPorts 3 := by
    simp [State.inRing] at ring
    simp [State.ringPorts, members, ring]
  have ports : stuck.ringPorts 3 = [3, 16] := by decide +kernel
  have none : stuck.frames = [] := by decide +kernel
  rw [ports] at m
  rcases (by simpa using m : q = 3 ∨ q = 16) with rfl | rfl
  · exact ⟨by decide +kernel, by decide +kernel, by simp [none]⟩
  · exact ⟨by decide +kernel, by decide +kernel, by simp [none]⟩

/-- An image whose safety segment is "abc", and the digest of it that FIPS 180-4 gives. -/
def image1 : Saved :=
  ⟨[(Rg.segmentDigest, 0xba7816bf8f01cfea414140de5dae2223b00361a396177a9cb410ff61f20015ad)], [], [], [], [0x61, 0x62, 0x63]⟩

/-- Waking with an image. -/
def asleep1 : State := { up [.put Key.deviceState 3] with saved := some image1 }

def wakeEnv : StartEnv := ⟨true, 0, true, true, [], 0, 0, 0, 0, true, true, 0⟩

theorem met_TheDeviceSleepsAndWakes :
    ((input15.after 5).wakeIn (15 : Fin 16).val F.wakeEnable = 1 ∧ (input15.after 5).wakeIn 15 F.wakeActive = 0
      ∧ (input15.after 5).wakeIn 15 F.wakeMasked = 0 ∧ (input15.after 5).recentWakes 15 < 16
      ∧ 16 ≤ ((input15 chatters).after 5).recentWakes 15)
    ∧ (((input15 [Act.setF .live 0xF0A3 15 F.wakeActive 1]).after (ms 10000)).wakeIn 15 F.wakeActive = 1
      ∧ ((input15 [Act.setF .live 0xF0A3 15 F.wakeActive 1]).after (ms 10000)).get (Rg.inputOn 15) - 1 + ms 10000
        ≤ ((input15 [Act.setF .live 0xF0A3 15 F.wakeActive 1]).after (ms 10000)).now
      ∧ ((input15 [Act.setF .live 0xF0A3 15 F.wakeActive 1]).after (ms 10000)).wakeIn 15 F.wakeRings = 0)
    ∧ (((input15 [Act.setF .live 0xF0A3 15 F.wakeMasked 1]).after (ms 100)).wakeIn 15 F.wakeMasked = 1
      ∧ ((input15 [Act.setF .live 0xF0A3 15 F.wakeMasked 1]).after (ms 100)).get (Rg.inputOff 15) - 1 + ms 100
        ≤ ((input15 [Act.setF .live 0xF0A3 15 F.wakeMasked 1]).after (ms 100)).now)
    ∧ (((ringed 4 [.put Key.deviceSleepEnable 1]).after 5).maySleep = true ∧ (ringed 4 [.put Key.recordSealState 2]).get Key.commitState ≤ 1
      ∧ (ringed 4 [.put Key.recordSealState 2]).get Key.recordSealState = 2)
    ∧ (((up [.put Key.deviceState 1, .put Rg.sleepFlushed 1]).after 5).readyToSleep = true
      ∧ (up [.put Key.retentionEnable 0]).get Key.retentionEnable = 0 ∧ (up [.put Key.retentionEnable 1]).get Key.retentionEnable ≠ 0)
    ∧ (((up [.put Key.deviceState 1, .put Rg.sleepFrom 1]).after (ms 60000)).get Rg.sleepFrom ≠ 0
      ∧ ((up [.put Key.deviceState 1, .put Rg.sleepFrom 1]).after (ms 60000)).get Rg.sleepFrom - 1
          + ms (((up [.put Key.deviceState 1, .put Rg.sleepFrom 1]).after (ms 60000)).get Key.sleepEntryTimeout)
        ≤ ((up [.put Key.deviceState 1, .put Rg.sleepFrom 1]).after (ms 60000)).now)
    ∧ (asleep1.get Key.deviceState = 3 ∧ asleep1.saved = some image1 ∧ wakeEnv.segmentOk = true
      ∧ beNat (sha256 image1.segment) = Store.get regDefault image1.regs Rg.segmentDigest)
    ∧ ((up [.put Key.deviceState 3]).get Key.deviceState = 3 ∧ (up [.put Key.deviceState 3]).saved = none
      ∧ (up [.put Key.deviceState 3, .put Rg.sleepKind 3]).get Rg.sleepKind = 3
      ∧ beNat (sha256 []) ≠ Store.get regDefault image1.regs Rg.segmentDigest) := by
  decide +kernel

/-! ### Self-tests -/

/-- A row of SelfTestBlocks in a state, with more acts done. -/
def tests (r st : Nat) (more : List Act := []) : State := up ([Act.setF .live 0xF0B1 r F.stbState st] ++ more)

theorem met_SelfTestsRun :
    (((tests 65 1).facing 5 .safety).admits .safety 0xB000 1 = true ∧ ((tests 65 1).facing 5 .safety).test 65 F.stbState = 1)
    ∧ ((tests 65 2).facing 5 .safety).test 65 F.stbState = 2
    ∧ (match ((tests 3 0 [.put (Key.portState 3) 4]).facing 5 .safety).testCase 3 with
        | .refuse _ => true
        | _ => false) = true
    ∧ (match ((tests 3 0 [.put Key.xtalStatus 2]).facing 5 .safety).testCase 3 with
        | .notStarted => true
        | _ => false) = true
    ∧ ((match ((tests 3 0).facing 5 .safety).testCase 3 with
        | .start => true
        | _ => false) = true
      ∧ ((tests 3 0).facing 5 .safety).test 3 F.stbState = 0
      ∧ ((tests 3 0).facing 5 .safety).sending (((tests 3 0).facing 5 .safety).holderOf 3) = none)
    ∧ (((tests 65 1).facing 5 .safety).admits .safety 0xB000 2 = true ∧ ((tests 65 1).facing 5 .safety).test 65 F.stbPending = 0
      ∧ ((tests 65 1).facing 5 .safety).get Rg.periodicFrom = 0)
    ∧ (((tests 65 2).facing 5 .safety).admits .safety 0xB000 2 = true ∧ ((tests 65 2).facing 5 .safety).test 65 F.stbState = 2)
    ∧ (((tests 65 0).facing 5 .safety).admits .safety 0xB000 2 = true ∧ ((tests 65 0).facing 5 .safety).test 65 F.stbState = 0)
    ∧ ((tests 127 1).operates = true ∧ (tests 127 1).test (127 : Fin 128).val F.stbState = 1)
    ∧ (((tests 3 2 [.put (Rg.testPort 3) 256]).after 5).test (3 : Fin 128).val F.stbState = 2
      ∧ ((tests 3 2 [.put (Rg.testPort 3) 256]).after 5).test (3 : Fin 128).val F.stbPending = 0
      ∧ ((tests 3 2 [.put (Rg.testPort 3) 256]).after 5).get Rg.periodicFrom = 0
      ∧ ((tests 3 2 [.put (Rg.testPort 3) 256]).after 5).get (Rg.testPort (3 : Fin 128).val) ≤ 256)
    ∧ (((tests 3 2 [.put (Rg.testPort 3) 4, .put (Key.portState 3) 2, .put Rg.testLast 4]).after 5).portState
        (((tests 3 2 [.put (Rg.testPort 3) 4, .put (Key.portState 3) 2, .put Rg.testLast 4]).after 5).get (Rg.testPort (3 : Fin 128).val) - 1) = 2
      ∧ ((tests 3 2 [.put (Rg.testPort 3) 4, .put (Key.portState 3) 2, .put Rg.testLast 4]).after 5).get Rg.testLast = (3 : Fin 128).val + 1)
    ∧ (((tests 65 1 [.put (Rg.testedBy 3) 66, .put (Key.portState 3) 2]).after 5).get (Rg.testedBy (3 : Port).val) - 1 < 66
      ∧ ((tests 65 1 [.put (Rg.testedBy 3) 66, .put (Key.portState 3) 2]).after 5).portState (3 : Port).val = 2
      ∧ ((tests 65 1 [.put (Rg.testedBy 3) 66, .put (Key.portState 3) 2]).after 5).get (Rg.testThreshold 65)
        ≤ ((List.range 8).map fun tc => ((tests 65 1 [.put (Rg.testedBy 3) 66, .put (Key.portState 3) 2]).after 5).depthCells (3 : Port).val tc).sum)
    ∧ 100 < (refclkPpm 0).natAbs
    ∧ (((up []).after 5).test 65 F.stbState = 0 ∧ ((tests 65 1).after 5).test 65 F.stbState ≠ 0
      ∧ (-40000 : Int) ≤ -40000 ∧ (135000 : Int) ≤ 135000) := by
  decide +kernel


/-! ### Functional safety -/

/-- Two mismatches in the second before. -/
def shaken (more : List Act := []) : State := up ([.put (Rg.mismatchAt 0) 1, .put (Rg.mismatchAt 1) 1, .put Rg.injectionOk 1] ++ more)

/-- Fail-safe at this instant, with an interval of the watchdog over. -/
def barking : State :=
  (up [.put Key.safetyState 4, .put Rg.watchdogAt 1, .put (Rg.mismatchAt 0) (((up []).after (ms 101)).now + 1)]).after (ms 101)

theorem met_TheSafetyPartitionReacts :
    ((up [.put Key.safetyState 2]).after 5).get Key.safetyState = 2 ∧ ((up [.put Key.safetyState 4]).after 5).get Key.safetyState = 4
    ∧ ((up []).operates = true ∧ ((up []).after 5).get Key.safetyState = 1 ∧ ((up []).after 5).mismatchesNear < 2)
    ∧ ((0x20#8 : BitVec 8) = 0x20#8 ∧ (0x30#8 : BitVec 8) ≠ 0x20#8)
    ∧ 2 ≤ (shaken.after (ms 1000)).mismatchesNear ∧ (shaken.after (ms 1001)).mismatchesNear < 2
    ∧ ((up [.put Key.deviceState 1, .put Key.commitState 2]).get Rg.sleepFrom = 0
      ∧ (up [.put Key.deviceState 1, .put Key.commitState 2]).get Key.commitState = 2)
    ∧ (up [.put Key.safetyState 2]).get Key.safetyState = 2
    ∧ ((up [.put Key.safetyState 3]).get Key.safetyState = 3 ∧ (up [.put Key.safetyState 3]).get Key.faultLogCount < 32
      ∧ (up [.put Key.safetyState 3]).get Key.deviceState = 0)
    ∧ (((0 : BitVec 256).toNat = (up [.put Key.safetyState 3]).get Rg.segmentDigest)
      ∧ (1 : BitVec 256).toNat ≠ (up [.put Key.safetyState 3]).get Rg.segmentDigest)
    ∧ ((up []).facing 5 .safety).admits .safety 0xA000 14 = true
    ∧ ((shaken.facing 5 .safety).admits .safety 0xA000 13 = true ∧ (shaken.facing 5 .safety).get Rg.injectionOk ≠ 0)
    ∧ ((up []).facing 5 .safety).get Rg.injectionOk = 0
    ∧ ((up []).facing 5 .safety).admits .safety 0xA000 15 = true
    ∧ (((up [.put Rg.watchdogAt 1]).after (ms 101)).get Rg.watchdogAt ≠ 0
      ∧ ((up [.put Rg.watchdogAt 1]).after (ms 101)).get Key.safetyState = 1
      ∧ ((up [.put Rg.watchdogAt 1]).after (ms 101)).get Rg.watchdogAt - 1
          + ms (((up [.put Rg.watchdogAt 1]).after (ms 101)).get Key.watchdogPeriod) < ((up [.put Rg.watchdogAt 1]).after (ms 101)).now)
    ∧ (((up [.put Key.safetyState 3]).after 5).get Key.safetyState = 3
      ∧ ((up [.put Key.safetyState 3]).after 5).get (Rg.mismatchAt 0) ≠ ((up [.put Key.safetyState 3]).after 5).now + 1)
    ∧ (barking.get Key.safetyState = 4 ∧ barking.get (Rg.mismatchAt 0) = barking.now + 1 ∧ barking.get Rg.watchdogAt ≠ 0
      ∧ barking.get Rg.watchdogAt - 1 + ms (barking.get Key.watchdogPeriod) < barking.now ∧ barking.get Key.faultLogCount < 32) := by
  decide +kernel

/-- Pipeline 2 is fenced and P4 checks its take-over. -/
def fencing : State := up [.put (Key.pipelineState 4) 4, .put Rg.fenced 3, .put (Key.pipelineState 2) 2]

/-- Slot 7 of pipeline 2 holds the decision of a frame, without and with a copy on the wire. -/
def inFlight (more : List Act := []) : State :=
  up ([.setFrames [arrives], .put (Rg.slotUntil 2 7) 100, .put (Rg.slotFrame 2 7) 1] ++ more)

theorem met_TheSafetyPartitionReacts_reports :
    (((up []).after 5).get Key.faultLogCount < 32 ∧ ((up [.put Key.safetyState 4]).after 5).get Key.safetyState = 4)
    ∧ ((inFlight.after 5).frame? 0 = some arrives ∧ (∀ c ∈ (inFlight.after 5).copies, c.frame = 0 → c.begun = false)
      ∧ arrives.complete = true ∧ ({ arrives with complete := false } : Frame).complete = false)
    ∧ (∃ c ∈ ((inFlight [.setCopies [{ anyCopy with frame := 0, phase := .wire }]]).after 5).copies, c.frame = 0 ∧ c.begun = true)
    ∧ ((tableOf (0xF052 : BitVec 16).toNat).map fun tab => (tab.staged, decide ((1 : BitVec 24).toNat < tab.rows))) = some (false, true)
    ∧ ((tableOf (0xF040 : BitVec 16).toNat).map fun tab => tab.staged) = some true
    ∧ (((up []).after 5).sending (3 : Port).val = none
      ∧ (((inFlight [.setCopies [{ anyCopy with frame := 0, phase := .wire }]]).after 5).sending anyCopy.port).isSome = true) := by
  decide +kernel

theorem met_PipelinesFailOver_slots :
    (∀ i < 64, ¬ (((up []).after 5).now < ((up []).after 5).get (Rg.slotUntil 2 i) ∧ ((up []).after 5).get (Rg.slotFrame 2 i) ≠ 0))
    ∧ ((7 < 64 ∧ (inFlight.after 5).now < (inFlight.after 5).get (Rg.slotUntil 2 7) ∧ (inFlight.after 5).get (Rg.slotFrame 2 7) ≠ 0)
      ∧ (∀ j < 64, j ≠ 7 →
          ¬ ((inFlight.after 5).now < (inFlight.after 5).get (Rg.slotUntil 2 j) ∧ (inFlight.after 5).get (Rg.slotFrame 2 j) ≠ 0))
      ∧ (inFlight.after 5).frame? ((inFlight.after 5).get (Rg.slotFrame 2 7) - 1) = some arrives
      ∧ (∀ c ∈ (inFlight.after 5).copies, c.frame = arrives.id → c.begun = false) ∧ arrives.complete = true
      ∧ (inFlight.after 5).get (Key.pipelineState 2) ≠ 2 ∧ (inFlight.after 5).get Rg.pipeTested = 0)
    ∧ (∃ c ∈ ((inFlight [.setCopies [{ anyCopy with frame := 0, phase := .wire }]]).after 5).copies, c.frame = arrives.id ∧ c.begun = true) := by
  decide +kernel

/-- A periodic run performs the test of pipeline 1, and pipeline 2 or P4 is next. -/
def turning (next : Nat) : State :=
  up [.put Rg.periodicFrom 1, .put Rg.pipeTested 2, .put Rg.pipeTurn next, .put (Key.pipelineState 1) 3, .put (Key.pipelineState 4) 1]

theorem met_PipelinesFailOver_turns :
    ((turning 3).operates = true ∧ ((turning 3).after 5).get Rg.pipeTested = (1 : Fin 5).val + 1 ∧ (1 : Fin 5).val < (2 : Fin 5).val
      ∧ ((turning 3).after 5).get Rg.periodicFrom ≠ 0 ∧ ((turning 3).after 5).get Rg.pipeTurn = (2 : Fin 5).val + 1
      ∧ ((2 : Fin 5).val < 4 → ((turning 3).after 5).get (Key.pipelineState (2 : Fin 5).val) = 1))
    ∧ (((turning 5).after 5).get Rg.pipeTurn = (4 : Fin 5).val + 1 ∧ (1 : Fin 5).val < (4 : Fin 5).val
      ∧ ((4 : Fin 5).val < 4 → ((turning 5).after 5).get (Key.pipelineState (4 : Fin 5).val) = 1))
    ∧ (up [.put Rg.pipeTested 5]).get Rg.periodicFrom = 0
    ∧ ((fencing.after 5).get (Key.pipelineState 2) = 2 ∧ (fencing.after 5).get Key.faultLogCount < 32) := by
  decide +kernel

theorem met_PipelinesFailOver :
    (((up []).after 5).get (Key.pipelineState (2 : Fin 5).val) ≠ 2 ∧ ((up []).after 5).get Rg.pipeTested = 0
      ∧ ((up []).after 5).get (Key.pipelineState 4) = 0 ∧ (fencing.after 5).get (Key.pipelineState 4) ≠ 0)
    ∧ ((fencing.after 5).get (Key.pipelineState 4) = 4 ∧ (fencing.after 5).get Rg.fenced = (2 : Fin 4).val + 1)
    ∧ ((fencing.facing 5 .safety).admits .safety 0xA010 12 = true ∧ (fencing.facing 5 .safety).get (Key.pipelineState 4) ≠ 0)
    ∧ (((up []).facing 5 .safety).admits .safety 0xA010 12 = true ∧ ((up []).facing 5 .safety).get (Key.pipelineState 4) = 0
      ∧ ((up []).facing 5 .safety).get (Key.pipelineState (3 : Fin 5).val) = 1)
    ∧ ((up [.put Rg.pipeTested 5]).operates = true ∧ (up [.put Rg.pipeTested 5]).get Rg.pipeTested = (4 : Fin 5).val + 1)
    ∧ (up [.put Rg.pipeTested 1]).get Rg.pipeTested = (0 : Fin 5).val + 1 := by
  decide +kernel

/-- A periodic run that began at the start, with the test of block 65 running. -/
def periodic : State :=
  up [.put Rg.periodicFrom 1, Act.setF .live 0xF0B1 65 F.stbState 1, Act.setF .live 0xF0B1 65 F.stbPeriodic 1]

def overdueAge : Nat := 28800 * ms 1000

theorem met_IsolationViolationsAreLogged :
    (up [.put Key.faultLogCount 31]).operates = true ∧ (up [.put Key.faultLogCount 31]).get Key.faultLogCount < 32 := by decide +kernel

/-- Session 5 of client 9 is open. -/
def clientOpen : State := up [Act.setF .live 0xF003 5 F.rsessState 3, Act.setF .live 0xF003 5 F.rsessClient 9]

/-- The end of a run whose tests all passed, and one with a pipeline still to be tested. -/
def ended (more : List Act := []) : State :=
  up ([.put Rg.periodicFrom 1, .put (Rg.periodicRow 65) 2, .put Rg.latentSince 1] ++ more)

theorem met_LatentFaultsAreFound_rows :
    ((tableOf 0xF002).map (fun t => (t.staged, decide (9 < t.rows))) = some (false, true)
      ∧ (clientOpen.after 5).session 5 F.rsessState ≠ 0 ∧ (clientOpen.after 5).session 5 F.rsessClient = (9 : BitVec 24).toNat)
    ∧ ((tableOf 0xF003).map (fun t => (t.staged, decide (5 < t.rows))) = some (false, true)
      ∧ (clientOpen.after 5).session (5 : BitVec 24).toNat F.rsessState ≠ 0)
    ∧ (0xF0B1 ∉ [0xF002, 0xF003, 0xF098]) := by
  decide +kernel

theorem met_LatentFaultsAreFound_runs :
    ((ended.after 5).get Rg.periodicFrom ≠ 0 ∧ (ended.after 5).get Rg.pipeTurn = 0 ∧ (ended.after 5).get Rg.pipeOwn = 0
      ∧ (ended.after 5).get Rg.pipeBad = 0
      ∧ ∀ r < 66, (ended.after 5).get (Rg.periodicRow r) = 0 ∨ (ended.after 5).get (Rg.periodicRow r) = 2)
    ∧ ((ended [.put Rg.pipeTurn 3]).after 5).get Rg.pipeTurn ≠ 0
    ∧ (((up []).facing 5 .safety).test 3 F.stbPeriodic ≠ 1
      ∧ ((up [Act.setF .live 0xF0B1 3 F.stbPeriodic 1]).facing 5 .safety).test 3 F.stbPeriodic = 1
      ∧ ((up []).facing 5 .safety).get Rg.pipeTested = 0 ∧ ((up []).facing 5 .safety).get (Key.pipelineState 4) = 0
      ∧ ((up []).facing 5 .safety).get (Key.pipelineState 0) = 1)
    ∧ (((ended [.put (Rg.periodicRow 3) 1, .put (Rg.periodicRow 65) 3,
        Act.setF .live 0xF0B1 65 F.stbState 1]).after (ms 20)).get (Rg.periodicRow 3) = 1
      ∧ ((ended [.put (Rg.periodicRow 3) 1, .put (Rg.periodicRow 65) 3,
          Act.setF .live 0xF0B1 65 F.stbState 1]).after (ms 20)).get (Rg.periodicRow 65) = 3
      ∧ ((ended [.put (Rg.periodicRow 3) 1, .put (Rg.periodicRow 65) 3,
          Act.setF .live 0xF0B1 65 F.stbState 1]).after (ms 20)).test 65 F.stbState = 1) := by
  decide +kernel

theorem met_LatentFaultsAreFound :
    (up []).operates = true
    ∧ ((tableOf 0xF010).map (fun t => (t.staged, t.rows)) = some (true, 3072) ∧ ((up []).after 5).get Key.commitState = 0)
    ∧ (tableOf 0xF0B1).map (fun t => (t.staged, decide (127 < t.rows))) = some (false, true)
    ∧ (tableOf 0xF098).map (fun t => (t.staged, decide (1023 < t.rows))) = some (false, true)
    ∧ (up [.put Key.faultLogCount 31]).get Key.faultLogCount < 32
    ∧ 32 ≤ (up [.put Key.faultLogCount 32]).get Key.faultLogCount
    ∧ (28800 ≤ ((up []).after overdueAge).latentAge ∧ (up []).get Rg.overdueTold = 0)
    ∧ ((up []).facing 5 .safety).admits .safety 0xA000 17 = true
    ∧ ((periodic.after (ms 20)).get Rg.periodicFrom ≠ 0
      ∧ (periodic.after (ms 20)).get Rg.periodicFrom - 1 + ms 20 ≤ (periodic.after (ms 20)).now)
    ∧ ((periodic.after (ms 20)).test 65 F.stbState = 1 ∧ (periodic.after (ms 20)).test 65 F.stbPeriodic = 1) := by
  decide +kernel

/-! ### Updates -/

/-- An update session for firmware slot B in a state, owned by the application cluster, with more acts done. -/
def updating (st : Nat) (more : List Act := []) : State :=
  up ([.put Key.updateState st, .put Key.updateOwner 2, .put Rg.updateKind 1, .put Rg.updateSlot 1] ++ more)

def row0 : List Byte := List.replicate 256 0#8

/-- A firmware image without payload, signed over P-256 with the private scalar 1 and the nonce 1. -/
def signedHeader : List Byte :=
  (beBytes 32 0x53525049010100010000000100000000e3b0c44298fc1c149afbf4c8996fb924
    ++ beBytes 32 0x27ae41e4649b934ca495991b7852b85500000000010000006b17d1f2e12c4247
    ++ beBytes 32 0xf8bce6e563a440f277037d812deb33a0f4a13945d898c2964fe342e2fe1a7f9b
    ++ beBytes 32 0x8ee7eb4a7c0f9e162bce33576b315ececbb6406837bf51f50000000000000000
    ++ beBytes 32 0x0000000000000000000000000000000000000000000000006b17d1f2e12c4247
    ++ beBytes 32 0xf8bce6e563a440f277037d812deb33a0f4a13945d898c29666165b7d507f2cd7
    ++ beBytes 32 0x38383d34962636f3acd18bbea3568a7c6cbb5949b8c3c465ffffffffffffffff
    ++ beBytes 32 0xffffffffffffffffffffffffffffffffffffffffffffffffffffffffffffffff)

/-- A device with the digest of that image's key in row 0 of ImageKeys, and the image in firmware slot B. -/
def withImage : State :=
  { State.reset with
    regs := [(Key.rollbackCounter, 1), (Key.updateState, 3), (Rg.updateKind, 1), (Rg.updateSlot, 1)]
    live := (beBytes 32 0xd875db7def232236aec738c6b0bb3e80142f5d0fd8f4df24fed6eef5cbb50d9f ++ [1#8]).mapIdx fun i b => (cellKey 0xF0C1 0 i, b)
    flash := (signedHeader.mapIdx fun i b => (slotBase 1 1 + i, b)).filter fun c => c.2 != 0xFF#8 }

/-- The image in slot B has no fault. -/
theorem image_valid : (withImage.after 5).imageFault ((withImage.after 5).get Rg.updateKind) ((withImage.after 5).get Rg.updateSlot) = none := by
  decide +kernel

theorem met_UpdatesRun_rows :
    (((up []).facing 5 .spi).serves .spi = true ∧ ((up []).facing 5 .spi).foreignRow .spi 0xF0C0 (32767 : BitVec 24).toNat = false
      ∧ ((up []).facing 5 .spi).get (Rg.updateWritten (32767 : BitVec 24).toNat) = 0)
    ∧ (((updating 2 [.put Rg.updateTaken 1, .put (Rg.updateRow 0) 9]).facing 5 .application).get Rg.updateDone
        < ((updating 2 [.put Rg.updateTaken 1, .put (Rg.updateRow 0) 9]).facing 5 .application).get Rg.updateTaken
      ∧ 0 < ((updating 2 [.put Rg.updateTaken 1, .put (Rg.updateRow 0) 9]).facing 5 .application).get
          (Rg.updateRow (((updating 2 [.put Rg.updateTaken 1, .put (Rg.updateRow 0) 9]).facing 5 .application).get Rg.updateDone))) := by
  decide +kernel

/-- The header in slot B holds SecurityVersion 1, and slot A holds no image. -/
theorem met_UpdateConfirmEndsTheTrials :
    (((up [.put Key.firmwareSlotActive 1, .put Key.odSlotActive 0]).facing 5 .safety).admits .safety 0xC000 9 = true
      ∧ ((up [.put Key.firmwareSlotActive 1, .put Key.odSlotActive 0]).facing 5 .safety).activeSlot 1 < 2
      ∧ ((up [.put Key.firmwareSlotActive 1, .put Key.odSlotActive 0]).facing 5 .safety).activeSlot 2 < 2)
    ∧ (withImage.securityVersion 1 1 = 1 ∧ (withImage.after 5).imageFault 1 0 ≠ none) := by
  decide +kernel

theorem met_UpdatesRun :
    (((updating 0).facing 5 .application).admits .application 0xC100 1 = true ∧ ((updating 0).facing 5 .application).recovering = false
      ∧ ((updating 0).facing 5 .application).updateOpen = false ∧ ((updating 0).facing 5 .application).get Key.safetyState = 1
      ∧ ((updating 0).facing 5 .application).get (Rg.trial 0) = 0
      ∧ ((updating 0 [.put Key.firmwareSlotActive 1]).facing 5 .application).activeSlot 1 ≤ 1
      ∧ ((updating 0 [.put (Rg.trial 1) 1]).facing 5 .application).get (Rg.trial 1) ≠ 0)
    ∧ (((updating 5).facing 5 .pcie).admits .pcie 0xC100 1 = true ∧ ((updating 5).facing 5 .pcie).updateOpen = true)
    ∧ (updating 1).get Key.updateState = 1
    ∧ (((updating 2).facing 5 .application).admitsRow .application 0xF0C0 32767 0 256 = true ∧ row0.length = 256
      ∧ ((updating 2).facing 5 .application).ownsUpdate .application = true
      ∧ ((updating 2).facing 5 .application).get (Rg.updateWritten 32767) = 0
      ∧ ((updating 2 [.put Rg.updateTaken 255]).facing 5 .application).get Rg.updateTaken
          - ((updating 2 [.put Rg.updateTaken 255]).facing 5 .application).get Rg.updateDone < 256
      ∧ 256 ≤ ((updating 2 [.put Rg.updateTaken 256]).facing 5 .application).get Rg.updateTaken
          - ((updating 2 [.put Rg.updateTaken 256]).facing 5 .application).get Rg.updateDone
      ∧ ((updating 2 [.put (Rg.updateWritten 0) 1]).facing 5 .application).get (Rg.updateWritten 0) ≠ 0)
    ∧ (((updating 2).facing 5 .pcie).admitsRow .pcie 0xF0C0 0 0 256 = true ∧ ((updating 2).facing 5 .pcie).ownsUpdate .pcie = false)
    ∧ (((updating 3 [.put Rg.updateTaken 1]).after 5).get Key.updateState = 3
      ∧ ((updating 3 [.put Rg.updateTaken 1]).after 5).get Rg.updateDone < ((updating 3 [.put Rg.updateTaken 1]).after 5).get Rg.updateTaken
      ∧ ((updating 3).after 5).get Rg.updateAborting = 0)
    ∧ (((updating 2).facing 5 .application).admits .application 0xC100 3 = true
      ∧ ((updating 4).facing 5 .application).admits .application 0xC100 4 = true ∧ ((updating 4).facing 5 .application).get Key.updateState = 4
      ∧ ((updating 2).facing 5 .application).get Key.updateState ≠ 4
      ∧ ((updating 3).facing 5 .application).admits .application 0xC100 5 = true ∧ ((updating 3).facing 5 .application).updateOpen = true
      ∧ ((updating 6).facing 5 .application).admits .application 0xC100 5 = true ∧ ((updating 6).facing 5 .application).updateOpen = false
      ∧ ((updating 4 [.put Rg.updateKind 2]).facing 5 .application).get Rg.updateKind ≠ 1)
    ∧ (((up [.put Key.firmwareSlotActive 1, .put Key.odSlotActive 0]).facing 5 .safety).admits .safety 0xC000 9 = true
      ∧ ((up [.put Key.firmwareSlotActive 1, .put Key.odSlotActive 0]).facing 5 .safety).activeSlot 1 < 2
      ∧ ((up [.put Key.firmwareSlotActive 1, .put Key.odSlotActive 0]).facing 5 .safety).activeSlot 2 < 2)
    ∧ (withImage.operates = true ∧ (withImage.after 5).get Key.updateState = 3
      ∧ (withImage.after 5).get Rg.updateDone = (withImage.after 5).get Rg.updateTaken ∧ (withImage.after 5).get Rg.updateAborting = 0)
    ∧ (((updating 3).after 5).get Key.updateState = 3 ∧ ((updating 3).after 5).imageFault 1 1 = some 1) := by
  decide +kernel

/-! ### Starts, resets and pins -/

/-- Both rows of ImageKeys, in two states. -/
def keyRows (a b : BitVec 8) : State :=
  { up [] with live := (leBytes 32 5 ++ [a]).mapIdx (fun i x => (cellKey 0xF0C1 0 i,
      x)) ++ (leBytes 32 7 ++ [b]).mapIdx fun i x => (cellKey 0xF0C1 1 i, x) }

def newKey (st : BitVec 8) : List Byte := List.replicate 32 9#8 ++ [st]

/-- Before a cold start, with the slow clock running. -/
def starting : State := build [.put Key.startupState 1, .put Key.xtalStatus 0]

theorem met_ResetsAndColdStarts :
    (((up []).facing 5 .safety).admits .safety 0xC000 11 = true ∧ ((up []).facing 5 .safety).get Rg.bootUntil ≤ ((up []).facing 5 .safety).now
      ∧ ((up [.put Rg.bootUntil 6]).facing 5 .safety).now < ((up [.put Rg.bootUntil 6]).facing 5 .safety).get Rg.bootUntil)
    ∧ sparedReg Key.failSafeCause = true ∧ sparedReg (Key.portState 0) = false
    ∧ ((up []).facing 5 .safety).admits .safety 0xC000 10 = true
    ∧ ((up []).facing 5 .safety).admits .safety 0xC000 12 = true
    ∧ ((keyRows 0 1).facing 5 .safety).admitsRow .safety 0xF0C1 (0 : Fin 2).val 0 (newKey 1).length = true ∧ 33 ≤ (newKey 1).length
    ∧ (((keyRows 0 1).facing 5 .safety).fld .live 0xF0C1 (0 : Fin 2).val F.ikeyState = 0 ∧ beAt (newKey 1) 32 1 = 1)
    ∧ (((keyRows 1 1).facing 5 .safety).fld .live 0xF0C1 (1 : Fin 2).val F.ikeyState = 1 ∧ beAt (newKey 2) 32 1 = 2
      ∧ ((keyRows 1 1).facing 5 .safety).fld .live 0xF0C1 (1 - (1 : Fin 2).val) F.ikeyState = 1)
    ∧ (((keyRows 2 1).facing 5 .safety).fld .live 0xF0C1 (1 : Fin 2).val F.ikeyState = 1
      ∧ ((keyRows 2 1).facing 5 .safety).fld .live 0xF0C1 (1 - (1 : Fin 2).val) F.ikeyState ≠ 1)
    ∧ (starting.get Key.deviceState = 0 ∧ starting.get Key.startupState = 1 ∧ starting.get Key.xtalStatus ≠ 1 ∧ starting.get Key.safetyState ≠ 4)
    ∧ (build [.put Key.startupState 1, .put Key.xtalStatus 1]).get Key.xtalStatus = 1
    ∧ (((rooted []).facing 5 .safety).slotState 0 = 1 ∧ ((up []).facing 5 .safety).slotState 0 ≠ 1)
    ∧ (wakeEnv.injectionOk = true ∧ wakeEnv.mbistFailed = [] ∧ (starting.after 5).get (Rg.preferred 0) ≤ 1
      ∧ (starting.after 5).imageFault 1 0 ≠ none ∧ (starting.after 5).imageFault 1 1 ≠ none)
    ∧ { wakeEnv with mbistFailed := [(3 : Fin 7)] }.mbistFailed ≠ []
    ∧ { wakeEnv with injectionOk := false }.injectionOk = false := by
  decide +kernel

/-- Pin 0 carries the pulse. -/
def pulsing (more : List Act := []) : State := up ([.put Key.gpioDirection 1, .put Key.ppsOutput 1, .put Key.ppsWidth 1000] ++ more)

theorem met_PinsAndClocksAct :
    ((up [.put Key.xtalStatus 0]).get Key.deviceState = 0 ∧ (up [.put Key.xtalStatus 0]).inReset = false ∧ (up [.put Key.xtalStatus 0]).get Key.xtalStatus = 0)
    ∧ ((up []).after 5).get Key.maskState < 256
    ∧ ((up []).operates = true ∧ ((up []).after 5).get Rg.perstHigh ≠ 0 ∧ 7 ≤ ((up []).after 5).get Key.startupState
      ∧ ((up []).after 5).get Rg.pcieLink ≠ 0)
    ∧ ((pulsing.after (ns 1000000000 - ns 5)).pulsePins ≠ 0 ∧ (pulsing.after (ns 1000000000 - ns 5)).atSecond = true)
    ∧ ((pulsing.after (ns 1000000000 - ns 5 - 1)).atSecond = false ∧ (pulsing.after (ns 5)).atSecond = true)
    ∧ (((pulsing [.put Rg.ppsFrom 1]).after (ns 1000)).get Rg.ppsFrom ≠ 0
      ∧ ((pulsing [.put Rg.ppsFrom 1]).after (ns 1000)).get Rg.ppsFrom - 1 + ns (((pulsing [.put Rg.ppsFrom 1]).after (ns 1000)).get Key.ppsWidth)
        ≤ ((pulsing [.put Rg.ppsFrom 1]).after (ns 1000)).now)
    ∧ ((pulsing.facing 5 .safety).admits .safety 0xC200 3 = true ∧ (pulsing.facing 5 .safety).admits .safety 0xC200 7 = true
      ∧ ((pulsing.facing 5 .safety).objAt 0xC200 3).isSome ∧ ((pulsing.facing 5 .safety).objAt 0xC200 7).isSome) := by
  decide +kernel

/-! ### Commands that clear -/

/-- The safety partition may give every one of the commands that clear, at its smallest and largest port and ring. -/
theorem met_ClearsZeroTheirSpan :
    ([(0x1E10, 3), (0x1E20, 1), (0x4000, 18), (0x3000, 19), (0x6000, 11), (0x7000, 6), (0x7000, 15), (0x9000, 14), (0xA000, 12),
        (0x5000, 14), (0x6000, 14), (0x8010, 12), (0x9100, 12), (0x911F, 12)].all fun c =>
      ((up []).facing 5 .safety).admits .safety c.1 c.2) = true
    ∧ ([(0x2006, 14), (0x2003, 44), (0x2004, 14), (0x2005, 10), (0x2007, 28), (0x200B, 8)].all fun c =>
      [0, 17, 255].all fun p => ((up []).facing 5 .safety).admits .safety (c.1 + 16 * p) c.2) = true
    ∧ ((up []).facing 5 .safety).admits .safety (0x200A + 16 * 64) 24 = true := by
  decide +kernel

/-! ### Commands that cannot occur -/

/-- The longest and the first too long run of octets of a table access. -/
def octetsOf (n : Nat) : List Byte := List.replicate n 0#8

theorem test_spans_within_limits :
    (Instr.keyLoad 0 .safety 0 0 (octetsOf 256)).wellFormed = true ∧ (Instr.keyLoad 0 .safety 0 0 (octetsOf 257)).wellFormed = false
    ∧ (Instr.keyInvalidate 0 .safety 0 0 []).wellFormed = false ∧ (Instr.signData 0 .safety 0 0 []).wellFormed = false
    ∧ (Instr.signDigest 0 .safety 0 0 []).wellFormed = false ∧ (Instr.verifyData 0 .safety 0 0 []).wellFormed = false
    ∧ (Instr.verifyDigest 0 .safety 0 0 []).wellFormed = false ∧ (Instr.firewallSessionWrite 0 .safety 0 0 []).wellFormed = false
    ∧ (Instr.fdbEntryWrite 0 .safety 0 0 []).wellFormed = false ∧ (Instr.freshnessCounterLoad 0 .safety 0 0 []).wellFormed = false
    ∧ (Instr.updateWindowWrite 0 .safety 0 0 []).wellFormed = false ∧ (Instr.imageKeyWrite 0 .safety 0 0 []).wellFormed = false
    ∧ (Instr.writeRow 0 .spi 0xF010 0 false 0 []).wellFormed = false ∧ (Instr.readRow 0 .spi 0xF010 0 false 0 0).wellFormed = false := by
  decide +kernel

theorem test_host_accesses_within_apertures :
    (Instr.hostScalarWrite 0 (BitVec.ofNat 27 (2 ^ 27 - 8)) (octetsOf 8) 0).wellFormed = true
    ∧ (Instr.hostScalarWrite 0 (BitVec.ofNat 27 (2 ^ 27 - 8)) (octetsOf 9) 0).wellFormed = false
    ∧ (Instr.hostScalarRead 0 0 512).wellFormed = true ∧ (Instr.hostScalarRead 0 0 513).wellFormed = false
    ∧ (Instr.hostRowWrite 0 (BitVec.ofNat 30 (2 ^ 30 - 1)) (octetsOf 2) 0).wellFormed = false
    ∧ (Instr.hostRowRead 0 0 0).wellFormed = false ∧ (Instr.spiFrame 0 []).wellFormed = false := by
  decide +kernel

theorem test_pdus_within_limits :
    (Instr.request 0 0 (.ethernet 0 none) (octetsOf 1472)).wellFormed = true
        ∧ (Instr.request 0 0 (.ethernet 0 none) (octetsOf 1473)).wellFormed = false
    ∧ (Instr.openSession 0 0 (.ethernet 0 none) (octetsOf 1473)).wellFormed = false
        ∧ (Instr.confirm 0 0 (.ethernet 0 none) (octetsOf 1473)).wellFormed = false
    ∧ (Instr.closeSession 0 0 (.ethernet 0 none) (octetsOf 1473)).wellFormed = false := by
  decide +kernel

theorem test_durations_and_measures_within_limits :
    (Instr.commitCheckEnd 0 40000 30000).wellFormed = true ∧ (Instr.commitCheckEnd 0 40001 0).wellFormed = false
    ∧ (Instr.commitCheckEnd 0 0 30001).wellFormed = false
    ∧ (Instr.coldStart 0 wakeEnv).wellFormed = true ∧ (Instr.coldStart 0 { wakeEnv with pufMicros := 3501 }).wellFormed = false
    ∧ (Instr.deviceWake 0 { wakeEnv with mbistMicros := 15001 }).wellFormed = false
    ∧ (Instr.arbiterRefill 0 (List.replicate 8 16)).wellFormed = true ∧ (Instr.arbiterRefill 0 (List.replicate 9 0)).wellFormed = false
    ∧ (Instr.arbiterGrant 0 [17]).wellFormed = false ∧ (Instr.ringMessage 0 0 0 0 (octetsOf 7)).wellFormed = false
    ∧ (Instr.temperatureMeasurement 0 (-273150)).wellFormed = true ∧ (Instr.temperatureMeasurement 0 (-273151)).wellFormed = false := by
  decide +kernel

theorem test_steps_within_limits : (Instr.testStepsEnd 0 0 (List.replicate 65536 (0, .inside))).wellFormed = false := by
  show decide ((List.replicate 65536 ((0 : Byte), StepResult.inside)).length ≤ 65535) = false
  rw [List.length_replicate]
  decide

/-- A bus frame of a kind, with octets of data. -/
def busFrame (kind : BitVec 4) (n : Nat) : BusFrame := ⟨kind, 0, 0, 0, 0, 0, 0, octetsOf n⟩

theorem test_frames_within_their_kind :
    (Instr.frameArrival 0 3 (.eth [])).wellFormed = false ∧ (Instr.frameArrival 0 3 (.preemptable 2 [])).wellFormed = false
    ∧ [(busFrame 2 64).fits, (busFrame 2 65).fits, (busFrame 3 2048).fits, (busFrame 3 2049).fits] = [true, false, true, false]
    ∧ (Instr.frameArrival 0 64 (.bus (busFrame 1 8))).wellFormed = true
    ∧ (Instr.frameArrival 0 64 (.bus (busFrame 1 9))).wellFormed = false
    ∧ (Instr.frameTail 0 64 (.bus (busFrame 4 9)) .good).wellFormed = false
    ∧ (Instr.frameTail 0 3 (.eth (octetsOf 3)) .good).wellFormed = false
    ∧ (Instr.frameTail 0 3 (.preemptable 2 (octetsOf 3)) .good).wellFormed = false := by
  decide +kernel

/-- No row of the opcode table gives bits, so that no word is a command. -/
theorem test_no_word_is_a_command : decodeTableWord 16 0 = none ∧ (State.reset.withFetchWord 16 0).pending = [] := by
  decide +kernel

/-! ### Known answers of the functions that the spec names -/

/-- The check values of CRC-16 (R65) and CRC-32C (R140) are those of the octets of the digits 1 to 9. -/
def nineDigits : List Byte := [0x31, 0x32, 0x33, 0x34, 0x35, 0x36, 0x37, 0x38, 0x39]

theorem test_checksums : crc16 nineDigits = 0x29B1 ∧ crc32c nineDigits = 0xE3069283 := by decide +kernel

/-- FIPS 197, C.3: one block under a 256-bit key. -/
theorem test_aes256 :
    beNat (aes (beBytes 32 0x000102030405060708090A0B0C0D0E0F101112131415161718191A1B1C1D1E1F)
      (beBytes 16 0x00112233445566778899AABBCCDDEEFF)) = 0x8EA2B7CA516745BFEAFC49904B496089 := by
  decide +kernel

/-- R432: a layout descriptor with its magic and CRC, and one with a wrong CRC. -/
def descriptor : List Byte := ascii "SRPL" ++ List.replicate 36 0

theorem test_layout_descriptor :
    descriptorFits (descriptor ++ beBytes 4 (crc32c descriptor)) = true ∧ descriptorFits (descriptor ++ beBytes 4 0) = false := by
  decide +kernel

/-- RFC 4493, example 1: the AES-CMAC of the empty message. -/
theorem test_cmac_of_nothing : beNat (cmac (beBytes 16 0x2B7E151628AED2A6ABF7158809CF4F3C) []) = 0xBB1D6929E95937287FA37D129B756746 := by
  decide +kernel

/-- FIPS 180-4: the hash of the octets of abc. -/
theorem test_sha256_of_abc :
    beNat (sha256 [0x61, 0x62, 0x63]) = 0xBA7816BF8F01CFEA414140DE5DAE2223B00361A396177A9CB410FF61F20015AD := by
  decide +kernel

/-- Twice the base point of P-256. -/
theorem test_p256_twice :
    p256.base 2 = some (0x7CF27B188D034F7E8A52380304B51AC3C08969E277F21B35A60B48FC47669978,
      0x07775510DB8ED040293D9AC69F7430DBBA7DADE63CE982299E04B79D227873D1) := by
  decide +kernel

/-! ### A few effects -/

/-- A device with commands waiting takes the first and keeps the rest. -/
theorem test_step_takes_the_front :
    (match step { State.reset with pending := [.supplyUp 7, .xtalStart 5] } with
      | .next t => t.pending == [.xtalStart 5] && t.get Rg.inhLow == 0 && t.now == 7
      | _ => false) = true := by
  decide +kernel

/-- R36, R37: a value above the range is stored as its bound, answered with success, and counted. -/
theorem test_write_clamps :
    (match exec (.odWrite 0 .safety 0x3000 5 0xFFFFFFFF) (up []) with
      | .next t => t.status == 0 && t.get Key.ageingTime == 1000000 && t.fld .live 0xF000 (cellKey 0 0 0 + 0x3000 * 256 + 5) F.clampCount == 1
      | _ => false) = true := by
  decide +kernel

/-- R8: an object that only the safety partition may write refuses the application cluster. -/
theorem test_rights :
    (match exec (.odWrite 0 .application 0x8010 1 5) (up []) with
      | .next t => t.status == 2 && t.get 0x801001 == 64
      | _ => false) = true := by
  decide +kernel

end Sys2Proof.Tests
end

section
/-! PROOFS. Every command is one act behind the time that passes before it, so that what holds of every act holds of every
step. -/

namespace Sys2Proof.Machine

/-- A command is the passing of its time and then one act, the same in every state. -/
theorem exec_eq_command (c : Instr) : ∃ a : Act, ∀ s, exec c s = command c.dt a s := by
  cases c <;> exact ⟨_, fun _ => rfl⟩

/-- A command leads from a sound state to a sound state, since acts do (`sound_run`). -/
theorem exec_sound {c : Instr} {s t : State} (hs : s.sound = true) (ht : exec c s = .next t) : t.sound = true := by
  obtain ⟨a, ha⟩ := exec_eq_command c
  rw [ha, command_eq] at ht
  cases ht
  exact sound_run a _ (sound_run _ s hs)

/-- Soundness does not speak of the queue. -/
theorem sound_withPending {s : State} (l : List Instr) (hs : s.sound = true) : ({ s with pending := l } : State).sound = true := hs

/-- Settles O4: an idle step changes nothing, and a command keeps a state sound. -/
theorem stepKeepsStatesSound : Obligations.StepKeepsStatesSound := by
  intro s t hs ht
  unfold step at ht
  split at ht
  · cases ht
    exact hs
  · exact exec_sound (sound_withPending _ hs) ht

end Sys2Proof.Machine
end

section
/-! PROOFS. The commands that are a write of one object or of one row, and the writes that R8, R30 and R40 stop. -/

namespace Sys2Proof.Machine

/-! ### Commands that are a write -/

/-- A command that names an object of its own is the write of that object. -/
theorem exec_asWrite {c : Instr} {w : ObjectWrite} (h : c.asWrite = some w) (s : State) :
    exec c s = command w.dt (scalarWrite w.path w.idx w.sub w.slot) s := by
  cases c <;> cases h <;> rfl

/-- A command that names a row of its own is the write of that row. -/
theorem exec_asRowWrite {c : Instr} {w : RowWrite} (h : c.asRowWrite = some w) (s : State) :
    exec c s = command w.dt (rowWrite w.path w.idx w.row w.sketch w.off w.data) s := by
  cases c <;> cases h <;> rfl

/-- What such a write names fits the operands of OD_WRITE. -/
theorem asWrite_bounds {c : Instr} {w : ObjectWrite} (h : c.asWrite = some w) :
    w.idx < 2 ^ 16 ∧ w.sub < 2 ^ 8 ∧ w.slot < 2 ^ 64 := by
  cases c <;> cases h <;> refine ⟨?_, ?_, BitVec.isLt _⟩ <;> dsimp only <;> (repeat' split) <;> omega

/-- What such a write names fits the operands of WRITE_ROW. -/
theorem asRowWrite_bounds {c : Instr} {w : RowWrite} (h : c.asRowWrite = some w) : w.idx < 2 ^ 16 ∧ w.row < 2 ^ 24 := by
  cases c <;> cases h <;> constructor <;> dsimp only <;> omega

/-- WRITE_SCALAR, as OD_WRITE, is the write that its operands name. -/
theorem exec_writeScalar (dt : Nat) (path : Path) (idx : BitVec 16) (sub : BitVec 8) {slot : Nat} (hv : slot < 2 ^ 64) (s : State) :
    exec (.writeScalar dt path idx sub (BitVec.ofNat 64 slot)) s = command dt (scalarWrite path idx.toNat sub.toNat slot) s := by
  change command dt (scalarWrite path idx.toNat sub.toNat (BitVec.ofNat 64 slot).toNat) s = _
  rw [BitVec.toNat_ofNat, Nat.mod_eq_of_lt hv]

/-- WRITE_ROW of operands that fit is the write of the row that they name. -/
theorem exec_writeRow (dt : Nat) (path : Path) {idx row : Nat} (hi : idx < 2 ^ 16) (hr : row < 2 ^ 24) (sketch : Bool) (off : Nat)
    (data : List Byte) (s : State) : exec (.writeRow dt path (BitVec.ofNat 16 idx) (BitVec.ofNat 24 row) sketch off data) s
      = command dt (rowWrite path idx row sketch off data) s := by
  change command dt (rowWrite path (BitVec.ofNat 16 idx).toNat (BitVec.ofNat 24 row).toNat sketch off data) s = _
  rw [BitVec.toNat_ofNat, BitVec.toNat_ofNat, Nat.mod_eq_of_lt hi, Nat.mod_eq_of_lt hr]

theorem exec_asWrite_odWrite {c : Instr} {w : ObjectWrite} (h : c.asWrite = some w) (s : State) :
    exec c s = exec (.odWrite w.dt w.path (BitVec.ofNat 16 w.idx) (BitVec.ofNat 8 w.sub) (BitVec.ofNat 64 w.slot)) s := by
  obtain ⟨hi, hs, hv⟩ := asWrite_bounds h
  have e : exec (.odWrite w.dt w.path (BitVec.ofNat 16 w.idx) (BitVec.ofNat 8 w.sub) (BitVec.ofNat 64 w.slot)) s
      = exec (.writeScalar w.dt w.path (BitVec.ofNat 16 w.idx) (BitVec.ofNat 8 w.sub) (BitVec.ofNat 64 w.slot)) s := rfl
  rw [exec_asWrite h, e, exec_writeScalar _ _ _ _ hv, BitVec.toNat_ofNat, BitVec.toNat_ofNat, Nat.mod_eq_of_lt hi, Nat.mod_eq_of_lt hs]

theorem exec_asRowWrite_writeRow {c : Instr} {w : RowWrite} (h : c.asRowWrite = some w) (s : State) :
    exec c s = exec (.writeRow w.dt w.path (BitVec.ofNat 16 w.idx) (BitVec.ofNat 24 w.row) w.sketch w.off w.data) s := by
  obtain ⟨hi, hr⟩ := asRowWrite_bounds h
  rw [exec_asRowWrite h, exec_writeRow _ _ hi hr]

/-- A write that ends with a status only answers. -/
theorem run_ends (st : Nat) (s : State) : (Wrote.ends st).act.run s = { s with status := st % 256, data := [] } := rfl

/-! ### Writes of objects that are stopped, in the order of the rules -/

section
variable {s : State} {path : Path} {idx sub : Nat} {o : Obj} {t : Tab} (slot : Nat)

theorem writeScalarAt_unserved (h : s.serves path = false) : writeScalarAt s path idx sub slot = .ends 3 := by
  simp [writeScalarAt, h]

theorem writeScalarAt_table (h : s.serves path = true) (ht : tableOf idx = some t) :
    writeScalarAt s path idx sub slot = .ends (if sub < 3 then 2 else 1) := by
  simp [writeScalarAt, h, ht]

/-- Subindex 0 of an index without a table (R31). -/
theorem writeScalarAt_zero (h : s.serves path = true) (ht : tableOf idx = none) :
    writeScalarAt s path idx 0 slot = .ends (if (s.highestSub idx).isSome then 2 else 1) := by
  simp [writeScalarAt, h, ht]

theorem writeScalarAt_absent (h : s.serves path = true) (ht : tableOf idx = none) (hs : sub ≠ 0) (ho : s.objAt idx sub = none) :
    writeScalarAt s path idx sub slot = .ends 1 := by
  simp [writeScalarAt, h, ht, hs, ho]

theorem writeScalarAt_forbidden (h : s.serves path = true) (ht : tableOf idx = none) (hs : sub ≠ 0) (ho : s.objAt idx sub = some o)
    (hw : s.mayWrite path idx sub o = false) : writeScalarAt s path idx sub slot = .ends 2 := by
  simp [writeScalarAt, h, ht, hs, ho, hw]

theorem writeScalarAt_busy (h : s.serves path = true) (ht : tableOf idx = none) (hs : sub ≠ 0) (ho : s.objAt idx sub = some o)
    (hw : s.mayWrite path idx sub o = true) (hb : s.writeBusy idx sub o = true) : writeScalarAt s path idx sub slot = .ends 3 := by
  simp [writeScalarAt, h, ht, hs, ho, hw, hb]

/-- R8: an RO object takes no write. -/
theorem mayWrite_ro (h : o.acc = .ro) : s.mayWrite path idx sub o = false := by simp [State.mayWrite, h]

/-- R8: an RW-S or CMD-S object takes a write of the safety partition alone. -/
theorem mayWrite_safetyOnly (h : o.acc = .rwS ∨ o.acc = .cmdS) (hp : path ≠ .safety) : s.mayWrite path idx sub o = false := by
  rcases h with h | h <;> simp [State.mayWrite, h, hp]

end

/-- A command whose write of an object is stopped answers the status of the rule that stops it and changes nothing. -/
theorem exec_asWrite_ends {c : Instr} {w : ObjectWrite} {s : State} {st : Nat} (hc : c.asWrite = some w)
    (h : writeScalarAt (s.facing w.dt w.path) w.path w.idx w.sub w.slot = .ends st) (hst : st < 256 := by decide) :
    exec c s = .next { s.facing w.dt w.path with status := st, data := [] } := by
  rw [exec_asWrite hc, command_scalarWrite, h, run_ends, Nat.mod_eq_of_lt hst]

/-- Settles O6, rule by rule. -/
theorem refusedObjectWritesChangeNothing : Obligations.RefusedObjectWritesChangeNothing := by
  refine ⟨⟨fun c w s hc => exec_asWrite_odWrite hc s, fun c w s hc => exec_asRowWrite_writeRow hc s⟩, ?_, ?_⟩
  · intro c w s hc
    refine ⟨fun h => ?_, fun h ht hs ho => ?_, fun o h ht hs ho hw => ?_, fun o h ht hs ho hw hb => ?_,
      fun h ht hs hn => ?_, fun h ht hs => ?_⟩
    · exact exec_asWrite_ends hc (writeScalarAt_unserved _ h)
    · exact exec_asWrite_ends hc (writeScalarAt_absent _ h ht hs ho)
    · exact exec_asWrite_ends hc (writeScalarAt_forbidden _ h ht hs ho hw)
    · exact exec_asWrite_ends hc (writeScalarAt_busy _ h ht hs ho hw hb)
    · refine exec_asWrite_ends hc ?_
      rw [hs, writeScalarAt_zero _ h ht, if_pos hn]
    · obtain ⟨t, ht⟩ := Option.isSome_iff_exists.mp ht
      refine exec_asWrite_ends hc ?_
      rw [writeScalarAt_table _ h ht, if_pos hs]
  · intro c w s o hc h ht hs ho hacc
    refine exec_asWrite_ends hc (writeScalarAt_forbidden _ h ht hs ho ?_)
    rcases hacc with hacc | ⟨hacc, hp⟩
    · exact mayWrite_ro hacc
    · exact mayWrite_safetyOnly hacc hp

/-! ### Writes of rows that are stopped, in the order of the rules -/

/-- `n` octets from octet `off` of a row on lie in a row of the table (R32, R33). -/
def Tab.holds (t : Tab) (row off n : Nat) : Prop := row < t.rows ∧ n ≠ 0 ∧ off + n ≤ t.stride

theorem Tab.outside_iff {t : Tab} {row off n : Nat} :
    (decide (t.rows ≤ row) || decide (n = 0) || decide (t.stride < off + n)) = true ↔ ¬ t.holds row off n := by
  simp only [Tab.holds, Bool.or_eq_true, decide_eq_true_eq]
  omega

theorem Tab.inside_iff {t : Tab} {row off n : Nat} :
    (decide (t.rows ≤ row) || decide (n = 0) || decide (t.stride < off + n)) = false ↔ t.holds row off n := by
  rw [← Bool.not_eq_true, Tab.outside_iff, not_not]

section
variable {s : State} {path : Path} {idx row off : Nat} {sketch : Bool} {data : List Byte} {t : Tab}

theorem writeRowAt_unserved (h : s.serves path = false) : writeRowAt s path idx row sketch off data = .ends 3 := by
  simp [writeRowAt, h]

theorem writeRowAt_absent (h : s.serves path = true) (ht : tableOf idx = none) : writeRowAt s path idx row sketch off data = .ends 1 := by
  simp [writeRowAt, h, ht]

theorem writeRowAt_outside (h : s.serves path = true) (ht : tableOf idx = some t) (ho : ¬ t.holds row off data.length) :
    writeRowAt s path idx row sketch off data = .ends 1 := by
  simp only [writeRowAt, h, ht, Tab.outside_iff.mpr ho]
  rfl

theorem writeRowAt_forbidden (h : s.serves path = true) (ht : tableOf idx = some t) (hin : t.holds row off data.length)
    (hw : s.mayWriteRow path t row sketch = false) : writeRowAt s path idx row sketch off data = .ends 2 := by
  simp only [writeRowAt, h, ht, Tab.inside_iff.mpr hin, hw]
  rfl

theorem writeRowAt_busy (h : s.serves path = true) (ht : tableOf idx = some t) (hin : t.holds row off data.length)
    (hw : s.mayWriteRow path t row sketch = true) (hb : s.rowBusy path t row off data.length = true) :
    writeRowAt s path idx row sketch off data = .ends 3 := by
  simp only [writeRowAt, h, ht, Tab.inside_iff.mpr hin, hw, hb]
  rfl

/-- R42: no path writes a Fair copy. -/
theorem mayWriteRow_fair (ht : t.staged = true) : s.mayWriteRow path t row false = false := by
  simp [State.mayWriteRow, ht]

/-- R44: a staged table is busy from the start of a commit's checks to the end of its swap. -/
theorem rowBusy_commit (n : Nat) (ht : t.staged = true) (h2 : 2 ≤ s.get Key.commitState) (h4 : s.get Key.commitState ≤ 4) :
    s.rowBusy path t row off n = true := by
  simp [State.rowBusy, ht, h2, h4]

end

/-- A command whose write of a row is stopped answers the status of the rule that stops it and changes nothing. -/
theorem exec_asRowWrite_ends {c : Instr} {w : RowWrite} {s : State} {st : Nat} (hc : c.asRowWrite = some w)
    (h : writeRowAt (s.facing w.dt w.path) w.path w.idx w.row w.sketch w.off w.data = .ends st) (hst : st < 256 := by decide) :
    exec c s = .next { s.facing w.dt w.path with status := st, data := [] } := by
  rw [exec_asRowWrite hc, command_rowWrite, h, run_ends, Nat.mod_eq_of_lt hst]

/-- Settles O10, rule by rule. -/
theorem refusedRowWritesChangeNothing : Obligations.RefusedRowWritesChangeNothing := by
  intro c w s hc
  refine ⟨fun h => ?_, fun h ht => ?_, fun t h ht ho => ?_, fun t h ht hr hn hf hw => ?_, fun t h ht hr hn hf hst hsk => ?_,
    fun t h ht hr hn hf hw hb => ?_, fun t h ht hr hn hf hw hst h2 h4 => ?_⟩
  · exact exec_asRowWrite_ends hc (writeRowAt_unserved h)
  · exact exec_asRowWrite_ends hc (writeRowAt_absent h ht)
  · exact exec_asRowWrite_ends hc (writeRowAt_outside h ht fun ⟨hr, hn, hf⟩ => by omega)
  · exact exec_asRowWrite_ends hc (writeRowAt_forbidden h ht ⟨hr, hn, hf⟩ hw)
  · refine exec_asRowWrite_ends hc (writeRowAt_forbidden h ht ⟨hr, hn, hf⟩ ?_)
    rw [hsk]
    exact mayWriteRow_fair hst
  · exact exec_asRowWrite_ends hc (writeRowAt_busy h ht ⟨hr, hn, hf⟩ hw hb)
  · exact exec_asRowWrite_ends hc (writeRowAt_busy h ht ⟨hr, hn, hf⟩ hw (rowBusy_commit _ hst h2 h4))

end Sys2Proof.Machine
end

section
/-! PROOFS. The write of a plain object (R8, R9, R36, R37). -/

namespace Sys2Proof.Machine

/-- What the write of a slot image to a plain object leaves: the object takes the legal value, a clamp is counted in its counter,
nothing else changes, and the access ends with 0x00. -/
def State.takesLegal (u : State) (idx sub slot : Nat) (o : Obj) (t : State) : Prop :=
  let v := ofSlot o.ty slot
  let x := u.legalValue idx sub o v
  let k := u.keyAt idx sub
  let row := idx * 256 + sub
  t.status = 0 ∧ t.get k = x % regMod k ∧ leavesRest u t (keysIn [k]) (rowCells .live 0xF000 row)
    ∧ t.fld .live 0xF000 row F.clampCount
      = (if isClamp idx v x then min (u.fld .live 0xF000 row F.clampCount + 1) (2 ^ 32 - 1)
         else u.fld .live 0xF000 row F.clampCount)

/-- A field of a row is stored within the row. -/
theorem within_setF_row {ks : Nat → Prop} (g : Gen) (idx row : Nat) (f : Fld) (v : Nat) (h : f.first + f.span ≤ 4096 := by decide) :
    Within ks (rowCells g idx row) (Act.setF g idx row f v) :=
  within_setF g idx row f v fun i hi => by
    have e : cellKey idx row (f.bit / 8) + i = cellKey idx row (f.bit / 8 + i) := Nat.add_assoc _ _ _
    rw [e]
    exact rowCells_mem (by unfold Fld.first Fld.span at h; omega)

theorem within_bumpF_row {ks : Nat → Prop} (g : Gen) (idx row : Nat) (f : Fld) (n : Nat)
    (h : f.first + f.span ≤ 4096 := by decide) : Within ks (rowCells g idx row) (Act.bumpF g idx row f n) :=
  fun _ => within_setF_row g idx row f _ h

@[simp] theorem fld_answer (s : State) (st : Nat) (d : List Byte) (g : Gen) (idx row : Nat) (f : Fld) :
    ((Act.answer st d).run s).fld g idx row f = s.fld g idx row f := by
  cases g <;> rfl

/-- The write of a plain object only stores its value. -/
theorem storeObject_plain {idx sub : Nat} (h : plainObject idx sub = true) (s : State) (x : Nat) :
    storeObject s idx sub x = (0, .put (s.keyAt idx sub) x) := by
  unfold storeObject
  dsimp only
  split <;> simp_all [plainObject]

/-- A counted clamp writes the clamp counter of its object. -/
theorem within_countClamp (ks : Nat → Prop) (idx sub : Nat) :
    Within ks (rowCells .live 0xF000 (idx * 256 + sub)) (countClamp idx sub) :=
  within_bumpF_row _ _ _ F.clampCount 1

/-- A clamp counter after one more clamp stops at its maximum. -/
theorem fld_countClamp (s : State) (idx sub : Nat) :
    ((countClamp idx sub).run s).fld .live 0xF000 (idx * 256 + sub) F.clampCount
      = min (s.fld .live 0xF000 (idx * 256 + sub) F.clampCount + 1) (2 ^ 32 - 1) := by
  simp only [countClamp, Act.bumpF, run_dep, fld_setF_self]
  exact Nat.mod_eq_of_lt (by simp only [F.clampCount]; omega)

/-- The write that stores `x` for a written `v` under a key, its clamp counted, and does no more. -/
def plainWrite (idx sub k v x : Nat) : Wrote := ⟨0, Act.all [Act.when (isClamp idx v x) (countClamp idx sub), .put k x], true⟩

theorem plainWrite_status (u : State) (idx sub k v x : Nat) : ((plainWrite idx sub k v x).act.run u).status = 0 := rfl

theorem plainWrite_get (u : State) (idx sub k v x : Nat) : ((plainWrite idx sub k v x).act.run u).get k = x % regMod k := by
  simp [plainWrite, Wrote.act]

theorem plainWrite_leavesRest (u : State) (idx sub k v x : Nat) :
    leavesRest u ((plainWrite idx sub k v x).act.run u) (keysIn [k]) (rowCells .live 0xF000 (idx * 256 + sub)) :=
  run_leavesRest _ u ⟨⟨within_when fun _ => within_countClamp _ idx sub, List.mem_singleton.mpr rfl, trivial⟩, trivial⟩

theorem plainWrite_clamps (u : State) (idx sub k v x : Nat) :
    ((plainWrite idx sub k v x).act.run u).fld .live 0xF000 (idx * 256 + sub) F.clampCount
      = if isClamp idx v x then min (u.fld .live 0xF000 (idx * 256 + sub) F.clampCount + 1) (2 ^ 32 - 1)
        else u.fld .live 0xF000 (idx * 256 + sub) F.clampCount := by
  simp only [plainWrite, Wrote.act, run_seq, run_all_cons, run_all_nil, fld_answer, fld_put, run_when]
  split
  · exact fld_countClamp u idx sub
  · rfl

/-- An admitted write of a plain object. -/
theorem writeScalarAt_plain {u : State} {path : Path} {idx sub : Nat} {o : Obj} (slot : Nat) (ha : u.admits path idx sub = true)
    (ho : u.objAt idx sub = some o) (hc : isCommand o = false) (hp : plainObject idx sub = true) :
    writeScalarAt u path idx sub slot
      = plainWrite idx sub (u.keyAt idx sub) (ofSlot o.ty slot) (u.legalValue idx sub o (ofSlot o.ty slot)) := by
  obtain ⟨o', ho', hw⟩ := writeScalarAt_admits u path idx sub slot ha
  obtain rfl : o = o' := Option.some.inj (ho.symm.trans ho')
  simpa [writeValue, plainWrite, hc, storeObject_plain hp] using hw

/-- It takes the legal value nearest to the written one. -/
theorem writeScalarAt_takesLegal {u : State} {path : Path} {idx sub : Nat} {o : Obj} (slot : Nat)
    (ha : u.admits path idx sub = true) (ho : u.objAt idx sub = some o) (hc : isCommand o = false)
    (hp : plainObject idx sub = true) : u.takesLegal idx sub slot o ((writeScalarAt u path idx sub slot).act.run u) := by
  rw [writeScalarAt_plain slot ha ho hc hp]
  exact ⟨plainWrite_status .., plainWrite_get .., plainWrite_leavesRest .., plainWrite_clamps ..⟩

/-- Settles O8: every command that names such an object is its write. -/
theorem plainObjectsTakeTheirLegalValue : Obligations.PlainObjectsTakeTheirLegalValue := by
  refine ⟨fun s dt path idx sub v o ha ho hc hp => ⟨⟨_, rfl, ?_⟩, ⟨_, rfl, ?_⟩⟩, fun c w s o hw ha ho hc hp => ?_⟩
  · exact writeScalarAt_takesLegal _ ha ho hc hp
  · exact writeScalarAt_takesLegal _ ha ho hc hp
  · exact ⟨_, exec_asWrite hw s, writeScalarAt_takesLegal _ ha ho hc hp⟩

end Sys2Proof.Machine
end

section
/-! PROOFS. Reads of objects, of vehicle time and of rows (R31 to R34, R201, R371). -/

namespace Sys2Proof.Machine

/-! ### The answer of a read -/

/-- A read that returns a number in a slot and has no effect. -/
def Got.slot (n : Nat) : Got := ⟨0, leBytes 8 n, .skip⟩

theorem run_got_status (g : Got) (s : State) : (g.act.run s).status = g.status % 256 := rfl
theorem run_got_data (g : Got) (s : State) : (g.act.run s).data = if g.status = 0 then g.data else [] := rfl

theorem run_got_get (g : Got) (s : State) (k : Nat) : (g.act.run s).get k = (g.effect.run s).get k := rfl
theorem run_got_slot (n : Nat) (s : State) : (Got.slot n).act.run s = { s with status := 0, data := leBytes 8 n } := rfl

theorem run_got_ends (st : Nat) (s : State) : (Got.ends st).act.run s = { s with status := st % 256, data := [] } := by
  show ({ s with status := st % 256, data := if st = 0 then [] else [] } : State) = _
  rw [ite_self]

/-- A read that ends with a status answers it and returns nothing. -/
theorem answer_ends {g : Got} {st : Nat} (h : g = .ends st) (s : State) (hst : st < 256 := by decide) :
    (g.act.run s).status = st ∧ (g.act.run s).data = [] := by
  rw [h, run_got_ends]
  exact ⟨Nat.mod_eq_of_lt hst, rfl⟩

theorem answer_slot {g : Got} {n : Nat} (h : g = .slot n) (s : State) :
    (g.act.run s).status = 0 ∧ (g.act.run s).data = leBytes 8 n := by
  rw [h, run_got_slot]
  exact ⟨rfl, rfl⟩

/-! ### Reads of objects -/

section
variable {s : State} {path : Path} {idx sub : Nat} {o : Obj} {t : Tab}

theorem readScalarAt_unserved (h : s.serves path = false) : readScalarAt s path idx sub = .ends 3 := by
  simp [readScalarAt, h]

/-- R32: the three subindices of a table. -/
theorem readScalarAt_table (h : s.serves path = true) (ht : tableOf idx = some t) :
    readScalarAt s path idx 0 = .slot t.rows ∧ readScalarAt s path idx 1 = .slot t.stride
      ∧ readScalarAt s path idx 2 = .slot (s.tableUse t) ∧ (3 ≤ sub → readScalarAt s path idx sub = .ends 1) := by
  refine ⟨by simp [readScalarAt, h, ht, Got.slot], by simp [readScalarAt, h, ht, Got.slot], by simp [readScalarAt, h, ht, Got.slot],
    fun h3 => ?_⟩
  obtain ⟨n, rfl⟩ := Nat.exists_eq_add_of_le' h3
  simp [readScalarAt, h, ht]

/-- R31: subindex 0 of an index without a table. -/
theorem readScalarAt_zero {n : Nat} (h : s.serves path = true) (ht : tableOf idx = none) (hn : s.highestSub idx = some n) :
    readScalarAt s path idx 0 = .slot n := by
  simp [readScalarAt, h, ht, hn, Got.slot]

theorem readScalarAt_absent (h : s.serves path = true) (ht : tableOf idx = none) (hs : sub ≠ 0) (ho : s.objAt idx sub = none) :
    readScalarAt s path idx sub = .ends 1 := by
  simp [readScalarAt, h, ht, hs, ho]

theorem readScalarAt_foreign (h : s.serves path = true) (ht : tableOf idx = none) (hs : sub ≠ 0) (ho : s.objAt idx sub = some o)
    (hf : s.foreignRead path idx sub = true) : readScalarAt s path idx sub = .ends 2 := by
  simp [readScalarAt, h, ht, hs, ho, hf]

theorem readScalarAt_busy (h : s.serves path = true) (ht : tableOf idx = none) (hs : sub ≠ 0) (ho : s.objAt idx sub = some o)
    (hf : s.foreignRead path idx sub = false) (hb : s.readBusy idx sub = true) : readScalarAt s path idx sub = .ends 3 := by
  simp [readScalarAt, h, ht, hs, ho, hf, hb]

/-- The latch of R201 and the draw of log entry 4 that a served read takes. -/
def readEffect (s : State) (path : Path) (idx sub : Nat) : Act :=
  .seq (Act.when (s.keyAt idx sub == Key.vehicleTimeNow) (.put (Rg.fracLatch (pathNumber path)) (s.vtime % 65536 + 1)))
    (Act.when (s.keyAt idx sub == Key.gpioInput) .drawn)

/-- A served read of an object that is there and not busy; one that does not belong to its port's attachment reads 0 (R121, R290). -/
theorem readScalarAt_value (h : s.serves path = true) (ht : tableOf idx = none) (hs : sub ≠ 0) (ho : s.objAt idx sub = some o)
    (hf : s.foreignRead path idx sub = false) (hb : s.readBusy idx sub = false) :
    readScalarAt s path idx sub = if s.belongs idx o then ⟨0, leBytes 8 (slotOf o.ty (s.objectValue path idx sub)), readEffect s path idx sub⟩
      else .slot 0 := by
  cases hbel : s.belongs idx o <;> simp [readScalarAt, h, ht, hs, ho, hf, hb, hbel, Got.slot, readEffect]

theorem within_readEffect : Within (keysIn [Rg.fracLatch (pathNumber path)]) noCells (readEffect s path idx sub) :=
  ⟨within_when fun _ => List.mem_singleton.mpr rfl, within_when fun _ => trivial⟩

/-- A read of an object writes no register but the latch of R201, and no octet. -/
theorem within_readScalarAt : Within (keysIn [Rg.fracLatch (pathNumber path)]) noCells (readScalarAt s path idx sub).effect := by
  simp only [readScalarAt]
  repeat' split
  any_goals trivial
  exact within_readEffect

end

/-- The answer of such a read. -/
theorem answer_value {s : State} {path : Path} {idx sub : Nat} {o : Obj} (h : s.serves path = true) (ht : tableOf idx = none)
    (hs : sub ≠ 0) (ho : s.objAt idx sub = some o) (hf : s.foreignRead path idx sub = false) (hb : s.readBusy idx sub = false) :
    ((readScalarAt s path idx sub).act.run s).status = 0 ∧ ((readScalarAt s path idx sub).act.run s).data
      = leBytes 8 (if s.belongs idx o then slotOf o.ty (s.objectValue path idx sub) else 0) := by
  rw [readScalarAt_value h ht hs ho hf hb]
  cases s.belongs idx o <;> exact ⟨rfl, rfl⟩

theorem readScalarAt_leavesRest (s : State) (path : Path) (idx sub : Nat) :
    leavesRest s ((readScalarAt s path idx sub).act.run s) (keysIn [Rg.fracLatch (pathNumber path)]) noCells :=
  run_leavesRest _ s ⟨within_readScalarAt, trivial⟩

/-! ### The read of vehicle time -/

/-- VehicleTimeNow, as the catalogue has it. -/
theorem objAt_vehicleTimeNow (s : State) : ∃ o, s.objAt 0x5000 1 = some o ∧ o.ty = .time := ⟨_, rfl, rfl⟩

theorem readScalarAt_vehicleTime {s : State} {path : Path} (h : s.serves path = true) :
    readScalarAt s path 0x5000 1 = ⟨0, leBytes 8 (s.vtime / 65536 % 2 ^ 64), readEffect s path 0x5000 1⟩ := by
  obtain ⟨o, ho, hty⟩ := objAt_vehicleTimeNow s
  have hb : s.belongs 0x5000 o = true := rfl
  have hv : s.objectValue path 0x5000 1 = s.vtime / 65536 := rfl
  rw [readScalarAt_value h (by decide) (by decide) ho rfl rfl, hb, hv, hty]
  rfl

theorem readEffect_vehicleTime (s : State) (path : Path) :
    (readEffect s path 0x5000 1).run s = (Act.put (Rg.fracLatch (pathNumber path)) (s.vtime % 65536 + 1)).run s := by
  have h1 : (s.keyAt 0x5000 1 == Key.vehicleTimeNow) = true := by simp [State.keyAt, template, byKindGroup, Key.vehicleTimeNow]
  have h2 : (s.keyAt 0x5000 1 == Key.gpioInput) = false := by simp [State.keyAt, template, byKindGroup, Key.gpioInput]
  simp only [readEffect, run_seq, h1, h2, run_when_true, run_when_false]

/-- R201: what the read of VehicleTimeNow latches is what VehicleTimeNowFrac then reads on that path. -/
theorem fraction_latched {s : State} {path : Path} {f : Nat} (h : s.get (Rg.fracLatch (pathNumber path)) = f + 1) :
    s.fraction path = f := by
  simp [State.fraction, h]

theorem fraction_vehicleTimeRead {u : State} {path : Path} (h : u.serves path = true) :
    ((readScalarAt u path 0x5000 1).act.run u).fraction path = u.vtime % 65536 := by
  have hk : regMod (Rg.fracLatch (pathNumber path)) = 0 := regMod_internal (by unfold Rg.fracLatch Rg.at'; omega)
  refine fraction_latched ?_
  rw [readScalarAt_vehicleTime h, run_got_get, readEffect_vehicleTime, get_put_self, hk, Nat.mod_zero]

/-! ### Reads of rows -/

section
variable {s : State} {path : Path} {idx row off n : Nat} {sketch : Bool} {t : Tab}

theorem readRowAt_unserved (h : s.serves path = false) : readRowAt s path idx row sketch off n = .ends 3 := by
  simp [readRowAt, h]

theorem readRowAt_absent (h : s.serves path = true) (ht : tableOf idx = none) : readRowAt s path idx row sketch off n = .ends 1 := by
  simp [readRowAt, h, ht]

theorem readRowAt_outside (h : s.serves path = true) (ht : tableOf idx = some t) (ho : ¬ t.holds row off n) :
    readRowAt s path idx row sketch off n = .ends 1 := by
  simp only [readRowAt, h, ht, Tab.outside_iff.mpr ho]
  rfl

theorem readRowAt_foreign (h : s.serves path = true) (ht : tableOf idx = some t) (hin : t.holds row off n)
    (hf : s.foreignRow path idx row = true) : readRowAt s path idx row sketch off n = .ends 2 := by
  simp only [readRowAt, h, ht, Tab.inside_iff.mpr hin, hf]
  rfl

/-- Whether a row is a ring member that is Holding, whose held time a read counts up to now (R371). -/
def State.holdingRow (s : State) (idx row : Nat) : Bool := idx == 0xF0A1 && s.flag (Rg.isHolding 1 (row / 64) (row % 64))

/-- A served read of octets of a row. -/
theorem readRowAt_value (h : s.serves path = true) (ht : tableOf idx = some t) (hin : t.holds row off n)
    (hf : s.foreignRow path idx row = false) :
    readRowAt s path idx row sketch off n =
      let a := Act.when (s.holdingRow idx row) (accrue (row / 64) 1 (row % 64))
      ⟨0, octetsAt ((a.run s).rowImageNow (rowGen t sketch) t row) off n, a⟩ := by
  simp only [readRowAt, h, ht, Tab.inside_iff.mpr hin, hf]
  rfl

end

end Sys2Proof.Machine
end

section
/-! PROOFS. The held time of a ring member (R371), and the statement about reads. -/

namespace Sys2Proof.Machine

/-! ### Held time -/

/-- How long a holding has lasted since it was counted last. -/
def State.heldSpan (s : State) (r m : Nat) : Nat :=
  if s.get (Rg.holdSince 1 r m) = 0 then 0 else s.now - (s.get (Rg.holdSince 1 r m) - 1)

/-- What a count of held time does to the member's registers of the running period. -/
def restartHolding (s : State) (r m : Nat) : Act :=
  if s.flag (Key.localConsent r) then Act.all [
    Act.when (s.get (Rg.holdSince 1 r m) == 0 && s.get (Rg.holdTotal 1 r m) == 0) (.put (Rg.holdStart 1 r m) s.vns),
    .put (Rg.holdSince 1 r m) (s.now + 1)]
  else .put (Rg.holdSince 1 r m) 0

/-- What a count of held time adds to the member's row. -/
def addHeld (r m span : Nat) : Act :=
  .dep fun t => .seq (.put (Rg.holdAll r m) (t.get (Rg.holdAll r m) + span))
    (Act.setF .live 0xF0A1 (64 * r + m) F.memberHeld (min ((t.get (Rg.holdAll r m) + span) / 65536) (2 ^ 64 - 1)))

/-- A count of a member's held time, in its three parts. -/
theorem run_accrue (s : State) (r m : Nat) : (accrue r 1 m).run s
    = (restartHolding s r m).run ((Act.when (s.heldSpan r m != 0) (addHeld r m (s.heldSpan r m))).run
        ((Act.put (Rg.holdTotal 1 r m) (s.get (Rg.holdTotal 1 r m) + s.heldSpan r m)).run s)) := rfl

/-- The registers of a member's holding. -/
def holdKeys (r m : Nat) : List Nat := [Rg.holdTotal 1 r m, Rg.holdSince 1 r m, Rg.holdAll r m, Rg.holdStart 1 r m]

theorem within_restartHolding {cs : Gen → Nat → Prop} (s : State) (r m : Nat) :
    Within (keysIn (holdKeys r m)) cs (restartHolding s r m) := by
  unfold restartHolding
  split
  · exact ⟨within_when fun _ => by simp [keysIn, holdKeys], by simp [keysIn, holdKeys], trivial⟩
  · simp [keysIn, holdKeys]

theorem within_addHeld (r m span : Nat) :
    Within (keysIn (holdKeys r m)) (rowCells .live 0xF0A1 (64 * r + m)) (addHeld r m span) :=
  fun _ => ⟨by simp [keysIn, holdKeys], within_setF_row _ _ _ F.memberHeld _⟩

theorem run_accrue_leavesRest (s : State) (r m : Nat) :
    leavesRest s ((accrue r 1 m).run s) (keysIn (holdKeys r m)) (rowCells .live 0xF0A1 (64 * r + m)) := by
  rw [run_accrue]
  refine run_leavesRest (.seq (.seq (.put _ _) (Act.when _ _)) _) s ⟨⟨?_, within_when fun _ => within_addHeld r m _⟩,
    within_restartHolding ..⟩
  simp [keysIn, holdKeys]

theorem fld_restartHolding (s u : State) (r m : Nat) (g : Gen) (idx row : Nat) (f : Fld) :
    ((restartHolding s r m).run u).fld g idx row f = u.fld g idx row f := by
  unfold restartHolding
  split
  · simp only [run_all_cons, run_all_nil, fld_put, run_when]
    split <;> simp only [fld_put]
  · exact fld_put ..

theorem fld_addHeld (s : State) (r m span : Nat) : ((addHeld r m span).run s).fld .live 0xF0A1 (64 * r + m) F.memberHeld
    = min ((s.get (Rg.holdAll r m) + span) / 65536) (2 ^ 64 - 1) := by
  simp only [addHeld, run_dep, run_seq, fld_setF_self]
  exact Nat.mod_eq_of_lt (by simp only [F.memberHeld]; omega)

theorem holdAll_ne_holdTotal {r m : Nat} (hr : r < 32) (hm : m < 64) : Rg.holdAll r m ≠ Rg.holdTotal 1 r m := by
  unfold Rg.holdAll Rg.holdTotal Rg.at'
  omega

/-- HeldTotal of a member's row after its held time was counted. -/
theorem fld_accrue (s : State) {r m : Nat} (hr : r < 32) (hm : m < 64) :
    ((accrue r 1 m).run s).fld .live 0xF0A1 (64 * r + m) F.memberHeld
      = if s.heldSpan r m = 0 then s.fld .live 0xF0A1 (64 * r + m) F.memberHeld
        else min ((s.get (Rg.holdAll r m) + s.heldSpan r m) / 65536) (2 ^ 64 - 1) := by
  rw [run_accrue, fld_restartHolding, run_when]
  by_cases h : s.heldSpan r m = 0
  · rw [if_neg (by simp [h]), if_pos h, fld_put]
  · rw [if_pos (by simp [h]), if_neg h, fld_addHeld, get_put_ne _ _ (holdAll_ne_holdTotal hr hm)]

/-! ### The statement about reads -/

theorem rowImageNow_stored {t : Tab} (s : State) (g : Gen) (row : Nat) (h : t.idx = 0xF0A1) :
    s.rowImageNow g t row = s.rowOctets g t.idx row 0 t.stride := by
  simp only [State.rowImageNow, h]

/-- The table of the ring members. -/
theorem tableOf_ringMembers {t : Tab} (h : tableOf 0xF0A1 = some t) : t.idx = 0xF0A1 ∧ t.rows = 2048 ∧ t.staged = false := by
  obtain rfl := Option.some.inj h
  exact ⟨rfl, rfl, rfl⟩

/-- A command that reads octets of a row answers what `readRowAt` gives. -/
theorem exec_readRow_ends {s : State} {dt : Nat} {path : Path} {idx : BitVec 16} {row : BitVec 24} {sketch : Bool} {off n st : Nat}
    (h : readRowAt (s.facing dt path) path idx.toNat row.toNat sketch off n = .ends st) (hst : st < 256 := by decide) :
    exec (.readRow dt path idx row sketch off n) s = .next { s.facing dt path with status := st, data := [] } := by
  change command dt (rowRead path idx.toNat row.toNat sketch off n) s = _
  rw [command_rowRead, h, run_got_ends, Nat.mod_eq_of_lt hst]

/-- A served read of a row that is not a holding ring member changes nothing. -/
theorem exec_readRow_value {s : State} {dt : Nat} {path : Path} {idx : BitVec 16} {row : BitVec 24} {sketch : Bool} {off n : Nat}
    {t : Tab} (h : (s.facing dt path).serves path = true) (ht : tableOf idx.toNat = some t) (hin : t.holds row.toNat off n)
    (hf : (s.facing dt path).foreignRow path idx.toNat row.toNat = false)
    (hh : (s.facing dt path).holdingRow idx.toNat row.toNat = false) :
    exec (.readRow dt path idx row sketch off n) s = .next
      { s.facing dt path with
        status := 0
        data := octetsAt ((s.facing dt path).rowImageNow (rowGen t sketch) t row.toNat) off n } := by
  change command dt (rowRead path idx.toNat row.toNat sketch off n) s = _
  rw [command_rowRead, readRowAt_value h ht hin hf, hh]
  rfl

theorem holdingRow_false {s : State} {idx row : Nat} (h : idx = 0xF0A1 → s.flag (Rg.isHolding 1 (row / 64) (row % 64)) = false) :
    s.holdingRow idx row = false := by
  by_cases hi : idx = 0xF0A1
  · simp [State.holdingRow, h hi]
  · simp [State.holdingRow, hi]

theorem holdingRow_true {s : State} {row : Nat} (h : s.flag (Rg.isHolding 1 (row / 64) (row % 64)) = true) :
    s.holdingRow 0xF0A1 row = true := by
  simp [State.holdingRow, h]

/-- The read of VehicleTimeNow returns vehicle time in whole nanoseconds (R201). -/
theorem answer_vehicleTimeRead {u : State} {path : Path} (h : u.serves path = true) :
    ((readScalarAt u path 0x5000 1).act.run u).status = 0
      ∧ ((readScalarAt u path 0x5000 1).act.run u).data = leBytes 8 (u.vtime / 65536 % 2 ^ 64) := by
  rw [run_got_status, run_got_data, readScalarAt_vehicleTime h]
  exact ⟨rfl, rfl⟩

/-- A served read of a ring member that is Holding counts its held time up to now, and then returns its row (R371). -/
theorem readRow_holding {u : State} {path : Path} {row off n : Nat} {sketch : Bool} {tab : Tab} (h : u.serves path = true)
    (ht : tableOf 0xF0A1 = some tab) (hin : tab.holds row off n) (hf : u.foreignRow path 0xF0A1 row = false)
    (hh : u.flag (Rg.isHolding 1 (row / 64) (row % 64)) = true) :
    let t := (readRowAt u path 0xF0A1 row sketch off n).act.run u
    t.status = 0 ∧ t.data = octetsAt (t.rowImageNow .live tab row) off n
      ∧ t.fld .live 0xF0A1 row F.memberHeld
        = (if u.heldSpan (row / 64) (row % 64) = 0 then u.fld .live 0xF0A1 row F.memberHeld
           else min ((u.get (Rg.holdAll (row / 64) (row % 64)) + u.heldSpan (row / 64) (row % 64)) / 65536) (2 ^ 64 - 1))
      ∧ leavesRest u t (keysIn (holdKeys (row / 64) (row % 64))) (rowCells .live 0xF0A1 row) := by
  obtain ⟨hidx, hrows, hst⟩ := tableOf_ringMembers ht
  have hrow : row < 2048 := hrows ▸ hin.1
  have hsplit : 64 * (row / 64) + row % 64 = row := Nat.div_add_mod row 64
  have hgen : rowGen tab sketch = .live := by simp [rowGen, hst]
  have hfld := fld_accrue u (r := row / 64) (m := row % 64) (by omega) (by omega)
  have hrest := run_accrue_leavesRest u (row / 64) (row % 64)
  rw [hsplit] at hfld hrest
  simp only [readRowAt_value h ht hin hf, holdingRow_true hh, hgen]
  refine ⟨rfl, ?_, ?_, ?_⟩
  · rw [run_got_data, rowImageNow_stored _ _ _ hidx, rowImageNow_stored _ _ _ hidx]
    rfl
  · exact (fld_answer ..).trans hfld
  · exact leavesRest_trans hrest (run_leavesRest (.answer _ _) _ trivial)

/-- Settles O9: the reads rule by rule. -/
theorem readsReturnValues : Obligations.ReadsReturnValues := by
  refine ⟨fun s dt path idx sub => ⟨_, rfl, ?_⟩, fun s dt path h => ⟨_, rfl, ?_⟩, fun s dt path idx row sketch off n => ?_⟩
  · refine ⟨readScalarAt_leavesRest .., fun h => answer_ends (readScalarAt_unserved h) _,
      fun h ht hj ho => answer_ends (readScalarAt_absent h ht hj ho) _,
      fun o h ht hj ho hf => answer_ends (readScalarAt_foreign h ht hj ho hf) _,
      fun o h ht hj ho hf hb => answer_ends (readScalarAt_busy h ht hj ho hf hb) _,
      fun o h ht hj ho hf hb => answer_value h ht hj ho hf hb, fun n h ht hj hn => ?_, fun tab h ht => ?_⟩
    · exact answer_slot (hj ▸ readScalarAt_zero h ht hn) _
    · obtain ⟨h0, h1, h2, h3⟩ := readScalarAt_table (sub := sub.toNat) h ht
      exact ⟨fun hj => answer_slot (hj ▸ h0) _, fun hj => answer_slot (hj ▸ h1) _, fun hj => answer_slot (hj ▸ h2) _,
        fun hj => answer_ends (h3 hj) _⟩
  · obtain ⟨hst, hdata⟩ := answer_vehicleTimeRead h
    exact ⟨hst, hdata, fraction_vehicleTimeRead h, readScalarAt_leavesRest ..⟩
  · refine ⟨fun h => ?_, fun h ht => ?_, fun tab h ht ho => ?_, fun tab h ht hr hn hf hfor => ?_,
      fun tab h ht hr hn hf hfor hhold => ?_, fun tab h ht hr hn hf hfor hi hhold => ⟨_, rfl, ?_⟩⟩
    · exact exec_readRow_ends (readRowAt_unserved h)
    · exact exec_readRow_ends (readRowAt_absent h ht)
    · exact exec_readRow_ends (readRowAt_outside h ht fun ⟨hr, hn, hf⟩ => by omega)
    · exact exec_readRow_ends (readRowAt_foreign h ht ⟨hr, hn, hf⟩ hfor)
    · exact exec_readRow_value h ht ⟨hr, hn, hf⟩ hfor (holdingRow_false hhold)
    · rw [hi] at ht hfor ⊢
      exact readRow_holding h ht ⟨hr, hn, hf⟩ hfor hhold

end Sys2Proof.Machine
end

section
/-! PROOFS. Octets stored in a row and the fields that they make, and the log of posted errors (R58 to R61). -/

namespace Sys2Proof.Machine

/-! ### Octets and fields of a stored row -/

theorem leNat_append (xs ys : List Byte) : leNat (xs ++ ys) = leNat xs + 256 ^ xs.length * leNat ys := by
  induction xs with
  | nil => simp [leNat]
  | cons x xs ih =>
    simp only [List.cons_append, leNat, List.length_cons, ih, Nat.pow_succ']
    ring

/-- The number in a part of an octet string. -/
theorem leNat_drop_take (bs : List Byte) (i n : Nat) (h : i + n ≤ bs.length) :
    leNat ((bs.drop i).take n) = leNat bs / 256 ^ i % 256 ^ n := by
  have hsplit : bs = bs.take i ++ ((bs.drop i).take n ++ (bs.drop i).drop n) := by
    rw [List.take_append_drop, List.take_append_drop]
  have hi : (bs.take i).length = i := by rw [List.length_take]; omega
  have hn : ((bs.drop i).take n).length = n := by rw [List.length_take, List.length_drop]; omega
  have h1 := leNat_lt (bs.take i)
  have h2 := leNat_lt ((bs.drop i).take n)
  rw [hi] at h1
  rw [hn] at h2
  conv_rhs => rw [hsplit, leNat_append, leNat_append, hi, hn]
  rw [Nat.add_mul_div_left _ _ (Nat.pow_pos (by decide)), Nat.div_eq_of_lt h1, Nat.zero_add, Nat.add_mul_mod_self_left,
    Nat.mod_eq_of_lt h2]

/-- Bits of a number lie in every part of it that spans them. -/
theorem bits_div_mod (v i m lo w : Nat) (h : lo + w ≤ m) : bits (v / 2 ^ i % 2 ^ m) lo w = bits v (i + lo) w := by
  obtain ⟨d, rfl⟩ := Nat.exists_eq_add_of_le h
  unfold bits
  rw [Nat.pow_add, Nat.pow_add, Nat.mul_assoc, Nat.mod_mul_right_div_self, Nat.mod_mul_right_mod, Nat.div_div_eq_div_mul,
    ← Nat.pow_add]

theorem octets_part (s : State) (g : Gen) (a i n m : Nat) (h : i + n ≤ m) : s.octets g (a + i) n = ((s.octets g a m).drop i).take n := by
  refine List.ext_getElem (by simp only [List.length_take, List.length_drop, octets_length]; omega) fun j h1 h2 => ?_
  simp [State.octets, Nat.add_assoc]

/-- A field of a row, read off the image of the row. -/
theorem fld_eq_bits (s : State) (g : Gen) (idx row stride : Nat) (f : Fld) (h : f.bit + f.width ≤ 8 * stride) :
    s.fld g idx row f = bits (leNat (s.rowOctets g idx row 0 stride)) f.bit f.width := by
  have hfit : f.first + f.span ≤ stride := by unfold Fld.first Fld.span; omega
  have ha : cellKey idx row f.first = cellKey idx row 0 + f.first := by simp [cellKey]
  have h256 : ∀ k, 256 ^ k = 2 ^ (8 * k) := fun k => by rw [Nat.pow_mul]
  rw [fld_eq, ha, octets_part s g _ _ _ _ hfit, leNat_drop_take _ _ _ (by rw [octets_length]; exact hfit), h256, h256,
    bits_div_mod _ _ _ _ _ (by unfold Fld.span; omega), show 8 * f.first + f.bit % 8 = f.bit from Nat.div_add_mod f.bit 8]
  rfl

/-- A field that takes whole octets of a stored row reads as the number written there. -/
theorem fld_setRow (s : State) (g : Gen) (idx row : Nat) {f : Fld} {bs : List Byte} {i k v : Nat}
    (hbs : (bs.drop i).take k = leBytes k v) (hlen : i + k ≤ bs.length) (hb : f.bit = 8 * i) (hw : f.width = 8 * k) :
    ((Act.setRow g idx row 0 bs).run s).fld g idx row f = v % 2 ^ f.width := by
  have hstored := octets_block_self s g (cellKey idx row 0) bs
  have hdrop := leNat_drop_take bs i k hlen
  rw [hbs, leNat_leBytes] at hdrop
  rw [fld_eq_bits _ g idx row bs.length f (by omega)]
  unfold Act.setRow State.rowOctets
  rw [hstored]
  unfold bits
  rw [hb, hw, Nat.pow_mul, Nat.pow_mul]
  exact hdrop.symm

@[simp] theorem fld_emit (s : State) (o : Out) (g : Gen) (idx row : Nat) (f : Fld) :
    ((Act.emit o).run s).fld g idx row f = s.fld g idx row f := by
  cases g <;> rfl

@[simp] theorem status_block (s : State) (g : Gen) (a : Nat) (bs : List Byte) : ((Act.block g a bs).run s).status = s.status := by
  induction bs generalizing a s with
  | nil => rfl
  | cons b bs ih =>
    rw [Act.block, run_seq, ih]
    cases g <;> rfl

/-! ### The log of posted errors -/

/-- The image of an entry (R60). -/
def postedImage (s : State) (place bar status reason off requester : Nat) (data : List Byte) : List Byte :=
  leBytes 8 s.vns ++ leBytes 8 (place * 65536 + bar * 4096 + status) ++ leBytes 8 (off % 2 ^ 30 * 16)
    ++ leBytes 1 reason ++ leBytes 1 data.length ++ leBytes 2 requester ++ octetsAt data 0 4

/-- The act that takes the next row of the log for an image. -/
def takePosted (s : State) (image : List Byte) : Act :=
  Act.all [Act.setRow .live 0xF001 (s.get Key.postedErrorCount) 0 image, .put Key.postedErrorCount (s.get Key.postedErrorCount + 1),
    Act.when (s.flag Key.postedErrorVectorEnable) (.emit (.vector 0))]

/-- While the log has room, an entry takes its next row. -/
theorem run_logPosted (s : State) (place bar status reason off requester : Nat) (data : List Byte)
    (h : s.get Key.postedErrorCount < 16) : (logPosted place bar status reason off requester data).run s
      = (takePosted s (postedImage s place bar status reason off requester data)).run s := by
  simp only [logPosted, storeEntry, run_dep, if_pos h, takePosted, postedImage]

theorem status_takePosted (s : State) (image : List Byte) : ((takePosted s image).run s).status = s.status := by
  simp only [takePosted, Act.setRow, run_all_cons, run_all_nil, run_when]
  split <;> simp only [run_emit_status, run_put_status, status_block]

theorem get_takePosted (s : State) (image : List Byte) (h : s.get Key.postedErrorCount < 16) :
    ((takePosted s image).run s).get Key.postedErrorCount = s.get Key.postedErrorCount + 1 := by
  have hfit : (s.get Key.postedErrorCount + 1) % 256 = s.get Key.postedErrorCount + 1 := by omega
  simp only [takePosted, run_all_cons, run_all_nil, run_when]
  split <;> simp only [get_emit, get_put_self, regMod_postedErrorCount, hfit]

theorem fld_takePosted (s : State) (image : List Byte) (idx row : Nat) (f : Fld) : ((takePosted s image).run s).fld .live idx row f
    = ((Act.setRow .live 0xF001 (s.get Key.postedErrorCount) 0 image).run s).fld .live idx row f := by
  simp only [takePosted, run_all_cons, run_all_nil, run_when]
  split <;> simp only [fld_emit, fld_put]

/-- From `u` to `w` an access has ended with a status and has been logged with a reason and a target: the log takes one more row with
them and the vehicle time, and nothing else changes. -/
structure Logged (u w : State) (status reason target : Nat) : Prop where
  status : w.status = status
  count : w.get Key.postedErrorCount = u.get Key.postedErrorCount + 1
  reason : w.fld .live 0xF001 (u.get Key.postedErrorCount) F.postedReason = reason
  time : w.fld .live 0xF001 (u.get Key.postedErrorCount) F.postedTime = u.vtime / 65536
  target : w.fld .live 0xF001 (u.get Key.postedErrorCount) F.postedTarget = target
  rest : leavesRest u w (keysIn [Key.postedErrorCount]) (rowCells .live 0xF001 (u.get Key.postedErrorCount))

theorem within_takePosted (s : State) {image : List Byte} (h : image.length = 32) :
    Within (keysIn [Key.postedErrorCount]) (rowCells .live 0xF001 (s.get Key.postedErrorCount)) (takePosted s image) := by
  refine ⟨within_block _ _ _ fun i hi => ?_, List.mem_singleton.mpr rfl, within_when fun _ => trivial, trivial⟩
  have e : cellKey 0xF001 (s.get Key.postedErrorCount) 0 + i = cellKey 0xF001 (s.get Key.postedErrorCount) i := by simp [cellKey]
  rw [e]
  exact rowCells_mem (by omega)

theorem postedImage_length (s : State) (place bar status reason off requester : Nat) (data : List Byte) :
    (postedImage s place bar status reason off requester data).length = 32 := by
  simp only [postedImage, octetsAt, List.length_append, List.length_take, leBytes_length, List.length_replicate]
  omega

/-- The fields of an entry lie in its image one behind the other. -/
theorem fld_postedImage (s : State) (n place bar status reason off requester : Nat) (data : List Byte) (u : State) :
    let t := (Act.setRow .live 0xF001 n 0 (postedImage u place bar status reason off requester data)).run s
    t.fld .live 0xF001 n F.postedTime = u.vns % 2 ^ 64
      ∧ t.fld .live 0xF001 n F.postedTarget = (place * 65536 + bar * 4096 + status) % 2 ^ 64
      ∧ t.fld .live 0xF001 n F.postedReason = reason % 2 ^ 8 := by
  have hlen : (postedImage u place bar status reason off requester data).length = 32 := postedImage_length ..
  exact ⟨fld_setRow s _ _ _ (i := 0) (k := 8) rfl (by omega) rfl rfl, fld_setRow s _ _ _ (i := 8) (k := 8) rfl (by omega) rfl rfl,
    fld_setRow s _ _ _ (i := 24) (k := 1) rfl (by omega) rfl rfl⟩

/-- A posted error that is logged while the log has room makes an entry of its reason, its target and the vehicle time (R58, R60). -/
theorem logPosted_logged (s : State) (place bar status reason off requester : Nat) (data : List Byte)
    (hn : s.get Key.postedErrorCount < 16) (hv : s.vtime < 2 ^ 80) (ht : place * 65536 + bar * 4096 + status < 2 ^ 64)
    (hr : reason < 2 ^ 8) :
    Logged s ((logPosted place bar status reason off requester data).run s) s.status reason (place * 65536 + bar * 4096 + status) := by
  obtain ⟨h1, h2, h3⟩ := fld_postedImage s (s.get Key.postedErrorCount) place bar status reason off requester data s
  rw [Nat.mod_eq_of_lt (by unfold State.vns; omega)] at h1
  rw [Nat.mod_eq_of_lt ht] at h2
  rw [Nat.mod_eq_of_lt hr] at h3
  rw [run_logPosted _ _ _ _ _ _ _ _ hn]
  exact
    { status := status_takePosted ..
      count := get_takePosted _ _ hn
      reason := (fld_takePosted ..).trans h3
      time := (fld_takePosted ..).trans h1
      target := (fld_takePosted ..).trans h2
      rest := run_leavesRest _ s (within_takePosted s (postedImage_length ..)) }

/-! ### Posted writes -/

/-- A write that a rule stops: its value is not taken, and it has no effect. -/
def Wrote.refuses (w : Wrote) : Prop := w.status ≠ 0 ∧ w.status < 256 ∧ w.taken = false ∧ ∀ s, w.effect.run s = s

theorem refuses_ends {st : Nat} (h0 : st ≠ 0) (h : st < 256) : (Wrote.ends st).refuses := ⟨h0, h, rfl, fun _ => rfl⟩

/-- A posted write that takes effect is the write. -/
theorem run_postWrite_served {w : Wrote} (h : w.status = 0) (special : Option Nat) (place bar off requester : Nat) (data : List Byte)
    (s : State) : (postWrite w special place bar off requester data).run s = w.act.run s := by
  simp [postWrite, Wrote.act, h]

/-- The reason code of a posted write that is stopped with a status. -/
def postedReason (special : Option Nat) (status : Nat) : Option Nat := special <|> reasonOf status

/-- A posted write that a rule stops is logged with its reason, and nothing else happens. -/
theorem run_postWrite_refused {w : Wrote} (h : w.refuses) {special : Option Nat} {r : Nat} (hr : postedReason special w.status = some r)
    (place bar off requester : Nat) (data : List Byte) (s : State) :
    (postWrite w special place bar off requester data).run s
      = (logPosted place bar w.status r off requester data).run { s with status := w.status, data := [] } := by
  obtain ⟨h0, hlt, htaken, heff⟩ := h
  have hans : (Act.answer w.status []).run s = { s with status := w.status, data := [] } := by
    simp [Act.run, Nat.mod_eq_of_lt hlt]
  simp only [postWrite, run_seq, heff, hans, htaken, Bool.or_false, decide_eq_true_eq, if_neg h0]
  cases special with
  | some x => obtain rfl : x = r := Option.some.inj hr
              rfl
  | none =>
    have hr' : reasonOf w.status = some r := hr
    simp only [hr']

theorem leavesRest_answered (s : State) (st : Nat) (d : List Byte) {ks : Nat → Prop} {cs : Gen → Nat → Prop} :
    leavesRest s { s with status := st, data := d } ks cs :=
  ⟨fun _ _ => rfl, fun g _ _ => by cases g <;> rfl, rfl, rfl, rfl, rfl, rfl⟩

theorem postWrite_logged {w : Wrote} (h : w.refuses) {special : Option Nat} {r : Nat} (hr : postedReason special w.status = some r)
    (hr8 : r < 2 ^ 8) {place bar : Nat} (ht : place * 65536 + bar * 4096 + w.status < 2 ^ 64) (off requester : Nat) (data : List Byte)
    {u : State} (hn : u.get Key.postedErrorCount < 16) (hv : u.vtime < 2 ^ 80) :
    Logged u ((postWrite w special place bar off requester data).run u) w.status r (place * 65536 + bar * 4096 + w.status) := by
  rw [run_postWrite_refused h hr]
  have e := logPosted_logged { u with status := w.status, data := [] } place bar w.status r off requester data hn hv ht hr8
  exact ⟨e.status, e.count, e.reason, e.time, e.target, leavesRest_trans (leavesRest_answered u _ _) e.rest⟩

end Sys2Proof.Machine
end

section
/-! PROOFS. Which writes a rule stops, and posted writes of slots (R51). -/

namespace Sys2Proof.Machine

/-! ### Statuses -/

/-- A write that ends with 0x00 or is stopped. -/
def Wrote.settled (w : Wrote) : Prop := w.status = 0 ∨ w.refuses

theorem settled_ends {st : Nat} (h : st < 256) : (Wrote.ends st).settled := by
  by_cases h0 : st = 0
  · exact .inl h0
  · exact .inr (refuses_ends h0 h)

/-- A status and an effect: a status other than 0x00 is one octet and comes with no effect. -/
def stops (r : Nat × Act) : Prop := r.1 = 0 ∨ (r.1 < 256 ∧ ∀ s, r.2.run s = s)

theorem stops_done (a : Act) : stops (0, a) := .inl rfl
theorem stops_skip {st : Nat} (h : st < 256 := by decide) : stops (st, .skip) := .inr ⟨h, fun _ => rfl⟩

theorem settled_of_stops {r : Nat × Act} (h : stops r) : Wrote.settled ⟨r.1, r.2, r.1 == 0⟩ := by
  by_cases h0 : r.1 = 0
  · exact .inl h0
  · obtain ⟨hlt, heff⟩ := h.resolve_left h0
    exact .inr ⟨h0, hlt, by simpa using h0, heff⟩

theorem bindAttachment_stops (s : State) (p x : Nat) : stops (bindAttachment s p x) := by
  unfold bindAttachment
  dsimp only
  split
  · exact stops_done _
  · split
    · exact stops_done _
    · exact stops_skip

theorem enableRing_stops (s : State) (r v : Nat) : stops (enableRing s r v) := by
  unfold enableRing
  dsimp only
  split
  · split
    · exact stops_done _
    · split
      · exact stops_skip
      · exact stops_done _
  · exact stops_done _
  · split <;> exact stops_done _

/-- The write of an RW object is taken, or stopped without an effect. -/
theorem storeObject_stops (s : State) (idx sub x : Nat) : stops (storeObject s idx sub x) := by
  unfold storeObject
  dsimp only
  split
  case h_3 => exact bindAttachment_stops ..
  case h_14 => exact enableRing_stops ..
  all_goals exact stops_done _

/-! ### The statuses of commands -/

@[simp] theorem done_status (a : Act) : (Ran.done a).status = 0 := rfl
@[simp] theorem runs_status (a : Act) : (Ran.runs a).status = 3 := rfl
@[simp] theorem refused_status (st : Nat) : (Ran.refused st).status = st := rfl
@[simp] theorem answers_status (r : Nat × Act) : (Ran.answers r).status = r.1 := rfl

theorem submitJob_status (s : State) (p v : Nat) : (submitJob s p v).1 < 256 := by
  simp only [submitJob]
  repeat' split
  all_goals simp

theorem startAttest_status (s : State) : (startAttest s).1 < 256 := by
  simp only [startAttest]
  split <;> simp

theorem releaseSafe_status (s : State) : (releaseSafe s).1 < 256 := by
  simp only [releaseSafe]
  split <;> simp

theorem testPipeline_status (s : State) (n : Nat) : (testPipeline s n).1 < 256 := by
  simp only [testPipeline]
  repeat' split
  all_goals simp

theorem testCase_status {s : State} {r st : Nat} (h : s.testCase r = .refuse st) : st < 256 := by
  simp only [State.testCase] at h
  repeat' split at h
  all_goals cases h
  all_goals simp

theorem runTest_status (s : State) (r : Nat) : (runTest s r).1 < 256 := by
  simp only [runTest, tryTest]
  split
  · simp
  · split
    · simp
    · simp
    · split
      case h_1 st hcase => exact testCase_status hcase
      all_goals simp

theorem stopTest_status (s : State) (r : Nat) : (stopTest s r).1 < 256 := by
  simp only [stopTest]
  repeat' split
  all_goals simp

theorem openUpdate_status (s : State) (path : Path) (kind : Nat) : (openUpdate s path kind).1 < 256 := by
  simp only [openUpdate]
  repeat' split
  all_goals simp

theorem verifyUpdate_status (s : State) : (verifyUpdate s).1 < 256 := by
  simp only [verifyUpdate]
  split <;> simp

theorem activateUpdate_status (s : State) : (activateUpdate s).1 < 256 := by
  simp only [activateUpdate]
  split <;> simp

theorem stopUpdate_status (s : State) : (stopUpdate s).1 < 256 := by
  simp only [stopUpdate]
  split <;> simp

theorem starts_status {r : Nat × Act} (h : r.1 < 256) : (Ran.starts r).status < 256 := by
  unfold Ran.starts
  split
  · simp
  · exact h

theorem verifies_status {r : Nat × Act} (h : r.1 < 256) : (Ran.verifies r).status < 256 := by
  unfold Ran.verifies
  split
  · simp
  · exact h

theorem runSelfTest_status (s : State) (r : Nat) : (runSelfTest s r).status < 256 := by
  simp only [runSelfTest]
  split
  · exact runTest_status s r
  · split <;> simp

/-- Every command ends with a status of one octet. -/
theorem runCommand_status (s : State) (path : Path) (idx sub v : Nat) : (runCommand s path idx sub v).status < 256 := by
  unfold runCommand
  dsimp only
  split
  case h_1 | h_2 | h_38 => split <;> simp
  case h_23 => exact submitJob_status ..
  case h_25 => exact starts_status (startAttest_status s)
  case h_29 => exact releaseSafe_status s
  case h_33 => exact starts_status (testPipeline_status ..)
  case h_34 => exact runSelfTest_status ..
  case h_35 => exact stopTest_status ..
  case h_40 => exact openUpdate_status ..
  case h_41 => exact verifies_status (verifyUpdate_status s)
  case h_42 => exact activateUpdate_status s
  case h_43 => exact stopUpdate_status s
  all_goals simp

/-! ### Writes of objects that are taken or stopped -/

section
variable (s : State) (path : Path) (idx sub slot : Nat) (o : Obj)

/-- The write of an object's value, with its clamp counted. -/
def clampedWrite : Wrote :=
  let v := ofSlot o.ty slot
  let x := s.legalValue idx sub o v
  let w := writeValue s path idx sub x o
  ⟨w.status, Act.all [Act.when (w.taken && isClamp idx v x) (countClamp idx sub), w.effect], w.taken⟩

/-- A write of a slot is stopped by a rule that knows no value, or is the write of its object. -/
theorem writeScalarAt_cases : (∃ st < 256, writeScalarAt s path idx sub slot = .ends st)
    ∨ ∃ o, sub ≠ 0 ∧ s.objAt idx sub = some o ∧ writeScalarAt s path idx sub slot = clampedWrite s path idx sub slot o := by
  unfold writeScalarAt
  split
  · exact .inl ⟨3, by decide, rfl⟩
  split
  · exact .inl ⟨_, by split <;> decide, rfl⟩
  split
  · exact .inl ⟨_, by split <;> decide, rfl⟩
  rename_i hsub
  split
  · exact .inl ⟨1, by decide, rfl⟩
  rename_i o ho
  split
  · exact .inl ⟨2, by decide, rfl⟩
  split
  · exact .inl ⟨3, by decide, rfl⟩
  split
  · exact .inl ⟨0, by decide, rfl⟩
  · exact .inr ⟨o, hsub, ho, rfl⟩

theorem writeValue_status (x : Nat) : (writeValue s path idx sub x o).status < 256 := by
  unfold writeValue
  split
  · exact runCommand_status ..
  · rcases storeObject_stops s idx sub x with h | h
    · exact lt_of_eq_of_lt h (by decide)
    · exact h.1

theorem writeValue_settled (x : Nat) (hc : isCommand o = false) : (writeValue s path idx sub x o).settled := by
  unfold writeValue
  rw [if_neg (by simp [hc])]
  exact settled_of_stops (storeObject_stops s idx sub x)

variable {s path idx sub slot o}

theorem clampedWrite_settled (hc : isCommand o = false) : (clampedWrite s path idx sub slot o).settled := by
  refine (writeValue_settled s path idx sub o _ hc).imp_right fun ⟨h0, hlt, htaken, heff⟩ => ⟨h0, hlt, htaken, fun t => ?_⟩
  simp only [clampedWrite, run_all_cons, run_all_nil, htaken, Bool.false_and, run_when_false, heff]

/-- Every write of a slot ends with a status of one octet. -/
theorem writeScalarAt_status : (writeScalarAt s path idx sub slot).status < 256 := by
  rcases writeScalarAt_cases s path idx sub slot with ⟨st, hst, h⟩ | ⟨o, _, _, h⟩
  · exact h ▸ hst
  · exact h ▸ writeValue_status ..

/-- The write of a slot whose object is no command ends with 0x00 or is stopped. -/
theorem writeScalarAt_settled (hc : ∀ o, sub ≠ 0 → s.objAt idx sub = some o → isCommand o = false) :
    (writeScalarAt s path idx sub slot).settled := by
  rcases writeScalarAt_cases s path idx sub slot with ⟨st, hst, h⟩ | ⟨o, hs, ho, h⟩
  · exact h ▸ settled_ends hst
  · exact h ▸ clampedWrite_settled (hc o hs ho)

end

/-! ### Posted writes of one slot -/

theorem facing_pcie (s : State) (dt : Nat) : s.facing dt .pcie = s.after dt := rfl

/-- Vehicle time has 80 bits once time has passed (R7). -/
theorem after_vtime_lt (s : State) (dt : Nat) : (s.after dt).vtime < 2 ^ 80 := by
  simp only [State.after, tick, run_seq, run_dep]
  split
  · exact Nat.mod_lt _ (by decide)
  split
  · exact Nat.mod_lt _ (by decide)
  split <;> exact Nat.mod_lt _ (by decide)

/-- An access that stays within one block touches that block alone. -/
theorem blocksOf_one {off n size : Nat} (hn : n ≠ 0) (h : off % size + n ≤ size) : blocksOf off n size = [off / size] := by
  have hdiv : off / size * size + off % size = off := Nat.div_add_mod' off size
  have hlast : (off + n - 1) / size = off / size :=
    Nat.div_eq_of_lt_le (by omega) (by rw [Nat.succ_mul]; omega)
  simp [blocksOf, hn, hlast]

/-- And all its octets lie there. -/
theorem share_one {off n size : Nat} (h : off % size + n ≤ size) : share off n (off / size) size = (off % size, n) := by
  have hdiv : off / size * size + off % size = off := Nat.div_add_mod' off size
  unfold share
  rw [max_eq_left (by omega), min_eq_left (by omega)]
  exact Prod.ext (by dsimp only; omega) (by dsimp only; omega)

/-- The access that octets of one slot from octet `i` on make, while PCIe is served (R51). -/
def postPart (u : State) (idx sub i requester : Nat) (data : List Byte) : Act :=
  let post := fun w r => postWrite w r (placeOf idx sub 0) 1 (8 * (idx * 256 + sub) + i) requester data
  match u.valueOctets idx sub with
  | none => post (.ends 1) none
  | some n =>
    if n ≤ i then .answer 0 []
    else if i != 0 || data.length < n then post (.ends 2) (some 4)
    else post (writeScalarAt u .pcie idx sub (leNat data)) none

section
variable {u : State} {idx sub n i : Nat} {data : List Byte} (requester : Nat)

/-- A posted write within one slot is one access. -/
theorem run_hostWrite_one (hs : sub < 256) (hd : data.length ≠ 0) (hi : i + data.length ≤ 8) (hser : u.serves .pcie = true) :
    (hostWrite (8 * (idx * 256 + sub) + i) requester data).run u = (postPart u idx sub i requester data).run u := by
  have hmod : (8 * (idx * 256 + sub) + i) % 8 = i := by omega
  have hdiv : (8 * (idx * 256 + sub) + i) / 8 = idx * 256 + sub := by omega
  have hblocks := blocksOf_one (off := 8 * (idx * 256 + sub) + i) (size := 8) hd (by omega)
  have hshare := share_one (off := 8 * (idx * 256 + sub) + i) (size := 8) (n := data.length) (by omega)
  have hat : (idx * 256 + sub) * 8 + i = 8 * (idx * 256 + sub) + i := by omega
  rw [hdiv] at hblocks hshare
  rw [hmod] at hshare
  cases hv : u.valueOctets idx sub <;>
    simp only [hostWrite, hblocks, run_each_cons, run_each_nil, postSlot, run_dep, hshare, Nat.sub_self, List.drop_zero,
      List.take_length, key_index hs, key_sub hs, hser, Bool.not_true, Bool.false_eq_true, if_false, hat, postPart, hv]

theorem postPart_absent (hv : u.valueOctets idx sub = none) : postPart u idx sub i requester data
    = postWrite (.ends 1) none (placeOf idx sub 0) 1 (8 * (idx * 256 + sub) + i) requester data := by
  simp only [postPart, hv]

theorem postPart_beyond (hv : u.valueOctets idx sub = some n) (hn : n ≤ i) : postPart u idx sub i requester data = .answer 0 [] := by
  simp only [postPart, hv, if_pos hn]

theorem postPart_short (hv : u.valueOctets idx sub = some n) (hn : data.length < n) : postPart u idx sub 0 requester data
    = postWrite (.ends 2) (some 4) (placeOf idx sub 0) 1 (8 * (idx * 256 + sub) + 0) requester data := by
  simp [postPart, hv, hn, Nat.ne_zero_of_lt hn]

theorem postPart_whole (hv : u.valueOctets idx sub = some n) (h0 : n ≠ 0) (hn : n ≤ data.length) : postPart u idx sub 0 requester data
    = postWrite (writeScalarAt u .pcie idx sub (leNat data)) none (placeOf idx sub 0) 1 (8 * (idx * 256 + sub) + 0) requester data := by
  simp [postPart, hv, h0, hn]

end

/-- A value takes one to eight octets of its slot (R34). -/
theorem valueOctets_bounds {u : State} {idx sub n : Nat} (h : u.valueOctets idx sub = some n) : 1 ≤ n ∧ n ≤ 8 := by
  simp only [State.valueOctets] at h
  split at h
  · split at h
    · cases h; decide
    · split at h <;> cases h
      decide
  · split at h
    · obtain ⟨_, _, rfl⟩ := Option.map_eq_some_iff.mp h
      decide
    · obtain ⟨o, _, rfl⟩ := Option.map_eq_some_iff.mp h
      cases o.ty <;> decide

/-! ### What a posted write of one slot leaves -/

/-- HOST_SCALAR_WRITE of octets of a slot from octet `i` on. -/
theorem exec_hostScalarWrite (dt : Nat) {slot i : Nat} (hslot : slot < 2 ^ 24) (hi : i < 8) (data : List Byte) (req : BitVec 16)
    (s : State) : exec (.hostScalarWrite dt (BitVec.ofNat 27 (8 * slot + i)) data req) s
      = .next ((hostWrite (8 * slot + i) req.toNat data).run (s.after dt)) := by
  change Host.Outcome.next ((hostWrite (BitVec.ofNat 27 (8 * slot + i)).toNat req.toNat data).run (s.after dt)) = _
  rw [BitVec.toNat_ofNat, Nat.mod_eq_of_lt (by omega)]

/-- The target of an entry for a slot (R60). -/
theorem placeOf_slot (idx : Nat) {sub : Nat} (hs : sub < 256) (status : Nat) :
    placeOf idx sub 0 * 65536 + 1 * 4096 + status = (idx * 256 + sub) * 2 ^ 40 + 1 * 4096 + status := by
  unfold placeOf
  omega

section
variable {u : State} {idx sub n : Nat} {data : List Byte} (requester : Nat)

/-- A posted write of one slot that a rule stops, with the reason for it, is logged. -/
theorem postWrite_slot_logged {w : Wrote} (hw : w.refuses) {special : Option Nat} {r : Nat}
    (hr : postedReason special w.status = some r) (hr8 : r < 2 ^ 8) (hi : idx < 2 ^ 16) (hs : sub < 256)
    (hn : u.get Key.postedErrorCount < 16) (hv : u.vtime < 2 ^ 80) (off : Nat) :
    Logged u ((postWrite w special (placeOf idx sub 0) 1 off requester data).run u) w.status r
      ((idx * 256 + sub) * 2 ^ 40 + 1 * 4096 + w.status) := by
  have hlt := hw.2.1
  have ht := placeOf_slot idx hs w.status
  exact ht ▸ postWrite_logged hw hr hr8 (by omega) off requester data hn hv

/-- Of a slot that holds no object. -/
theorem hostWrite_absent_logged (hi : idx < 2 ^ 16) (hs : sub < 256) (hser : u.serves .pcie = true)
    (hoct : u.valueOctets idx sub = none) (hd : data.length = 8) (hn : u.get Key.postedErrorCount < 16) (hv : u.vtime < 2 ^ 80) :
    Logged u ((hostWrite (8 * (idx * 256 + sub) + 0) requester data).run u) 1 2 ((idx * 256 + sub) * 2 ^ 40 + 1 * 4096 + 1) := by
  rw [run_hostWrite_one requester hs (by omega) (by omega) hser, postPart_absent requester hoct]
  exact postWrite_slot_logged requester (refuses_ends (by decide) (by decide)) rfl (by decide) hi hs hn hv _

/-- Of a part of the value alone. -/
theorem hostWrite_short_logged (hi : idx < 2 ^ 16) (hs : sub < 256) (hser : u.serves .pcie = true)
    (hoct : u.valueOctets idx sub = some n) (hd : 0 < data.length) (hshort : data.length < n)
    (hn : u.get Key.postedErrorCount < 16) (hv : u.vtime < 2 ^ 80) :
    Logged u ((hostWrite (8 * (idx * 256 + sub) + 0) requester data).run u) 2 4 ((idx * 256 + sub) * 2 ^ 40 + 1 * 4096 + 2) := by
  have hbound := valueOctets_bounds hoct
  rw [run_hostWrite_one requester hs (by omega) (by omega) hser, postPart_short requester hoct hshort]
  exact postWrite_slot_logged requester (refuses_ends (by decide) (by decide)) rfl (by decide) hi hs hn hv _

/-- A posted write of a whole slot is the write of its object by PCIe. -/
theorem run_hostWrite_whole (hs : sub < 256) (hser : u.serves .pcie = true) (hoct : u.valueOctets idx sub = some n)
    (hd : data.length = 8) : (hostWrite (8 * (idx * 256 + sub) + 0) requester data).run u
      = (postWrite (writeScalarAt u .pcie idx sub (leNat data)) none (placeOf idx sub 0) 1 (8 * (idx * 256 + sub) + 0) requester data).run u := by
  have hbound := valueOctets_bounds hoct
  rw [run_hostWrite_one requester hs (by omega) (by omega) hser, postPart_whole requester hoct (by omega) (by omega)]

/-- A posted write that touches no octet of the value is ignored. -/
theorem run_hostWrite_beyond {i : Nat} (hs : sub < 256) (hser : u.serves .pcie = true) (hoct : u.valueOctets idx sub = some n)
    (hn : n ≤ i) (hd : data.length ≠ 0) (hi : i + data.length ≤ 8) :
    (hostWrite (8 * (idx * 256 + sub) + i) requester data).run u = (Act.answer 0 []).run u := by
  rw [run_hostWrite_one requester hs hd hi hser, postPart_beyond requester hoct hn]

end

/-- The reasons of R61 are those that the log gives. -/
theorem reasonOf_of_mem {status r : Nat} (h : (status, r) ∈ postedReasons) : reasonOf status = some r ∧ status ≠ 0 ∧ r < 2 ^ 8 := by
  simp only [postedReasons, List.mem_cons, Prod.mk.injEq, List.not_mem_nil, or_false] at h
  rcases h with ⟨rfl, rfl⟩ | ⟨rfl, rfl⟩ | ⟨rfl, rfl⟩ | ⟨rfl, rfl⟩ | ⟨rfl, rfl⟩ <;> decide

/-- The status of an access is that of its write. -/
theorem status_wrote {w : Wrote} (h : w.status < 256) (u : State) : (w.act.run u).status = w.status := Nat.mod_eq_of_lt h

end Sys2Proof.Machine
end

section
/-! PROOFS. The fields of a row, and a write of octets to the Sketch (R33, R36, R42, R44). -/

namespace Sys2Proof.Machine

/-! ### Fields that lie apart -/

/-- Two fields share no bit. -/
def Fld.apart (f f' : Fld) : Bool := decide (f.bit + f.width ≤ f'.bit) || decide (f'.bit + f'.width ≤ f.bit)

theorem bits_setBits_apart {f f' : Fld} (h : f.apart f' = true) (v x : Nat) :
    bits (setBits v f'.bit f'.width x) f.bit f.width = bits v f.bit f.width := by
  simp only [Fld.apart, Bool.or_eq_true, decide_eq_true_eq] at h
  rcases h with h | h
  · exact bits_setBits_below _ _ _ _ _ _ h
  · exact bits_setBits_above _ _ _ _ _ _ h

theorem Fld.apart_comm {f f' : Fld} (h : f.apart f' = true) : f'.apart f = true := by
  simpa [Fld.apart, Bool.or_comm] using h

/-- What one field contributes to a merged row image. -/
def mergeField (new off n : Nat) (a : Nat × Bool) (f : Fld) : Nat × Bool :=
  if f.ro || !f.touched off n then a
  else
    let v := bits new f.bit f.width
    let x := clampTo f.legal f.width f.dflt v
    (setBits a.1 f.bit f.width x, a.2 || x != v)

theorem mergeFields_eq (fs : List Fld) (old new off n : Nat) : mergeFields fs old new off n = fs.foldl (mergeField new off n) (old, false) := rfl

theorem bits_mergeField_apart {f f' : Fld} (h : f.apart f' = true) (new off n : Nat) (a : Nat × Bool) :
    bits (mergeField new off n a f').1 f.bit f.width = bits a.1 f.bit f.width := by
  unfold mergeField
  split
  · rfl
  · exact bits_setBits_apart h _ _

theorem bits_foldl_apart {f : Fld} {fs : List Fld} (h : ∀ f' ∈ fs, f.apart f' = true) (new off n : Nat) (a : Nat × Bool) :
    bits (fs.foldl (mergeField new off n) a).1 f.bit f.width = bits a.1 f.bit f.width := by
  induction fs generalizing a with
  | nil => rfl
  | cons f' fs ih =>
    rw [List.foldl_cons, ih (fun g hg => h g (List.mem_cons_of_mem _ hg)), bits_mergeField_apart (h f' List.mem_cons_self)]

/-- A written field of a merged row takes the legal value nearest to the written one (R36). -/
theorem bits_foldl_written {f : Fld} {fs : List Fld} (hf : f ∈ fs) (hp : fs.Pairwise fun f f' => f.apart f' = true) {off n : Nat}
    (hro : f.ro = false) (ht : f.touched off n = true) (new : Nat) (a : Nat × Bool) :
    bits (fs.foldl (mergeField new off n) a).1 f.bit f.width
      = clampTo f.legal f.width f.dflt (bits new f.bit f.width) % 2 ^ f.width := by
  induction fs generalizing a with
  | nil => cases hf
  | cons f' fs ih =>
    obtain ⟨hhead, htail⟩ := List.pairwise_cons.mp hp
    rw [List.foldl_cons]
    rcases List.mem_cons.mp hf with rfl | hf
    · rw [bits_foldl_apart hhead]
      simp only [mergeField, hro, ht, Bool.not_true, Bool.or_false, Bool.false_eq_true, if_false, bits_setBits]
    · exact ih hf htail _

/-! ### The layouts -/

/-- Whether the fields of a row lie apart, and within its octets. -/
def layoutFits (fs : List Fld) (stride : Nat) : Bool :=
  decide (fs.Pairwise fun f f' => f.apart f' = true) && fs.all fun f => decide (f.bit + f.width ≤ 8 * stride)

theorem layouts_fit : (tables.all fun t => layoutFits (layout t.idx) t.stride && decide (t.stride ≤ 4096) && decide (t.idx < 2 ^ 16)) = true := by
  decide +kernel

theorem tableOf_mem {idx : Nat} {t : Tab} (h : tableOf idx = some t) : t ∈ tables ∧ t.idx = idx :=
  ⟨List.mem_of_find?_eq_some h, by simpa using List.find?_some h⟩

theorem tableOf_bounds {idx : Nat} {t : Tab} (h : tableOf idx = some t) :
    layoutFits (layout idx) t.stride = true ∧ t.stride ≤ 4096 ∧ idx < 2 ^ 16 := by
  obtain ⟨hmem, rfl⟩ := tableOf_mem h
  simpa [and_assoc] using List.all_eq_true.mp layouts_fit t hmem

/-- The rows of HolrenCertificate, whose layouts differ (R253). -/
theorem certificate_fits (row : Nat) : layoutFits (rowLayout 0xF076 row) 16 = true := by
  simp only [rowLayout, if_true]
  split
  case h_5 => split <;> decide
  all_goals decide

/-- The fields of a row of any table lie apart and within the row. -/
theorem rowLayout_fits {idx : Nat} {t : Tab} (h : tableOf idx = some t) (row : Nat) : layoutFits (rowLayout idx row) t.stride = true := by
  by_cases hi : idx = 0xF076
  · subst hi
    obtain rfl := Option.some.inj h
    exact certificate_fits row
  · have hl : rowLayout idx row = layout idx := if_neg hi
    exact hl ▸ (tableOf_bounds h).1

/-! ### Storing a row image -/

/-- The octets of a row after some of them are stored. -/
theorem octet_storeCells (s : State) (g : Gen) (idx row : Nat) (v : Nat → Byte) (l : List Nat) (j : Nat) :
    ((Act.each l fun i => .cell g (cellKey idx row i) (v i)).run s).octet g (cellKey idx row j)
      = if j ∈ l then v j else s.octet g (cellKey idx row j) := by
  induction l generalizing s with
  | nil => simp
  | cons i l ih =>
    rw [run_each_cons, ih]
    by_cases hj : j ∈ l
    · simp [hj]
    · by_cases hji : j = i
      · subst hji
        simp [hj]
      · have hkey : cellKey idx row j ≠ cellKey idx row i := by unfold cellKey; omega
        simp [hj, hji, octet_cell_ne _ _ _ hkey]

theorem getElem_rowOctets (s : State) (g : Gen) (idx row n : Nat) {i : Nat} (h : i < (s.rowOctets g idx row 0 n).length) :
    (s.rowOctets g idx row 0 n)[i] = s.octet g (cellKey idx row i) := by
  simp [State.rowOctets, State.octets, cellKey]

/-- A row reads as the image stored in it. -/
theorem rowOctets_setImage (s : State) (g : Gen) (idx row stride new : Nat) :
    ((Act.setImage g idx row stride (leNat (s.rowOctets g idx row 0 stride)) new).run s).rowOctets g idx row 0 stride
      = leBytes stride new := by
  have hlen : (s.rowOctets g idx row 0 stride).length = stride := octets_length ..
  have hold : leBytes stride (leNat (s.rowOctets g idx row 0 stride)) = s.rowOctets g idx row 0 stride := by
    have h := leBytes_leNat (s.rowOctets g idx row 0 stride)
    rwa [hlen] at h
  refine List.ext_getElem (by simp [State.rowOctets, octets_length]) fun i h1 h2 => ?_
  have hi : i < stride := by simpa using h2
  have hwas : (s.rowOctets g idx row 0 stride)[i]? = some (s.octet g (cellKey idx row i)) := by
    rw [List.getElem?_eq_getElem (by rw [hlen]; exact hi), getElem_rowOctets]
  have hnew : (leBytes stride new)[i]? = some (leBytes stride new)[i] := List.getElem?_eq_getElem h2
  rw [getElem_rowOctets, Act.setImage, octet_storeCells, hold]
  simp only [List.mem_filter, List.mem_range, hi, true_and, hwas, hnew, bne_iff_ne, ne_eq, Option.some.injEq, List.getD_eq_getElem?_getD,
    Option.getD_some]
  split
  · rfl
  · rename_i h
    exact not_not.mp h

/-- A field of a row reads as it stands in the image stored in the row. -/
theorem fld_setImage (s : State) (g : Gen) (idx row stride new : Nat) (f : Fld) (h : f.bit + f.width ≤ 8 * stride) :
    ((Act.setImage g idx row stride (leNat (s.rowOctets g idx row 0 stride)) new).run s).fld g idx row f = bits new f.bit f.width := by
  have hdiv := bits_div_mod new 0 (8 * stride) f.bit f.width h
  rw [Nat.pow_zero, Nat.div_one, Nat.zero_add] at hdiv
  rw [fld_eq_bits _ g idx row stride f h, rowOctets_setImage, leNat_leBytes, show 256 = 2 ^ 8 from rfl, ← Nat.pow_mul, hdiv]

theorem within_setImage {ks : Nat → Prop} {g : Gen} {idx row stride old new : Nat} (h : stride ≤ 4096) :
    Within ks (rowCells g idx row) (Act.setImage g idx row stride old new) :=
  within_each fun i hi => by
    have hlt : i < stride := List.mem_range.mp (List.mem_of_mem_filter hi)
    exact rowCells_mem (by omega)

/-! ### Writes to the Sketch -/

theorem fld_countRow (s : State) (idx : Nat) (c : Bool) (idx' row : Nat) (f : Fld) :
    ((countRow idx c).run s).fld .sketch idx' row f = s.fld .sketch idx' row f := by
  rw [countRow, run_when]
  split
  · rw [countClamp, Act.bumpF, run_dep, fld_setF_gen _ _ _ _ _ _ _ _ (by decide)]
  · rfl

theorem fld_whenEdited (s : State) (c : Bool) (g : Gen) (idx row : Nat) (f : Fld) :
    ((Act.when c edited).run s).fld g idx row f = s.fld g idx row f := by
  simp only [edited, run_when, run_dep]
  split
  · split
    · exact fld_put ..
    · rfl
  · rfl

theorem within_edited {cs : Gen → Nat → Prop} : Within (keysIn [Key.commitState]) cs edited :=
  fun _ => within_when fun _ => List.mem_singleton.mpr rfl

theorem within_countRow {ks : Nat → Prop} {idx : Nat} (h : idx < 2 ^ 16) (c : Bool) : Within ks clampCells (countRow idx c) := by
  refine within_when fun _ => within_mono (fun _ hk => hk) (fun g a ha => ?_) _ (within_countClamp ks idx 0)
  obtain ⟨hg, hlo, hhi⟩ := ha
  unfold cellKey at hlo hhi
  exact ⟨hg, by omega⟩

/-- Of the tables of the Sketch, a rule clamps four further (R139, R172, R177, R275). -/
theorem refineRow_staged {idx : Nat} {t : Tab} (ht : tableOf idx = some t) (hst : t.staged = true) (h1 : idx ≠ 0xF042) (h3 : idx ≠ 0xF051)
    (h4 : idx ≠ 0xF081) (row off n : Nat) (img : Nat × Bool) : refineRow idx row off n img = img := by
  have hno : ∀ i, (tableOf i).all (fun t => !t.staged) = true → idx ≠ i := by
    rintro i hi rfl
    simp [ht, hst] at hi
  have h94 : idx ≠ 0xF094 := hno _ (by decide)
  have h95 : idx ≠ 0xF095 := hno _ (by decide)
  have hA0 : idx ≠ 0xF0A0 := hno _ (by decide)
  unfold refineRow
  dsimp only
  split
  case h_7 => rfl
  all_goals contradiction

section
variable {u : State} {path : Path} {idx row off : Nat} {data : List Byte} {t : Tab}

/-- The merged image of a row that a write to its Sketch leaves (R33, R36). -/
def mergedRow (u : State) (t : Tab) (idx row off : Nat) (data : List Byte) : Nat × Bool :=
  let octs := u.rowOctets .sketch idx row 0 t.stride
  mergeFields (rowLayout idx row) (leNat octs) (leNat (overlay octs off data)) off data.length

/-- What a write to the Sketch does where no rule beside the layout clamps the row. -/
def sketchWrite (u : State) (t : Tab) (idx row off : Nat) (data : List Byte) : Act :=
  .seq (.seq (Act.setImage .sketch idx row t.stride (leNat (u.rowOctets .sketch idx row 0 t.stride)) (mergedRow u t idx row off data).1)
      (countRow idx (mergedRow u t idx row off data).2))
    (Act.when ((rowLayout idx row).any fun f => !f.ro && f.touched off data.length) edited)

theorem writeRowAt_sketch (h : u.serves path = true) (ht : tableOf idx = some t) (hin : t.holds row off data.length)
    (hw : u.mayWriteRow path t row true = true) (hb : u.rowBusy path t row off data.length = false) (hst : t.staged = true)
    (h1 : idx ≠ 0xF042) (h2 : idx ≠ 0xF050) (h3 : idx ≠ 0xF051) (h4 : idx ≠ 0xF081) :
    writeRowAt u path idx row true off data = ⟨0, sketchWrite u t idx row off data, true⟩ := by
  simp only [writeRowAt, h, ht, Tab.inside_iff.mpr hin, hw, hb, hst, Bool.not_true, Bool.false_eq_true, if_false, if_true,
    refineRow_staged ht hst h1 h3 h4, writeStaged, (tableOf_mem ht).2, if_neg h2, sketchWrite, mergedRow]

theorem sketchWrite_leavesRest (ht : tableOf idx = some t) :
    leavesRest u ((sketchWrite u t idx row off data).run u) (keysIn [Key.commitState]) (bothCells (rowCells .sketch idx row) clampCells) := by
  obtain ⟨_, hstride, hidx⟩ := tableOf_bounds ht
  refine run_leavesRest _ u ⟨⟨?_, ?_⟩, within_when fun _ => within_edited⟩
  · exact within_mono (fun _ hk => hk) (fun _ _ => .inl) _ (within_setImage (ks := keysIn [Key.commitState]) hstride)
  · exact within_mono (fun _ hk => hk) (fun _ _ => .inr) _ (within_countRow (ks := keysIn [Key.commitState]) hidx _)

/-- A field that the write touches takes the legal value nearest to the written one. -/
theorem sketchWrite_field (ht : tableOf idx = some t) {f : Fld} (hf : f ∈ rowLayout idx row) (hro : f.ro = false)
    (htouch : f.touched off data.length = true) : ((sketchWrite u t idx row off data).run u).fld .sketch idx row f
      = clampTo f.legal f.width f.dflt (bits (leNat (overlay (u.rowOctets .sketch idx row 0 t.stride) off data)) f.bit f.width)
        % 2 ^ f.width := by
  have hfits := rowLayout_fits ht row
  simp only [layoutFits, Bool.and_eq_true, decide_eq_true_eq, List.all_eq_true] at hfits
  obtain ⟨hapart, hwithin⟩ := hfits
  have hmerged := bits_foldl_written hf hapart hro htouch (leNat (overlay (u.rowOctets .sketch idx row 0 t.stride) off data))
    (leNat (u.rowOctets .sketch idx row 0 t.stride), false)
  have hrow : ((sketchWrite u t idx row off data).run u).fld .sketch idx row f = bits (mergedRow u t idx row off data).1 f.bit f.width := by
    rw [sketchWrite, run_seq, run_seq, fld_whenEdited, fld_countRow, fld_setImage _ _ _ _ _ _ _ (hwithin f hf)]
  exact hrow.trans hmerged

end

end Sys2Proof.Machine
end

section
/-! PROOFS. Which row writes a rule stops, posted writes of rows (R54 to R56), and the statement about posted writes. -/

namespace Sys2Proof.Machine

/-! ### Row writes that are taken or stopped -/

theorem loadCase_status {s : State} {n image st : Nat} (h : s.loadCase n image = .refuse st) : st < 256 := by
  simp only [State.loadCase] at h
  repeat' split at h
  all_goals cases h
  all_goals decide

theorem writeLoad_stops (s : State) (n image : Nat) : stops (writeLoad s n image) := by
  unfold writeLoad
  split
  case h_1 st hcase => exact stops_skip (loadCase_status hcase)
  all_goals exact stops_done _

theorem writeInvalidate_stops (s : State) (n : Nat) : stops (writeInvalidate s n) := by
  unfold writeInvalidate
  split
  · exact stops_skip
  · split <;> exact stops_done _

/-- The write of a KeyTable row takes its clamp counter up only where its operation is taken. -/
theorem writeKey_stops (s : State) (row off n old new : Nat) : stops (writeKey s row off n old new) := by
  have hcount : ∀ (c : Bool) (r : Nat × Act), stops r → stops (r.1, .seq (countRow 0xF098 (c && r.1 == 0)) r.2) := by
    intro c r h
    refine or_iff_not_imp_left.mpr fun h0 => ?_
    obtain ⟨hlt, heff⟩ := h.resolve_left h0
    have hno : (r.1 == 0) = false := by simpa using h0
    exact ⟨hlt, fun u => by simp only [hno, Bool.and_false, countRow, run_seq, run_when_false, heff]⟩
  unfold writeKey
  refine hcount _ _ ?_
  split
  · exact writeLoad_stops ..
  · exact writeInvalidate_stops ..
  · exact stops_done _

theorem takeRow_stops (s : State) (path : Path) (row off : Nat) (data : List Byte) : stops (takeRow s path row off data) := by
  unfold takeRow
  split
  · exact stops_skip
  split
  · exact stops_skip
  split
  · exact stops_skip
  split
  · exact stops_skip
  · exact stops_done _

theorem writeImageKey_stops (s : State) (row : Nat) (written : Bool) (image : List Byte) : stops (writeImageKey s row written image) := by
  unfold writeImageKey
  dsimp only
  split
  · exact stops_done _
  split
  · exact stops_done _
  · exact stops_skip

theorem rowFault_status {s : State} {idx row off n new st : Nat} (h : s.rowFault idx row off n new = some st) : st < 256 := by
  simp only [State.rowFault] at h
  repeat' split at h
  all_goals cases h
  all_goals decide

/-- A write of an unstaged row is taken, or stopped without an effect. -/
theorem writeUnstaged_stops (s : State) (path : Path) (t : Tab) (row off : Nat) (data : List Byte) :
    stops (writeUnstaged s path t row off data) := by
  unfold writeUnstaged
  dsimp only
  split
  case h_3 => exact writeKey_stops ..
  case h_5 => exact takeRow_stops ..
  case h_6 => exact writeImageKey_stops ..
  case h_7 =>
    split
    · exact stops_done _
    · split
      case h_1 st hfault => exact stops_skip (rowFault_status hfault)
      case h_2 => exact stops_done _
  all_goals exact stops_done _

/-- A write of a row ends with 0x00 or is stopped. -/
theorem writeRowAt_settled (s : State) (path : Path) (idx row : Nat) (sketch : Bool) (off : Nat) (data : List Byte) :
    (writeRowAt s path idx row sketch off data).settled := by
  unfold writeRowAt
  dsimp only
  split
  · exact settled_ends (by decide)
  split
  · exact settled_ends (by decide)
  split
  · exact settled_ends (by decide)
  split
  · exact settled_ends (by decide)
  split
  · exact settled_ends (by decide)
  split
  · exact .inl rfl
  · exact settled_of_stops (writeUnstaged_stops ..)

theorem settled_status {w : Wrote} (h : w.settled) : w.status < 256 := by
  rcases h with h | h
  · exact lt_of_eq_of_lt h (by decide)
  · exact h.2.1

/-- A settled write whose status is not 0x00 is stopped. -/
theorem refuses_of_settled {w : Wrote} (h : w.settled) (h0 : w.status ≠ 0) : w.refuses := h.resolve_left h0

/-! ### Posted writes of one row -/

section
variable {u : State} {off : Nat} {data : List Byte} {t : Tab} (requester : Nat)

/-- The row of the bound table that a BAR2 offset reaches (R54). -/
def State.rowAt (u : State) (off : Nat) (t : Tab) : Nat := (u.bindingAt off).2.2 + off % 0x4000000 / t.stride

/-- The write that octets posted to one row of an aperture make. -/
def State.rowPosted (u : State) (off : Nat) (t : Tab) (data : List Byte) : Wrote :=
  writeRowAt u .pcie (u.bindingAt off).1 (u.rowAt off t) (u.bindingAt off).2.1 (off % 0x4000000 % t.stride) data

/-- The reason code that R42 or R56 gives a posted write of a row that ends with 0x02. -/
def State.rowReason (u : State) (off : Nat) (t : Tab) (data : List Byte) : Option Nat :=
  let fair := t.staged && !(u.bindingAt off).2.1 && u.mayWriteRow .pcie t (u.rowAt off t) true
  let partRow := t.idx == 0xF0C0 && u.ownsUpdate .pcie && u.get Key.updateState == 2 && data.length != 256
  let st := (u.rowPosted off t data).status
  if st = 2 && fair then some 5 else if st = 2 && partRow then some 4 else none

/-- Octets posted within one row are one access. -/
theorem run_postRows_one (ht : tableOf (u.bindingAt off).1 = some t) (hd : data.length ≠ 0)
    (hx : off % 0x4000000 % t.stride + data.length ≤ t.stride) : (postRows off requester data).run u
      = (postWrite (u.rowPosted off t data) (u.rowReason off t data) (placeOf (u.bindingAt off).1 0 (u.rowAt off t)) 2 off requester data).run u := by
  have hdiv : off % 0x4000000 / t.stride * t.stride + off % 0x4000000 % t.stride = off % 0x4000000 := Nat.div_add_mod' _ _
  have hat : off - off % 0x4000000 + off % 0x4000000 / t.stride * t.stride + off % 0x4000000 % t.stride = off := by
    have := Nat.mod_le off 0x4000000
    omega
  simp only [postRows, run_dep, ht, blocksOf_one hd hx, share_one hx, run_each_cons, run_each_nil, hdiv, hat, Nat.sub_self, List.drop_zero,
    List.take_length, State.rowPosted, State.rowReason, State.rowAt] <;> rfl

/-- Octets posted to an aperture that is bound to no table. -/
theorem run_postRows_unbound (ht : tableOf (u.bindingAt off).1 = none) (hser : u.serves .pcie = true) :
    (postRows off requester data).run u
      = (postWrite (.ends 1) (some 7) (placeOf (u.bindingAt off).1 0 (u.bindingAt off).2.2) 2 off requester data).run u := by
  simp only [postRows, run_dep, ht, hser, if_true]

theorem rowReason_none (hidx : t.idx ≠ 0xF0C0)
    (hfair : t.staged = false ∨ (u.bindingAt off).2.1 = true ∨ u.mayWriteRow .pcie t (u.rowAt off t) true = false) :
    u.rowReason off t data = none := by
  have hno : (t.staged && !(u.bindingAt off).2.1 && u.mayWriteRow .pcie t (u.rowAt off t) true) = false := by
    rcases hfair with h | h | h <;> simp [h]
  have hpart : (t.idx == 0xF0C0) = false := by simpa using hidx
  simp only [State.rowReason, hno, hpart, Bool.false_and, Bool.and_false, Bool.false_eq_true, if_false]

theorem rowReason_fair (hst : t.staged = true) (hbit : (u.bindingAt off).2.1 = false)
    (hmay : u.mayWriteRow .pcie t (u.rowAt off t) true = true) (h2 : (u.rowPosted off t data).status = 2) :
    u.rowReason off t data = some 5 := by
  simp [State.rowReason, hst, hbit, hmay, h2]

/-- The bound index has 16 bits, so the target of an entry for a row has 64 (R60). -/
theorem rowTarget_lt (row : Nat) {status : Nat} (h : status < 256) :
    placeOf (u.bindingAt off).1 0 row * 65536 + 2 * 4096 + status < 2 ^ 64 := by
  have hidx : (u.bindingAt off).1 < 65536 := Nat.mod_lt _ (by decide)
  generalize (u.bindingAt off).1 = idx at hidx
  unfold placeOf
  omega

/-- A posted write of one row that a rule stops, with the reason for it, is logged. -/
theorem postWrite_row_logged {w : Wrote} (hw : w.refuses) {special : Option Nat} {r : Nat}
    (hr : postedReason special w.status = some r) (hr8 : r < 2 ^ 8) (row : Nat) (hn : u.get Key.postedErrorCount < 16)
    (hv : u.vtime < 2 ^ 80) : Logged u ((postWrite w special (placeOf (u.bindingAt off).1 0 row) 2 off requester data).run u)
      w.status r (placeOf (u.bindingAt off).1 0 row * 65536 + 2 * 4096 + w.status) :=
  postWrite_logged hw hr hr8 (rowTarget_lt row hw.2.1) off requester data hn hv

/-- The write of a Sketch that no rule beside its layout clamps. -/
theorem rowPosted_sketch (hser : u.serves .pcie = true) (ht : tableOf (u.bindingAt off).1 = some t)
    (hin : t.holds (u.rowAt off t) (off % 0x4000000 % t.stride) data.length) (hst : t.staged = true)
    (hbit : (u.bindingAt off).2.1 = true) (hmay : u.mayWriteRow .pcie t (u.rowAt off t) true = true)
    (hbusy : u.rowBusy .pcie t (u.rowAt off t) (off % 0x4000000 % t.stride) data.length = false) (h1 : (u.bindingAt off).1 ≠ 0xF042)
    (h2 : (u.bindingAt off).1 ≠ 0xF050) (h3 : (u.bindingAt off).1 ≠ 0xF051) (h4 : (u.bindingAt off).1 ≠ 0xF081) :
    u.rowPosted off t data
      = ⟨0, sketchWrite u t (u.bindingAt off).1 (u.rowAt off t) (off % 0x4000000 % t.stride) data, true⟩ := by
  rw [State.rowPosted, hbit, writeRowAt_sketch hser ht hin hmay hbusy hst h1 h2 h3 h4]

/-- The write of a Fair copy (R42). -/
theorem rowPosted_fair (hser : u.serves .pcie = true) (ht : tableOf (u.bindingAt off).1 = some t)
    (hin : t.holds (u.rowAt off t) (off % 0x4000000 % t.stride) data.length) (hst : t.staged = true)
    (hbit : (u.bindingAt off).2.1 = false) : u.rowPosted off t data = .ends 2 := by
  rw [State.rowPosted, hbit, writeRowAt_forbidden hser ht hin (mayWriteRow_fair hst)]

/-- A posted write of one row that takes effect is the write of the row. -/
theorem run_postRows_served (ht : tableOf (u.bindingAt off).1 = some t) (hd : data.length ≠ 0)
    (hx : off % 0x4000000 % t.stride + data.length ≤ t.stride) (h0 : (u.rowPosted off t data).status = 0) :
    (postRows off requester data).run u = (u.rowPosted off t data).act.run u := by
  rw [run_postRows_one requester ht hd hx, run_postWrite_served h0]

/-- One that ends with another status is logged with its reason. -/
theorem postRows_logged (ht : tableOf (u.bindingAt off).1 = some t) (hd : data.length ≠ 0)
    (hx : off % 0x4000000 % t.stride + data.length ≤ t.stride) (h0 : (u.rowPosted off t data).status ≠ 0) {r : Nat}
    (hr : postedReason (u.rowReason off t data) (u.rowPosted off t data).status = some r) (hr8 : r < 2 ^ 8)
    (hn : u.get Key.postedErrorCount < 16) (hv : u.vtime < 2 ^ 80) :
    Logged u ((postRows off requester data).run u) (u.rowPosted off t data).status r
      (placeOf (u.bindingAt off).1 0 (u.rowAt off t) * 65536 + 2 * 4096 + (u.rowPosted off t data).status) := by
  rw [run_postRows_one requester ht hd hx]
  exact postWrite_row_logged requester (refuses_of_settled (writeRowAt_settled ..) h0) hr hr8 _ hn hv

end

theorem run_taken (a : Act) (s : State) : (Wrote.act ⟨0, a, true⟩).run s = { a.run s with status := 0, data := [] } := rfl

/-! ### The commands -/

theorem exec_writeScalar_pcie (dt : Nat) (idx : BitVec 16) (sub : BitVec 8) {slot : Nat} (hv : slot < 2 ^ 64) (s : State) :
    exec (.writeScalar dt .pcie idx sub (BitVec.ofNat 64 slot)) s
      = .next ((writeScalarAt (s.after dt) .pcie idx.toNat sub.toNat slot).act.run (s.after dt)) :=
  (exec_writeScalar dt .pcie idx sub hv s).trans rfl

/-- HOST_SCALAR_WRITE of octets of a slot from its first one on. -/
theorem exec_hostScalarWrite_first (dt : Nat) (idx : BitVec 16) (sub : BitVec 8) (data : List Byte) (req : BitVec 16) (s : State) :
    exec (.hostScalarWrite dt (BitVec.ofNat 27 (8 * (idx.toNat * 256 + sub.toNat))) data req) s
      = .next ((hostWrite (8 * (idx.toNat * 256 + sub.toNat) + 0) req.toNat data).run (s.after dt)) := by
  have hslot : idx.toNat * 256 + sub.toNat < 2 ^ 24 := by omega
  have h := exec_hostScalarWrite dt (i := 0) hslot (by decide) data req s
  simpa only [Nat.add_zero] using h

theorem exec_writeRow_pcie (dt : Nat) {idx row : Nat} (hi : idx < 2 ^ 16) (hr : row < 2 ^ 24) (sketch : Bool) (off : Nat)
    (data : List Byte) (s : State) : exec (.writeRow dt .pcie (BitVec.ofNat 16 idx) (BitVec.ofNat 24 row) sketch off data) s
      = .next ((writeRowAt (s.after dt) .pcie idx row sketch off data).act.run (s.after dt)) :=
  (exec_writeRow dt .pcie hi hr sketch off data s).trans rfl

theorem exec_hostRowWrite (dt : Nat) (off : BitVec 30) (data : List Byte) (req : BitVec 16) (s : State) :
    exec (.hostRowWrite dt off data req) s = .next ((postRows off.toNat req.toNat data).run (s.after dt)) := rfl

/-! ### Posted writes of whole slots -/

section
variable {u : State} {idx sub n : Nat} {data : List Byte} (requester : Nat)

/-- One that takes effect is the write of its object by PCIe. -/
theorem run_hostWrite_served (hs : sub < 256) (hser : u.serves .pcie = true) (hoct : u.valueOctets idx sub = some n)
    (hd : data.length = 8) (h0 : (writeScalarAt u .pcie idx sub (leNat data)).status = 0) :
    (hostWrite (8 * (idx * 256 + sub) + 0) requester data).run u = (writeScalarAt u .pcie idx sub (leNat data)).act.run u := by
  rw [run_hostWrite_whole requester hs hser hoct hd, run_postWrite_served h0]

/-- One that a rule stops is logged. -/
theorem hostWrite_logged (hi : idx < 2 ^ 16) (hs : sub < 256) (hser : u.serves .pcie = true) (hoct : u.valueOctets idx sub = some n)
    (hd : data.length = 8) (hc : ∀ o, sub ≠ 0 → u.objAt idx sub = some o → isCommand o = false) {r : Nat}
    (hr : ((writeScalarAt u .pcie idx sub (leNat data)).status, r) ∈ postedReasons) (hn : u.get Key.postedErrorCount < 16)
    (hv : u.vtime < 2 ^ 80) : Logged u ((hostWrite (8 * (idx * 256 + sub) + 0) requester data).run u)
      (writeScalarAt u .pcie idx sub (leNat data)).status r
      ((idx * 256 + sub) * 2 ^ 40 + 1 * 4096 + (writeScalarAt u .pcie idx sub (leNat data)).status) := by
  obtain ⟨hreason, h0, hr8⟩ := reasonOf_of_mem hr
  rw [run_hostWrite_whole requester hs hser hoct hd]
  exact postWrite_slot_logged (special := none) requester (refuses_of_settled (writeScalarAt_settled hc) h0) hreason hr8 hi hs hn hv _

end

/-! ### The statement -/

theorem Logged.slotEntry {u w : State} {status reason target : Nat} (h : Logged u w status reason target) :
    w.status = status ∧ w.get Key.postedErrorCount = u.get Key.postedErrorCount + 1
      ∧ w.fld .live 0xF001 (u.get Key.postedErrorCount) F.postedReason = reason
      ∧ w.fld .live 0xF001 (u.get Key.postedErrorCount) F.postedTime = u.vtime / 65536
      ∧ w.fld .live 0xF001 (u.get Key.postedErrorCount) F.postedTarget = target
      ∧ leavesRest u w (keysIn [Key.postedErrorCount]) (rowCells .live 0xF001 (u.get Key.postedErrorCount)) :=
  ⟨h.status, h.count, h.reason, h.time, h.target, h.rest⟩

theorem Logged.rowEntry {u w : State} {status reason target : Nat} (h : Logged u w status reason target) :
    w.status = status ∧ w.get Key.postedErrorCount = u.get Key.postedErrorCount + 1
      ∧ w.fld .live 0xF001 (u.get Key.postedErrorCount) F.postedReason = reason
      ∧ leavesRest u w (keysIn [Key.postedErrorCount]) (rowCells .live 0xF001 (u.get Key.postedErrorCount)) :=
  ⟨h.status, h.count, h.reason, h.rest⟩

/-- Settles O12: a posted access within one slot or one row is one write by PCIe, which takes effect or is stopped and logged. -/
theorem postedWritesAreAnswered : Obligations.PostedWritesAreAnswered := by
  refine ⟨fun s dt idx sub data req n => ?_, fun s dt off data req => ?_⟩
  · intro u slot offset logged hser
    have hi : idx.toNat < 2 ^ 16 := idx.isLt
    have hs : sub.toNat < 256 := sub.isLt
    have hslot : slot < 2 ^ 24 := by simp only [slot]; omega
    have hv : u.vtime < 2 ^ 80 := after_vtime_lt s dt
    have hpost := exec_hostScalarWrite_first dt idx sub data req s
    refine ⟨fun hoct hd hn => ⟨_, hpost, ?_⟩, fun hoct => ⟨?_, ?_, ?_, ?_⟩⟩
    · exact (hostWrite_absent_logged _ hi hs hser hoct hd hn hv).slotEntry
    · intro o hd ha ho hc hp
      obtain ⟨hstatus, hget, hrest, _⟩ := writeScalarAt_takesLegal (leNat data) ha ho hc hp
      have h0 : (writeScalarAt u .pcie idx.toNat sub.toNat (leNat data)).status = 0 := by rw [writeScalarAt_plain _ ha ho hc hp]; rfl
      exact ⟨_, hpost.trans (congrArg Host.Outcome.next (run_hostWrite_served _ hs hser hoct hd h0)), hstatus, hget, hrest⟩
    · intro t hd ht
      have hdata : leNat data < 2 ^ 64 := lt_of_lt_of_eq (leNat_lt data) (by rw [hd]; rfl)
      obtain rfl := Host.Outcome.next.inj ((exec_writeScalar_pcie dt idx sub hdata s).symm.trans ht)
      have hstatus := status_wrote (writeScalarAt_status (s := u) (path := .pcie) (idx := idx.toNat) (sub := sub.toNat) (slot := leNat data)) u
      refine ⟨fun h0 => ?_, fun r hr hc hn => ⟨_, hpost, ?_⟩⟩
      · exact hpost.trans (congrArg Host.Outcome.next (run_hostWrite_served _ hs hser hoct hd (hstatus.symm.trans h0)))
      · have hc' : ∀ o, sub.toNat ≠ 0 → u.objAt idx.toNat sub.toNat = some o → isCommand o = false :=
          fun o h => hc o fun h0 => h (by simp [h0])
        rw [hstatus] at hr ⊢
        exact (hostWrite_logged _ hi hs hser hoct hd hc' hr hn hv).slotEntry
    · intro h0 hshort hn
      exact ⟨_, hpost, (hostWrite_short_logged _ hi hs hser hoct h0 hshort hn hv).slotEntry⟩
    · intro hoct7 hd
      have hlast := exec_hostScalarWrite dt (i := 7) hslot (by decide) data req s
      have hd0 : data.length ≠ 0 := by omega
      have hfit : 7 + data.length ≤ 8 := by omega
      have hrun := run_hostWrite_beyond req.toNat hs hser hoct hoct7 hd0 hfit
      exact ⟨_, hlast.trans (congrArg Host.Outcome.next hrun), rfl, leavesRest_answered u 0 []⟩
  · intro u b x hser logged
    have hv : u.vtime < 2 ^ 80 := after_vtime_lt s dt
    have hpost := exec_hostRowWrite dt off data req s
    refine ⟨?_, ?_, fun ht hn => ⟨_, hpost, ?_⟩⟩
    · intro tab f ht hd hx row was hrow hst hbit hmay hbusy hf hro htouch h1 h2 h3 h4
      have hd0 : data.length ≠ 0 := by simpa using hd
      have hw := rowPosted_sketch hser ht ⟨hrow, hd0, hx⟩ hst hbit hmay hbusy h1 h2 h3 h4
      have hrun := run_postRows_served req.toNat ht hd0 hx (by rw [hw])
      rw [hw, run_taken] at hrun
      refine ⟨_, hpost.trans (congrArg Host.Outcome.next hrun), rfl, ?_, ?_⟩
      · exact (fld_answer _ 0 [] ..).trans (sketchWrite_field ht hf hro htouch)
      · exact leavesRest_trans (sketchWrite_leavesRest ht) (leavesRest_answered _ 0 [])
    · intro tab t ht hd hx hrow hexec
      have hd0 : data.length ≠ 0 := by simpa using hd
      have hwrite := exec_writeRow_pcie dt (tableOf_bounds ht).2.2 hrow b.2.1 (x % tab.stride) data s
      obtain rfl := Host.Outcome.next.inj (hwrite.symm.trans hexec)
      have hstatus := status_wrote (settled_status (writeRowAt_settled u .pcie b.1 (b.2.2 + x / tab.stride) b.2.1 (x % tab.stride) data)) u
      refine ⟨fun h0 => ?_, fun r hr hidx hfair hn => ⟨_, hpost, ?_⟩, fun hin hst hbit hmay hn => ⟨_, hpost, ?_⟩⟩
      · exact hpost.trans (congrArg Host.Outcome.next (run_postRows_served _ ht hd0 hx (hstatus.symm.trans h0)))
      · rw [hstatus] at hr ⊢
        obtain ⟨hreason, h0, hr8⟩ := reasonOf_of_mem hr
        have hno : u.rowReason off.toNat tab data = none := rowReason_none ((tableOf_mem ht).2.symm ▸ hidx) hfair
        exact (postRows_logged _ ht hd0 hx h0 (by rw [hno]; exact hreason) hr8 hn hv).rowEntry
      · have hw : u.rowPosted off.toNat tab data = .ends 2 :=
          writeRowAt_forbidden hser ht ⟨hin, hd0, hx⟩ (hbit.symm ▸ mayWriteRow_fair hst)
        have h5 : u.rowReason off.toNat tab data = some 5 := rowReason_fair hst hbit hmay (by rw [hw]; rfl)
        have hlog := postRows_logged (r := 5) req.toNat ht hd0 hx (by rw [hw]; decide) (by rw [h5]; rfl) (by decide) hn hv
        rw [hw] at hlog
        exact hlog.rowEntry
    · rw [run_postRows_unbound _ ht hser]
      exact (postWrite_row_logged _ (refuses_ends (by decide) (by decide)) rfl (by decide) _ hn hv).rowEntry

end Sys2Proof.Machine
end

section
/-! PROOFS. The time that passes before a command (R201, R204, R459), and events of the switched domains while these do not work
(R24, R356). -/

namespace Sys2Proof.Machine

/-- A command that answers a state of which `P` holds ends in such a state: the inverse of `runs_of`. -/
theorem of_runs {c : Instr} {s : State} {dt : Nat} {a : Act} {P : State → Prop} (hc : exec c s = command dt a s) (h : Runs c s P) :
    P (a.run (s.after dt)) := by
  obtain ⟨t, ht, hp⟩ := h
  rw [hc, command_eq] at ht
  cases ht
  exact hp

/-- An event of the switched domains does nothing while these do not work. -/
theorem exec_unpowered {c : Instr} {s : State} (hc : c.needsPower = true) (h : s.operates = false) : exec c s = .next (s.after c.dt) := by
  have hp : ∃ a, exec c s = command c.dt (powered a) s := by cases c <;> cases hc <;> exact ⟨_, rfl⟩
  obtain ⟨a, ha⟩ := hp
  rw [ha, command_eq, run_powered_off _ (by rw [after_operates]; exact h)]

section
variable (s : State) (dt : Nat)

/-- What the span takes of the offset in a register of the servo: open, within MaxSlewRate and what is left (R204). -/
def State.slewed (k : Nat) : Nat := Config.freeValue s.free % (min (s.slewLimit dt) (s.get k) + 1)

theorem slewed_le (k : Nat) : s.slewed dt k ≤ s.slewLimit dt ∧ s.slewed dt k ≤ s.get k :=
  le_min_iff.mp (Nat.lt_succ_iff.mp (Nat.mod_lt _ (Nat.succ_pos _)))

/-- The four ways in which a span passes, in the terms of the state before it. -/
theorem after_cases : s.after dt =
    (if s.inReset then Act.clock (s.now + dt) s.vtime
     else if s.flag Rg.slewUp then Act.drawIn 0 (min (s.slewLimit dt) (s.get Rg.slewUp)) fun x =>
       .seq (.clock (s.now + dt) (vehicle (s.vtime + s.syntonised dt + x))) (.put Rg.slewUp (s.get Rg.slewUp - x))
     else if s.flag Rg.slewDown then Act.drawIn 0 (min (s.slewLimit dt) (s.get Rg.slewDown)) fun x =>
       .seq (.clock (s.now + dt) (vehicle (s.vtime + s.syntonised dt - x))) (.put Rg.slewDown (s.get Rg.slewDown - x))
     else .clock (s.now + dt) (vehicle (s.vtime + s.syntonised dt))).run (Act.quiet.run s) := rfl

/-- In reset only true time passes (R459); the clock cuts vehicle time to its 80 bits (R7). -/
theorem after_inReset (h : s.inReset = true) : s.after dt = (Act.clock (s.now + dt) s.vtime).run (Act.quiet.run s) := by
  rw [after_cases, if_pos h]

/-- With no offset left to slew out, vehicle time runs at its syntonised rate. -/
theorem after_steady (h : s.inReset = false) (hu : s.get Rg.slewUp = 0) (hd : s.get Rg.slewDown = 0) :
    s.after dt = (Act.clock (s.now + dt) (vehicle (s.vtime + s.syntonised dt))).run (Act.quiet.run s) := by
  rw [after_cases, if_neg (by simp [h]), if_neg (by simp [flag_eq, hu]), if_neg (by simp [flag_eq, hd])]

/-- An offset to be added is slewed out before one to be taken away. -/
theorem after_slewUp (h : s.inReset = false) (hu : s.get Rg.slewUp ≠ 0) :
    s.after dt = (Act.put Rg.slewUp (s.get Rg.slewUp - s.slewed dt Rg.slewUp)).run
      ((Act.clock (s.now + dt) (vehicle (s.vtime + s.syntonised dt + s.slewed dt Rg.slewUp))).run (Act.drawn.run (Act.quiet.run s))) := by
  rw [after_cases, if_neg (by simp [h]), if_pos (by simp [flag_eq, hu]), run_drawIn, Nat.zero_add]
  rfl

theorem after_slewDown (h : s.inReset = false) (hu : s.get Rg.slewUp = 0) (hd : s.get Rg.slewDown ≠ 0) :
    s.after dt = (Act.put Rg.slewDown (s.get Rg.slewDown - s.slewed dt Rg.slewDown)).run
      ((Act.clock (s.now + dt) (vehicle (s.vtime + s.syntonised dt - s.slewed dt Rg.slewDown))).run
        (Act.drawn.run (Act.quiet.run s))) := by
  rw [after_cases, if_neg (by simp [h]), if_neg (by simp [flag_eq, hu]), if_pos (by simp [flag_eq, hd]), run_drawIn, Nat.zero_add]
  rfl

/-- Vehicle time is cut to its 80 bits already (R7). -/
theorem vehicle_mod (v : Int) : vehicle v % 2 ^ 80 = vehicle v := by
  have h0 := Int.emod_nonneg v (show (2 ^ 80 : Int) ≠ 0 by decide)
  have h1 := Int.emod_lt_of_pos v (show (0 : Int) < 2 ^ 80 by decide)
  refine Nat.mod_eq_of_lt ?_
  unfold vehicle
  omega

theorem after_vtime_inReset (h : s.inReset = true) : (s.after dt).vtime = s.vtime % 2 ^ 80 := by
  rw [after_inReset s dt h, run_clock_vtime]

/-- What the statement says of vehicle time and of the offsets holds wherever vehicle time has its 80 bits (R7), as it has in every
sound state; the rest of it holds of every state (`after_now`, `after_get`, `after_octet`, … and `exec_unpowered`). -/
theorem vehicleTime_passes (hv : s.vtime < 2 ^ 80) :
    (s.inReset = true → (s.after dt).vtime = s.vtime ∧ ∀ k, (s.after dt).get k = s.get k)
    ∧ (s.inReset = false → s.get Rg.slewUp = 0 → s.get Rg.slewDown = 0 → (s.after dt).vtime = vehicle (s.vtime + s.syntonised dt))
    ∧ (s.inReset = false → s.get Rg.slewUp ≠ 0 → ∃ x, x ≤ s.slewLimit dt ∧ x ≤ s.get Rg.slewUp
        ∧ (s.after dt).vtime = vehicle (s.vtime + s.syntonised dt + x)
        ∧ (s.after dt).get Rg.slewUp = (s.get Rg.slewUp - x) % regMod Rg.slewUp)
    ∧ (s.inReset = false → s.get Rg.slewUp = 0 → s.get Rg.slewDown ≠ 0 → ∃ x, x ≤ s.slewLimit dt ∧ x ≤ s.get Rg.slewDown
        ∧ (s.after dt).vtime = vehicle (s.vtime + s.syntonised dt - x)
        ∧ (s.after dt).get Rg.slewDown = (s.get Rg.slewDown - x) % regMod Rg.slewDown) := by
  refine ⟨fun h => ⟨?_, fun k => ?_⟩, fun h hu hd => ?_, fun h hu => ?_, fun h hu hd => ?_⟩
  · rw [after_vtime_inReset s dt h, Nat.mod_eq_of_lt hv]
  · rw [after_inReset s dt h, get_clock, get_quiet]
  · rw [after_steady s dt h hu hd, run_clock_vtime, vehicle_mod]
  · refine ⟨_, (slewed_le s dt _).1, (slewed_le s dt _).2, ?_, ?_⟩ <;> rw [after_slewUp s dt h hu]
    · rw [run_put_vtime, run_clock_vtime, vehicle_mod]
    · rw [get_put_self]
  · refine ⟨_, (slewed_le s dt _).1, (slewed_le s dt _).2, ?_, ?_⟩ <;> rw [after_slewDown s dt h hu hd]
    · rw [run_put_vtime, run_clock_vtime, vehicle_mod]
    · rw [get_put_self]

end

/-- Vehicle time at 2^80, which is beyond its 80 bits, while PORST_N is low. -/
def overlongClock : State := { State.reset with vtime := 2 ^ 80, regs := [(Rg.porstLow, 1)] }

/-- Refutes O5: the statement takes any state, and in reset the clock cuts vehicle time to its 80 bits. -/
theorem not_timePassesAndDeadDomainsStay : ¬ Obligations.TimePassesAndDeadDomainsStay := by
  rintro ⟨htime, -⟩
  obtain ⟨-, hreset, -⟩ := htime overlongClock 0
  have hporst : overlongClock.inReset = true := by decide
  have hstays := (hreset hporst).1
  rw [after_vtime_inReset _ _ hporst] at hstays
  exact absurd hstays (by decide)

end Sys2Proof.Machine
end

section
/-! PROOFS. The end of a session by Close (R80) in a state whose fabric is out of shape. -/

namespace Sys2Proof.Machine

/-- A frame on port 2^20, past the 256 ports there are. Its number is that of the next frame, for no frame has been counted. -/
def unportedFrame : Frame := newFrame State.reset (2 ^ 20) (2 ^ 20) 0 [] false true

/-- Session 3 is open under the key of zeros and served on port 0, every pipeline that would decide is interrupted, and the fabric holds
that frame. -/
def sessionBesideUnported : State :=
  (Act.all [.put Key.remoteOdEnable 1, .put Rg.appRunning 1, .put Key.ethPortMask 1, Act.setF .live 0xF003 3 F.rsessState 2,
    .put (Rg.sessionKey 3) 1, .put (Key.pipelineState 0) 2, .put (Key.pipelineState 4) 2, .setFrames [unportedFrame]]).run State.reset

/-- The state is sound: soundness does not speak of the fabric. -/
theorem sessionBesideUnported_sound : sessionBesideUnported.sound = true := sound_run _ _ (by decide)

def zerosKey : List Byte := List.replicate 16 0
def closeSession3 : List Byte := makePdu 7 3 0 [] (some zerosKey)
def overEthernet : Via := .ethernet 0x020000000001 none

theorem closeSession3_taken : pduTaken (sessionBesideUnported.after 0) 0 overEthernet closeSession3 7 := by
  unfold pduTaken
  decide +kernel

theorem closeSession3_authentic : pduSession closeSession3 = 3 ∧ tagFits zerosKey closeSession3 = true := by decide +kernel

theorem sessionBesideUnported_open : (sessionBesideUnported.after 0).session 3 F.rsessState = 2
    ∧ (sessionBesideUnported.after 0).sessionKey 3 = some zerosKey := by decide +kernel

/-- The answer takes the number of the frame that is there already, so that this one comes to its decision: R370's note of its port
lands in the verdict of the commit checks (R43). -/
theorem verdict_closeSession3 :
    ((receivePdu 0 overEthernet 7 closeSession3 (closePdu 0 overEthernet closeSession3)).run (sessionBesideUnported.after 0)).get
      (Rg.verdict 0) = 1 := by decide +kernel

/-- Refutes O17: a Close whose answer enters a fabric in which a frame on no port bears the next frame's number changes a register that
neither a session nor forwarding may change. The statement takes any fabric. -/
theorem not_sessionsEnd : ¬ Obligations.SessionsEnd := by
  rintro ⟨⟨hclose, -⟩, -⟩
  obtain ⟨hsession, htag⟩ := closeSession3_authentic
  obtain ⟨hopen, hkey⟩ := sessionBesideUnported_open
  have hruns := hclose sessionBesideUnported 0 0 overEthernet closeSession3 zerosKey closeSession3_taken (by rw [hsession]; decide)
    (by rw [hsession]; exact hopen) (by rw [hsession]; exact hkey) htag
  obtain ⟨-, -, -, hframe, -⟩ := of_runs rfl hruns
  have hkept := hframe (Rg.verdict 0) (by unfold sessionRegs; decide) (by decide)
  rw [after_get _ _ (by decide) (by decide)] at hkept
  exact absurd (verdict_closeSession3.symm.trans hkept) (by decide +kernel)

end Sys2Proof.Machine
end

section
/-! PROOFS. The arrival of a message on a serial line (R103) whose queue is out of shape. -/

namespace Sys2Proof.Machine

/-- A stored Ethernet frame without octets. -/
def emptyFrame : Frame := { newFrame State.reset 3 3 0 [] false true with stage := .stored }

/-- Its copy for the serial port 208, as step 7 makes it of a target; but the target names route row 2^24, which no table has. -/
def strayCopy : Copy :=
  copyOf State.reset emptyFrame emptyFrame.parse 0 ⟨208, 7, .forward, { port := 208, pair := some (2 ^ 24, 0) }⟩

/-- Port 208 is Up, and its queue holds that copy. -/
def strayQueue : State :=
  (Act.all [.put (Key.portState 208) 2, .put Rg.frameCount 1, .put Rg.entryCount 1, .setFrames [emptyFrame],
    .setCopies [strayCopy]]).run State.reset

/-- The state is sound: soundness does not speak of the queues. -/
theorem strayQueue_sound : strayQueue.sound = true := sound_run _ _ (by decide)

/-- A J1708 message of 21 octets, one more than there may be (R103). -/
def longMessage : BusFrame := ⟨5, 0, 0, 0, 0, 0, 0, List.replicate 21 0⟩

theorem longMessage_tooLong : strayQueue.portState 208 = 2 ∧ (strayQueue.after 0).acceptsBus 208 longMessage = 2 := by decide +kernel

/-- The message ends, the line is selected, the copy cannot be sent there, and its failure counts in its row of RouteCounters (R292):
that octet lies in table 0xF084. -/
theorem octet_longMessage :
    ((powered (arrive 208 (.bus longMessage))).run (strayQueue.after 0)).octet .live (cellKey 0xF084 0 32) = 1 := by decide +kernel

/-- Refutes O26: a message of a wrong length frees a serial line, and what the selection there drops writes outside of what forwarding
may write, where a queued copy names a route that is in no table. The statement takes any queue. -/
theorem not_framesEnterTheFabric : ¬ Obligations.FramesEnterTheFabric := by
  intro h
  obtain ⟨hup, hlong⟩ := longMessage_tooLong
  obtain ⟨-, harrival⟩ := h strayQueue 0 208 (by decide +kernel) (by decide +kernel)
  obtain ⟨-, -, -, -, -, hrefused, -⟩ := harrival (by decide) (by decide)
  obtain ⟨-, -, -, -, hframe, -⟩ := of_runs rfl (hrefused longMessage hup (.inl hlong))
  have hkept := hframe .live (cellKey 0xF084 0 32) (by simp [noCells]) (by unfold forwardingCells; decide)
  rw [after_octet] at hkept
  exact absurd (octet_longMessage.symm.trans hkept) (by decide +kernel)

end Sys2Proof.Machine
end

section
/-! PROOFS. The state after reset, and accesses where there is no object (R30). -/

namespace Sys2Proof.Machine

/-- Settles O3: every store of the reset state is empty, and its numbers are 0. -/
theorem resetIsSound : Obligations.ResetIsSound := by
  unfold Obligations.ResetIsSound
  decide

/-- The indexes that R30 leaves without any object. -/
def vacantIndex (i : Nat) : Prop := i < 0x1000 ∨ (0xD000 ≤ i ∧ i < 0xF000)

theorem template_vacant {i : Nat} (h : vacantIndex i) : template i = (i, 0) := by
  unfold vacantIndex at h
  unfold template
  rw [if_neg (by omega), if_neg (by omega), if_neg (by omega), if_neg (by omega)]

/-- Every template of the catalogue and every table lies at an index that R30 leaves for objects. -/
theorem catalog_indexes : (catalog.all fun c => decide (0x1000 ≤ c.1) && decide (c.1 < 0xD000)) = true := by decide
theorem tables_indexes : (tables.all fun t => decide (0xF000 ≤ t.idx)) = true := by decide

theorem objectsAt_vacant {i : Nat} (h : vacantIndex i) : objectsAt i = [] := by
  have hnone : (catalog.find? fun c => c.1 == i) = none := by
    refine List.find?_eq_none.mpr fun c hc => ?_
    have hbounds := List.all_eq_true.mp catalog_indexes c hc
    simp only [Bool.and_eq_true, decide_eq_true_eq, beq_iff_eq] at hbounds ⊢
    unfold vacantIndex at h
    omega
  simp [objectsAt, hnone]

theorem tableOf_vacant {i : Nat} (h : vacantIndex i) : tableOf i = none := by
  refine List.find?_eq_none.mpr fun t ht => ?_
  have hbound := List.all_eq_true.mp tables_indexes t ht
  simp only [decide_eq_true_eq, beq_iff_eq] at hbound ⊢
  unfold vacantIndex at h
  omega

theorem objAt_vacant {i : Nat} (h : vacantIndex i) (s : State) (j : Nat) : s.objAt i j = none := by
  simp [State.objAt, template_vacant h, objectsAt_vacant h]

theorem highestSub_vacant {i : Nat} (h : vacantIndex i) (s : State) : s.highestSub i = none := by
  simp [State.highestSub, template_vacant h, objectsAt_vacant h]

/-- A place of the object dictionary at which a port's state gives no scalar object: an index without a table and without that object,
or a subindex of a table that is none of its three (R30 to R32). -/
def State.lacks (u : State) (i j : Nat) : Prop :=
  (tableOf i = none ∧ j ≠ 0 ∧ u.objAt i j = none) ∨ (tableOf i = none ∧ j = 0 ∧ u.highestSub i = none) ∨ (tableOf i ≠ none ∧ 3 ≤ j)

section
variable {u : State} {path : Path} {i j : Nat}

theorem writeScalarAt_lacking (slot : Nat) (h : u.serves path = true) (hl : u.lacks i j) : writeScalarAt u path i j slot = .ends 1 := by
  obtain ⟨ht, hj, ho⟩ | ⟨ht, rfl, hn⟩ | ⟨ht, hj⟩ := hl
  · exact writeScalarAt_absent slot h ht hj ho
  · rw [writeScalarAt_zero slot h ht, hn]
    rfl
  · obtain ⟨t, ht⟩ := Option.ne_none_iff_exists'.mp ht
    rw [writeScalarAt_table slot h ht, if_neg (by omega)]

theorem readScalarAt_lacking (h : u.serves path = true) (hl : u.lacks i j) : readScalarAt u path i j = .ends 1 := by
  obtain ⟨ht, hj, ho⟩ | ⟨ht, rfl, hn⟩ | ⟨ht, hj⟩ := hl
  · exact readScalarAt_absent h ht hj ho
  · simp [readScalarAt, h, ht, hn]
  · obtain ⟨t, ht⟩ := Option.ne_none_iff_exists'.mp ht
    exact (readScalarAt_table h ht).2.2.2 hj

end

/-- Settles O7: no catalogue entry and no table lies at a vacant index, and a write and a read of what is not there end with 0x01. -/
theorem absentObjectsAreNotFound : Obligations.AbsentObjectsAreNotFound := by
  refine ⟨fun s i j h => ⟨tableOf_vacant h, objAt_vacant h s j, highestSub_vacant h s⟩, ?_⟩
  intro s dt path idx sub v u i j hs hl
  constructor
  · exact (command_scalarWrite ..).trans (by rw [writeScalarAt_lacking _ hs hl, run_ends])
  · exact (command_scalarRead ..).trans (by rw [readScalarAt_lacking hs hl, run_got_ends])

end Sys2Proof.Machine
end

section
/-! PROOFS. The host's reads over PCIe (R34, R51, R52, R54, R55). -/

namespace Sys2Proof.Machine

/-! ### Acts that neither answer nor put out -/

/-- An act gives no answer and no output of its own. -/
def Silent : Act → Prop
  | .seq a b => Silent a ∧ Silent b
  | .dep f => ∀ s, Silent (f s)
  | .answer _ _ => False
  | .emit _ => False
  | .quiet => False
  | _ => True

/-- Such an act leaves the answer and the outputs as they were. -/
theorem run_silent {a : Act} : ∀ s : State, Silent a → (a.run s).status = s.status ∧ (a.run s).data = s.data ∧ (a.run s).outs = s.outs := by
  induction a with
  | seq a b iha ihb =>
    intro s h
    obtain ⟨h1, h2, h3⟩ := iha s h.1
    obtain ⟨k1, k2, k3⟩ := ihb (a.run s) h.2
    exact ⟨k1.trans h1, k2.trans h2, k3.trans h3⟩
  | dep f ih => exact fun s h => ih s s (h s)
  | cell g a b => exact fun s _ => by cases g <;> exact ⟨rfl, rfl, rfl⟩
  | keepCells g p => exact fun s _ => by cases g <;> exact ⟨rfl, rfl, rfl⟩
  | answer st d => exact fun _ h => h.elim
  | emit o => exact fun _ h => h.elim
  | quiet => exact fun _ h => h.elim
  | _ => exact fun _ _ => ⟨rfl, rfl, rfl⟩

theorem silent_when {c : Bool} {a : Act} (h : Silent a) : Silent (Act.when c a) := by
  cases c with
  | true => exact h
  | false => trivial

theorem silent_block (g : Gen) (bs : List Byte) : ∀ a, Silent (Act.block g a bs) := by
  induction bs with
  | nil => exact fun _ => trivial
  | cons b bs ih => exact fun a => ⟨trivial, ih (a + 1)⟩

theorem silent_setF (g : Gen) (idx row : Nat) (f : Fld) (v : Nat) : Silent (Act.setF g idx row f v) := fun _ => silent_block ..

/-- Counting held time only stores. -/
theorem silent_accrue (r m : Nat) : Silent (accrue r 1 m) := by
  intro s
  have hadd : ∀ span, Silent (addHeld r m span) := fun _ _ => ⟨trivial, silent_setF _ _ _ _ _⟩
  have hrestart : Silent (restartHolding s r m) := by
    unfold restartHolding
    split
    · exact ⟨silent_when (a := .put _ _) trivial, trivial, trivial⟩
    · trivial
  exact ⟨trivial, silent_when (hadd _), hrestart, trivial⟩

/-! ### What a read can come to -/

/-- A read ends with a status that is not 0x00 and has no effect, or it is served and only stores. -/
def Got.answers (g : Got) : Prop := (∃ st, st ≠ 0 ∧ st < 256 ∧ g = .ends st) ∨ (g.status = 0 ∧ Silent g.effect)

theorem answers_ends {st : Nat} (h0 : st ≠ 0 := by decide) (h : st < 256 := by decide) : (Got.ends st).answers := .inl ⟨st, h0, h, rfl⟩

section
variable {u : State} {path : Path} {idx sub row off n : Nat} {sketch : Bool}

theorem answers_readScalarAt : (readScalarAt u path idx sub).answers := by
  simp only [readScalarAt]
  repeat' split
  any_goals exact answers_ends
  case isFalse => exact .inr ⟨rfl, silent_when (a := .put _ _) trivial, silent_when (a := .drawn) trivial⟩
  all_goals exact .inr ⟨rfl, trivial⟩

theorem answers_readRowAt : (readRowAt u path idx row sketch off n).answers := by
  simp only [readRowAt]
  repeat' split
  any_goals exact answers_ends
  exact .inr ⟨rfl, silent_when (silent_accrue _ _)⟩

/-- A served read of a slot returns its eight octets (R34). -/
theorem readScalarAt_length (h : (readScalarAt u path idx sub).status = 0) : (readScalarAt u path idx sub).data.length = 8 := by
  revert h
  simp only [readScalarAt, Got.ends]
  repeat' split
  all_goals simp

end

/-! ### Completions (R52) -/

theorem octetsAt_all {bs : List Byte} {n : Nat} (h : bs.length = n) : octetsAt bs 0 n = bs := by
  subst h
  simp [octetsAt]

/-- The completion hands over its octets as an output and as the answer, with the status as it was. -/
theorem run_complete (d : List Byte) (u : State) (hs : u.status < 256) :
    (complete d).run u = { u with outs := u.outs ++ [.completion d], data := d } := by
  simp only [complete, Act.run, Nat.mod_eq_of_lt hs]

@[simp] theorem get_complete (d : List Byte) (u : State) (k : Nat) : ((complete d).run u).get k = u.get k := by
  rw [complete, run_dep, run_seq, get_answer, get_emit]

theorem outs_complete (d : List Byte) (u : State) : ((complete d).run u).outs = u.outs ++ [.completion d] := by
  rw [complete, run_dep, run_seq, run_answer_outs, run_emit_outs]

theorem within_complete {ks : Nat → Prop} {cs : Gen → Nat → Prop} (d : List Byte) : Within ks cs (complete d) := fun _ => ⟨trivial, trivial⟩

/-- A read that is served completes with its octets, once its own effect has taken place. -/
theorem run_collect_served {g : Got} (h : g.status = 0) (n idx sub row : Nat) (u : State) :
    (collect g n idx sub row complete).run u = (complete g.data).run (g.effect.run u) := by
  simp [collect, h]

/-- What a failed read leaves: its failure is recorded, and it completes with all ones. -/
structure ReadFailed (u w : State) (st n target : Nat) : Prop where
  outs : w.outs = [.completion (List.replicate n 0xFF#8)]
  status : w.get Key.hostReadStatus = st
  target : w.get Key.hostReadTarget = target
  count : w.get Key.hostReadFailures = u.counted Key.hostReadFailures
  rest : leavesRest u w (keysIn [Key.hostReadStatus, Key.hostReadTarget, Key.hostReadFailures]) noCells

theorem get_readFails (u : State) {st : Nat} (h : st < 256) (idx sub row : Nat) :
    ((readFails st idx sub row).run u).get Key.hostReadStatus = st
      ∧ ((readFails st idx sub row).run u).get Key.hostReadTarget = placeOf idx sub row * 65536 % 18446744073709551616
      ∧ ((readFails st idx sub row).run u).get Key.hostReadFailures = u.counted Key.hostReadFailures := by
  unfold readFails
  rw [run_all_cons, run_all_cons, run_all_cons, run_all_nil]
  refine ⟨?_, ?_, ?_⟩
  · rw [get_bump_ne _ _ (by decide), get_put_ne _ _ (by decide), get_put_self, regMod_hostReadStatus, Nat.mod_eq_of_lt h]
  · rw [get_bump_ne _ _ (by decide), get_put_self, regMod_hostReadTarget]
  · rw [get_bump_self, get_put_ne _ _ (by decide), get_put_ne _ _ (by decide), State.counted, regMod_hostReadFailures]
    omega

theorem within_readFails {cs : Gen → Nat → Prop} (st idx sub row : Nat) :
    Within (keysIn [Key.hostReadStatus, Key.hostReadTarget, Key.hostReadFailures]) cs (readFails st idx sub row) := by
  simp [readFails, keysIn]

theorem silent_readFails (st idx sub row : Nat) : Silent (readFails st idx sub row) := ⟨trivial, trivial, fun _ => trivial, trivial⟩

theorem collect_failed {u : State} {st : Nat} (h0 : st ≠ 0) (h : st < 256) (ho : u.outs = []) (n idx sub row : Nat) :
    ReadFailed u ((collect (.ends st) n idx sub row complete).run u) st n (placeOf idx sub row * 65536 % 18446744073709551616) := by
  have hrun : (collect (.ends st) n idx sub row complete).run u
      = (complete (List.replicate n 0xFF#8)).run ((Act.answer st []).run ((readFails st idx sub row).run u)) := by
    rw [collect, run_seq, if_neg (show (Got.ends st).status ≠ 0 from h0), run_seq, run_seq]
    rfl
  obtain ⟨hstatus, htarget, hcount⟩ := get_readFails u h idx sub row
  have hrest : leavesRest u ((complete (List.replicate n 0xFF#8)).run ((Act.answer st []).run ((readFails st idx sub row).run u)))
      (keysIn [Key.hostReadStatus, Key.hostReadTarget, Key.hostReadFailures]) noCells :=
    leavesRest_trans (run_leavesRest _ u (within_readFails ..))
      (leavesRest_trans (run_leavesRest (.answer st []) _ trivial) (run_leavesRest _ _ (within_complete _)))
  have houts : ((readFails st idx sub row).run u).outs = [] := (run_silent u (silent_readFails ..)).2.2.trans ho
  rw [hrun]
  refine ⟨?_, ?_, ?_, ?_, hrest⟩
  · rw [outs_complete, run_answer_outs, houts, List.nil_append]
  · rw [get_complete, get_answer, hstatus]
  · rw [get_complete, get_answer, htarget]
  · rw [get_complete, get_answer, hcount]

/-- Of a slot every octet is read. -/
theorem collect_slot {g : Got} (h : g.status = 0 → g.data.length = 8) (idx sub row : Nat) (use : List Byte → Act) :
    collect { g with data := octetsAt g.data 0 8 } 8 idx sub row use = collect g 8 idx sub row use := by
  by_cases h0 : g.status = 0
  · simp [collect, h0, octetsAt_all (h h0)]
  · simp [collect, h0]

/-! ### Reads of one slot -/

section
variable {s : State} {dt : Nat} {idx : BitVec 16} {sub : BitVec 8}

/-- A read of a whole slot is one access (R51). -/
theorem exec_hostScalarRead (s : State) (dt : Nat) (idx : BitVec 16) (sub : BitVec 8) :
    exec (.hostScalarRead dt (BitVec.ofNat 27 (8 * (idx.toNat * 256 + sub.toNat))) 8) s
      = .next ((collect (readScalarAt (s.after dt) .pcie idx.toNat sub.toNat) 8 idx.toNat sub.toNat 0 complete).run (s.after dt)) := by
  have hi := idx.isLt
  have hs := sub.isLt
  change Host.Outcome.next ((hostRead (BitVec.ofNat 27 (8 * (idx.toNat * 256 + sub.toNat))).toNat 8).run (s.after dt)) = _
  rw [BitVec.toNat_ofNat, Nat.mod_eq_of_lt (by omega)]
  have hdiv : 8 * (idx.toNat * 256 + sub.toNat) / 8 = idx.toNat * 256 + sub.toNat := by omega
  have hblocks := blocksOf_one (off := 8 * (idx.toNat * 256 + sub.toNat)) (n := 8) (size := 8) (by decide) (by omega)
  have hshare := share_one (off := 8 * (idx.toNat * 256 + sub.toNat)) (n := 8) (size := 8) (by omega)
  rw [hdiv] at hblocks hshare
  simp only [hostRead, hblocks, readBlocks, run_dep, hshare, Nat.mul_mod_right, key_index hs, key_sub hs, List.nil_append,
    collect_slot readScalarAt_length]

/-- A read of a slot that is served completes with its image and changes nothing but the latch of R201. -/
theorem hostScalarRead_served (h : (readScalarAt (s.after dt) .pcie idx.toNat sub.toNat).status = 0) :
    Runs (.hostScalarRead dt (BitVec.ofNat 27 (8 * (idx.toNat * 256 + sub.toNat))) 8) s fun w => w.status = 0
      ∧ w.data = (readScalarAt (s.after dt) .pcie idx.toNat sub.toNat).data ∧ w.outs = [.completion w.data]
      ∧ leavesRest (s.after dt) w (keysIn [Rg.fracLatch 2]) noCells := by
  refine ⟨_, exec_hostScalarRead .., ?_⟩
  obtain ⟨st, h0, -, hg⟩ | ⟨-, hsilent⟩ := answers_readScalarAt (u := s.after dt) (path := .pcie) (idx := idx.toNat) (sub := sub.toNat)
  · exact absurd ((congrArg Got.status hg).symm.trans h) h0
  obtain ⟨hst, -, ho⟩ := run_silent (s.after dt) hsilent
  rw [after_status] at hst
  rw [after_outs] at ho
  rw [run_collect_served h, run_complete _ _ (by rw [hst]; decide)]
  exact ⟨hst, rfl, by rw [ho]; rfl, leavesRest_trans (run_leavesRest _ _ (within_readScalarAt (path := .pcie))) ⟨fun _ _ => rfl,
    fun g _ _ => by cases g <;> rfl, rfl, rfl, rfl, rfl, rfl⟩⟩

/-- Any other completes with all ones, and its failure is recorded (R52). -/
theorem hostScalarRead_failed (h : (readScalarAt (s.after dt) .pcie idx.toNat sub.toNat).status ≠ 0) :
    Runs (.hostScalarRead dt (BitVec.ofNat 27 (8 * (idx.toNat * 256 + sub.toNat))) 8) s fun w =>
      ReadFailed (s.after dt) w (readScalarAt (s.after dt) .pcie idx.toNat sub.toNat).status 8
        ((idx.toNat * 256 + sub.toNat) * 2 ^ 40) := by
  have hi := idx.isLt
  have hs := sub.isLt
  refine ⟨_, exec_hostScalarRead .., ?_⟩
  obtain ⟨st, h0, hlt, hg⟩ | ⟨h0, -⟩ := answers_readScalarAt (u := s.after dt) (path := .pcie) (idx := idx.toNat) (sub := sub.toNat)
  · have htarget : placeOf idx.toNat sub.toNat 0 * 65536 % 18446744073709551616 = (idx.toNat * 256 + sub.toNat) * 2 ^ 40 := by
      unfold placeOf
      omega
    rw [hg, ← htarget]
    exact collect_failed h0 hlt (after_outs ..) ..
  · exact absurd h0 h

end

/-! ### Reads of one row -/

section
variable {s : State} {dt : Nat} {off : BitVec 30} {n : Nat} {tab : Tab}

/-- A read within one row of the bound table is one access (R54). -/
theorem exec_hostRowRead (ht : tableOf ((s.after dt).bindingAt off.toNat).1 = some tab) (hn : n ≠ 0)
    (hin : off.toNat % 0x4000000 % tab.stride + n ≤ tab.stride) :
    let b := (s.after dt).bindingAt off.toNat
    let x := off.toNat % 0x4000000
    exec (.hostRowRead dt off n) s = .next ((collect
      (readRowAt (s.after dt) .pcie b.1 (b.2.2 + x / tab.stride) b.2.1 (x % tab.stride) n) n b.1 0 (b.2.2 + x / tab.stride) complete).run
        (s.after dt)) := by
  intro b x
  change Host.Outcome.next ((hostRowsRead off.toNat n).run (s.after dt)) = _
  simp only [hostRowsRead, run_dep, ht, blocksOf_one hn hin, share_one hin, readBlocks, List.nil_append]
  rfl

/-- A read within a row that is served completes with the octets that READ_ROW returns. -/
theorem hostRowRead_served (ht : tableOf ((s.after dt).bindingAt off.toNat).1 = some tab) (hn : n ≠ 0)
    (hin : off.toNat % 0x4000000 % tab.stride + n ≤ tab.stride) :
    let b := (s.after dt).bindingAt off.toNat
    let x := off.toNat % 0x4000000
    let g := readRowAt (s.after dt) .pcie b.1 (b.2.2 + x / tab.stride) b.2.1 (x % tab.stride) n
    g.status = 0 → Runs (.hostRowRead dt off n) s fun w => w.status = 0 ∧ w.data = g.data ∧ w.outs = [.completion g.data]
      ∧ ∀ ks cs, leavesRest (s.after dt) (g.effect.run (s.after dt)) ks cs → leavesRest (s.after dt) w ks cs := by
  intro b x g h
  refine ⟨_, exec_hostRowRead ht hn hin, ?_⟩
  obtain ⟨st, h0, -, hg⟩ | ⟨-, hsilent⟩ := answers_readRowAt (u := s.after dt) (path := .pcie) (idx := b.1)
    (row := b.2.2 + x / tab.stride) (sketch := b.2.1) (off := x % tab.stride) (n := n)
  · exact absurd ((congrArg Got.status hg).symm.trans h) h0
  obtain ⟨hst, -, ho⟩ := run_silent (s.after dt) hsilent
  rw [after_status] at hst
  rw [after_outs] at ho
  rw [run_collect_served h, run_complete _ _ (by rw [hst]; decide)]
  exact ⟨hst, rfl, by rw [ho]; rfl, fun ks cs hrest => leavesRest_trans hrest ⟨fun _ _ => rfl,
    fun g _ _ => by cases g <;> rfl, rfl, rfl, rfl, rfl, rfl⟩⟩

/-- A read in an aperture that is bound to no table completes with all ones and is recorded with 0x01. -/
theorem hostRowRead_unbound (ht : tableOf ((s.after dt).bindingAt off.toNat).1 = none) (hs : (s.after dt).serves .pcie = true) :
    Runs (.hostRowRead dt off n) s fun w => ∃ target, ReadFailed (s.after dt) w 1 n target := by
  refine ⟨(hostRowsRead off.toNat n).run (s.after dt), rfl, ?_⟩
  simp only [hostRowsRead, run_dep, ht, hs, if_true]
  exact ⟨_, collect_failed (by decide) (by decide) (after_outs ..) ..⟩

end

/-- Settles O13: each read is one access of PCIe, and its completion is that access's answer or all ones. -/
theorem hostReadsComplete : Obligations.HostReadsComplete := by
  constructor
  · intro s dt idx sub t u slot off
    refine ⟨fun o hs ht hsub ho hf hb => ?_, fun hexec => ?_⟩
    · have hsub' : sub.toNat ≠ 0 := fun h => hsub (BitVec.eq_of_toNat_eq h)
      have hval := readScalarAt_value hs ht hsub' ho hf hb
      obtain ⟨w, hw, hst, hdata, houts, hrest⟩ := hostScalarRead_served (s := s) (dt := dt) (idx := idx) (sub := sub)
        (by rw [hval]; split <;> rfl)
      refine ⟨w, hw, hst, ?_, houts, hrest⟩
      rw [hdata, hval]
      split <;> rfl
    · cases (command_scalarRead s dt .pcie idx.toNat sub.toNat).symm.trans hexec
      obtain ⟨st, h0, hlt, hg⟩ | ⟨h0, -⟩ := answers_readScalarAt (u := s.facing dt .pcie) (path := .pcie) (idx := idx.toNat)
        (sub := sub.toNat)
      · have hst : (readScalarAt (s.after dt) .pcie idx.toNat sub.toNat).status = st := congrArg Got.status hg
        obtain ⟨w, hw, houts, hstatus, htarget, hcount, hrest⟩ := hostScalarRead_failed (s := s) (dt := dt) (idx := idx) (sub := sub)
          (by rw [hst]; exact h0)
        have hans : ((readScalarAt (s.facing dt .pcie) .pcie idx.toNat sub.toNat).act.run (s.facing dt .pcie)).status = st := by
          rw [run_got_status, hg]
          exact Nat.mod_eq_of_lt hlt
        exact ⟨fun h => absurd (hans.symm.trans h) h0,
          fun _ => ⟨w, hw, houts, (hstatus.trans hst).trans hans.symm, htarget, hcount, hrest⟩⟩
      · obtain ⟨w, hw, hst, hdata, houts, hrest⟩ := hostScalarRead_served (s := s) (dt := dt) (idx := idx) (sub := sub) h0
        have hans : ((readScalarAt (s.facing dt .pcie) .pcie idx.toNat sub.toNat).act.run (s.facing dt .pcie)).data = w.data := by
          rw [run_got_data, if_pos h0, hdata]
          rfl
        refine ⟨fun _ => ⟨w, hw, by rw [hans, houts], hst, hans.symm, hrest⟩, fun h => absurd ?_ h⟩
        rw [run_got_status, h0]
  · intro s dt off n u b x hs
    refine ⟨fun tab ht hn hin hrow hf hhold => ?_, fun tab t ht hn hin hrow hexec h0 => ?_, fun ht => ?_⟩
    · have hval := readRowAt_value (sketch := b.2.1) hs ht ⟨hrow, hn, hin⟩ hf
      rw [holdingRow_false hhold] at hval
      obtain ⟨w, hw, hst, hdata, houts, hrest⟩ := hostRowRead_served ht hn hin (congrArg Got.status hval)
      rw [hval] at hdata houts hrest
      exact ⟨w, hw, hst, hdata, houts, hrest _ _ leavesRest_refl⟩
    · have hidx := (tableOf_bounds ht).2.2
      have hread : exec (.readRow dt .pcie (BitVec.ofNat 16 b.1) (BitVec.ofNat 24 (b.2.2 + x / tab.stride)) b.2.1 (x % tab.stride) n) s
          = .next ((readRowAt u .pcie b.1 (b.2.2 + x / tab.stride) b.2.1 (x % tab.stride) n).act.run u) := by
        change command dt (rowRead .pcie (BitVec.ofNat 16 b.1).toNat (BitVec.ofNat 24 (b.2.2 + x / tab.stride)).toNat _ _ _) s = _
        rw [BitVec.toNat_ofNat, BitVec.toNat_ofNat, Nat.mod_eq_of_lt hidx, Nat.mod_eq_of_lt hrow, command_rowRead]
        rfl
      cases hread.symm.trans hexec
      obtain ⟨st, hne, hlt, hg⟩ | ⟨hok, -⟩ := answers_readRowAt (u := u) (path := .pcie) (idx := b.1)
        (row := b.2.2 + x / tab.stride) (sketch := b.2.1) (off := x % tab.stride) (n := n)
      · rw [run_got_status, hg] at h0
        exact absurd ((Nat.mod_eq_of_lt hlt).symm.trans h0) hne
      · obtain ⟨w, hw, hst, hdata, houts, -⟩ := hostRowRead_served ht hn hin hok
        exact ⟨w, hw, by rw [run_got_data, if_pos hok, houts], by rw [run_got_data, if_pos hok, hdata], hst⟩
    · obtain ⟨w, hw, target, houts, hstatus, -, -, hrest⟩ := hostRowRead_unbound (n := n) ht hs
      exact ⟨w, hw, houts, hstatus, hrest⟩

end Sys2Proof.Machine
end

section
/-! PROOFS. Request frames on the SPI target (R64 to R68, R455). -/

namespace Sys2Proof.Machine

/-! ### Numbers in a frame -/

theorem beNat_eq_leNat (bs : List Byte) : beNat bs = leNat bs.reverse := by
  induction bs using List.reverseRecOn with
  | nil => rfl
  | append_singleton bs b ih =>
    rw [beNat, List.foldl_append, ← beNat, ih, List.reverse_append]
    simp [leNat, Nat.add_comm]

theorem octetsAt_length (bs : List Byte) (i n : Nat) : (octetsAt bs i n).length = n := by
  simp only [octetsAt, List.length_append, List.length_replicate, List.length_take, List.length_drop]
  omega

theorem beAt_lt (bs : List Byte) (i n : Nat) : beAt bs i n < 256 ^ n := by
  have h := leNat_lt (octetsAt bs i n).reverse
  rwa [List.length_reverse, octetsAt_length, ← beNat_eq_leNat] at h

theorem toNat_ofNat_of_lt {w x : Nat} (h : x < 2 ^ w) : (BitVec.ofNat w x).toNat = x := by
  rw [BitVec.toNat_ofNat, Nat.mod_eq_of_lt h]

theorem leNat_take_lt (bs : List Byte) : leNat (bs.take 8) < 2 ^ 64 :=
  lt_of_lt_of_le (leNat_lt _) (le_of_le_of_eq (Nat.pow_le_pow_right (by decide) (List.length_take_le 8 bs)) (by norm_num))

/-! ### A request frame -/

/-- The octets of a request frame before its CRC (R64). -/
def spiSize (b : List Byte) : Nat := 11 + (if beAt b 0 1 = 2 ∨ beAt b 0 1 = 4 then 8 * beAt b 10 1 else 0)

/-- The octets that a frame carries beside its header (R64). -/
def spiData (b : List Byte) : List Byte := (b.take (spiSize b)).drop 11

/-- The access that a request frame asks for, as a command of its own. -/
def spiAsks (dt : Nat) (b : List Byte) : Option Instr :=
  let idx := BitVec.ofNat 16 (beAt b 1 2)
  let sub := BitVec.ofNat 8 (beAt b 3 1)
  let row := BitVec.ofNat 24 (beAt b 4 3)
  let sketch := (beAt b 7 1).testBit 0
  match beAt b 0 1 with
  | 1 => some (.readScalar dt .spi idx sub)
  | 2 => some (.writeScalar dt .spi idx sub (BitVec.ofNat 64 (leNat ((spiData b).take 8))))
  | 3 => some (.readRow dt .spi idx row sketch (8 * beAt b 8 2) (8 * beAt b 10 1))
  | 4 => some (.writeRow dt .spi idx row sketch (8 * beAt b 8 2) (spiData b))
  | _ => none

/-- What follows the marker 0x5A (R66): the status and the data, with which a scalar read fills its Length. -/
def spiBody (b : List Byte) (s : State) : List Byte :=
  beBytes 1 s.status ++ (if beAt b 0 1 = 1 ∧ s.status = 0 then padTo (8 * beAt b 10 1) 0#8 s.data else s.data)

theorem spiBody_eq (b : List Byte) (s : State) : (beBytes 1 s.status
    ++ if (decide (beAt b 0 1 = 1) && decide (s.status = 0)) = true then padTo (8 * beAt b 10 1) 0#8 s.data else s.data) = spiBody b s := by
  simp only [spiBody, Bool.and_eq_true, decide_eq_true_eq]

/-- The answer to a good frame. -/
def spiAnswer (b : List Byte) (s : State) : Out := .spi ([0x5A#8] ++ spiBody b s ++ beBytes 2 (crc16 (spiBody b s)))

/-- A frame asks for no access exactly where its opcode is unknown. -/
theorem spiAsks_none (dt : Nat) (b : List Byte) : spiAsks dt b = none ↔ beAt b 0 1 = 0 ∨ 4 < beAt b 0 1 := by
  unfold spiAsks
  dsimp only
  split
  case h_5 x h1 h2 h3 h4 =>
    refine ⟨fun _ => ?_, fun _ => rfl⟩
    rcases Nat.eq_zero_or_pos (beAt b 0 1) with h0 | h0
    · exact .inl h0
    · refine .inr ?_
      have hne : beAt b 0 1 ≠ 1 ∧ beAt b 0 1 ≠ 2 ∧ beAt b 0 1 ≠ 3 ∧ beAt b 0 1 ≠ 4 := ⟨h1, h2, h3, h4⟩
      omega
  all_goals rename_i h; simp [h]

theorem spiAsks_some {dt : Nat} {b : List Byte} (h : (spiAsks dt b).isSome) : beAt b 0 1 ≠ 0 ∧ beAt b 0 1 ≤ 4 := by
  have hnone : ¬ (beAt b 0 1 = 0 ∨ 4 < beAt b 0 1) := fun hbad => by
    rw [(spiAsks_none dt b).mpr hbad] at h
    cases h
  omega

/-- The access of a frame is the command that it asks for (R64). -/
theorem spiAccess_asks {dt : Nat} {b : List Byte} {c : Instr} (h : spiAsks dt b = some c) (s : State) :
    exec c s = command dt (spiAccess (spiOp b (spiData b))) s := by
  have hi : (BitVec.ofNat 16 (beAt b 1 2)).toNat = beAt b 1 2 :=
    toNat_ofNat_of_lt (beAt_lt b 1 2)
  have hs : (BitVec.ofNat 8 (beAt b 3 1)).toNat = beAt b 3 1 :=
    toNat_ofNat_of_lt (beAt_lt b 3 1)
  have hr : (BitVec.ofNat 24 (beAt b 4 3)).toNat = beAt b 4 3 :=
    toNat_ofNat_of_lt (beAt_lt b 4 3)
  have hv : (BitVec.ofNat 64 (leNat ((spiData b).take 8))).toNat = leNat ((spiData b).take 8) :=
    toNat_ofNat_of_lt (leNat_take_lt _)
  have hbit : (beAt b 7 1).testBit 0 = (beAt b 7 1 % 2 == 1) := by rw [Nat.testBit_zero]; rfl
  unfold spiAsks at h
  dsimp only at h
  split at h <;> rename_i hop
  case h_1 =>
    cases h
    change command dt (scalarRead .spi (BitVec.ofNat 16 (beAt b 1 2)).toNat (BitVec.ofNat 8 (beAt b 3 1)).toNat) s = _
    simp only [hi, hs, spiAccess, spiOp, hop]
  case h_2 =>
    cases h
    change command dt (scalarWrite .spi (BitVec.ofNat 16 (beAt b 1 2)).toNat (BitVec.ofNat 8 (beAt b 3 1)).toNat
      (BitVec.ofNat 64 (leNat ((spiData b).take 8))).toNat) s = _
    simp only [hi, hs, hv, spiAccess, spiOp, hop]
  case h_3 =>
    cases h
    change command dt (rowRead .spi (BitVec.ofNat 16 (beAt b 1 2)).toNat (BitVec.ofNat 24 (beAt b 4 3)).toNat _ _ _) s = _
    simp only [hi, hr, hbit, spiAccess, spiOp, hop]
  case h_4 =>
    cases h
    change command dt (rowWrite .spi (BitVec.ofNat 16 (beAt b 1 2)).toNat (BitVec.ofNat 24 (beAt b 4 3)).toNat _ _ _) s = _
    simp only [hi, hr, hbit, spiAccess, spiOp, hop]
  case h_5 => cases h

section
variable {s : State} {dt : Nat} {b : List Byte}

/-- A frame is the act of its request. -/
theorem exec_spiFrame : exec (.spiFrame dt b) s = .next ((spiRequest b).run (s.after dt)) := rfl

/-- In reset and without the switched rails the inputs are ignored (R455). -/
theorem spiRequest_dead {u : State} (h : u.inReset = true ∨ u.unpowered = true) : (spiRequest b).run u = u := by
  simp only [spiRequest, run_dep]
  rw [if_pos (by rcases h with h | h <;> simp [h]), run_skip]

theorem spiRequest_header {u : State} (hlen : 13 ≤ b.length) (hr : u.inReset = false) (hp : u.unpowered = false)
    (h : beAt b 0 1 = 0 ∨ 4 < beAt b 0 1 ∨ beAt b 10 1 = 0 ∨ 32 < beAt b 10 1) :
    (spiRequest b).run u = { u with outs := u.outs ++ [.spi [0xC3#8]] } := by
  simp only [spiRequest, run_dep]
  rw [if_neg (by simp [hr, hp]; omega), if_pos (by simpa [or_assoc] using h)]
  rfl

section
variable {u : State} (hr : u.inReset = false) (hp : u.unpowered = false) (hop : beAt b 0 1 ≠ 0 ∧ beAt b 0 1 ≤ 4)
  (hn : 1 ≤ beAt b 10 1 ∧ beAt b 10 1 ≤ 32) (hlen : spiSize b + 2 ≤ b.length)
include hr hp hop hn hlen

/-- What a frame with a good header comes to, by its CRC (R65). -/
theorem spiRequest_body : (spiRequest b).run u = if beAt b (spiSize b) 2 = crc16 (b.take (spiSize b))
      then (Act.emit (spiAnswer b ((spiAccess (spiOp b (spiData b))).run u))).run ((spiAccess (spiOp b (spiData b))).run u)
      else { u with outs := u.outs ++ [.spi [0xC3#8]] } := by
  have hsize : 11 + (if (decide (beAt b 0 1 = 2) || decide (beAt b 0 1 = 4)) = true then 8 * beAt b 10 1 else 0) = spiSize b := by
    simp only [spiSize, Bool.or_eq_true, decide_eq_true_eq]
  have h13 : 13 ≤ b.length := by
    have : 11 ≤ spiSize b := Nat.le_add_right ..
    omega
  simp only [spiRequest, run_dep, hsize]
  rw [if_neg (by simp [hr, hp]; omega), if_neg (by simp; omega), if_neg (by omega)]
  by_cases hcrc : beAt b (spiSize b) 2 = crc16 (b.take (spiSize b))
  · rw [if_pos hcrc, if_neg (by simp [hcrc])]
    simp only [run_seq, run_dep, spiAnswer, spiData, spiBody_eq]
  · rw [if_neg hcrc, if_pos (by simpa using hcrc)]
    rfl

theorem spiRequest_badCrc (hcrc : beAt b (spiSize b) 2 ≠ crc16 (b.take (spiSize b))) :
    (spiRequest b).run u = { u with outs := u.outs ++ [.spi [0xC3#8]] } :=
  (spiRequest_body hr hp hop hn hlen).trans (if_neg hcrc)

theorem spiRequest_good (hcrc : beAt b (spiSize b) 2 = crc16 (b.take (spiSize b))) : (spiRequest b).run u
    = (Act.emit (spiAnswer b ((spiAccess (spiOp b (spiData b))).run u))).run ((spiAccess (spiOp b (spiData b))).run u) :=
  (spiRequest_body hr hp hop hn hlen).trans (if_pos hcrc)

end

end

/-- A served scalar read over SPI leaves the outputs as they were and answers the slot image. -/
theorem scalarRead_served {u : State} {path : Path} {idx sub : Nat} {o : Obj} (h : u.serves path = true) (ht : tableOf idx = none)
    (hs : sub ≠ 0) (ho : u.objAt idx sub = some o) (hf : u.foreignRead path idx sub = false) (hb : u.readBusy idx sub = false) :
    let t := (readScalarAt u path idx sub).act.run u
    t.status = 0 ∧ t.outs = u.outs
      ∧ t.data = leBytes 8 (if u.belongs idx o then slotOf o.ty (u.objectValue path idx sub) else 0)
      ∧ leavesRest u t (keysIn [Rg.fracLatch (pathNumber path)]) noCells := by
  obtain ⟨hst, hdata⟩ := answer_value h ht hs ho hf hb
  refine ⟨hst, ?_, hdata, readScalarAt_leavesRest ..⟩
  obtain ⟨st, -, -, hg⟩ | ⟨-, hsilent⟩ := answers_readScalarAt (u := u) (path := path) (idx := idx) (sub := sub)
  · rw [hg]
    rfl
  · exact (run_silent u hsilent).2.2

/-- Settles O14: what a frame comes to depends on its header, then on its CRC; a good one is the command that it asks for, and an answer. -/
theorem spiFramesAreAnswered : Obligations.SpiFramesAreAnswered := by
  intro s dt b u opcode n size idx sub row sketch off data asks
  have hsize : size = spiSize b := rfl
  have hasks : asks = spiAsks dt b := rfl
  have houts : u.outs = [] := after_outs ..
  refine ⟨rfl, fun h => congrArg _ (spiRequest_dead h), fun hr hp => ⟨fun hlen h => ?_, fun hsome hn hn' hlen hcrc => ?_,
    fun c t hc hn hn' hlen hcrc ht => ?_, fun o hop hn hn' hlen hcrc hserves htab hsub ho hf hb => ?_⟩⟩
  · rw [exec_spiFrame, spiRequest_header hlen hr hp ?_, houts, List.nil_append]
    rwa [hasks, spiAsks_none, or_assoc] at h
  · have hop : beAt b 0 1 ≠ 0 ∧ beAt b 0 1 ≤ 4 := spiAsks_some (hasks ▸ hsome)
    rw [exec_spiFrame, spiRequest_badCrc hr hp hop ⟨hn, hn'⟩ hlen hcrc, houts, List.nil_append]
  · have hop : beAt b 0 1 ≠ 0 ∧ beAt b 0 1 ≤ 4 := spiAsks_some (dt := dt) (by rw [← hasks, hc]; rfl)
    rw [spiAccess_asks (hasks ▸ hc), command_eq] at ht
    cases ht
    rw [exec_spiFrame, spiRequest_good hr hp hop ⟨hn, hn'⟩ hlen hcrc]
    rfl
  · have hop' : beAt b 0 1 = 1 := hop
    have hsub' : sub.toNat ≠ 0 := fun h => hsub (BitVec.eq_of_toNat_eq h)
    have hsize1 : spiSize b = 11 := by simp [spiSize, hop']
    have hread : (spiAccess (spiOp b (spiData b))).run u = (readScalarAt u .spi idx.toNat sub.toNat).act.run u := by
      have hexec := spiAccess_asks (dt := dt) (b := b) (c := .readScalar dt .spi idx sub) (by simp [spiAsks, hop', idx, sub]) s
      injection ((command_scalarRead s dt .spi idx.toNat sub.toNat).symm.trans hexec).symm
    obtain ⟨hst, houts', hdata, hrest⟩ := scalarRead_served hserves htab hsub' ho hf hb
    have hbody : spiBody b ((readScalarAt u .spi idx.toNat sub.toNat).act.run u) = [0#8] ++ padTo (8 * n) 0#8
        (leBytes 8 (if u.belongs idx.toNat o then slotOf o.ty (u.objectValue .spi idx.toNat sub.toNat) else 0)) := by
      rw [spiBody, hst, hdata, if_pos ⟨hop', rfl⟩]
      rfl
    refine ⟨_, exec_spiFrame, ?_⟩
    rw [spiRequest_good hr hp (by omega) ⟨hn, hn'⟩ (by omega) (by rwa [hsize1]), hread]
    refine ⟨?_, leavesRest_trans hrest (run_leavesRest (.emit _) _ trivial)⟩
    rw [run_emit_outs, houts', houts, spiAnswer, hbody, List.nil_append]

end Sys2Proof.Machine
end

section
/-! PROOFS. Every write to the Sketch, with the clamps that R139, R172, R177 and R275 add to the layouts (R33, R36, R42, R44). -/

namespace Sys2Proof.Machine

/-! ### Merged rows -/

/-- A field that a write does not touch, or that is RO, reads in the merged row as before. -/
theorem bits_foldl_untouched {f : Fld} {fs : List Fld} (hp : fs.Pairwise fun f f' => f.apart f' = true) (hf : f ∈ fs) {off n : Nat}
    (ht : ¬ (f.ro = false ∧ f.touched off n = true)) (new : Nat) (a : Nat × Bool) :
    bits (fs.foldl (mergeField new off n) a).1 f.bit f.width = bits a.1 f.bit f.width := by
  have hskip : ∀ b, mergeField new off n b f = b := fun b => by
    refine if_pos ?_
    cases hro : f.ro <;> cases htouch : f.touched off n <;> simp_all
  induction fs generalizing a with
  | nil => rfl
  | cons f' fs ih =>
    obtain ⟨hhead, htail⟩ := List.pairwise_cons.mp hp
    rw [List.foldl_cons]
    rcases List.mem_cons.mp hf with rfl | hf
    · rw [bits_foldl_apart hhead, hskip]
    · rw [ih htail hf, bits_mergeField_apart (Fld.apart_comm (hhead f hf))]

/-- The fields of a row lie apart, and within it. -/
theorem rowLayout_apart {idx : Nat} {t : Tab} (h : tableOf idx = some t) (row : Nat) :
    (rowLayout idx row).Pairwise (fun f f' => f.apart f' = true) ∧ ∀ f ∈ rowLayout idx row, f.bit + f.width ≤ 8 * t.stride := by
  have hfits := rowLayout_fits h row
  simpa only [layoutFits, Bool.and_eq_true, decide_eq_true_eq, List.all_eq_true] using hfits

theorem apart_of_ne {fs : List Fld} (hp : fs.Pairwise fun f f' => f.apart f' = true) {f f' : Fld} (hf : f ∈ fs) (hf' : f' ∈ fs)
    (hne : f ≠ f') : f.apart f' = true := by
  induction fs with
  | nil => cases hf
  | cons g fs ih =>
    obtain ⟨hhead, htail⟩ := List.pairwise_cons.mp hp
    rcases List.mem_cons.mp hf with rfl | hin <;> rcases List.mem_cons.mp hf' with rfl | hin'
    · exact absurd rfl hne
    · exact hhead f' hin'
    · exact Fld.apart_comm (hhead f hin)
    · exact ih htail hin hin'

section
variable {u : State} {t : Tab} {idx row off : Nat} {data : List Byte} {f : Fld}

/-- What a field of the Sketch reads as once a write has been merged into its row, before any rule beside the layout (R36). -/
def mergedValue (u : State) (t : Tab) (idx row off : Nat) (data : List Byte) (f : Fld) : Nat :=
  if f.ro = false ∧ f.touched off data.length = true
  then clampTo f.legal f.width f.dflt (bits (leNat (overlay (u.rowOctets .sketch idx row 0 t.stride) off data)) f.bit f.width) % 2 ^ f.width
  else u.fld .sketch idx row f

theorem imageField_mergedRow (ht : tableOf idx = some t) (hf : f ∈ rowLayout idx row) :
    imageField (mergedRow u t idx row off data).1 f = mergedValue u t idx row off data f := by
  obtain ⟨hapart, hwithin⟩ := rowLayout_apart ht row
  unfold mergedValue
  split
  next h => exact bits_foldl_written hf hapart h.1 h.2 _ _
  next h =>
    rw [fld_eq_bits u .sketch idx row t.stride f (hwithin f hf)]
    exact bits_foldl_untouched hapart hf h _ _

theorem mergedValue_lt : mergedValue u t idx row off data f < 2 ^ f.width := by
  unfold mergedValue
  split
  · exact Nat.mod_lt _ (Nat.two_pow_pos _)
  · exact Nat.mod_lt _ (Nat.two_pow_pos _)

/-! ### Refined rows -/

/-- The row image that a write to the Sketch leaves. -/
def refinedRow (u : State) (t : Tab) (idx row off : Nat) (data : List Byte) : Nat × Bool :=
  refineRow idx row off data.length (mergedRow u t idx row off data)

theorem imageField_pin_self (img : Nat × Bool) (f : Fld) (x : Nat) (c : Bool) : imageField (pin img f x c).1 f = x % 2 ^ f.width :=
  bits_setBits ..

theorem imageField_pin_apart {f f' : Fld} (h : f.apart f' = true) (img : Nat × Bool) (x : Nat) (c : Bool) :
    imageField (pin img f' x c).1 f = imageField img.1 f := bits_setBits_apart h _ _

/-- What a field reads as in the refined row: FieldSelect is fitted (R139), the VLANs 0 and 4095 stay invalid (R177), and a source
address stays individual (R275). -/
def refinedValue (idx row : Nat) (f : Fld) (x : Nat) : Nat :=
  if idx = 0xF042 ∧ f = F.profSelect then fitSelect x % 2 ^ f.width
  else if idx = 0xF051 ∧ f = F.vlanValid ∧ (row = 0 ∨ row = 4095) then 0
  else if idx = 0xF081 ∧ f = F.xpSa then setBits x 0 1 0
  else x

theorem setBits_clear_lt {x n : Nat} (h : x < 2 ^ n) (hn : 1 ≤ n) : setBits x 0 1 0 < 2 ^ n := setBits_lt h (by omega)

/-- A field other than the pinned one keeps its merged value. -/
theorem imageField_pin_merged {f' : Fld} (ht : tableOf idx = some t) (hf : f ∈ rowLayout idx row) (hf' : f' ∈ rowLayout idx row)
    (hne : f ≠ f') (x : Nat) (c : Bool) :
    imageField (pin (mergedRow u t idx row off data) f' x c).1 f = mergedValue u t idx row off data f := by
  rw [imageField_pin_apart (apart_of_ne (rowLayout_apart ht row).1 hf hf' hne), imageField_mergedRow ht hf]

theorem imageField_refinedRow (ht : tableOf idx = some t) (hst : t.staged = true) (hf : f ∈ rowLayout idx row) :
    imageField (refinedRow u t idx row off data).1 f = refinedValue idx row f (mergedValue u t idx row off data f) := by
  by_cases h42 : idx = 0xF042
  · subst h42
    have hmem : F.profSelect ∈ rowLayout 0xF042 row := by simp [rowLayout, layout, layoutF042]
    change imageField (pin (mergedRow u t 0xF042 row off data) F.profSelect _ _).1 f = _
    by_cases hfs : f = F.profSelect
    · subst hfs
      simp [imageField_pin_self, refinedValue, imageField_mergedRow ht hmem]
    · simp [imageField_pin_merged ht hf hmem hfs, refinedValue, hfs]
  by_cases h51 : idx = 0xF051
  · subst h51
    have hmem : F.vlanValid ∈ rowLayout 0xF051 row := by simp [rowLayout, layout, layoutF051]
    by_cases hrow : row = 0 ∨ row = 4095
    · have hpin : refinedRow u t 0xF051 row off data = pin (mergedRow u t 0xF051 row off data) F.vlanValid 0 false := by
        simp [refinedRow, refineRow, hrow]
      rw [hpin]
      by_cases hfs : f = F.vlanValid
      · subst hfs
        simp [imageField_pin_self, refinedValue, hrow]
      · simp [imageField_pin_merged ht hf hmem hfs, refinedValue, hfs]
    · have hplain : refinedRow u t 0xF051 row off data = mergedRow u t 0xF051 row off data := by
        simp only [refinedRow, refineRow, Bool.or_eq_true, decide_eq_true_eq, if_neg hrow]
      simp [hplain, imageField_mergedRow ht hf, refinedValue, hrow]
  by_cases h81 : idx = 0xF081
  · subst h81
    have hmem : F.xpSa ∈ rowLayout 0xF081 row := by simp [rowLayout, layout, layoutF081]
    change imageField (pin (mergedRow u t 0xF081 row off data) F.xpSa _ _).1 f = _
    by_cases hfs : f = F.xpSa
    · subst hfs
      have hlt := setBits_clear_lt (mergedValue_lt (u := u) (t := t) (idx := 0xF081) (row := row) (off := off) (data := data) (f := F.xpSa))
        (by decide)
      simp [imageField_pin_self, refinedValue, imageField_mergedRow ht hmem, Nat.mod_eq_of_lt hlt]
    · simp [imageField_pin_merged ht hf hmem hfs, refinedValue, hfs]
  · rw [refinedRow, refineRow_staged ht hst h42 h51 h81, imageField_mergedRow ht hf]
    simp [refinedValue, h42, h51, h81]

/-! ### The write -/

/-- An allowed write to the Sketch stores the refined row (R42). -/
theorem writeRowAt_staged {path : Path} (h : u.serves path = true) (ht : tableOf idx = some t) (hst : t.staged = true)
    (hin : t.holds row off data.length) (hw : u.mayWriteRow path t row true = true)
    (hb : u.rowBusy path t row off data.length = false) : writeRowAt u path idx row true off data
      = ⟨0, writeStaged u t row off data.length (leNat (u.rowOctets .sketch idx row 0 t.stride)) (refinedRow u t idx row off data), true⟩ := by
  simp only [writeRowAt, h, ht, Tab.inside_iff.mpr hin, hw, hb, hst, Bool.not_true, Bool.false_eq_true, if_false, if_true, refinedRow,
    mergedRow]

/-- What is stored in the octets of the Sketch, before CommitState follows (R44). -/
def storeStaged (s : State) (t : Tab) (row old : Nat) (img : Nat × Bool) : Act :=
  if t.idx = 0xF050 then writePools s row img else .seq (Act.setImage .sketch t.idx row t.stride old img.1) (countRow t.idx img.2)

theorem run_writeStaged (s v : State) (row off n old : Nat) (img : Nat × Bool) : (writeStaged s t row off n old img).run v
    = (Act.when ((rowLayout t.idx row).any fun f => !f.ro && f.touched off n) edited).run ((storeStaged s t row old img).run v) := rfl

/-- CommitState after the first stored write to a Sketch (R44). -/
theorem get_whenEdited (v : State) (c : Bool) : ((Act.when c edited).run v).get Key.commitState
    = if (v.get Key.commitState = 0 ∨ v.get Key.commitState = 5) ∧ c = true then 1 else v.get Key.commitState := by
  cases c
  · simp
  · rw [run_when_true, edited, run_dep]
    by_cases h : v.get Key.commitState = 0 ∨ v.get Key.commitState = 5
    · rw [if_pos ⟨h, rfl⟩, show (v.get Key.commitState == 0 || v.get Key.commitState == 5) = true by simpa using h, run_when_true,
        get_put_self, regMod_commitState]
    · rw [if_neg (fun h' => h h'.1), show (v.get Key.commitState == 0 || v.get Key.commitState == 5) = false by simpa using h,
        run_when_false]

theorem rows_bound : (tables.all fun t => decide (t.rows ≤ 2 ^ 24)) = true := by decide

theorem tableOf_rows (ht : tableOf idx = some t) : t.rows ≤ 2 ^ 24 := by
  simpa using List.all_eq_true.mp rows_bound t (tableOf_mem ht).1

theorem rowCells_table {g : Gen} (hr : row < 2 ^ 24) {h : Gen} {a : Nat} (ha : rowCells g idx row h a) : tableCells g idx h a := by
  obtain ⟨hg, hlo, hhi⟩ := ha
  unfold cellKey at hlo hhi
  exact ⟨hg, by omega⟩

/-- The octets that a write to a table's Sketch may change. -/
def stagedCells (idx : Nat) : Gen → Nat → Prop := bothCells (tableCells .sketch idx) clampCells

theorem within_setImage_staged {ks : Nat → Prop} (ht : tableOf idx = some t) (hr : row < t.rows) {stride : Nat} (hs : stride ≤ 4096)
    (old new : Nat) : Within ks (stagedCells idx) (Act.setImage .sketch idx row stride old new) :=
  within_mono (fun _ hk => hk) (fun _ _ ha => .inl (rowCells_table (lt_of_lt_of_le hr (tableOf_rows ht)) ha)) _ (within_setImage hs)

theorem within_countRow_staged {ks : Nat → Prop} {i : Nat} (hi : i < 2 ^ 16) (c : Bool) : Within ks (stagedCells idx) (countRow i c) :=
  within_mono (fun _ hk => hk) (fun _ _ => .inr) _ (within_countRow hi c)

/-- The pools' quotas are fields of the rows of their Sketch. -/
theorem within_setQuota {ks : Nat → Prop} {r : Nat} (hr : r < 4) (v : Nat) :
    Within ks (stagedCells 0xF050) (Act.setF .sketch 0xF050 r F.poolQuota v) :=
  within_mono (fun _ hk => hk) (fun _ _ ha => .inl (rowCells_table (row := r) (by omega) ha)) _
    (within_setF_row .sketch 0xF050 r F.poolQuota v)

theorem within_writePools {ks : Nat → Prop} (s : State) (ht : tableOf 0xF050 = some t) (hr : row < t.rows) (img : Nat × Bool) :
    Within ks (stagedCells 0xF050) (writePools s row img) := by
  have himage : ∀ old new, Within ks (stagedCells 0xF050) (Act.setImage .sketch 0xF050 row 8 old new) :=
    fun old new => within_setImage_staged ht hr (by decide) old new
  have hquotas : ∀ v : Nat → Nat, Within ks (stagedCells 0xF050) (Act.each (List.range 4) fun r => Act.setF .sketch 0xF050 r F.poolQuota (v r)) :=
    fun v => within_each fun r hi => within_setQuota (r := r) (List.mem_range.mp hi) (v r)
  have hcount : ∀ c, Within ks (stagedCells 0xF050) (countRow 0xF050 c) := fun c => within_countRow_staged (by decide) c
  simp only [writePools, within_all_cons, within_all_nil, himage, hquotas, hcount, and_self]

theorem within_storeStaged (s : State) (ht : tableOf idx = some t) (hr : row < t.rows) (old : Nat) (img : Nat × Bool) :
    Within (fun _ => False) (stagedCells idx) (storeStaged s t row old img) := by
  obtain ⟨-, hstride, hidx⟩ := tableOf_bounds ht
  obtain rfl := (tableOf_mem ht).2
  unfold storeStaged
  split
  next h => exact h ▸ within_writePools s (h ▸ ht) hr img
  next => exact ⟨within_setImage_staged ht hr hstride _ _, within_countRow_staged hidx _⟩

/-! ### The quotas of the pools (R172) -/

/-- The quotas that a write asks for, and those that it leaves. -/
def askedQuotas (s : State) (row : Nat) (img : Nat × Bool) : List Nat :=
  (List.range 4).map fun r => if r = row then imageField img.1 F.poolQuota else s.fld .sketch 0xF050 r F.poolQuota

def setQuotas (quotas : List Nat) : Act := Act.each (List.range 4) fun r => Act.setF .sketch 0xF050 r F.poolQuota (quotas.getD r 0)

theorem run_writePools (s v : State) (row : Nat) (img : Nat × Bool) : (writePools s row img).run v
    = (countRow 0xF050 (img.2 || fitQuotas 95232 (askedQuotas s row img) != askedQuotas s row img)).run
        ((setQuotas (fitQuotas 95232 (askedQuotas s row img))).run
          ((Act.setImage .sketch 0xF050 row 8 (leNat (s.rowOctets .sketch 0xF050 row 0 8)) img.1).run v)) := by
  rw [writePools, run_all_cons, run_all_cons, run_all_cons, run_all_nil]
  rfl

/-- Each quota reads as it was set. -/
theorem fld_setQuotas_quota (v : State) (quotas : List Nat) {r : Nat} (hr : r < 4) :
    ((setQuotas quotas).run v).fld .sketch 0xF050 r F.poolQuota = quotas.getD r 0 % 2 ^ F.poolQuota.width := by
  have hother : ∀ (w : State) {i : Nat} (x : Nat), r ≠ i →
      ((Act.setF .sketch 0xF050 i F.poolQuota x).run w).fld .sketch 0xF050 r F.poolQuota = w.fld .sketch 0xF050 r F.poolQuota :=
    fun w i x hne => fld_setF_row w _ _ _ _ _ _ x hne (by decide) (by decide)
  rw [setQuotas, show List.range 4 = [0, 1, 2, 3] from rfl, run_each_cons, run_each_cons, run_each_cons, run_each_cons, run_each_nil]
  obtain rfl | rfl | rfl | rfl : r = 0 ∨ r = 1 ∨ r = 2 ∨ r = 3 := by omega
  · rw [hother _ _ (by decide), hother _ _ (by decide), hother _ _ (by decide), fld_setF_self]
  · rw [hother _ _ (by decide), hother _ _ (by decide), fld_setF_self]
  · rw [hother _ _ (by decide), fld_setF_self]
  · rw [fld_setF_self]

/-- The other fields of a pool's row lie in octets of their own. -/
theorem fld_setQuotas_apart (v : State) (quotas : List Nat) (r : Nat) {f : Fld} (hf : f = F.poolClasses ∨ f = F.poolProtected) :
    ((setQuotas quotas).run v).fld .sketch 0xF050 r f = v.fld .sketch 0xF050 r f := by
  have hset : ∀ (w : State) (i x : Nat), ((Act.setF .sketch 0xF050 i F.poolQuota x).run w).fld .sketch 0xF050 r f = w.fld .sketch 0xF050 r f := by
    intro w i x
    by_cases hi : r = i
    · subst hi
      exact fld_setF_apart w _ _ _ _ _ x (by rcases hf with rfl | rfl <;> decide)
    · exact fld_setF_row w _ _ _ _ _ _ x hi (by decide) (by rcases hf with rfl | rfl <;> decide)
  have hall : ∀ (l : List Nat) (w : State), ((Act.each l fun i => Act.setF .sketch 0xF050 i F.poolQuota (quotas.getD i 0)).run w).fld
      .sketch 0xF050 r f = w.fld .sketch 0xF050 r f := by
    intro l
    induction l with
    | nil => exact fun _ => rfl
    | cons i l ih => exact fun w => by rw [run_each_cons, ih, hset]
  exact hall _ v

/-! ### What the write leaves in a field -/

theorem fld_storeStaged (ht : tableOf idx = some t) (hst : t.staged = true) (hr : row < t.rows) (hf : f ∈ rowLayout idx row) :
    let x := mergedValue u t idx row off data f
    let quotas := (List.range 4).map fun r => if r = row then x else u.fld .sketch 0xF050 r F.poolQuota
    ((storeStaged u t row (leNat (u.rowOctets .sketch idx row 0 t.stride)) (refinedRow u t idx row off data)).run u).fld .sketch idx row f
      = if idx = 0xF050 ∧ f = F.poolQuota then (fitQuotas 95232 quotas).getD row 0 % 2 ^ f.width else refinedValue idx row f x := by
  intro x quotas
  have himage := fld_setImage u .sketch idx row t.stride (refinedRow u t idx row off data).1 f ((rowLayout_apart ht row).2 f hf)
  have hvalue : bits (refinedRow u t idx row off data).1 f.bit f.width = refinedValue idx row f x := imageField_refinedRow ht hst hf
  rw [hvalue] at himage
  have hidx := (tableOf_mem ht).2
  by_cases h50 : idx = 0xF050
  · subst h50
    obtain rfl := Option.some.inj ht
    have hr4 : row < 4 := hr
    have hplain : ∀ y, refinedValue 0xF050 row f y = y := fun y => by simp [refinedValue]
    rw [storeStaged, if_pos rfl, run_writePools, fld_countRow]
    by_cases hq : f = F.poolQuota
    · subst hq
      have himg := (imageField_refinedRow (u := u) (off := off) (data := data) ht hst hf).trans (hplain _)
      have hasked := List.map_congr_left (l := List.range 4) fun r _ =>
        congrArg (fun x => if r = row then x else u.fld .sketch 0xF050 r F.poolQuota) himg
      rw [if_pos ⟨rfl, rfl⟩, fld_setQuotas_quota _ _ hr4, askedQuotas, hasked]
    · have hother : f = F.poolClasses ∨ f = F.poolProtected := by
        have hmem : f ∈ layoutF050 := hf
        simpa [layoutF050, hq] using hmem
      rw [if_neg (fun h => hq h.2), fld_setQuotas_apart _ _ _ hother]
      exact himage
  · rw [storeStaged, if_neg (by rw [hidx]; exact h50), if_neg (fun h => h50 h.1), run_seq, fld_countRow, hidx]
    exact himage

end

/-- Settles O11: the write stores the refined row, and each field of it is its merged value but for the four rules. -/
theorem sketchFieldsTakeTheirLegalValue : Obligations.SketchFieldsTakeTheirLegalValue := by
  constructor
  · intro s dt path idx row off data tab u n h ht hst hr hn hin hw hb
    refine ⟨_, command_rowWrite .., ?_⟩
    rw [writeRowAt_staged h ht hst ⟨hr, hn, hin⟩ hw hb]
    have hstore := run_leavesRest _ u (within_storeStaged u ht hr (leNat (u.rowOctets .sketch idx.toNat row.toNat 0 tab.stride))
      (refinedRow u tab idx.toNat row.toNat off data))
    refine ⟨rfl, ?_, ?_⟩
    · refine run_leavesRest _ u ⟨⟨within_mono (fun _ h => h.elim) (fun _ _ h => h) _ (within_storeStaged u ht hr _ _),
        within_when fun _ => within_edited⟩, trivial⟩
    · have hkept := hstore.1 Key.commitState not_false
      refine (get_answer ..).trans ?_
      rw [run_writeStaged, get_whenEdited, hkept, (tableOf_mem ht).2]
  · intro s dt path idx row off data tab f u n was h ht hst hr hn hin hw hb hf x quotas
    refine ⟨_, command_rowWrite .., ?_⟩
    rw [writeRowAt_staged h ht hst ⟨hr, hn, hin⟩ hw hb]
    refine (fld_answer ..).trans ((fld_whenEdited ..).trans ((fld_storeStaged ht hst hr hf).trans ?_))
    change _ = if _ then _ else if _ then _ else if _ then _ else if _ then _ else _
    by_cases h50 : idx.toNat = 0xF050 ∧ f = F.poolQuota
    · have hother : ∀ i ≠ 0xF050, idx.toNat ≠ i := fun i hi h => hi (h.symm.trans h50.1)
      rw [if_pos h50, if_neg fun h => hother _ (by decide) h.1, if_neg fun h => hother _ (by decide) h.1,
        if_neg fun h => hother _ (by decide) h.1, if_pos h50]
      rfl
    · rw [if_neg h50, refinedValue, if_neg h50]
      rfl

end Sys2Proof.Machine
end

section
/-! PROOFS. The end of a generation (R161) while a queue is out of shape. -/

namespace Sys2Proof.Machine

/-- A frame of the previous generation that waits in its recirculation queue, and its copy there. -/
def lateFrame : Frame := { emptyFrame with id := 1, stage := .recirculating, tag := 1 }
def lateCopy : Copy := { strayCopy with frame := 1, tc := 6, seq := 1 }

/-- The serial port 208 has that copy in its queue, beside the one that names no route row. -/
def lateBesideStray : State :=
  (Act.all [.put Rg.prevHeld 1, .setFrames [emptyFrame, lateFrame], .setCopies [strayCopy, lateCopy]]).run strayQueue

/-- The state is sound: soundness does not speak of the queues. -/
theorem lateBesideStray_sound : lateBesideStray.sound = true := sound_run _ _ (sound_run _ _ (by decide))

theorem lateBesideStray_due : lateBesideStray.operates = true ∧ lateBesideStray.get Rg.prevHeld = 1
    ∧ (lateBesideStray.after (us 50)).get Rg.realignFrom + us 50 ≤ (lateBesideStray.after (us 50)).now := by decide +kernel

/-- The late frame is dropped with its copy, the line is selected, the stray copy cannot be sent there, and its failure counts in its
row of RouteCounters (R292): that octet lies in table 0xF084. -/
theorem octet_lateBesideStray_retired :
    ((powered retire).run (lateBesideStray.after (us 50))).octet .live (cellKey 0xF084 0 32) = 1 := by decide +kernel

/-- Refutes O20: the drop of the frames of the previous generation has their ports selected, and what a selection drops writes outside of
what forwarding may write, where a queued copy names a route that is in no table. The statement takes any queue. -/
theorem not_swapTakesTheSketchAndRetires : ¬ Obligations.SwapTakesTheSketchAndRetires := by
  rintro ⟨-, hretire⟩
  obtain ⟨hpower, hheld, hlate⟩ := lateBesideStray_due
  obtain ⟨-, -, -, -, hframe, -⟩ := of_runs rfl (hretire lateBesideStray (us 50) hpower hheld (.inr hlate))
  have hkept := hframe .live (cellKey 0xF084 0 32) (by simp [noCells]) (by unfold forwardingCells; decide)
  rw [after_octet] at hkept
  exact absurd (octet_lateBesideStray_retired.symm.trans hkept) (by decide +kernel)

end Sys2Proof.Machine
end

section
/-! PROOFS. The answers to an Open (R75, R76) and to a Request (R78) in a state whose fabric is out of shape: that of the refutation for
Close, `sessionBesideUnported`. Each answer takes the number of the frame that is there already, so that this one comes to its decision,
and R370's note of its port lands in the verdict of the commit checks (R43). -/

namespace Sys2Proof.Machine

/-- An Open of client 0, which is not enabled. -/
def openOfNoClient : List Byte := makePdu 1 255 0 (beBytes 1 0 ++ beBytes 16 0) none

theorem openOfNoClient_taken : pduTaken (sessionBesideUnported.after 0) 0 overEthernet openOfNoClient 1 := by
  unfold pduTaken
  decide +kernel

theorem openOfNoClient_refused : openOfNoClient.length = 25
    ∧ (sessionBesideUnported.after 0).openFault (beAt openOfNoClient 8 1) overEthernet = some 6 := by decide +kernel

theorem verdict_openOfNoClient :
    ((receivePdu 0 overEthernet 1 openOfNoClient (openPdu 0 overEthernet openOfNoClient)).run (sessionBesideUnported.after 0)).get
      (Rg.verdict 0) = 1 := by decide +kernel

/-- Refutes O15: the Refuse that answers an Open enters a fabric in which a frame on no port bears the next frame's number, and changes a
register that neither a session nor forwarding may change. The statement takes any fabric. -/
theorem not_sessionsAreOpened : ¬ Obligations.SessionsAreOpened := by
  rintro ⟨-, hrefuse, -⟩
  obtain ⟨hlength, hfault⟩ := openOfNoClient_refused
  have hruns := hrefuse sessionBesideUnported 0 0 overEthernet openOfNoClient 6 openOfNoClient_taken hlength hfault
  obtain ⟨-, -, -, -, hframe, -⟩ := of_runs rfl hruns
  have hkept := hframe (Rg.verdict 0) (by unfold sessionRegs; decide) (by decide)
  rw [after_get _ _ (by decide) (by decide)] at hkept
  exact absurd (verdict_openOfNoClient.symm.trans hkept) (by decide +kernel)

/-- A Request of one scalar read on session 3 with the last sequence number there is. -/
def lastRequest : List Byte := makePdu 5 3 0xFFFFFFFF [1, 0, 0x10, 0, 1, 0, 0, 0, 0, 0, 1, 0] (some zerosKey)

theorem lastRequest_taken : pduTaken (sessionBesideUnported.after 0) 0 overEthernet lastRequest 5 := by
  unfold pduTaken
  decide +kernel

theorem lastRequest_authentic : pduSession lastRequest = 3 ∧ pduSequence lastRequest = 0xFFFFFFFF
    ∧ tagFits zerosKey lastRequest = true := by decide +kernel

/-- The one operation of that Request. -/
def lastRead : Op := opHead (taggedBody lastRequest) []

theorem lastRequest_ops : parseOps 16 (taggedBody lastRequest) = some [lastRead] := by decide +kernel

theorem verdict_lastRequest :
    ((receivePdu 0 overEthernet 5 lastRequest (requestPdu 0 overEthernet lastRequest)).run (sessionBesideUnported.after 0)).get
      (Rg.verdict 0) = 1 := by decide +kernel

/-- Refutes O16: the Response that ends a session at its last sequence number enters that same fabric, and changes a register that neither
a session nor forwarding may change. The statement takes any fabric. -/
theorem not_requestsAreExecutedOnce : ¬ Obligations.RequestsAreExecutedOnce := by
  intro h
  obtain ⟨hsession, hsequence, htag⟩ := lastRequest_authentic
  obtain ⟨hopen, hkey⟩ := sessionBesideUnported_open
  obtain ⟨hlast, -⟩ := h sessionBesideUnported 0 0 overEthernet lastRequest zerosKey 3 lastRequest_taken hsession hopen hkey htag
  obtain ⟨-, -, -, hframe, -⟩ := of_runs rfl (hlast [lastRead] lastRequest_ops (List.cons_ne_nil _ _) hsequence)
  have hkept := hframe (Rg.verdict 0) (by unfold sessionRegs; decide) (by decide)
  rw [after_get _ _ (by decide) (by decide)] at hkept
  exact absurd (verdict_lastRequest.symm.trans hkept) (by decide +kernel)

end Sys2Proof.Machine
end

section
/-! PROOFS. The start of the periodic test (R404, R423) while a queue is out of shape. -/

namespace Sys2Proof.Machine

/-- A frame that is still being received on port 0. -/
def arrivingFrame : Frame := { emptyFrame with id := 1, port := 0, complete := false }

/-- The safety partition runs, row 0 of SelfTestBlocks is in the periodic test, and the copy of that frame is queued on the serial port
208, beside the one that names no route row. -/
def testBesideStray : State :=
  (Act.all [.put Key.safetyState 1, .setFrames [emptyFrame, arrivingFrame], .setCopies [strayCopy, lateCopy],
    Act.setF .live 0xF0B1 0 F.stbPeriodic 1]).run strayQueue

/-- The state is sound: soundness does not speak of the queues. -/
theorem testBesideStray_sound : testBesideStray.sound = true := sound_run _ _ (sound_run _ _ (by decide))

theorem testBesideStray_admits : (testBesideStray.facing 0 .safety).admits .safety 0xA000 17 = true := by decide +kernel

/-- The test of row 0 isolates port 0, the frame that arrives there ends with its copy (R95), the line of port 208 is selected, the stray
copy cannot be sent there, and its failure counts in its row of RouteCounters (R292): that octet lies in table 0xF084. -/
theorem octet_testBesideStray_run :
    ((scalarWrite .safety 0xA000 17 1).run (testBesideStray.after 0)).octet .live (cellKey 0xF084 0 32) = 1 := by decide +kernel

theorem octet_testBesideStray : (testBesideStray.facing 0 .safety).octet .live (cellKey 0xF084 0 32) = 0 := by decide +kernel

/-- Refutes O55: the periodic test isolates a port whose arriving frame has a copy in a queue, and what the selection there drops writes
outside of what forwarding may write, where a queued copy names a route that is in no table. The statement takes any queue. -/
theorem not_latentFaultsAreFound : ¬ Obligations.LatentFaultsAreFound := by
  rintro ⟨-, -, -, hperiodic, -⟩
  have hruns := hperiodic testBesideStray 0 .safety 1 testBesideStray_admits
  obtain ⟨-, -, -, -, -, -, -, hframe, -⟩ := of_runs rfl hruns
  have hkept := hframe .live (cellKey 0xF084 0 32) (by simp only [bothCells, testCells, clampCells, tableCells]; decide)
    (by unfold forwardingCells; decide)
  exact absurd (octet_testBesideStray_run.symm.trans (hkept.trans octet_testBesideStray)) (by decide)

end Sys2Proof.Machine
end

section
/-! PROOFS. What moves frames, queues, gates and ports writes no object below the port groups (0x2000): the objects of a commit (0x1F10)
stay as they are meanwhile. One lemma for each operation, in the model's order. -/

namespace Sys2Proof.Machine

/-- An act that writes no object below index 0x2000, the first of the port groups. -/
def Spares : Act → Prop
  | .seq a b => Spares a ∧ Spares b
  | .dep f => ∀ s, Spares (f s)
  | .put k _ => 0x200000 ≤ k
  | .keepRegs p => ∀ k < 0x200000, p k = true
  | _ => True

theorem run_spares (a : Act) {k : Nat} (hk : k < 0x200000) : ∀ s : State, Spares a → (a.run s).get k = s.get k := by
  induction a with
  | seq a b iha ihb => intro s h; exact (ihb _ h.2).trans (iha s h.1)
  | dep f ih => intro s h; exact ih s s (h s)
  | put j v => intro s h; exact get_put_ne s v (Nat.ne_of_lt (Nat.lt_of_lt_of_le hk h))
  | cell g a b => intro s _; exact get_cell s g a b k
  | keepRegs p => intro s h; exact Store.get_filter _ _ p k (h k hk)
  | keepCells g p => intro s _; exact get_keepCells s g p k
  | _ => intro s _; rfl

/-! ### The named operations -/

theorem le_object {x sub : Nat} (h : 0x2000 ≤ x) : 0x200000 ≤ x * 256 + sub := by omega
theorem le_internal (n i j : Nat) : 0x200000 ≤ Rg.at' n i j := by unfold Rg.at'; omega

theorem spares_put {x sub v : Nat} (h : 0x2000 ≤ x) : Spares (.put (x * 256 + sub) v) := le_object h
theorem spares_reg {n i j v : Nat} : Spares (.put (Rg.at' n i j) v) := le_internal n i j
theorem spares_bump {x sub n : Nat} (h : 0x2000 ≤ x) : Spares (Act.bump (x * 256 + sub) n) := fun _ => le_object h

theorem spares_all {l : List Act} (h : ∀ a ∈ l, Spares a) : Spares (Act.all l) := by
  induction l with
  | nil => trivial
  | cons a l ih => exact ⟨h a List.mem_cons_self, ih fun b hb => h b (List.mem_cons_of_mem _ hb)⟩

theorem spares_each {α : Type} {l : List α} {f : α → Act} (h : ∀ x, Spares (f x)) : Spares (Act.each l f) :=
  spares_all fun _ ha => by
    obtain ⟨x, -, rfl⟩ := List.mem_map.mp ha
    exact h x

theorem spares_ite {c : Prop} [Decidable c] {a b : Act} (ha : Spares a) (hb : Spares b) : Spares (if c then a else b) := by
  split <;> assumption

theorem spares_when {c : Bool} {a : Act} (h : Spares a) : Spares (Act.when c a) := spares_ite h trivial

theorem spares_block {g : Gen} {bs : List Byte} : ∀ {a : Nat}, Spares (Act.block g a bs) := by
  induction bs with
  | nil => intro a; trivial
  | cons b bs ih => intro a; exact ⟨trivial, ih⟩

theorem spares_setF {g : Gen} {idx row : Nat} {f : Fld} {v : Nat} : Spares (Act.setF g idx row f v) := fun _ => spares_block
theorem spares_bumpF {g : Gen} {idx row : Nat} {f : Fld} {n : Nat} : Spares (Act.bumpF g idx row f n) :=
  fun _ => spares_setF
theorem spares_vectorOf {k : Nat} : Spares (Act.vectorOf k) := fun _ => spares_when trivial
theorem spares_putNotify {x sub v vec : Nat} (h : 0x2000 ≤ x) : Spares (Act.putNotify (x * 256 + sub) v vec) :=
  fun _ => spares_ite trivial ⟨spares_put h, spares_vectorOf⟩
theorem spares_zero {l : List Nat} (h : ∀ k ∈ l, 0x200000 ≤ k) : Spares (Act.zero l) := by
  refine spares_all fun _ ha => ?_
  obtain ⟨k, hk, rfl⟩ := List.mem_map.mp ha
  exact h k hk

/-! ### Logs, and the end of copies and frames -/

theorem spares_storeEntry {idx rows : Nat} {x sub y sub' : Nat} {image : List Byte} {signal : Act} (hx : 0x2000 ≤ x) (hy : 0x2000 ≤ y)
    (hs : Spares signal) : Spares (storeEntry idx rows (x * 256 + sub) (y * 256 + sub') image signal) :=
  fun _ => spares_ite ⟨spares_block, spares_put hx, hs, trivial⟩ ⟨spares_when hs, spares_bump hy, trivial⟩

theorem spares_faultEntry {source reaction unit od row address : Nat} : Spares (faultEntry source reaction unit od row address) :=
  fun _ => spares_storeEntry (by decide) (by decide) (spares_vectorOf)

theorem spares_deliveryFault {stream port kind sojourn bound : Nat} : Spares (deliveryFault stream port kind sojourn bound) :=
  fun _ => ⟨spares_bumpF, spares_bump (by decide),
    spares_ite ⟨spares_block, spares_bump (by decide), trivial⟩ (spares_bump (by decide)), spares_vectorOf, spares_faultEntry, trivial⟩

theorem spares_failureEntry {ident source target reason : Nat} {whole : Bool} {cls kind route : Nat} :
    Spares (failureEntry ident source target reason whole cls kind route) :=
  fun _ => spares_ite ⟨spares_bumpF, spares_setF, trivial⟩
    (spares_storeEntry (by decide) (by decide) (spares_vectorOf))

theorem spares_failCopy {f : Frame} {route : Option Nat} {port cls reason : Nat} : Spares (failCopy f route port cls reason) :=
  ⟨by cases route <;> [trivial; exact spares_bumpF], spares_when (spares_bump (by decide)), spares_when (spares_bump (by decide)),
    spares_failureEntry, trivial⟩

theorem spares_failFrame {f : Frame} {route cls reason : Nat} : Spares (failFrame f route cls reason) :=
  ⟨spares_bumpF, spares_failureEntry, trivial⟩

theorem spares_loseCopy {c : Copy} {reason : Nat} : Spares (loseCopy c reason) := fun s => by
  show Spares (match c.pair, s.frame? c.frame with
    | some (r, _), some f => failCopy f (some r) c.port c.tc reason
    | _, _ => .skip)
  split
  · exact spares_failCopy
  · trivial

theorem spares_endCopies {p : Copy → Bool} : Spares (endCopies p) := ⟨fun _ => trivial, fun _ => trivial⟩
theorem spares_endCopy {c : Copy} : Spares (endCopy c) := spares_endCopies
theorem spares_setCopy {seq : Nat} {f : Copy → Copy} : Spares (setCopy seq f) := fun _ => trivial
theorem spares_setFrame {id : Nat} {f : Frame → Frame} : Spares (setFrame id f) := fun _ => trivial
theorem spares_dropFrame {id : Nat} : Spares (dropFrame id) := fun _ => trivial

theorem spares_releaseEntry {c : Copy} : Spares (releaseEntry c) :=
  ⟨spares_bump (by omega), spares_loseCopy, spares_endCopy, trivial⟩

theorem spares_formatDrop {c : Copy} : Spares (formatDrop c) := ⟨spares_bump (by omega), spares_loseCopy, spares_endCopy, trivial⟩

theorem spares_overrunEnds {c : Copy} : Spares (overrunEnds c) :=
  fun _ => spares_when ⟨spares_reg, spares_when ⟨spares_reg, spares_bump (by omega), trivial⟩⟩

theorem spares_gapBegins {p : Nat} : Spares (gapBegins p) := fun _ => spares_when spares_reg

theorem spares_varnish {c : Copy} {octets : List Byte} : Spares (varnish c octets) :=
  ⟨spares_bump (by omega), trivial, spares_overrunEnds, spares_gapBegins, spares_endCopy, trivial⟩

theorem spares_abortCopy {c : Copy} : Spares (abortCopy c) := fun _ => ⟨spares_bump (by omega), spares_varnish⟩

theorem spares_expireCopy {c : Copy} : Spares (expireCopy c) := fun s => by
  beta_reduce
  split
  · exact spares_endCopy
  · refine ⟨spares_failCopy, ?_, spares_endCopy, trivial⟩
    split
    · split
      · exact spares_deliveryFault
      · trivial
    · trivial

theorem spares_spoilCopies {id : Nat} : Spares (spoilCopies id) :=
  fun _ => ⟨spares_each fun c => ⟨spares_bump (by omega), fun _ => trivial, spares_overrunEnds, spares_gapBegins, trivial⟩,
    fun _ => trivial, trivial⟩

theorem spares_frameFoundBad {id : Nat} : Spares (frameFoundBad id) := ⟨spares_spoilCopies, fun _ => trivial⟩

theorem spares_discardBad {id : Nat} : Spares (discardBad id) := fun s => by
  beta_reduce
  split
  · trivial
  · exact spares_ite (spares_frameFoundBad) ⟨spares_endCopies, spares_dropFrame, trivial⟩

/-! ### The selection at a port -/

theorem spares_noteWaited {c : Copy} : Spares (noteWaited c) := spares_when ⟨spares_setCopy, spares_bump (by omega)⟩
theorem spares_noteDeferred {c : Copy} : Spares (noteDeferred c) := spares_when ⟨spares_setCopy, spares_bump (by omega)⟩

theorem spares_pick {s : State} {p : Nat} {pre : Bool} {t : Nat} {tcs : List Nat} : Spares (s.pick p pre t tcs).2 := by
  induction tcs with
  | nil => trivial
  | cons tc rest ih =>
    unfold State.pick
    split
    · exact ih
    · split
      · exact ⟨spares_noteWaited, ih, trivial⟩
      · split
        · exact ih
        · split
          · trivial
          · exact ⟨spares_when (spares_noteDeferred), ih, trivial⟩

theorem spares_picked {s : State} {p : Nat} {pre : Bool} {t : Nat} {tcs : List Nat} {r : Option (Copy × Frame)} {a : Act}
    (h : s.pick p pre t tcs = (r, a)) : Spares a := (congrArg Prod.snd h).subst (motive := Spares) spares_pick

theorem spares_choose {s : State} {p : Nat} : Spares (s.choose p).2 := by
  unfold State.choose
  split
  · trivial
  · dsimp only
    split
    · split
      · trivial
      · split
        · trivial
        · split
          · trivial
          · split
            · trivial
            · split <;> next h => exact spares_picked h
    · split
      · next h => exact spares_picked h
      · next h =>
        split
        all_goals
          split
          · exact spares_picked h
          · split <;> next h' => exact ⟨spares_picked h, spares_picked h', trivial⟩

theorem spares_chosen {s : State} {p : Nat} {x : Pick} {a : Act} (h : s.choose p = (x, a)) : Spares a :=
  (congrArg Prod.snd h).subst (motive := Spares) spares_choose

theorem spares_takePn {p row : Nat} : Spares (takePn p row) :=
  fun _ => ⟨spares_bump (by omega), spares_bumpF, spares_ite spares_setF spares_setF,
    spares_when ⟨spares_setF, spares_vectorOf, trivial⟩, trivial⟩

theorem spares_residence {c : Copy} {f : Frame} : Spares (residence c f) := fun _ => spares_when (spares_put (by decide))

theorem spares_sampleSojourn {p tc t : Nat} : Spares (sampleSojourn p tc t) :=
  fun _ => ⟨spares_reg, spares_when ⟨spares_bumpF, spares_bumpF, spares_when (spares_put (by omega)),
    spares_when ⟨spares_setF, spares_setF, trivial⟩, trivial⟩, trivial⟩

theorem spares_departure {c : Copy} {f : Frame} {stamp at' : Nat} : Spares (departure c f stamp at') := fun s => by
  refine ⟨spares_sampleSojourn, ?_, ?_, trivial⟩
  · split
    · exact spares_when spares_setF
    · trivial
  · split
    · exact ⟨spares_when (spares_bump (by decide)), spares_when (spares_bump (by decide)), spares_when spares_deliveryFault, trivial⟩
    · trivial

theorem spares_beginLeave {c : Copy} {f : Frame} {pre : Bool} {sa : Option Nat} {t : Nat} : Spares (beginLeave c f pre sa t) := fun s => by
  refine spares_ite ⟨spares_reg, spares_setCopy, trivial⟩ ⟨spares_reg, spares_reg, spares_reg, spares_when ⟨spares_reg, spares_reg⟩, ?_, ?_,
    spares_when (spares_bump (by omega)), spares_residence, spares_setCopy, spares_when spares_departure, trivial⟩
  · split
    · exact spares_reg
    · trivial
  · split
    · exact spares_takePn
    · trivial

theorem spares_selectWithin (fuel p : Nat) : Spares (selectWithin fuel p) := by
  induction fuel with
  | zero => trivial
  | succ fuel ih =>
    intro s
    beta_reduce
    split
    · next h => exact spares_chosen h
    · next h => exact ⟨spares_chosen h, spares_reg, spares_reg, trivial⟩
    · next h =>
      have ha := spares_chosen h
      exact spares_ite ⟨ha, spares_beginLeave⟩ <| spares_ite ⟨ha, spares_formatDrop, ih, trivial⟩ <|
        spares_ite ⟨ha, spares_expireCopy, ih, trivial⟩ <| spares_ite
          (spares_ite ⟨ha, spares_beginLeave⟩ ⟨ha, spares_bump (by omega), spares_endCopy, ih, trivial⟩) ⟨ha, spares_beginLeave⟩

theorem spares_selectPort {p : Nat} : Spares (selectPort p) :=
  fun _ => ⟨fun _ => spares_each fun _ => spares_formatDrop, spares_selectWithin _ p, spares_when trivial, trivial⟩

theorem spares_reselect {a : Act} (h : Spares a) : Spares (reselect a) := fun _ => ⟨h, fun _ => spares_each fun _ => spares_selectPort⟩

/-! ### A port leaves Up -/

theorem spares_noteArrival {f : Frame} : Spares (noteArrival f) := fun _ => spares_when spares_reg

theorem spares_truncateArrivals {p : Nat} : Spares (truncateArrivals p) :=
  spares_reselect fun _ => spares_each fun f => ⟨by split <;> exact spares_bump (by omega), spares_when spares_noteArrival,
    spares_setFrame, spares_discardBad, trivial⟩

theorem spares_portStateTo {p v : Nat} : Spares (portStateTo p v) := spares_putNotify (by omega)

theorem spares_countMissed {p : Nat} : Spares (countMissed p) := fun _ => ⟨spares_when (spares_bump (by omega)), spares_reg⟩

theorem spares_abortSending {p : Nat} {linkUp canSend : Bool} : Spares (abortSending p linkUp canSend) :=
  fun _ => spares_each fun _ => spares_ite ⟨spares_bump (by omega), spares_releaseEntry, trivial⟩ <|
    spares_ite (spares_ite trivial ⟨spares_bump (by omega), spares_loseCopy, spares_endCopy, trivial⟩) <|
      spares_ite ⟨spares_loseCopy, spares_abortCopy, trivial⟩ ⟨spares_bump (by omega), spares_loseCopy, spares_endCopy, trivial⟩

theorem spares_enterFlushing {p reason : Nat} {linkUp canSend : Bool} : Spares (enterFlushing p reason linkUp canSend) :=
  fun _ => ⟨spares_put (by omega), spares_bump (by omega), spares_portStateTo, spares_reg, spares_countMissed,
    ⟨spares_reg, spares_reg, spares_reg, trivial⟩, spares_abortSending, spares_reg, spares_reg, spares_reg,
    fun _ => spares_each fun _ => spares_releaseEntry, spares_truncateArrivals, trivial⟩

theorem spares_servingStops {p : Nat} : Spares (servingStops p) := fun _ => spares_when spares_enterFlushing

theorem spares_flushForSleep : Spares flushForSleep := ⟨spares_reg, fun _ => spares_each fun _ => spares_enterFlushing⟩

/-! ### A frame enters at step 7 -/

theorem spares_notePeak : Spares notePeak := fun _ => spares_when (spares_put (by decide))

theorem spares_addFrame {f : Frame} : Spares (addFrame f) := fun _ => ⟨spares_reg, trivial, spares_notePeak, trivial⟩

theorem le_ingressFault {s : State} {f : Frame} {how : RxEnd} {k : Nat} (h : ingressFault s f how = some k) : 0x200000 ≤ k := by
  unfold ingressFault at h
  have hk : k ∈ [Key.assemblyErrors f.port, Key.rxLengthErrors f.port, Key.rxCheckErrors f.port, Key.rxControlDiscards f.port] := by
    split at h
    · simp_all
    · split at h
      · simp_all
      · split at h
        · simp_all
        · split at h <;> simp_all
  simp only [Key.assemblyErrors, Key.rxLengthErrors, Key.rxCheckErrors, Key.rxControlDiscards, List.mem_cons, List.not_mem_nil, or_false] at hk
  omega

theorem spares_enterWhole {f : Frame} {a : Act} (h : Spares a) : Spares (enterWhole f a) := fun s => by
  beta_reduce
  split
  · next k hk => exact fun _ => le_ingressFault hk
  · exact ⟨spares_bump (by omega), spares_bump (by omega), spares_addFrame, h, trivial⟩

theorem spares_siftFail {f : Frame} {e : Entry} {reason : Nat} : Spares (siftFail f e reason) := by
  unfold siftFail
  split
  · exact spares_failCopy
  · trivial

theorem spares_sift {rule : Entry → Option Act} {es : List Entry} (h : ∀ e a, rule e = some a → Spares a) : Spares (sift rule es).2 :=
  spares_all fun a ha => by
    obtain ⟨e, -, he⟩ := List.mem_filterMap.mp ha
    exact h e a he

theorem spares_siftUp {s : State} {f : Frame} {control : Bool} (e : Entry) (a : Act) (h : siftUp s f control e = some a) : Spares a := by
  unfold siftUp at h
  split at h
  · cases h; exact ⟨spares_bump (by omega), spares_siftFail, trivial⟩
  · split at h
    · cases h; exact spares_siftFail
    · dsimp only at h
      split at h
      · obtain rfl := Option.some.inj (Option.ite_none_right_eq_some.mp h).2
        exact spares_bump (by omega)
      · cases h

theorem spares_bucketTest {s : State} {e : Entry} : Spares (bucketTest s e).2 := by
  unfold bucketTest
  split
  · split
    · exact spares_bumpF
    · split
      · exact ⟨spares_bumpF, spares_bump (by decide), trivial⟩
      · exact ⟨spares_reg, spares_reg, trivial⟩
  · trivial

theorem spares_siftQueue {s : State} {f : Frame} {n : Nat} (e : Entry) (a : Act) (h : siftQueue s f n e = some a) : Spares a := by
  unfold siftQueue at h
  split at h <;> cases h
  exact ⟨spares_bump (by omega), spares_siftFail, trivial⟩

theorem spares_siftOutbound {s : State} {f : Frame} (e : Entry) (a : Act) (h : siftOutbound s f e = some a) : Spares a := by
  unfold siftOutbound at h
  dsimp only at h
  split at h <;> cases h
  exact ⟨spares_bump (by omega), spares_siftFail, trivial⟩

theorem spares_siftCount {f : Frame} {es : List Entry} : Spares (siftCount f es).2 :=
  spares_each fun _ => ⟨spares_bump (by decide), spares_siftFail, trivial⟩

theorem spares_siftEntries {s : State} {f : Frame} {es : List Entry} : Spares (siftEntries s f es).2 :=
  spares_each fun _ => spares_ite (spares_bump (by decide)) ⟨spares_bump (by decide), spares_siftFail, trivial⟩

theorem spares_evict {v : Frame} : Spares (evict v) :=
  fun _ => ⟨spares_each fun _ => ⟨spares_bump (by omega), spares_loseCopy, trivial⟩, spares_bump (by decide), spares_endCopies, trivial⟩

theorem spares_enterReserve {c : Copy} : Spares (enterReserve c) := fun s => by
  beta_reduce
  split
  · exact spares_endCopy
  · exact spares_ite ⟨spares_bump (by decide), spares_endCopy, trivial⟩ ⟨spares_reg, trivial, spares_setCopy, fun _ => trivial, trivial⟩

theorem spares_leaveStep7 {f : Frame} : Spares (if f.complete then dropFrame f.id else setFrame f.id fun x => { x with stage := .draining }) :=
  spares_ite spares_dropFrame spares_setFrame

theorem spares_failRouted {f : Frame} {reason : Nat} : Spares (match f.route with
    | some r => failFrame f r f.cls reason
    | none => .skip) := by
  split
  · exact spares_failFrame
  · trivial

theorem spares_step7 {f : Frame} {p : Parse} {es : List Entry} {control : Bool} : Spares (step7 f p es control) := fun s => by
  have hfull (c : Bool) : Spares (if c then Act.all [Act.bump (Key.inboundFullDrops f.source), match f.route with
      | some r => failFrame f r f.cls 3
      | none => .skip] else .skip) := spares_ite ⟨spares_bump (by omega), spares_failRouted, trivial⟩ trivial
  have hgone := @spares_leaveStep7 f
  beta_reduce
  extract_lets n
  split
  next es1' a1 h1 =>
  extract_lets es1 es2 a2
  split
  next es3 a3 h3 =>
  split
  next es4 a4 h4 =>
  extract_lets wants full es5 a5
  split
  next es6 a6 h6 =>
  split
  next es7 a7 h7 =>
  extract_lets removals stored
  have hremovals : Spares removals := ⟨(congrArg Prod.snd h1).subst (motive := Spares) (spares_sift spares_siftUp),
    spares_each fun _ => spares_bucketTest, (congrArg Prod.snd h3).subst (motive := Spares) (spares_sift spares_siftQueue),
    (congrArg Prod.snd h4).subst (motive := Spares) (spares_sift spares_siftOutbound), hfull full,
    (congrArg Prod.snd h6).subst (motive := Spares) spares_siftCount,
    (congrArg Prod.snd h7).subst (motive := Spares) spares_siftEntries, trivial⟩
  refine spares_ite ⟨hremovals, hgone, trivial⟩ ?_
  split
  next adm shortCells h =>
  split
  · refine ⟨hremovals, fun _ => ?_, ?_, hgone, trivial⟩
    · split <;> exact le_object (by decide)
    · split
      · exact spares_when spares_failFrame
      · trivial
  · refine ⟨hremovals, spares_each fun _ => spares_evict, spares_reg, spares_setFrame, fun _ => trivial, spares_each fun e => ?_,
      spares_when (spares_each fun _ => spares_enterReserve), spares_when spares_dropFrame, trivial⟩
    split
    · exact spares_bumpF
    · trivial

theorem spares_inject {source kind port tc : Nat} {octets : List Byte} : Spares (inject source kind port tc octets) :=
  spares_reselect fun _ => spares_enterWhole spares_step7

/-! ### A port enters Up -/

theorem spares_ringSendOn {r p : Nat} : Spares (ringSendOn r p) := fun _ => ⟨spares_reg, spares_ite spares_inject spares_inject⟩

theorem spares_ringSendTo {r : Nat} {ports : List Nat} : Spares (ringSendTo r ports) :=
  fun _ => spares_when ⟨spares_each fun _ => spares_ringSendOn, spares_reg⟩

theorem spares_ringPortUp {p : Nat} : Spares (ringPortUp p) := fun _ => by
  beta_reduce
  split
  · trivial
  · exact spares_when spares_ringSendTo

theorem spares_gateArms {p : Nat} : Spares (gateArms p) := fun _ => spares_when ⟨spares_reg, spares_reg⟩

theorem spares_lineFrees {p : Nat} : Spares (lineFrees p) := fun _ => spares_when spares_reg

theorem spares_enterUp {p : Nat} : Spares (enterUp p) :=
  fun _ => ⟨spares_put (by omega), spares_portStateTo, spares_reg, spares_reg, spares_gateArms, spares_lineFrees, spares_ringPortUp,
    spares_selectPort, trivial⟩

theorem spares_tryUp {p : Nat} : Spares (tryUp p) := fun _ => spares_when spares_enterUp

/-! ### The steps of SleepEntry -/

theorem spares_sealStateTo {v : Nat} : Spares (sealStateTo v) :=
  ⟨spares_putNotify (by decide), spares_servingStops, spares_tryUp, trivial⟩

theorem spares_sleepSteps : Spares sleepSteps := fun _ => ⟨spares_reg, by
  split
  · exact spares_flushForSleep
  · exact spares_put (by decide)
  · exact spares_sealStateTo⟩

end Sys2Proof.Machine
end

section
/-! PROOFS. The write of a command (R9), and SketchDiscard (R47). -/

namespace Sys2Proof.Machine

/-! ### The write of a command -/

/-- The clamp of a command's argument, counted where the command is executed, before what it does. -/
def commandAct (r : Ran) (idx sub : Nat) (clamps : Bool) : Act :=
  Act.all [Act.when (r.executes && clamps) (countClamp idx sub),
    if r.executes then .seq (.put (idx * 256 + sub) r.status) r.effect else r.effect]

/-- A write of a command that a path may make runs it, with an argument of its own. -/
theorem writeScalarAt_command {u : State} {path : Path} {idx sub : Nat} (slot : Nat) (ha : u.admits path idx sub = true)
    (hc : ∀ o, u.objAt idx sub = some o → isCommand o = true) (hk : u.keyAt idx sub = idx * 256 + sub) :
    ∃ x clamps, writeScalarAt u path idx sub slot
      = ⟨(runCommand u path idx sub x).status, commandAct (runCommand u path idx sub x) idx sub clamps,
        (runCommand u path idx sub x).executes⟩ := by
  obtain ⟨o, ho, hw⟩ := writeScalarAt_admits u path idx sub slot ha
  refine ⟨u.legalValue idx sub o (ofSlot o.ty slot), isClamp idx (ofSlot o.ty slot) (u.legalValue idx sub o (ofSlot o.ty slot)), hw.trans ?_⟩
  simp only [writeValue, hc o ho, if_true, hk, commandAct]

theorem within_countClamp_cells {ks : Nat → Prop} {idx sub : Nat} (hi : idx < 2 ^ 16) (hs : sub < 2 ^ 8) :
    Within ks clampCells (countClamp idx sub) :=
  within_mono (fun _ h => h) (fun g a h => by obtain ⟨rfl, h0, h1⟩ := h; exact ⟨rfl, by unfold cellKey at h0 h1; omega⟩) _
    (within_countClamp ks idx sub)

theorem leavesRest_mono {s t : State} {ks ks' : Nat → Prop} {cs cs' : Gen → Nat → Prop} (hk : ∀ k, ks k → ks' k)
    (hc : ∀ g a, cs g a → cs' g a) (h : leavesRest s t ks cs) : leavesRest s t ks' cs' := by
  obtain ⟨hregs, hcells, hrest⟩ := h
  exact ⟨fun k hn => hregs k fun hk' => hn (hk k hk'), fun g a hn => hcells g a fun hc' => hn (hc g a hc'), hrest⟩

/-- A command that is answered without being started changes nothing. -/
theorem run_refused (u : State) (st idx sub : Nat) (clamps : Bool) :
    (Wrote.act ⟨(Ran.refused st).status, commandAct (.refused st) idx sub clamps, (Ran.refused st).executes⟩).run u
      = (Act.answer st []).run u := rfl

/-- A command that is executed acts on a state in which its clamp is counted and its object answers. -/
theorem run_executed (u : State) (st : Nat) (a : Act) (idx sub : Nat) (clamps : Bool) :
    (Wrote.act ⟨st, commandAct ⟨st, true, a⟩ idx sub clamps, true⟩).run u
      = (Act.answer st []).run (a.run ((Act.put (idx * 256 + sub) st).run ((Act.when clamps (countClamp idx sub)).run u))) := rfl

/-! ### The discard of the Sketch -/

theorem run_discardSketch (s : State) : discardSketch.run s = (Act.put Rg.realignFrom s.now).run ((Act.put Key.commitState 4).run
    (Act.discard.run ((Act.when (s.get Key.commitState == 3) (.put Key.sketchCommit 3)).run s))) := rfl

theorem discardSketch_leavesRest (s : State) :
    leavesRest s (discardSketch.run s) (keysIn [Key.commitState, Key.sketchCommit, Rg.realignFrom]) (fun g _ => g = .sketch) :=
  run_leavesRest discardSketch s fun _ => ⟨within_when fun _ => by simp [keysIn], fun _ => rfl, by simp [keysIn], by simp [keysIn], trivial⟩

theorem commitState_discardSketch (s : State) : (discardSketch.run s).get Key.commitState = 4 := by
  rw [run_discardSketch, get_put_ne _ _ (by decide), get_put_self]
  rfl

theorem realignFrom_discardSketch (s : State) : (discardSketch.run s).get Rg.realignFrom = s.now := by
  rw [run_discardSketch, get_put_self, regMod_internal (by decide), Nat.mod_zero]

theorem sketchCommit_discardSketch (s : State) :
    (discardSketch.run s).get Key.sketchCommit = if s.get Key.commitState = 3 then 3 else s.get Key.sketchCommit := by
  rw [run_discardSketch, get_put_ne _ _ (by decide), get_put_ne _ _ (by decide), get_discard, run_when]
  simp only [beq_iff_eq]
  split
  · rw [get_put_self]
    rfl
  · rfl

theorem sketch_discardSketch (s : State) (a : Nat) : (discardSketch.run s).octet .sketch a = s.octet .fair a := by
  rw [run_discardSketch, run_when]
  split <;> rfl

/-! ### The end of Realigning -/

/-- SleepEntry goes on behind a commit that has ended, and leaves it ended (R379). -/
theorem commitState_sleepTry {s : State} (h : s.get Key.commitState = 0) : (sleepTry.run s).get Key.commitState = 0 := by
  have hrun : sleepTry.run s = (Act.when (s.get Key.deviceState == 1 && s.get Rg.sleepFrom == 0) sleepSteps).run s := by
    simp only [sleepTry, run_dep, h]
  rw [hrun, run_spares _ (by decide) s (spares_when spares_sleepSteps), h]

theorem commitState_realigned {s : State} (hc : s.get Key.commitState = 4) (hh : s.get Rg.prevHeld = 0) :
    (realigned.run s).get Key.commitState = 0 := by
  have hrun : realigned.run s = (Act.put Key.commitState 0).run s := by
    simp [realigned, run_dep, hc, flag_eq, hh]
  rw [hrun, get_put_self, Nat.zero_mod]

/-- Realigning ends with CommitState Idle where no generation is held (R46). -/
theorem realigningEnd_idle {s : State} (dt : Nat) (hp : s.operates = true) (hc : s.get Key.commitState = 4) (hh : s.get Rg.prevHeld = 0) :
    Runs (.realigningEnd dt) s fun t => t.get Key.commitState = 0 := by
  refine runs_powered rfl hp ?_
  rw [run_seq]
  exact commitState_sleepTry (commitState_realigned ((after_object s dt (by decide)).trans hc)
    ((after_get s dt (by decide) (by decide)).trans hh))

/-! ### The statement -/

theorem isCommand_sketchDiscard {s : State} {o : Obj} (h : s.objAt 0x1F10 7 = some o) : isCommand o = true := by
  cases h
  rfl

theorem runCommand_sketchDiscard (s : State) (path : Path) (x : Nat) : runCommand s path 0x1F10 7 x
    = if s.get Key.commitState = 2 || s.get Key.commitState = 4 then .refused 3 else .done discardSketch := rfl

/-- What SketchDiscard comes to where it is executed: the state that it acts on, and what that shares with the one before. -/
theorem sketchDiscard_executed (u : State) (clamps : Bool) : ∃ w : State,
    (Wrote.act ⟨0, commandAct (.done discardSketch) 0x1F10 7 clamps, true⟩).run u = (Act.answer 0 []).run (discardSketch.run w)
      ∧ leavesRest u w (keysIn [Key.sketchDiscard]) clampCells :=
  ⟨_, run_executed u 0 discardSketch 0x1F10 7 clamps, run_leavesRest (.seq (Act.when clamps (countClamp 0x1F10 7)) (.put Key.sketchDiscard 0)) u
    ⟨within_when fun _ => within_countClamp_cells (by decide) (by decide), List.mem_singleton.mpr rfl⟩⟩

theorem operates_congr {s t : State} (hd : t.get Key.deviceState = s.get Key.deviceState) (hp : t.get Rg.porstLow = s.get Rg.porstLow) :
    t.operates = s.operates := by
  rw [Bool.eq_iff_iff, operates_iff, operates_iff, hd, hp]

/-- What the answer to a discard shares with the state before it. -/
theorem sketchDiscard_leavesRest {u w : State} (h : leavesRest u w (keysIn [Key.sketchDiscard]) clampCells) :
    leavesRest u ((Act.answer 0 []).run (discardSketch.run w))
      (keysIn [Key.commitState, Key.sketchDiscard, Key.sketchCommit, Rg.realignFrom]) (bothCells (fun g _ => g = .sketch) clampCells) :=
  leavesRest_trans (leavesRest_mono (by simp [keysIn]) (fun _ _ => .inr) h) <| leavesRest_trans
    (leavesRest_mono (by simp +contextual [keysIn]) (fun _ _ => .inl) (discardSketch_leavesRest w)) (leavesRest_answered _ _ _)

/-- Settles O18: SketchDiscard acts on a state that differs from the one before only in what the write of a command changes, and
the end of Realigning finds CommitState as the discard left it. -/
theorem sketchDiscardResetsTheSketch : Obligations.SketchDiscardResetsTheSketch := by
  intro s dt path v u ha
  obtain ⟨x, clamps, hw⟩ := writeScalarAt_command v.toNat ha (fun _ => isCommand_sketchDiscard) rfl
  rw [runCommand_sketchDiscard] at hw
  have hexec {r : Wrote} (h : writeScalarAt u path 0x1F10 7 v.toNat = r) : exec (.sketchDiscard dt path v) s = .next (r.act.run u) :=
    (command_scalarWrite ..).trans (congrArg (fun w => Host.Outcome.next (w.act.run u)) h)
  constructor
  · intro h2 h4
    rw [if_neg (by simp [h2, h4])] at hw
    obtain ⟨w, hrun, hkept⟩ := sketchDiscard_executed u clamps
    have hrest := sketchDiscard_leavesRest hkept
    obtain ⟨hregs, hcells, -, -, hnow, -⟩ := hkept
    have ⟨hregs', _⟩ := hrest
    refine ⟨_, (hexec hw).trans (congrArg Host.Outcome.next hrun), rfl, commitState_discardSketch w, fun a => ?_, ?_, ?_, ?_,
      fun d hh hp => realigningEnd_idle d ?_ (commitState_discardSketch w) ?_, hrest⟩
    · exact (sketch_discardSketch w a).trans (hcells .fair a (by simp [clampCells, tableCells]))
    · exact (realignFrom_discardSketch w).trans hnow
    · have hkept := sketchCommit_discardSketch w
      rwa [hregs Key.commitState (by simp only [keysIn]; decide), hregs Key.sketchCommit (by simp only [keysIn]; decide)] at hkept
    · exact hregs' _ (by simp only [keysIn]; decide)
    · exact (operates_congr (hregs' _ (by simp only [keysIn]; decide)) (hregs' _ (by simp only [keysIn]; decide))).trans hp
    · exact (hregs' _ (by simp only [keysIn]; decide)).trans hh
  · intro h
    rw [if_pos (by simpa using h)] at hw
    exact ⟨_, (hexec hw).trans (congrArg Host.Outcome.next (run_refused ..)), rfl, leavesRest_answered u 3 []⟩

end Sys2Proof.Machine
end

section
/-! PROOFS. What the commit checks read (R252 to R258, R288, R289): the Sketch, live tables other than the clamp counters, and registers
from the port groups (0x2000) on. So the answer that a write of SketchCommit leaves behind does not bear on its own checks. -/

namespace Sys2Proof.Machine

/-- States that hold the same for the commit checks. -/
structure ChecksAgree (u w : State) : Prop where
  sketch : w.sketch = u.sketch
  live : ∀ a, 0xF001 * 2 ^ 36 ≤ a → w.octet .live a = u.octet .live a
  get : ∀ k, 0x200000 ≤ k → w.get k = u.get k

section
variable {u w : State} (h : ChecksAgree u w)
include h

/-! ### Tables and registers -/

theorem ChecksAgree.rowOctets : w.rowOctets .sketch = u.rowOctets .sketch := by
  funext idx row off n
  simp only [State.rowOctets, State.octets, State.octet, State.mem, h.sketch]

theorem ChecksAgree.fld : w.fld .sketch = u.fld .sketch := by
  funext idx row f
  simp only [State.fld, h.rowOctets]

theorem ChecksAgree.fldOn : w.fldOn .sketch = u.fldOn .sketch := by
  funext idx row f
  simp only [State.fldOn, h.fld]

theorem ChecksAgree.rowsWhere : w.rowsWhere .sketch = u.rowsWhere .sketch := by
  funext idx p
  simp only [State.rowsWhere, State.listedRows, State.mem, h.sketch]

theorem ChecksAgree.rowOctetsLive {idx : Nat} (hi : 0xF001 ≤ idx) : w.rowOctets .live idx = u.rowOctets .live idx := by
  funext row off n
  exact List.map_congr_left fun i _ => h.live _ (by unfold cellKey; omega)

theorem ChecksAgree.fldLive {idx : Nat} (hi : 0xF001 ≤ idx) : w.fld .live idx = u.fld .live idx := by
  funext row f
  simp only [State.fld, h.rowOctetsLive hi]

theorem ChecksAgree.fldOnLive {idx : Nat} (hi : 0xF001 ≤ idx) : w.fldOn .live idx = u.fldOn .live idx := by
  funext row f
  simp only [State.fldOn, h.fldLive hi]

theorem ChecksAgree.object {x sub : Nat} (hx : 0x2000 ≤ x) : w.get (x * 256 + sub) = u.get (x * 256 + sub) := h.get _ (by omega)

theorem ChecksAgree.flag {x sub : Nat} (hx : 0x2000 ≤ x) : w.flag (x * 256 + sub) = u.flag (x * 256 + sub) := by
  simp only [State.flag, h.object hx]

theorem ChecksAgree.internal (n i j : Nat) : w.get (Rg.at' n i j) = u.get (Rg.at' n i j) := h.get _ (by unfold Rg.at'; omega)

theorem ChecksAgree.kind : w.kind = u.kind := by
  funext p
  simp only [State.kind, State.attachment, Key.attachmentBinding, h.object (Nat.le_add_right 0x2000 (16 * p))]

theorem ChecksAgree.isEthernet : w.isEthernet = u.isEthernet := by
  funext p
  simp only [State.isEthernet, h.kind]

theorem ChecksAgree.isBus : w.isBus = u.isBus := by
  funext p
  simp only [State.isBus, h.kind]

theorem ChecksAgree.inForce : w.inForce = u.inForce := by
  funext k
  simp only [State.inForce, Rg.inForce, h.internal]

theorem ChecksAgree.effective (p : Nat) {x sub : Nat} (hx : 0x2000 ≤ x) :
    w.effective p (x * 256 + sub) = u.effective p (x * 256 + sub) := by
  have hp : w.get (Key.portState p) = u.get (Key.portState p) := h.object (by omega)
  rw [State.effective, State.effective, hp, h.object hx, h.inForce]

/-! ### Keys and the certificate -/

theorem ChecksAgree.slotState : w.slotState = u.slotState := by
  funext n
  simp only [State.slotState, h.fldLive (idx := 0xF098) (by decide)]

theorem ChecksAgree.slotGeneration : w.slotGeneration = u.slotGeneration := by
  funext n
  simp only [State.slotGeneration, h.fldLive (idx := 0xF098) (by decide)]

theorem ChecksAgree.slotKind : w.slotKind = u.slotKind := by
  funext n
  simp only [State.slotKind, h.fldLive (idx := 0xF098) (by decide)]

theorem ChecksAgree.usableWithin (fuel : Nat) : ∀ n, usableWithin w fuel n = usableWithin u fuel n := by
  induction fuel with
  | zero => intro n; rfl
  | succ fuel ih =>
    intro n
    simp only [Sys2Proof.Machine.usableWithin, h.slotState, h.slotGeneration, h.fldLive (idx := 0xF098) (by decide), ih]

theorem ChecksAgree.usable : w.usable = u.usable := by
  funext n
  exact h.usableWithin 8 n

theorem ChecksAgree.material : w.material = u.material := by
  funext n len
  simp only [State.material, h.rowOctetsLive (idx := 0xF098) (by decide)]

theorem ChecksAgree.certificate : w.certificate = u.certificate := by
  funext row n
  simp only [State.certificate, h.rowOctets]

theorem ChecksAgree.recordCount : w.recordCount = u.recordCount := by
  simp only [State.recordCount, h.rowOctets]

theorem ChecksAgree.recordStream : w.recordStream = u.recordStream := by
  funext i
  simp only [State.recordStream, h.rowOctets]

theorem ChecksAgree.recordBound : w.recordBound = u.recordBound := by
  funext i
  simp only [State.recordBound, h.rowOctets]

theorem ChecksAgree.claim : w.claim = u.claim := by
  funext x
  simp only [State.claim, h.recordCount, h.recordStream, h.recordBound]

theorem ChecksAgree.covered : w.covered = u.covered := by
  simp only [State.covered, State.tableOctets, h.rowOctets]

theorem ChecksAgree.certificateSigned : w.certificateSigned = u.certificateSigned := by
  have hslot : w.get Key.certificateKeySlot = u.get Key.certificateKeySlot := h.object (by decide)
  simp only [State.certificateSigned, hslot, h.certificate, h.usable, h.slotKind, h.material, h.recordCount]

theorem ChecksAgree.certificateFault : w.certificateFault = u.certificateFault := by
  funext bounded
  rw [State.certificateFault, State.certificateFault, h.rowOctets, h.certificateSigned, h.certificate, h.covered, h.recordCount,
    h.recordStream]

/-! ### Streams -/

theorem ChecksAgree.guaranteed : w.guaranteed .sketch = u.guaranteed .sketch := by
  funext x
  simp only [State.guaranteed, h.fldOn]

theorem ChecksAgree.guaranteedStreams : w.guaranteedStreams .sketch = u.guaranteedStreams .sketch := by
  simp only [State.guaranteedStreams, h.rowsWhere, h.guaranteed]

theorem ChecksAgree.isMember : w.isMember .sketch = u.isMember .sketch := by
  funext x
  simp only [State.isMember, h.fldOn]

theorem ChecksAgree.outputOf : w.outputOf .sketch = u.outputOf .sketch := by
  funext x
  simp only [State.outputOf, h.fld]

theorem ChecksAgree.recovers : w.recovers .sketch = u.recovers .sketch := by
  funext x
  simp only [State.recovers, h.fld, h.fldOn]

theorem ChecksAgree.membersOf : w.membersOf .sketch = u.membersOf .sketch := by
  funext x
  simp only [State.membersOf, h.rowsWhere, h.fldOn, h.isMember, h.outputOf]

theorem ChecksAgree.isOutput : w.isOutput .sketch = u.isOutput .sketch := by
  funext x
  simp only [State.isOutput, h.rowsWhere, h.fldOn, h.fld]

theorem ChecksAgree.boundStreams : w.boundStreams .sketch = u.boundStreams .sketch := by
  simp only [State.boundStreams, h.guaranteedStreams, h.isMember, h.isOutput]

theorem ChecksAgree.policerOf : policerOf w .sketch = policerOf u .sketch := by
  funext x
  rw [Sys2Proof.Machine.policerOf, Sys2Proof.Machine.policerOf, h.fld]

theorem ChecksAgree.streamTargets : streamTargets w .sketch = streamTargets u .sketch := by
  funext x
  simp only [Sys2Proof.Machine.streamTargets, groupPorts, h.fld, h.fldOn]

theorem ChecksAgree.meterTraffic : w.meterTraffic = u.meterTraffic := by
  funext x
  rw [State.meterTraffic, State.meterTraffic, h.policerOf, h.fld]

theorem ChecksAgree.traffic : w.traffic = u.traffic := by
  funext x
  simp only [State.traffic, h.membersOf, h.isOutput, h.meterTraffic, h.fld, h.fldOn, h.streamTargets]

theorem ChecksAgree.metered : w.metered = u.metered := by
  funext x
  simp only [State.metered, h.policerOf, h.fld, h.fldOn]

theorem ChecksAgree.negotiates : w.negotiates = u.negotiates := by
  funext p
  have hmode : w.effective p (Key.serdesMode p) = u.effective p (Key.serdesMode p) := h.effective p (by omega)
  have hspeed : w.effective p (Key.speedSelect p) = u.effective p (Key.speedSelect p) := h.effective p (by omega)
  simp only [State.negotiates, h.kind, hmode, hspeed]

theorem ChecksAgree.placeFault : w.placeFault = u.placeFault := by
  funext x
  rw [State.placeFault, State.placeFault, h.traffic, h.fldOn, h.isEthernet, h.isBus, h.negotiates]

theorem ChecksAgree.memberFault : w.memberFault = u.memberFault := by
  funext x
  simp only [State.memberFault, h.isOutput, h.membersOf, h.guaranteed, h.fld, h.recovers, h.isMember]

/-! ### The bound -/

theorem ChecksAgree.boundKind : w.boundKind = u.boundKind := by
  funext e
  simp only [State.boundKind, h.kind]

theorem ChecksAgree.boundEthernet : w.boundEthernet = u.boundEthernet := by
  funext e
  simp only [State.boundEthernet, h.boundKind]

theorem ChecksAgree.boundBus : w.boundBus = u.boundBus := by
  funext e
  simp only [State.boundBus, h.boundKind]

theorem ChecksAgree.maxFrameLength (p : Nat) : w.effective p (Key.maxFrameLength p) = u.effective p (Key.maxFrameLength p) :=
  h.effective p (by omega)

theorem ChecksAgree.canMode (p : Nat) : w.effective p (Key.canMode p) = u.effective p (Key.canMode p) := h.effective p (by omega)

theorem ChecksAgree.serialProtocol (p : Nat) : w.effective p (Key.serialProtocol p) = u.effective p (Key.serialProtocol p) :=
  h.effective p (by omega)

theorem ChecksAgree.t1Speed (p : Nat) : w.effective p (Key.t1Speed p) = u.effective p (Key.t1Speed p) := h.effective p (by omega)

theorem ChecksAgree.rateBy (p : Nat) : w.rateBy (w.effective p) p = u.rateBy (u.effective p) p := by
  have hspeed : w.effective p (Key.speedSelect p) = u.effective p (Key.speedSelect p) := h.effective p (by omega)
  have hmode : w.effective p (Key.serdesMode p) = u.effective p (Key.serdesMode p) := h.effective p (by omega)
  have hlink : w.get (Rg.linkSpeed p) = u.get (Rg.linkSpeed p) := h.internal ..
  rw [State.rateBy, State.rateBy, h.kind, hspeed, hmode, hlink, h.t1Speed]

theorem ChecksAgree.cellBits (p : Nat) : w.cellBits (w.effective p) p = u.cellBits (u.effective p) p := by
  funext cell o
  have hnominal : w.effective p (Key.nominalBitRate p) = u.effective p (Key.nominalBitRate p) := h.effective p (by omega)
  have hdata : w.effective p (Key.dataBitRate p) = u.effective p (Key.dataBitRate p) := h.effective p (by omega)
  have hrole : w.effective p (Key.linRole p) = u.effective p (Key.linRole p) := h.effective p (by omega)
  have hlin : w.effective p (Key.linBitRate p) = u.effective p (Key.linBitRate p) := h.effective p (by omega)
  have hserial : w.effective p (Key.serialBitRate p) = u.effective p (Key.serialBitRate p) := h.effective p (by omega)
  rw [State.cellBits, State.cellBits, h.kind, hnominal, hdata, hrole, hlin, hserial, h.serialProtocol]

theorem ChecksAgree.boundRate : w.boundRate = u.boundRate := by
  funext e
  rw [State.boundRate, State.boundRate, h.rateBy]

theorem ChecksAgree.boundDur : w.boundDur = u.boundDur := by
  funext e len o
  simp only [State.boundDur, h.boundEthernet, h.boundRate, h.boundKind, h.canMode, h.cellBits]

theorem ChecksAgree.sketchTiming : w.sketchTiming = u.sketchTiming := by
  funext e f
  simp only [State.sketchTiming, h.fld]

theorem ChecksAgree.durE : w.durE = u.durE := by
  funext e len
  simp only [State.durE, State.overhead, h.boundDur, h.sketchTiming]

theorem ChecksAgree.fromSplit : w.fromSplit = u.fromSplit := by
  funext t
  simp only [State.fromSplit, h.boundEthernet, h.rowsWhere, h.fldOn, h.fld]

theorem ChecksAgree.din : w.din = u.din := by
  funext t
  simp only [State.din, h.boundDur, h.fromSplit, h.boundEthernet, h.maxFrameLength]

theorem ChecksAgree.boundPreempts : w.boundPreempts = u.boundPreempts := by
  funext e
  simp only [State.boundPreempts, h.sketchTiming, h.kind, h.t1Speed]

theorem ChecksAgree.boundExpress : w.boundExpress = u.boundExpress := by
  funext e c
  simp only [State.boundExpress, h.boundPreempts, h.sketchTiming]

theorem ChecksAgree.boundGate : w.boundGate = u.boundGate := by
  funext e c
  have htiming : w.timingImage .sketch = u.timingImage .sketch := funext fun _ => by rw [State.timingImage, State.timingImage, h.rowOctets]
  have hlist : w.listImage .sketch = u.listImage .sketch := funext₂ fun _ _ => by rw [State.listImage, State.listImage, h.rowOctets]
  rw [State.boundGate, State.boundGate, h.sketchTiming, htiming, hlist, h.boundPreempts]

theorem ChecksAgree.boundHold : w.boundHold = u.boundHold := by
  funext e
  simp only [State.boundHold, h.sketchTiming, h.boundRate]

theorem ChecksAgree.lowerMax : w.lowerMax = u.lowerMax := by
  funext e
  simp only [State.lowerMax, State.busCapacity, h.boundEthernet, h.isEthernet, h.maxFrameLength, h.boundKind, h.canMode, h.serialProtocol]

theorem ChecksAgree.boundCuts : w.boundCuts = u.boundCuts := by
  funext t e
  have hcut : w.flag (Key.cutThroughEnable e) = u.flag (Key.cutThroughEnable e) := h.flag (by omega)
  simp only [State.boundCuts, State.cutsByRate, h.boundEthernet, h.isEthernet, h.fromSplit, hcut, h.boundRate]

theorem ChecksAgree.boundLc : w.boundLc = u.boundLc := by
  funext t e
  simp only [State.boundLc, h.boundCuts, h.maxFrameLength]

theorem ChecksAgree.boundPtp : w.boundPtp = u.boundPtp := by
  funext e
  have henable : ∀ i, w.flag (Key.instanceEnable i) = u.flag (Key.instanceEnable i) := fun i => h.flag (by omega)
  simp only [State.boundPtp, h.kind, henable, h.fldOnLive (idx := 0xF066) (by decide)]

theorem ChecksAgree.rho : w.rho = u.rho := by
  funext t e
  simp only [State.rho, h.durE]

theorem ChecksAgree.burst : w.burst = u.burst := by
  funext t e
  simp only [State.burst, h.durE]

theorem ChecksAgree.boundAt : w.boundAt = u.boundAt := by
  funext all t e
  simp only [State.boundAt, h.boundGate, h.fld, h.rho, h.boundRate, h.boundExpress, h.boundHold, h.durE, h.lowerMax, h.boundLc, h.boundPtp,
    h.boundBus, h.din, h.burst]

theorem ChecksAgree.boundFold (all : List Traffic) (t : Traffic) (es : List Nat) : ∀ b p, w.boundFold all t es b p = u.boundFold all t es b p := by
  induction es with
  | nil => intro b p; rfl
  | cons e es ih =>
    intro b p
    simp only [State.boundFold, h.boundAt, ih]

theorem ChecksAgree.boundNs : w.boundNs = u.boundNs := by
  funext all t
  simp only [State.boundNs, h.boundFold, h.din]

/-! ### The admission check -/

theorem ChecksAgree.bounds (all : List Traffic) (xs : List Nat) : w.bounds all xs = u.bounds all xs := by
  induction xs with
  | nil => rfl
  | cons x xs ih => simp only [State.bounds, h.boundNs, h.traffic, h.claim, ih]

theorem ChecksAgree.withMembers : w.withMembers = u.withMembers := by
  funext guar l
  simp only [State.withMembers, h.traffic, h.outputOf]

theorem ChecksAgree.sketchPool : w.sketchPool = u.sketchPool := by
  funext tc
  simp only [State.sketchPool, h.fld]

theorem ChecksAgree.admCells : w.admCells = u.admCells := by
  funext b
  simp only [State.admCells, State.cellsPerFrame, h.boundEthernet, h.fromSplit, h.maxFrameLength]

theorem ChecksAgree.poolFault : w.poolFault = u.poolFault := by
  funext l
  simp only [State.poolFault, h.sketchPool, h.fld, h.admCells]

theorem ChecksAgree.admission : w.admission = u.admission := by
  simp only [State.admission, h.guaranteedStreams, h.boundStreams, h.certificateFault, h.metered, h.placeFault, h.memberFault, h.traffic,
    h.bounds, h.withMembers, h.poolFault]

/-! ### The gateway check -/

theorem ChecksAgree.validPairs : validPairs w = validPairs u := by
  funext r
  simp only [Sys2Proof.Machine.validPairs, h.fldOn]

theorem ChecksAgree.routeKindList : routeKindList w = routeKindList u := by
  funext r
  simp only [Sys2Proof.Machine.routeKindList, h.fld]

theorem ChecksAgree.carries : w.carries = u.carries := by
  funext p k
  rw [State.carries, State.carries, h.kind, h.canMode, h.serialProtocol]

theorem ChecksAgree.pairConsistent : pairConsistent w = pairConsistent u := by
  funext r j
  simp only [Sys2Proof.Machine.pairConsistent, h.fld, h.fldOn, h.routeKindList, h.carries, h.kind, h.isEthernet, h.validPairs]

theorem ChecksAgree.flowIn : flowIn w = flowIn u := by
  funext r
  simp only [Sys2Proof.Machine.flowIn, h.fld, h.routeKindList]

theorem ChecksAgree.flowOut : flowOut w = flowOut u := by
  funext r j
  simp only [Sys2Proof.Machine.flowOut, h.fld, h.routeKindList]

theorem ChecksAgree.busBounds : busBounds w = busBounds u := by
  funext l
  have hrow : streamRow w .sketch = streamRow u .sketch := funext₂ fun _ _ => by
    rw [streamRow, streamRow, h.fldOn, h.fld, h.rowOctets]
  rw [Sys2Proof.Machine.busBounds, Sys2Proof.Machine.busBounds, h.rowsWhere, h.fldOn, h.fld, h.rowOctets, hrow]

theorem ChecksAgree.gatewayCheck : w.gatewayCheck = u.gatewayCheck := by
  funext l
  simp only [State.gatewayCheck, h.rowsWhere, h.fldOn, h.fld, h.validPairs, h.pairConsistent, h.flowIn, h.flowOut, h.busBounds,
    h.routeKindList]

end

end Sys2Proof.Machine
end

section
/-! PROOFS. What an approval of the commit checks means (R252 to R256, R288, R289). -/

namespace Sys2Proof.Machine

section
variable {u : State} {l : List Bounded}

/-! ### The admission check -/

theorem admission_none (h : u.guaranteedStreams .sketch = []) : u.admission = .ok [] := by
  simp [State.admission, h]

theorem admission_unmarked (hg : u.guaranteedStreams .sketch ≠ []) (hm : u.rowOctets .sketch 0xF076 0 0 5 ≠ ascii "HLRN" ++ [1#8]) :
    u.admission = .error (1, 0xFFFF, 0xFFFF) := by
  have hmagic : ascii "HLRN" ++ [1#8] = [0x48#8, 0x4C#8, 0x52#8, 0x4E#8, 0x01#8] := by decide
  have hfault : u.certificateFault (u.boundStreams .sketch) = some 1 := if_pos (hmagic ▸ hm)
  have hsome : (u.guaranteedStreams .sketch).isEmpty = false := by simpa using hg
  simp [State.admission, hfault, hsome]

/-- The tests that a Sketch with a guaranteed stream passed where it is admitted, in the order in which R256 makes them. -/
structure State.Admitted (u : State) (l₀ l : List Bounded) : Prop where
  certificate : u.certificateFault (u.boundStreams .sketch) = none
  metered : (u.guaranteedStreams .sketch).find? (fun x => !u.metered x) = none
  placed : (u.guaranteedStreams .sketch).findSome? (fun x => (u.placeFault x).map fun p => (x, p)) = none
  members : (u.guaranteedStreams .sketch).find? u.memberFault = none
  bounds : u.bounds ((u.guaranteedStreams .sketch).map u.traffic) (u.boundStreams .sketch) = .ok l₀
  admitted : l = u.withMembers (u.guaranteedStreams .sketch) l₀
  pools : u.poolFault l = none
  inFlight : (l.map Bounded.frames).sum ≤ 65536

theorem admission_ok (h : u.admission = .ok l) : (u.guaranteedStreams .sketch = [] ∧ l = []) ∨ ∃ l₀, u.Admitted l₀ l := by
  unfold State.admission at h
  dsimp only at h
  split at h
  · next hg => exact .inl ⟨List.isEmpty_iff.mp hg, (Except.ok.inj h).symm⟩
  · right
    split at h
    · cases h
    · next hcert =>
      split at h
      · cases h
      · next hmet =>
        split at h
        · cases h
        · next hplace =>
          split at h
          · cases h
          · next hmem =>
            split at h
            · cases h
            · next l₀ hbounds =>
              split at h
              · cases h
              · next hpool =>
                split at h
                · cases h
                · next hflight =>
                  obtain rfl := Except.ok.inj h
                  exact ⟨l₀, hcert, hmet, hplace, hmem, hbounds, rfl, hpool, Nat.not_lt.mp hflight⟩

theorem certificateFault_none {bounded : List Nat} (h : u.certificateFault bounded = none) : u.certificateSigned = true
    ∧ octetsAt (u.certificate 0 4) 8 32 = sha256 u.covered ∧ (List.range u.recordCount).map u.recordStream = bounded := by
  unfold State.certificateFault at h
  split at h
  · cases h
  · split at h
    · cases h
    · next hsigned =>
      split at h
      · cases h
      · next hdigest =>
        split at h
        · cases h
        · next hrecords =>
          simp only [Bool.or_eq_true, decide_eq_true_eq, not_or, ne_eq, not_not] at hrecords
          obtain ⟨-, hstreams⟩ := hrecords
          exact ⟨by simpa using hsigned, not_not.mp hdigest, hstreams⟩

/-- Each stream with a bound of its own is held with that bound, and it is within the claim (R256). -/
theorem bounds_ok {all : List Traffic} {xs : List Nat} (h : u.bounds all xs = .ok l) :
    (∀ x ∈ xs, ∃ b e, u.boundNs all (u.traffic x) = .ok (b, e) ∧ b ≤ u.claim x ∧ ⟨u.traffic x, b⟩ ∈ l)
    ∧ ∀ y ∈ l, ∃ x ∈ xs, ∃ e, y.traffic = u.traffic x ∧ u.boundNs all (u.traffic x) = .ok (y.bound, e) := by
  induction xs generalizing l with
  | nil =>
    obtain rfl := Except.ok.inj h
    simp
  | cons x xs ih =>
    unfold State.bounds at h
    dsimp only at h
    split at h
    · cases h
    · next b e hbound =>
      split at h
      · cases h
      · next hclaim =>
        split at h
        · cases h
        · next l' hl =>
          obtain rfl := Except.ok.inj h
          obtain ⟨hall, hback⟩ := ih hl
          constructor
          · intro y hy
            rcases List.mem_cons.mp hy with rfl | hy
            · exact ⟨b, e, hbound, Nat.not_lt.mp hclaim, List.mem_cons_self⟩
            · obtain ⟨b', e', hb, hc, hm⟩ := hall y hy
              exact ⟨b', e', hb, hc, List.mem_cons_of_mem _ hm⟩
          · intro y hy
            rcases List.mem_cons.mp hy with rfl | hy
            · exact ⟨x, List.mem_cons_self, e, rfl, hbound⟩
            · obtain ⟨x', hx, e', hb⟩ := hback y hy
              exact ⟨x', List.mem_cons_of_mem _ hx, e', hb⟩

theorem withMembers_mem {guar : List Nat} {l₀ : List Bounded} {x : Nat} {y : Bounded} (hx : x ∈ guar)
    (hy : l₀.find? (fun b => b.traffic.stream == x) = some y) : y ∈ u.withMembers guar l₀ :=
  List.mem_filterMap.mpr ⟨x, hx, by rw [hy]⟩

theorem withMembers_traffic {guar : List Nat} {l₀ : List Bounded} (h₀ : ∀ y ∈ l₀, ∃ x, y.traffic = u.traffic x) {y : Bounded}
    (hy : y ∈ u.withMembers guar l₀) : ∃ x ∈ guar, y.traffic = u.traffic x := by
  obtain ⟨x, hx, he⟩ := List.mem_filterMap.mp hy
  split at he
  · next b hb =>
    obtain rfl := Option.some.inj he
    have hstream : b.traffic.stream = x := by simpa using List.find?_some hb
    obtain ⟨x', htraffic⟩ := h₀ b (List.mem_of_find?_eq_some hb)
    obtain rfl : x' = x := by rw [← hstream, htraffic]; rfl
    exact ⟨x', hx, htraffic⟩
  · obtain rfl := Option.some.inj he
    exact ⟨x, hx, rfl⟩

theorem poolFault_none (h : u.poolFault l = none) :
    (∀ b ∈ l, (u.fld .sketch 0xF050 (u.sketchPool b.traffic.cls) F.poolProtected).testBit b.traffic.cls = true)
    ∧ ∀ r < 4, ((l.filter fun b => u.sketchPool b.traffic.cls == r).map u.admCells).sum ≤ u.fld .sketch 0xF050 r F.poolQuota := by
  unfold State.poolFault at h
  split at h
  · cases h
  · next hfind =>
    split at h
    · cases h
    · next hany =>
      constructor
      · simpa using hfind
      · simpa using hany

theorem admitted_bounded {l₀ : List Bounded} (h : u.Admitted l₀ l) : ∀ x ∈ u.boundStreams .sketch, ∃ b e,
    u.boundNs ((u.guaranteedStreams .sketch).map u.traffic) (u.traffic x) = .ok (b, e) ∧ b ≤ u.claim x ∧ ⟨u.traffic x, b⟩ ∈ l := by
  intro x hx
  obtain ⟨hall, hback⟩ := bounds_ok h.bounds
  obtain ⟨b, e, hb, hc, hm⟩ := hall x hx
  refine ⟨b, e, hb, hc, ?_⟩
  obtain ⟨y, hy⟩ := Option.isSome_iff_exists.mp
    ((List.find?_isSome (p := fun b : Bounded => b.traffic.stream == x)).mpr ⟨_, hm, beq_self_eq_true x⟩)
  obtain ⟨x', -, e', htraffic, hb'⟩ := hback y (List.mem_of_find?_eq_some hy)
  have hstream : y.traffic.stream = x := by simpa using List.find?_some hy
  obtain rfl : x' = x := by rw [← hstream, htraffic]; rfl
  have hbound : y.bound = b := congrArg Prod.fst (Except.ok.inj (hb'.symm.trans hb))
  have hmem := withMembers_mem (u := u) (List.mem_filter.mp hx).1 hy
  rw [h.admitted, ← htraffic, ← hbound]
  exact hmem

/-- What is admitted is the traffic of guaranteed streams. -/
theorem admitted_traffic (h : u.admission = .ok l) : ∀ b ∈ l, ∃ x ∈ u.guaranteedStreams .sketch, b.traffic = u.traffic x := by
  intro b hb
  rcases admission_ok h with ⟨-, rfl⟩ | ⟨l₀, hadm⟩
  · cases hb
  · refine withMembers_traffic (fun y hy => ?_) (hadm.admitted ▸ hb)
    obtain ⟨x, -, -, htraffic, -⟩ := (bounds_ok hadm.bounds).2 y hy
    exact ⟨x, htraffic⟩

theorem traffic_ingress_lt (x : Nat) : (u.traffic x).ingress < 2 ^ 16 := Nat.mod_lt _ (by decide)

/-! ### The gateway check -/

theorem pairConsistent_ports {r j : Nat} (h : pairConsistent u r j = true) : u.fld .sketch 0xF080 r (F.routePairPort j) ≠ 246
    ∧ u.fld .sketch 0xF080 r (F.routePairPort j) ≠ 247
    ∧ ∀ i ∈ validPairs u r, i ≠ j → u.fld .sketch 0xF080 r (F.routePairPort i) ≠ u.fld .sketch 0xF080 r (F.routePairPort j) := by
  simp only [pairConsistent, Bool.and_eq_true, bne_iff_ne, ne_eq, Bool.not_eq_true', List.any_eq_false, beq_iff_eq, not_and] at h
  obtain ⟨⟨⟨⟨⟨⟨h246, h247⟩, hports⟩, -⟩, -⟩, -⟩, -⟩ := h
  exact ⟨h246, h247, hports⟩

/-- An edge that follows itself is reached from itself at once. -/
theorem reaches_self {es : List RouteEdge} {e : RouteEdge} (n : Nat) (he : e ∈ es) (hf : follows e.out e.into = true) :
    reaches es (e.row, e.pair) (n + 1) [e] [] = true := by
  have hnext : e ∈ es.filter fun x => [e].any fun d => follows d.out x.into := List.mem_filter.mpr ⟨he, by simpa using hf⟩
  have hgoal : (es.filter fun x => [e].any fun d => follows d.out x.into).any (fun x => (x.row, x.pair) == (e.row, e.pair)) = true :=
    List.any_eq_true.mpr ⟨e, hnext, beq_self_eq_true (e.row, e.pair)⟩
  exact if_pos hgoal

theorem gatewayCheck_none (h : u.gatewayCheck l = none) {r : Nat}
    (hr : r ∈ u.rowsWhere .sketch 0xF080 fun r => u.fldOn .sketch 0xF080 r F.routeValid) {j : Nat} (hj : j ∈ validPairs u r) :
    pairConsistent u r j = true ∧ follows (flowOut u r j) (flowIn u r) = false := by
  have hpair : (r, j) ∈ (u.rowsWhere .sketch 0xF080 fun r => u.fldOn .sketch 0xF080 r F.routeValid).flatMap fun r =>
      (validPairs u r).map fun j => (r, j) := List.mem_flatMap.mpr ⟨r, hr, List.mem_map.mpr ⟨j, hj, rfl⟩⟩
  unfold State.gatewayCheck at h
  dsimp only at h
  split at h
  · cases h
  · next hcons =>
    split at h
    · cases h
    · next hloop =>
      refine ⟨by simpa using List.find?_eq_none.mp hcons _ hpair, Bool.eq_false_iff.mpr fun hf => ?_⟩
      have hedge := List.mem_map_of_mem (f := fun x : Nat × Nat => (⟨x.1, x.2, flowIn u x.1, flowOut u x.1 x.2⟩ : RouteEdge)) hpair
      exact List.find?_eq_none.mp hloop _ hedge (reaches_self _ hedge hf)

end

end Sys2Proof.Machine
end

section
/-! PROOFS. A write of SketchCommit (R43, R252, R288). -/

namespace Sys2Proof.Machine

/-! ### The verdict -/

/-- A verdict of the checks: the code, and the stream, port, route and pair concerned. -/
def recordVerdict (code x p r j : Nat) : Act :=
  Act.all [.put (Rg.verdict 0) code, .put (Rg.verdict 1) x, .put (Rg.verdict 2) p, .put (Rg.verdict 3) r, .put (Rg.verdict 4) j]

/-- What the checks of the Sketch leave for their end. -/
def State.checksVerdict (s : State) : Act :=
  match s.admission with
  | .error (n, x, p) => recordVerdict (0x0100 + n) x p 0xFFFF 0xFF
  | .ok l =>
    match s.gatewayCheck l with
    | some (code, r, j) => recordVerdict code 0xFFFF 0xFFFF r j
    | none => .seq (recordVerdict 0 0xFFFF 0xFFFF 0xFFFF 0xFF) (holdAdmission s l)

theorem run_startCommit (s : State) :
    startCommit.run s = s.checksVerdict.run ((Act.put Key.sketchCommit 3).run ((Act.put Key.commitState 2).run s)) := rfl

theorem get_recordVerdict (s : State) (code x p r j : Nat) : let t := (recordVerdict code x p r j).run s
    t.get (Rg.verdict 0) = code ∧ t.get (Rg.verdict 1) = x ∧ t.get (Rg.verdict 2) = p ∧ t.get (Rg.verdict 3) = r
      ∧ t.get (Rg.verdict 4) = j := by
  have hmod : ∀ i v, v % regMod (Rg.verdict i) = v := fun i v => by rw [regMod_internal (by unfold Rg.verdict Rg.at'; omega), Nat.mod_zero]
  have hne : ∀ i k, i ≠ k → Rg.verdict i ≠ Rg.verdict k := fun i k h => by unfold Rg.verdict Rg.at'; omega
  simp [recordVerdict, hmod, hne]

/-! ### What an approval holds for the swap -/

theorem numberOf_at' (n i j : Nat) : 2 ^ 24 ≤ Rg.at' n i j ∧ n ≤ Rg.numberOf (Rg.at' n i j)
    ∧ (i < 2 ^ 20 → j < 2 ^ 20 → Rg.numberOf (Rg.at' n i j) = n) := by
  unfold Rg.numberOf Rg.at'
  omega

/-- The registers of what a check in progress admits: those numbered 43 to 45, and further ones where the Sketch has a guaranteed
stream of a number that there is not. -/
def heldRegs (beyond : Prop) (k : Nat) : Prop := 2 ^ 24 ≤ k ∧ 43 ≤ Rg.numberOf k ∧ (Rg.numberOf k ≤ 45 ∨ beyond)

theorem heldRegs_at' {beyond : Prop} {n i j : Nat} (hn : 43 ≤ n) (hn' : n ≤ 45) (hi : i < 2 ^ 20 ∨ beyond) (hj : j < 2 ^ 20) :
    heldRegs beyond (Rg.at' n i j) := by
  obtain ⟨hlow, hge, heq⟩ := numberOf_at' n i j
  exact ⟨hlow, hn.trans hge, hi.imp (fun h => (heq h hj).trans_le hn') id⟩

theorem mem_reads {t : Traffic} {p : Nat} (h : p ∈ t.reads) : p = t.ingress ∨ p < 256 := by
  obtain ⟨h, -⟩ := List.mem_filter.mp h
  refine (List.mem_cons.mp h).imp_right fun h => ?_
  exact List.mem_range.mp (List.mem_filter.mp h).1

/-- The streams whose Lc a bound reads are among those that are checked together (R255). -/
theorem mem_readsLc {s : State} {all : List Traffic} {t : Traffic} {y : Traffic × Nat} (h : y ∈ s.readsLc all t) : y.1 ∈ all := by
  obtain ⟨e, -, hy⟩ := List.mem_flatMap.mp h
  split at hy
  · cases hy
  · obtain ⟨x, hx, rfl⟩ := List.mem_map.mp hy
    exact (List.mem_filter.mp hx).1

theorem mem_readsRates {s : State} {all : List Traffic} {t : Traffic} {p : Nat} (h : p ∈ s.readsRates all t) :
    ∃ x ∈ all, p = x.ingress := by
  obtain ⟨y, hy, rfl⟩ := List.mem_map.mp h
  exact ⟨y.1, mem_readsLc (List.mem_filter.mp hy).1, rfl⟩

theorem mem_readsLengths {s : State} {all : List Traffic} {t : Traffic} {p : Nat} (ht : t ∈ all) (h : p ∈ s.readsLengths all t) :
    ∃ x ∈ all, p = x.ingress := by
  have hlc : ∀ p ∈ ((s.readsLc all t).filter fun y => s.boundCuts y.1 y.2).map fun y => y.1.ingress, ∃ x ∈ all, p = x.ingress := by
    intro p hp
    obtain ⟨y, hy, rfl⟩ := List.mem_map.mp hp
    exact ⟨y.1, mem_readsLc (List.mem_filter.mp hy).1, rfl⟩
  unfold State.readsLengths at h
  dsimp only at h
  split at h
  · exact (List.mem_cons.mp h).elim (fun h => ⟨t, ht, h⟩) (hlc p)
  · exact hlc p h

theorem within_holdAdmission {s : State} {l : List Bounded} {beyond : Prop}
    (hl : ∀ b ∈ l, (b.traffic.stream < 4096 ∨ beyond) ∧ b.traffic.ingress < 2 ^ 16) :
    Within (heldRegs beyond) noCells (holdAdmission s l) := by
  have hrow : ∀ b ∈ l, b.traffic.stream < 2 ^ 20 ∨ beyond := fun b hb => (hl b hb).1.imp_left fun h => h.trans (by decide)
  have hvalue : ∀ k, heldRegs beyond (Rg.pendValue k) := fun k =>
    heldRegs_at' (by decide) (by decide) (.inl (by decide)) (Nat.mod_lt _ (by decide))
  have hreads : ∀ b ∈ l, ∀ p < 2 ^ 17, heldRegs beyond (Rg.pendReads b.traffic.stream p) := fun b hb p hp =>
    heldRegs_at' (by decide) (by decide) (hrow b hb) (hp.trans (by decide))
  have hport : ∀ p, (∃ x ∈ l.map Bounded.traffic, p = x.ingress) → p < 2 ^ 16 := by
    rintro p ⟨x, hx, rfl⟩
    obtain ⟨b, hb, rfl⟩ := List.mem_map.mp hx
    exact (hl b hb).2
  refine ⟨fun k => ?_, within_each fun b hb => ⟨?_, ?_, ?_, within_each fun p hp => ⟨hreads b hb p ?_, within_each fun k _ => hvalue k⟩,
    within_when fun _ => hreads b hb 256 (by decide), within_each fun p hp => hreads b hb (512 + p) ?_, trivial⟩,
    within_when fun _ => within_each fun p _ => hvalue _, trivial⟩
  · by_cases hk : 43 ≤ Rg.numberOf k ∧ Rg.numberOf k ≤ 45
    · exact .inl ⟨by unfold Rg.numberOf at hk; omega, hk.1, .inl hk.2⟩
    · exact .inr (by simp only [Bool.not_eq_true', Bool.and_eq_false_iff, decide_eq_false_iff_not]; omega)
  · exact heldRegs_at' (by decide) (by decide) (hrow b hb) (by decide)
  · exact heldRegs_at' (by decide) (by decide) (hrow b hb) (by decide)
  · exact heldRegs_at' (by decide) (by decide) (hrow b hb) (by decide)
  · have hp' : p < 2 ^ 16 ∨ p < 256 := (List.mem_append.mp hp).elim (fun h => (mem_reads h).imp_left fun h => h.trans_lt (hl b hb).2)
      fun h => .inl (hport p (mem_readsRates h))
    omega
  · have hp' := hport p (mem_readsLengths (List.mem_map_of_mem hb) hp)
    omega

/-! ### What the write leaves -/

/-- The registers of the checks in progress: the verdict and what an approval holds. -/
def checkRegs (beyond : Prop) (k : Nat) : Prop := 2 ^ 24 ≤ k ∧ 42 ≤ Rg.numberOf k ∧ (Rg.numberOf k ≤ 45 ∨ beyond)

theorem within_recordVerdict {beyond : Prop} (code x p r j : Nat) : Within (checkRegs beyond) noCells (recordVerdict code x p r j) := by
  have hverdict : ∀ i < 2 ^ 20, checkRegs beyond (Rg.verdict i) := fun i hi => by
    obtain ⟨hlow, hge, heq⟩ := numberOf_at' 42 0 i
    exact ⟨hlow, hge, .inl ((heq (by decide) hi).trans_le (by decide))⟩
  exact ⟨hverdict 0 (by decide), hverdict 1 (by decide), hverdict 2 (by decide), hverdict 3 (by decide), hverdict 4 (by decide), trivial⟩

/-- The guaranteed streams of the Sketch have one beyond those that there are. -/
def State.beyondStreams (s : State) : Prop := ∃ x ∈ s.guaranteedStreams .sketch, 4096 ≤ x

theorem within_holdAdmitted {s : State} {l : List Bounded} (h : s.admission = .ok l) :
    Within (heldRegs s.beyondStreams) noCells (holdAdmission s l) :=
  within_holdAdmission fun b hb => by
    obtain ⟨x, hx, htraffic⟩ := admitted_traffic h b hb
    rw [htraffic]
    exact ⟨(Nat.lt_or_ge x 4096).imp_right fun hge => ⟨x, hx, hge⟩, traffic_ingress_lt x⟩

theorem within_checksVerdict (s : State) : Within (checkRegs s.beyondStreams) noCells s.checksVerdict := by
  unfold State.checksVerdict
  split
  · exact within_recordVerdict ..
  · next l hl =>
    split
    · exact within_recordVerdict ..
    · exact ⟨within_recordVerdict .., within_mono (fun k ⟨hlow, hge, hle⟩ => ⟨hlow, Nat.le_of_succ_le hge, hle⟩) (fun _ _ h => h) _
        (within_holdAdmitted hl)⟩

theorem checksVerdict_refused {s : State} {n x p : Nat} (h : s.admission = .error (n, x, p)) (t : State) :
    (s.checksVerdict.run t).get (Rg.verdict 0) = 0x0100 + n ∧ (s.checksVerdict.run t).get (Rg.verdict 1) = x
      ∧ (s.checksVerdict.run t).get (Rg.verdict 2) = p := by
  have hv : s.checksVerdict = recordVerdict (0x0100 + n) x p 0xFFFF 0xFF := by rw [State.checksVerdict, h]
  obtain ⟨h0, h1, h2, -⟩ := get_recordVerdict t (0x0100 + n) x p 0xFFFF 0xFF
  rw [hv]
  exact ⟨h0, h1, h2⟩

theorem checksVerdict_inconsistent {s : State} {l : List Bounded} {n r j : Nat} (h : s.admission = .ok l)
    (hg : s.gatewayCheck l = some (n, r, j)) (t : State) : (s.checksVerdict.run t).get (Rg.verdict 0) = n
      ∧ (s.checksVerdict.run t).get (Rg.verdict 3) = r ∧ (s.checksVerdict.run t).get (Rg.verdict 4) = j := by
  have hv : s.checksVerdict = recordVerdict n 0xFFFF 0xFFFF r j := by rw [State.checksVerdict, h]; simp only [hg]
  obtain ⟨h0, -, -, h3, h4⟩ := get_recordVerdict t n 0xFFFF 0xFFFF r j
  rw [hv]
  exact ⟨h0, h3, h4⟩

theorem checksVerdict_approved {s : State} {l : List Bounded} (h : s.admission = .ok l) (hg : s.gatewayCheck l = none) (t : State) :
    (s.checksVerdict.run t).get (Rg.verdict 0) = 0 := by
  have hv : s.checksVerdict = .seq (recordVerdict 0 0xFFFF 0xFFFF 0xFFFF 0xFF) (holdAdmission s l) := by
    rw [State.checksVerdict, h]
    simp only [hg]
  have hfree : ¬ heldRegs s.beyondStreams (Rg.verdict 0) := fun ⟨_, hge, _⟩ => absurd hge (by decide)
  obtain ⟨hkept, -⟩ := run_leavesRest (holdAdmission s l) ((recordVerdict 0 0xFFFF 0xFFFF 0xFFFF 0xFF).run t) (within_holdAdmitted h)
  obtain ⟨h0, -⟩ := get_recordVerdict t 0 0xFFFF 0xFFFF 0xFFFF 0xFF
  rw [hv, run_seq, hkept _ hfree, h0]

/-! ### The state on which the checks run -/

theorem sketch_block (bs : List Byte) : ∀ (a : Nat) (s : State), ((Act.block .live a bs).run s).sketch = s.sketch := by
  induction bs with
  | nil => intro a s; rfl
  | cons b bs ih => intro a s; exact (ih (a + 1) _).trans rfl

theorem sketch_setF (s : State) (idx row : Nat) (f : Fld) (v : Nat) : ((Act.setF .live idx row f v).run s).sketch = s.sketch :=
  sketch_block _ _ s

theorem sketch_countClamp (s : State) (idx sub : Nat) : ((countClamp idx sub).run s).sketch = s.sketch := by
  rw [countClamp, Act.bumpF, run_dep, sketch_setF]

/-- The state on which a command that was written acts holds the same for the checks, where its object lies below the port groups. -/
theorem checksAgree_executed (u : State) {idx sub : Nat} (hi : idx < 0x2000) (hs : sub < 2 ^ 8) (st : Nat) (clamps : Bool) :
    let w := (Act.put (idx * 256 + sub) st).run ((Act.when clamps (countClamp idx sub)).run u)
    leavesRest u w (keysIn [idx * 256 + sub]) clampCells ∧ ChecksAgree u w := by
  intro w
  have hrest : leavesRest u w (keysIn [idx * 256 + sub]) clampCells :=
    run_leavesRest (.seq (Act.when clamps (countClamp idx sub)) (.put (idx * 256 + sub) st)) u
      ⟨within_when fun _ => within_countClamp_cells (hi.trans (by decide)) hs, List.mem_singleton.mpr rfl⟩
  have hsketch : ((Act.when clamps (countClamp idx sub)).run u).sketch = u.sketch := by
    rw [run_when]
    split
    · exact sketch_countClamp u idx sub
    · rfl
  obtain ⟨hregs, hcells, -⟩ := id hrest
  refine ⟨hrest, hsketch, fun a ha => hcells .live a fun ⟨_, hc⟩ => ?_, fun k hk => hregs k fun hm => ?_⟩
  · omega
  · have := List.mem_singleton.mp hm
    omega

/-! ### The command -/

theorem isCommand_sketchCommit {s : State} {o : Obj} (h : s.objAt 0x1F10 1 = some o) : isCommand o = true := by
  cases h
  rfl

theorem runCommand_sketchCommit (s : State) (path : Path) (x : Nat) : runCommand s path 0x1F10 1 x
    = if s.commitStarts && s.get Key.deviceState = 0 then .runs startCommit else .refused 3 := rfl

theorem commitStarts_iff (s : State) : s.commitStarts = true ↔ (s.get Key.safetyState = 1 ∨ s.get Key.safetyState = 2)
    ∧ (s.get Key.commitState < 2 ∨ 5 ≤ s.get Key.commitState) := by
  simp only [State.commitStarts, State.safetyRuns, Bool.and_eq_true, Bool.or_eq_true, beq_iff_eq, Bool.not_eq_true', Bool.and_eq_false_iff,
    decide_eq_false_iff_not]
  omega

/-- What a write of SketchCommit may change. -/
def commitRegs (beyond : Prop) (k : Nat) : Prop := k = Key.commitState ∨ k = Key.sketchCommit ∨ checkRegs beyond k

theorem startCommit_leavesRest (s : State) : leavesRest s (startCommit.run s) (commitRegs s.beyondStreams) noCells := by
  rw [run_startCommit]
  exact run_leavesRest (.seq (.seq (.put Key.commitState 2) (.put Key.sketchCommit 3)) s.checksVerdict) s
    ⟨⟨.inl rfl, .inr (.inl rfl)⟩, within_mono (fun _ h => .inr (.inr h)) (fun _ _ h => h) _ (within_checksVerdict s)⟩

/-- The checks leave the commit Checking and SketchCommit unfinished (R43). -/
theorem startCommit_checking (s : State) : (startCommit.run s).get Key.commitState = 2 ∧ (startCommit.run s).get Key.sketchCommit = 3 := by
  have hfree : ∀ k < 2 ^ 24, ¬ checkRegs s.beyondStreams k := fun k hk ⟨hlow, _⟩ => absurd hlow (Nat.not_le.mpr hk)
  obtain ⟨hkept, -⟩ := run_leavesRest s.checksVerdict ((Act.put Key.sketchCommit 3).run ((Act.put Key.commitState 2).run s))
    (within_checksVerdict s)
  rw [run_startCommit, hkept _ (hfree _ (by decide)), hkept _ (hfree _ (by decide)), get_put_self, get_put_ne _ _ (by decide), get_put_self]
  exact ⟨rfl, rfl⟩


end Sys2Proof.Machine
end

section
/-! PROOFS. The end of the commit checks (R43, R45), CommitTime (R45), and the statement about the checks. -/

namespace Sys2Proof.Machine

/-! ### A write of SketchCommit -/

theorem sketchCommit_exec {s : State} {dt : Nat} {path : Path} {v : BitVec 64} {r : Wrote}
    (h : writeScalarAt (s.facing dt path) path 0x1F10 1 v.toNat = r) :
    exec (.sketchCommit dt path v) s = .next (r.act.run (s.facing dt path)) :=
  (command_scalarWrite ..).trans (congrArg (fun w => Host.Outcome.next (w.act.run (s.facing dt path))) h)

/-- A SketchCommit that starts: the state on which its checks run, and what that shares with the one before. -/
theorem sketchCommit_started {s : State} {dt : Nat} {path : Path} {v : BitVec 64} (ha : (s.facing dt path).admits path 0x1F10 1 = true)
    (hc : (s.facing dt path).commitStarts = true) (hd : (s.facing dt path).get Key.deviceState = 0) : ∃ w,
    exec (.sketchCommit dt path v) s = .next ((Act.answer 3 []).run (startCommit.run w))
      ∧ leavesRest (s.facing dt path) w (keysIn [Key.sketchCommit]) clampCells ∧ ChecksAgree (s.facing dt path) w := by
  obtain ⟨x, clamps, hw⟩ := writeScalarAt_command v.toNat ha (fun _ => isCommand_sketchCommit) rfl
  rw [runCommand_sketchCommit, if_pos (by simp [hc, hd])] at hw
  exact ⟨_, (sketchCommit_exec hw).trans (congrArg Host.Outcome.next (run_executed _ 3 startCommit 0x1F10 1 clamps)),
    checksAgree_executed _ (by decide) (by decide) 3 clamps⟩

theorem sketchCommit_refused {s : State} {dt : Nat} {path : Path} {v : BitVec 64} (ha : (s.facing dt path).admits path 0x1F10 1 = true)
    (hc : (s.facing dt path).commitStarts = false) :
    exec (.sketchCommit dt path v) s = .next ((Act.answer 3 []).run (s.facing dt path)) := by
  obtain ⟨x, clamps, hw⟩ := writeScalarAt_command v.toNat ha (fun _ => isCommand_sketchCommit) rfl
  rw [runCommand_sketchCommit, if_neg (by simp [hc])] at hw
  exact (sketchCommit_exec hw).trans (congrArg Host.Outcome.next (run_refused ..))

theorem startCommit_leaves {u w : State} (hw : leavesRest u w (keysIn [Key.sketchCommit]) clampCells) (ha : ChecksAgree u w) :
    leavesRest u ((Act.answer 3 []).run (startCommit.run w)) (commitRegs u.beyondStreams) clampCells := by
  have hbeyond : w.beyondStreams = u.beyondStreams := by rw [State.beyondStreams, State.beyondStreams, ha.guaranteedStreams]
  refine leavesRest_trans (leavesRest_mono (fun k hk => .inr (.inl (List.mem_singleton.mp hk))) (fun _ _ h => h) hw) <|
    leavesRest_trans (leavesRest_mono (fun k hk => ?_) (fun _ _ h => h.elim) (startCommit_leavesRest w)) (leavesRest_answered _ _ _)
  exact hbeyond ▸ hk

/-! ### The end of the checks -/

/-- What the end of the checks notes of them: their durations, and what their verdict concerns. -/
def State.checksNoted (s : State) (adm gw : Nat) : Act :=
  Act.all [.put Key.lastCheckDuration (min adm 40000), .put Key.refusalStream (s.get (Rg.verdict 1)),
    .put Key.refusalPort (s.get (Rg.verdict 2)),
    Act.when (s.get (Rg.verdict 0) = 0 || 0x0200 ≤ s.get (Rg.verdict 0)) (Act.all [.put Key.lastGatewayCheckDuration (min gw 30000),
      .put Key.refusalRoute (s.get (Rg.verdict 3)), .put Key.refusalPair (s.get (Rg.verdict 4))])]

/-- What the end of the checks makes of the commit. -/
def State.checksSettled (s : State) : Act :=
  if s.get (Rg.verdict 0) != 0 then refuseCommit (s.get (Rg.verdict 0))
  else if s.get Key.commitTime = 0 then .seq (.put Key.commitState 3) (.put Rg.swapAt s.vtime)
  else if s.commitInstant < s.vtime then refuseCommit 0x0301
  else .seq (.put Key.commitState 3) (.put Rg.swapAt s.commitInstant)

theorem run_checksEnd {s : State} (adm gw : Nat) (h : s.get Key.commitState = 2) :
    (checksEnd adm gw).run s = s.checksSettled.run ((s.checksNoted adm gw).run s) := by
  rw [checksEnd, run_dep, if_neg (by simp [h])]
  rfl

def notedKeys : List Nat := [Key.lastCheckDuration, Key.refusalStream, Key.refusalPort, Key.lastGatewayCheckDuration, Key.refusalRoute,
  Key.refusalPair]
def settledKeys : List Nat := [Key.commitState, Key.commitRefusal, Key.sketchCommit, Rg.swapAt]

theorem within_checksNoted (s : State) (adm gw : Nat) : Within (keysIn notedKeys) noCells (s.checksNoted adm gw) :=
  ⟨by simp [keysIn, notedKeys], by simp [keysIn, notedKeys], by simp [keysIn, notedKeys],
    within_when fun _ => ⟨by simp [keysIn, notedKeys], by simp [keysIn, notedKeys], by simp [keysIn, notedKeys], trivial⟩, trivial⟩

theorem within_refuseCommit (code : Nat) : Within (keysIn settledKeys) noCells (refuseCommit code) :=
  ⟨by simp [keysIn, settledKeys], by simp [keysIn, settledKeys], by simp [keysIn, settledKeys], trivial⟩

theorem within_approve (x : Nat) : Within (keysIn settledKeys) noCells (.seq (.put Key.commitState 3) (.put Rg.swapAt x)) :=
  ⟨by simp [keysIn, settledKeys], by simp [keysIn, settledKeys]⟩

theorem within_checksSettled (s : State) : Within (keysIn settledKeys) noCells s.checksSettled := by
  unfold State.checksSettled
  split
  · exact within_refuseCommit _
  · split
    · exact within_approve _
    · split
      · exact within_refuseCommit _
      · exact within_approve _

theorem get_refuseCommit (s : State) (code : Nat) : let t := (refuseCommit code).run s
    t.get Key.commitState = 5 ∧ t.get Key.commitRefusal = code % 65536 ∧ t.get Key.sketchCommit = 4 := by
  have h1 : Key.commitState ≠ Key.sketchCommit := by decide
  have h2 : Key.commitRefusal ≠ Key.sketchCommit := by decide
  have h3 : Key.commitRefusal ≠ Key.commitState := by decide
  simp [refuseCommit, h1, h2, h3]

theorem get_approve (s : State) (x : Nat) : let t := (Act.seq (.put Key.commitState 3) (.put Rg.swapAt x)).run s
    t.get Key.commitState = 3 ∧ t.get Rg.swapAt = x := by
  have h1 : Key.commitState ≠ Rg.swapAt := by decide
  have h2 : regMod Rg.swapAt = 0 := regMod_internal (by decide)
  simp [h1, h2]

theorem get_checksNoted (s : State) (adm gw : Nat) : let t := (s.checksNoted adm gw).run s
    t.get Key.refusalStream = s.get (Rg.verdict 1) % 65536 ∧ t.get Key.refusalPort = s.get (Rg.verdict 2) % 65536
      ∧ (s.get (Rg.verdict 0) = 0 ∨ 0x0200 ≤ s.get (Rg.verdict 0) →
        t.get Key.refusalRoute = s.get (Rg.verdict 3) % 65536 ∧ t.get Key.refusalPair = s.get (Rg.verdict 4) % 256) := by
  have h1 : Key.refusalStream ∉ [Key.refusalPort, Key.lastGatewayCheckDuration, Key.refusalRoute, Key.refusalPair] := by decide
  have h2 : Key.refusalPort ∉ [Key.lastGatewayCheckDuration, Key.refusalRoute, Key.refusalPair] := by decide
  have h3 : Key.refusalRoute ≠ Key.refusalPair := by decide
  simp only [List.mem_cons, List.not_mem_nil, or_false, not_or] at h1 h2
  simp only [State.checksNoted, run_all_cons, run_all_nil, run_when]
  split
  · simp [h1, h2, h3]
  · next hc => simp_all

/-- The end of the checks in the terms of the state before it: SleepEntry does not wait for them while the device is awake. -/
theorem runs_commitCheckEnd {s : State} {dt adm gw : Nat} {P : State → Prop} (hp : s.operates = true) (hd : s.get Key.deviceState = 0)
    (hc : s.get Key.commitState = 2)
    (h : P ((s.after dt).checksSettled.run (((s.after dt).checksNoted adm gw).run (s.after dt)))) :
    Runs (.commitCheckEnd dt adm gw) s P := by
  have hend := run_checksEnd adm gw ((after_object s dt (k := Key.commitState) (by decide)).trans hc)
  obtain ⟨hnoted, -⟩ := run_leavesRest _ (s.after dt) (within_checksNoted (s.after dt) adm gw)
  obtain ⟨hsettled, -⟩ := run_leavesRest _ (((s.after dt).checksNoted adm gw).run (s.after dt)) (within_checksSettled (s.after dt))
  have hawake : (((checksEnd adm gw).run (s.after dt)).get Key.deviceState) = 0 := by
    rw [hend, hsettled _ (by simp only [keysIn]; decide), hnoted _ (by simp only [keysIn]; decide), after_object s dt (by decide), hd]
  have hsleep : ∀ t : State, t.get Key.deviceState = 0 → sleepTry.run t = t := fun t ht => by simp [sleepTry, run_dep, ht]
  refine runs_powered rfl hp ?_
  rw [run_seq, hsleep _ hawake, hend]
  exact h

theorem checksSettled_refused {u : State} (h : u.get (Rg.verdict 0) ≠ 0) : u.checksSettled = refuseCommit (u.get (Rg.verdict 0)) := by
  rw [State.checksSettled, if_pos (by simpa using h)]

theorem checksSettled_late {u : State} (h : u.get (Rg.verdict 0) = 0) (ht : u.get Key.commitTime ≠ 0) (hl : u.commitInstant < u.vtime) :
    u.checksSettled = refuseCommit 0x0301 := by
  rw [State.checksSettled, if_neg (by simp [h]), if_neg ht, if_pos hl]

theorem checksSettled_timed {u : State} (h : u.get (Rg.verdict 0) = 0) (ht : u.get Key.commitTime ≠ 0) (hl : u.vtime ≤ u.commitInstant) :
    u.checksSettled = .seq (.put Key.commitState 3) (.put Rg.swapAt u.commitInstant) := by
  rw [State.checksSettled, if_neg (by simp [h]), if_neg ht, if_neg (Nat.not_lt.mpr hl)]

theorem checksSettled_atOnce {u : State} (h : u.get (Rg.verdict 0) = 0) (ht : u.get Key.commitTime = 0) :
    u.checksSettled = .seq (.put Key.commitState 3) (.put Rg.swapAt u.vtime) := by
  rw [State.checksSettled, if_neg (by simp [h]), if_pos ht]

/-! ### A write of CommitTime -/

theorem objAt_commitTime {s : State} {o : Obj} (h : s.objAt 0x1F10 2 = some o) : isCommand o = false ∧ o.ty = .time ∧ o.legal = .any := by
  cases h
  exact ⟨rfl, rfl, rfl⟩

/-- Every value of CommitTime is legal, so that none is clamped. -/
theorem legalValue_commitTime {s : State} {o : Obj} (h : s.objAt 0x1F10 2 = some o) (v : BitVec 64) :
    s.legalValue 0x1F10 2 o (ofSlot o.ty v.toNat) = v.toNat ∧ ofSlot o.ty v.toNat = v.toNat := by
  obtain ⟨-, hty, hlegal⟩ := objAt_commitTime h
  have hslot : ofSlot o.ty v.toNat = v.toNat := by rw [hty]; exact Nat.mod_eq_of_lt v.isLt
  refine ⟨?_, hslot⟩
  rw [hslot]
  unfold State.legalValue
  rw [hlegal]
  rfl

theorem writeScalarAt_commitTime {u : State} {path : Path} (v : BitVec 64) (ha : u.admits path 0x1F10 2 = true) :
    writeScalarAt u path 0x1F10 2 v.toNat = ⟨0, Act.all [.skip, .seq (.put Key.commitTime v.toNat) moveSwap], true⟩ := by
  obtain ⟨o, ho, hw⟩ := writeScalarAt_admits u path 0x1F10 2 v.toNat ha
  obtain ⟨hcommand, -, -⟩ := objAt_commitTime ho
  obtain ⟨hlegal, hslot⟩ := legalValue_commitTime ho v
  have hvalue : writeValue u path 0x1F10 2 v.toNat o = ⟨0, .seq (.put Key.commitTime v.toNat) moveSwap, true⟩ := by
    rw [writeValue, hcommand]
    rfl
  have hclamp : isClamp 0x1F10 v.toNat v.toNat = false := by simp [isClamp]
  rw [hw, hlegal, hslot, hvalue, hclamp]
  rfl

/-- A whole second that is not 0 moves the swap of an Approved commit to its own instant (R45). -/
theorem run_moveSwap {u : State} (v : BitVec 64) (hc : u.get Key.commitState = 3) (hv : v ≠ 0) :
    moveSwap.run ((Act.put Key.commitTime v.toNat).run u)
      = (Act.put Rg.swapAt (v.toNat * 65536 + u.get Key.commitTimeFrac)).run ((Act.put Key.commitTime v.toNat).run u) := by
  have hstate : ((Act.put Key.commitTime v.toNat).run u).get Key.commitState = 3 := by rw [get_put_ne _ _ (by decide), hc]
  have hfrac : ((Act.put Key.commitTime v.toNat).run u).get Key.commitTimeFrac = u.get Key.commitTimeFrac := get_put_ne _ _ (by decide)
  have htime : ((Act.put Key.commitTime v.toNat).run u).get Key.commitTime = v.toNat := by
    rw [get_put_self, regMod_commitTime, Nat.mod_eq_of_lt v.isLt]
  have hzero : v.toNat ≠ 0 := fun h => hv (BitVec.eq_of_toNat_eq h)
  rw [moveSwap, run_dep, hstate, htime, if_neg hzero, State.commitInstant, htime, hfrac]
  rfl

theorem commitTime_moves {s : State} {dt : Nat} {path : Path} {v : BitVec 64} (ha : (s.facing dt path).admits path 0x1F10 2 = true)
    (hc : (s.facing dt path).get Key.commitState = 3) (hv : v ≠ 0) : Runs (.commitTime dt path false v) s fun t => t.status = 0
      ∧ t.get Key.commitTime = v.toNat ∧ t.get Rg.swapAt = v.toNat * 65536 + (s.facing dt path).get Key.commitTimeFrac
      ∧ leavesRest (s.facing dt path) t (keysIn [Key.commitTime, Rg.swapAt]) noCells := by
  have hrun : exec (.commitTime dt path false v) s = .next ((Act.answer 0 []).run
      (moveSwap.run ((Act.put Key.commitTime v.toNat).run (s.facing dt path)))) :=
    (command_scalarWrite ..).trans (congrArg (fun w => Host.Outcome.next (w.act.run (s.facing dt path))) (writeScalarAt_commitTime v ha))
  rw [run_moveSwap v hc hv] at hrun
  refine ⟨_, hrun, rfl, ?_, ?_, ?_⟩
  · rw [get_answer, get_put_ne _ _ (by decide), get_put_self, regMod_commitTime, Nat.mod_eq_of_lt v.isLt]
  · rw [get_answer, get_put_self, regMod_internal (by decide), Nat.mod_zero]
  · exact leavesRest_trans (run_leavesRest (.seq (.put Key.commitTime v.toNat) (.put Rg.swapAt _)) _
      ⟨by simp [keysIn], by simp [keysIn]⟩) (leavesRest_answered _ _ _)

/-! ### The statement -/

theorem admitted_conditions {u : State} {l₀ l : List Bounded} (h : u.Admitted l₀ l) :
    let guar := u.guaranteedStreams .sketch
    let bounded := u.boundStreams .sketch
    u.certificateSigned = true ∧ octetsAt (u.certificate 0 4) 8 32 = sha256 u.covered
      ∧ (List.range u.recordCount).map u.recordStream = bounded
      ∧ (∀ x ∈ guar, u.metered x = true ∧ u.placeFault x = none ∧ u.memberFault x = false)
      ∧ (∀ x ∈ bounded, ∃ b e, u.boundNs (guar.map u.traffic) (u.traffic x) = .ok (b, e) ∧ b ≤ u.claim x ∧ ⟨u.traffic x, b⟩ ∈ l)
      ∧ (∀ b ∈ l, (u.fld .sketch 0xF050 (u.sketchPool b.traffic.cls) F.poolProtected).testBit b.traffic.cls = true)
      ∧ (∀ r < 4, ((l.filter fun b => u.sketchPool b.traffic.cls == r).map u.admCells).sum ≤ u.fld .sketch 0xF050 r F.poolQuota)
      ∧ (l.map Bounded.frames).sum ≤ 65536 := by
  obtain ⟨hsigned, hdigest, hrecords⟩ := certificateFault_none h.certificate
  obtain ⟨hprotected, hquota⟩ := poolFault_none h.pools
  refine ⟨hsigned, hdigest, hrecords, fun x hx => ⟨?_, ?_, ?_⟩, admitted_bounded h, hprotected, hquota, h.inFlight⟩
  · simpa using List.find?_eq_none.mp h.metered x hx
  · simpa using List.findSome?_eq_none_iff.mp h.placed x hx
  · simpa using List.find?_eq_none.mp h.members x hx

/-- What the end of the checks leaves, in the terms of the state before it. -/
theorem checksEnd_settles (u : State) (adm gw : Nat) :
    let code := u.get (Rg.verdict 0)
    let t := u.checksSettled.run ((u.checksNoted adm gw).run u)
    (code ≠ 0 → t.get Key.commitState = 5 ∧ t.get Key.commitRefusal = code % 65536 ∧ t.get Key.sketchCommit = 4)
      ∧ t.get Key.refusalStream = u.get (Rg.verdict 1) % 65536 ∧ t.get Key.refusalPort = u.get (Rg.verdict 2) % 65536
      ∧ (code = 0 ∨ 0x0200 ≤ code →
          t.get Key.refusalRoute = u.get (Rg.verdict 3) % 65536 ∧ t.get Key.refusalPair = u.get (Rg.verdict 4) % 256)
      ∧ (code = 0 → u.get Key.commitTime ≠ 0 → u.commitInstant < u.vtime →
          t.get Key.commitState = 5 ∧ t.get Key.commitRefusal = 0x0301 ∧ t.get Key.sketchCommit = 4)
      ∧ (code = 0 → u.get Key.commitTime ≠ 0 → u.vtime ≤ u.commitInstant →
          t.get Key.commitState = 3 ∧ t.get Rg.swapAt = u.commitInstant)
      ∧ (code = 0 → u.get Key.commitTime = 0 → t.get Key.commitState = 3 ∧ t.get Rg.swapAt = u.vtime)
      ∧ leavesRest u t (keysIn [Key.commitState, Key.commitRefusal, Key.sketchCommit, Rg.swapAt, Key.lastCheckDuration,
          Key.refusalStream, Key.refusalPort, Key.refusalRoute, Key.refusalPair, Key.lastGatewayCheckDuration]) noCells := by
  intro code t
  have hnoted := run_leavesRest _ u (within_checksNoted u adm gw)
  have hsettled := run_leavesRest _ ((u.checksNoted adm gw).run u) (within_checksSettled u)
  obtain ⟨hstream, hport, hroute⟩ := get_checksNoted u adm gw
  have hkept : ∀ k ∉ settledKeys, t.get k = ((u.checksNoted adm gw).run u).get k := hsettled.1
  refine ⟨fun h => ?_, ?_, ?_, fun h => ?_, fun h ht hl => ?_, fun h ht hl => ?_, fun h ht => ?_, ?_⟩
  · simp only [t, checksSettled_refused h]
    exact get_refuseCommit ..
  · rw [hkept _ (by decide), hstream]
  · rw [hkept _ (by decide), hport]
  · rw [hkept _ (by decide), hkept _ (by decide)]
    exact hroute h
  · simp only [t, checksSettled_late h ht hl]
    exact get_refuseCommit ..
  · simp only [t, checksSettled_timed h ht hl]
    exact get_approve ..
  · simp only [t, checksSettled_atOnce h ht]
    exact get_approve ..
  · exact leavesRest_trans (leavesRest_mono (by simp +contextual [keysIn, notedKeys]) (fun _ _ h => h) hnoted)
      (leavesRest_mono (by simp +contextual [keysIn, settledKeys]) (fun _ _ h => h) hsettled)

theorem startCommit_refused {s : State} {n x p : Nat} (h : s.admission = .error (n, x, p)) :
    (startCommit.run s).get (Rg.verdict 0) = 0x0100 + n ∧ (startCommit.run s).get (Rg.verdict 1) = x
      ∧ (startCommit.run s).get (Rg.verdict 2) = p := by
  rw [run_startCommit]
  exact checksVerdict_refused h _

theorem startCommit_inconsistent {s : State} {l : List Bounded} {n r j : Nat} (h : s.admission = .ok l)
    (hg : s.gatewayCheck l = some (n, r, j)) : (startCommit.run s).get (Rg.verdict 0) = n
      ∧ (startCommit.run s).get (Rg.verdict 3) = r ∧ (startCommit.run s).get (Rg.verdict 4) = j := by
  rw [run_startCommit]
  exact checksVerdict_inconsistent h hg _

theorem startCommit_approved {s : State} {l : List Bounded} (h : s.admission = .ok l) (hg : s.gatewayCheck l = none) :
    (startCommit.run s).get (Rg.verdict 0) = 0 := by
  rw [run_startCommit]
  exact checksVerdict_approved h hg _

/-- Settles O19: a start runs the checks on a state that agrees with the one before on all that they read; what an approval means
stands with the checks. -/
theorem commitsAreChecked : Obligations.CommitsAreChecked := by
  refine ⟨⟨fun s dt path v => ?_, fun u => ?_⟩, fun s dt adm gw => ?_, fun s dt path v ha hc hv => commitTime_moves ha hc hv⟩
  · intro u ha hd
    constructor
    · intro hsafe hstate
      obtain ⟨w, hexec, hkept, hagree⟩ := sketchCommit_started (v := v) ha ((commitStarts_iff u).mpr ⟨hsafe, hstate⟩) hd
      obtain ⟨hchecking, hcommit⟩ := startCommit_checking w
      have hanswer : ∀ k, ((Act.answer 3 []).run (startCommit.run w)).get k = (startCommit.run w).get k := fun k => get_answer _ 3 [] k
      refine ⟨_, hexec, rfl, (hanswer _).trans hchecking, (hanswer _).trans hcommit, fun n x p h => ?_, fun l n r j h hg => ?_, fun l h hg => ?_,
        startCommit_leaves hkept hagree⟩
      · rw [hanswer, hanswer, hanswer]
        exact startCommit_refused (hagree.admission.trans h)
      · rw [hanswer, hanswer, hanswer]
        exact startCommit_inconsistent (hagree.admission.trans h) ((congrFun hagree.gatewayCheck l).trans hg)
      · rw [hanswer]
        exact startCommit_approved (hagree.admission.trans h) ((congrFun hagree.gatewayCheck l).trans hg)
    · intro h
      have hstarts : u.commitStarts = false := by
        rw [Bool.eq_false_iff, ne_eq, commitStarts_iff]
        omega
      exact ⟨_, sketchCommit_refused ha hstarts, rfl, leavesRest_answered u 3 []⟩
  · refine ⟨admission_none, admission_unmarked, fun l h => ?_, fun l h r hr j hj => ?_⟩
    · rcases admission_ok h with ⟨hg, -⟩ | ⟨l₀, hadm⟩
      · exact .inl hg
      · exact .inr (admitted_conditions hadm)
    · obtain ⟨hpair, hfollows⟩ := gatewayCheck_none h hr hj
      obtain ⟨h246, h247, hports⟩ := pairConsistent_ports hpair
      exact ⟨h246, h247, hports, hfollows⟩
  · intro u code hp hd hc
    exact runs_commitCheckEnd hp hd hc (checksEnd_settles u adm gw)

end Sys2Proof.Machine
end

section
/-! PROOFS. Ports that leave Up, buses and transmissions (R88, R97 to R103, R110 to R117, R124, R465) while a queue is out of shape: it
holds the copy of `strayQueue`, which names route row 2^24, past every row that GatewayRoutes has. Where such a copy is lost, its failure
counts past RouteCounters (R292), in table 0xF084, which forwarding never writes. -/

namespace Sys2Proof.Machine

/-- The octet in which the stray copy's failure for a reason of R279 counts. -/
def strayCounter (reason : Nat) : Nat := cellKey 0xF084 0 (12 + 4 * reason)

theorem strayCounter_table {reason : Nat} (h : reason < 8) : strayCounter reason / 2 ^ 36 = 0xF084 := by
  unfold strayCounter cellKey
  omega

theorem strayCounter_unforwarded {reason : Nat} (h : reason < 8) : ¬ forwardingCells .live (strayCounter reason) := by
  rintro ⟨-, htable⟩
  rw [strayCounter_table h] at htable
  exact absurd htable (by decide)

theorem strayCounter_notPort {reason : Nat} (h : reason < 8) : ¬ portCells .live (strayCounter reason) := by
  rintro ⟨-, htable⟩
  rw [strayCounter_table h] at htable
  exact absurd htable (by decide)

/-- From `u` to `t` the stray copy has been lost for a reason. -/
def strayLost (u t : State) (reason : Nat) : Prop :=
  u.octet .live (strayCounter reason) = 0 ∧ t.octet .live (strayCounter reason) = 1

/-- No frame of a command on whose way frames may move allows the loss of the stray copy. -/
theorem not_forwardsOnly_of_strayLost {u t : State} {ks : Nat → Prop} {cs : Gen → Nat → Prop} {reason : Nat} (hreason : reason < 8)
    (hcs : ¬ cs .live (strayCounter reason)) (hlost : strayLost u t reason) : ¬ forwardsOnly u t ks cs := by
  rintro ⟨-, hcells, -⟩
  obtain ⟨hbefore, hafter⟩ := hlost
  have hkept := hcells .live _ hcs (strayCounter_unforwarded hreason)
  rw [hbefore, hafter] at hkept
  exact absurd hkept (by decide)

/-! ### The port is switched off, or its link is lost -/

theorem strayQueue_admits : (strayQueue.facing 0 .safety).admits .safety (0x2000 + 16 * 208) 3 = true
    ∧ (strayQueue.facing 0 .safety).recovering = false ∧ (strayQueue.facing 0 .safety).portState 208 = 2 := by decide +kernel

theorem strayLost_portEnable : strayLost (strayQueue.facing 0 .safety)
    ((scalarWrite .safety (0x2000 + 16 * 208) 3 0).run (strayQueue.after 0)) 6 := by
  unfold strayLost
  decide +kernel

/-- Refutes O21: a write of 0 to PortEnable releases the stray copy, and its failure counts outside of what the port and forwarding may
write. The statement takes any queue. -/
theorem not_portEnableMovesThePort : ¬ Obligations.PortEnableMovesThePort := by
  intro h
  obtain ⟨hadmits, hrecovers, hup⟩ := strayQueue_admits
  obtain ⟨-, hoff, -⟩ := h strayQueue 0 .safety 208 hadmits hrecovers
  obtain ⟨-, -, -, -, -, -, -, hframe⟩ := of_runs rfl (hoff hup)
  exact not_forwardsOnly_of_strayLost (by decide) (strayCounter_notPort (by decide)) strayLost_portEnable hframe

theorem strayQueue_linked : strayQueue.operates = true ∧ strayQueue.portState 208 = 2 ∧ strayQueue.kind 208 ≠ 7
    ∧ strayQueue.get (Rg.testedBy 208) = 0 := by decide +kernel

theorem strayLost_linkLost : strayLost (strayQueue.after 0) ((powered (linkGoes 208)).run (strayQueue.after 0)) 6 := by
  unfold strayLost
  decide +kernel

/-- Refutes O23: the loss of the link releases the stray copy in the same way. The statement takes any queue. -/
theorem not_attachmentsMoveThePort : ¬ Obligations.AttachmentsMoveThePort := by
  rintro ⟨-, hlost, -⟩
  obtain ⟨hpower, hup, hkind, htest⟩ := strayQueue_linked
  obtain ⟨-, -, -, -, hframe⟩ := of_runs rfl (hlost strayQueue 0 208 hpower hup hkind htest)
  exact not_forwardsOnly_of_strayLost (by decide) (strayCounter_notPort (by decide)) strayLost_linkLost hframe

/-! ### A flush ends -/

/-- Port 208 flushes with PortEnable at 1, and the stray copy is in its queue. -/
def flushBesideStray : State := (Act.all [.put (Key.portState 208) 4, .put (Key.portEnable 208) 1]).run strayQueue

/-- The state is sound: soundness does not speak of the queues. -/
theorem flushBesideStray_sound : flushBesideStray.sound = true := sound_run _ _ strayQueue_sound

theorem flushBesideStray_flushes : flushBesideStray.operates = true ∧ flushBesideStray.portState 208 = 4
    ∧ flushBesideStray.get (Key.portEnable 208) ≠ 0 := by decide +kernel

theorem strayLost_flushComplete :
    strayLost (flushBesideStray.after 0) ((powered (flushEnds 208)).run (flushBesideStray.after 0)) 5 := by
  unfold strayLost
  decide +kernel

/-- Refutes O22: the serial port is Up at once as its flush ends, its first selection drops the stray copy, and the failure counts outside
of what the port and forwarding may write. The statement takes any queue. -/
theorem not_bindingsSwapAndFlushesEnd : ¬ Obligations.BindingsSwapAndFlushesEnd := by
  rintro ⟨-, hends⟩
  obtain ⟨hpower, hflush, henable⟩ := flushBesideStray_flushes
  obtain ⟨-, hstart⟩ := hends flushBesideStray 0 208 hpower hflush
  obtain ⟨-, -, -, hframe⟩ := of_runs rfl (hstart henable)
  exact not_forwardsOnly_of_strayLost (by decide) (strayCounter_notPort (by decide)) strayLost_flushComplete hframe

/-! ### An arriving frame ends -/

/-- The arriving frame of `testBesideStray` has a copy before the stray one. With no more octets it is too short (R95). -/
theorem testBesideStray_arrival : testBesideStray.operates = true ∧ testBesideStray.frame? 1 = some arrivingFrame
    ∧ arrivingFrame.complete = false ∧ arrivingFrame.port < 256
    ∧ ingressFault (testBesideStray.after 0) { arrivingFrame with complete := true, valid := (testBesideStray.after 0).now } .good
      = some (Key.rxLengthErrors 0) := by decide +kernel

theorem strayLost_frameTail : strayLost (testBesideStray.after 0)
    ((powered (reselect (tail 1 (.eth []) .good))).run (testBesideStray.after 0)) 5 := by
  unfold strayLost
  decide +kernel

/-- Refutes O28: the copy of a frame that ends too short leaves its queue, the selection there drops the stray copy behind it, and the
failure counts outside of what forwarding may write. The statement takes any queue. -/
theorem not_tailSettlesTheFrame : ¬ Obligations.TailSettlesTheFrame := by
  intro h
  obtain ⟨hpower, hframe?, hopen, hport, hshort⟩ := testBesideStray_arrival
  obtain ⟨-, hbad, -⟩ := h testBesideStray 0 1 (.eth []) .good arrivingFrame hpower hframe? hopen hport
  obtain ⟨-, -, -, hframe⟩ := of_runs rfl (hbad _ hshort)
  exact not_forwardsOnly_of_strayLost (by decide) id strayLost_frameTail hframe

/-! ### A transmission ends, or collides -/

/-- A copy of no route that is on the wire of port 208. -/
def wireCopy : Copy := { strayCopy with seq := 1, phase := .wire, pair := none }

/-- Port 208 sends that copy, and the stray copy waits for it. -/
def sendingBesideStray : State := (Act.setCopies [strayCopy, wireCopy]).run strayQueue

/-- The state is sound: soundness does not speak of the queues. -/
theorem sendingBesideStray_sound : sendingBesideStray.sound = true := sound_run _ _ strayQueue_sound

theorem sendingBesideStray_sends : sendingBesideStray.operates = true ∧ sendingBesideStray.sending 208 = some wireCopy
    ∧ sendingBesideStray.frame? wireCopy.frame = some emptyFrame ∧ emptyFrame.complete = true
    ∧ (sendingBesideStray.after 0).secAlive wireCopy = true := by decide +kernel

theorem strayLost_transmissionEnd :
    strayLost (sendingBesideStray.after 0) ((powered (transmissionDone 208)).run (sendingBesideStray.after 0)) 5 := by
  unfold strayLost
  decide +kernel

/-- Refutes O29: the selection after a transmission drops the stray copy, and its failure counts outside of what forwarding may write. The
statement takes any queue. -/
theorem not_copiesLeave : ¬ Obligations.CopiesLeave := by
  rintro ⟨-, hends⟩
  obtain ⟨hpower, hsends, hframe?, hwhole, halive⟩ := sendingBesideStray_sends
  have hruns := hends sendingBesideStray 0 208 wireCopy emptyFrame hpower hsends hframe? hwhole halive (.inl rfl) (by decide)
  obtain ⟨-, -, -, -, hframe⟩ := of_runs rfl hruns
  exact not_forwardsOnly_of_strayLost (by decide) id strayLost_transmissionEnd hframe

theorem sendingBesideStray_collides : sendingBesideStray.kind 208 = 6
    ∧ (sendingBesideStray.after 0).inForce (Key.serialProtocol 208) = 1
    ∧ (sendingBesideStray.after 0).sending 208 = some wireCopy := by decide +kernel

theorem strayLost_collision :
    strayLost (sendingBesideStray.after 0) ((powered (collides 208)).run (sendingBesideStray.after 0)) 5 := by
  unfold strayLost
  decide +kernel

/-- Refutes O32: the selection after a J1708 collision drops the stray copy in the same way. The statement takes any queue. -/
theorem not_busesRun : ¬ Obligations.BusesRun := by
  rintro ⟨⟨-, -, hcollides⟩, -⟩
  obtain ⟨hpower, -⟩ := sendingBesideStray_sends
  obtain ⟨hkind, hprotocol, hsends⟩ := sendingBesideStray_collides
  obtain ⟨-, -, -, hframe⟩ := of_runs rfl (hcollides sendingBesideStray 0 208 wireCopy hpower hkind hprotocol hsends)
  exact not_forwardsOnly_of_strayLost (by decide) id strayLost_collision hframe

/-! ### The PCIe endpoint is reset -/

/-- Host port 224 is Up, and the stray copy is in its queue. -/
def hostBesideStray : State :=
  (Act.all [.put (Key.portState 224) 2, .setCopies [{ strayCopy with port := 224 }]]).run strayQueue

/-- The state is sound: soundness does not speak of the queues. -/
theorem hostBesideStray_sound : hostBesideStray.sound = true := sound_run _ _ strayQueue_sound

theorem strayLost_perst : strayLost (hostBesideStray.after 0) ((perst false).run (hostBesideStray.after 0)) 6 := by
  unfold strayLost
  decide +kernel

/-- Refutes O59: PCIE_PERST_N takes down the host port, which releases the stray copy, and its failure counts outside of what the ports and
forwarding may write. The statement takes any queue. -/
theorem not_pinsAndClocksAct : ¬ Obligations.PinsAndClocksAct := by
  intro h
  obtain ⟨-, -, -, -, hlow, -⟩ := h hostBesideStray 0
  obtain ⟨-, -, -, -, -, hframe⟩ := of_runs rfl (hlow (by decide +kernel))
  exact not_forwardsOnly_of_strayLost (by decide) (strayCounter_notPort (by decide)) strayLost_perst hframe

end Sys2Proof.Machine
end

section
/-! PROOFS. The decision of a frame (R192) that has come by no port. -/

namespace Sys2Proof.Machine

/-- The fabric holds the frame on port 2^20 alone, and every pipeline that would decide it is interrupted. -/
def besideUnported : State :=
  (Act.all [.put (Key.pipelineState 0) 2, .put (Key.pipelineState 4) 2, .setFrames [unportedFrame]]).run State.reset

/-- The state is sound: soundness does not speak of the fabric. -/
theorem besideUnported_sound : besideUnported.sound = true := sound_run _ _ (by decide)

theorem besideUnported_looks : besideUnported.operates = true ∧ besideUnported.frame? 0 = some unportedFrame
    ∧ unportedFrame.stage = .arriving ∧ unportedFrame.complete = true
    ∧ lookaheadDone (besideUnported.after 0) unportedFrame unportedFrame.parse = true := by decide +kernel

/-- R370's note of the frame's port lands in the verdict of the commit checks (R43). -/
theorem verdict_lookahead :
    ((powered (reselect (look 0 []))).run (besideUnported.after 0)).get (Rg.verdict 0) = 1 := by decide +kernel

/-- Refutes O27: the decision of a frame on no port writes a register that forwarding never writes. The statement takes any frame. -/
theorem not_lookaheadDecidesTheFrame : ¬ Obligations.LookaheadDecidesTheFrame := by
  intro h
  obtain ⟨hpower, hframe?, hstage, hwhole, hdone⟩ := besideUnported_looks
  obtain ⟨-, ⟨hregs, -⟩, -⟩ := of_runs rfl (h besideUnported 0 0 [] unportedFrame hpower hframe? hstage (.inl hwhole) hdone)
  have hkept := hregs (Rg.verdict 0) (by simp [keysIn]) (by decide)
  rw [after_get _ _ (by decide) (by decide)] at hkept
  exact absurd (verdict_lookahead.symm.trans hkept) (by decide +kernel)

end Sys2Proof.Machine
end

section
/-! PROOFS. Rows of a table that are cleared, the rows that a memory lists, and fields that share octets (R148, R150, R153, R180, R198). -/

namespace Sys2Proof.Machine

/-! ### Dropped and unlisted entries -/

/-- A dropped key reads as an unlisted one. -/
theorem Store.get_filter_dropped {α : Type} (d : Nat → α) (m : Store α) (p : Nat → Bool) {k : Nat} (h : p k = false) :
    Store.get d (m.filter fun c => p c.1) k = d k := by
  induction m with
  | nil => rfl
  | cons c m ih =>
    obtain ⟨j, v⟩ := c
    by_cases hj : p j = true
    · have hne : j ≠ k := fun e => by simp [e, h] at hj
      simp [Store.get, hj, hne, ih]
    · simp [hj, ih]

theorem Store.get_unlisted {α : Type} (d : Nat → α) (m : Store α) {k : Nat} (h : ∀ c ∈ m, c.1 ≠ k) : Store.get d m k = d k := by
  induction m with
  | nil => rfl
  | cons c m ih =>
    obtain ⟨hne, hrest⟩ := List.forall_mem_cons.mp h
    simp only [Store.get, if_neg hne, ih hrest]

/-- The table and the row of an octet's place. -/
theorem cellKey_table {idx row o : Nat} (hr : row < 2 ^ 24) (ho : o < 4096) : cellKey idx row o / 2 ^ 36 = idx := by
  unfold cellKey
  omega

theorem cellKey_row {idx row o : Nat} (hr : row < 2 ^ 24) (ho : o < 4096) : cellKey idx row o / 2 ^ 12 % 2 ^ 24 = row := by
  unfold cellKey
  omega

theorem cellKey_add (idx row o i : Nat) : cellKey idx row o + i = cellKey idx row (o + i) := Nat.add_assoc ..

/-- A field lies in the octets of a row where its bits do. -/
theorem Fld.octets_fit {f : Fld} {n : Nat} (h : f.bit + f.width ≤ 8 * n) : f.first + f.span ≤ n := by
  unfold Fld.first Fld.span
  omega

/-! ### Cleared rows -/

variable (s : State) {g : Gen} {idx row : Nat} {p : Nat → Bool} {f : Fld}

theorem octet_clearTable_cleared {o : Nat} (hr : row < 2 ^ 24) (ho : o < 4096) (hp : p row = true) :
    ((Act.clearTable g idx p).run s).octet g (cellKey idx row o) = memDefault g (cellKey idx row o) := by
  have hdropped : (!(cellKey idx row o / 2 ^ 36 == idx && p (cellKey idx row o / 2 ^ 12 % 2 ^ 24))) = false := by
    rw [cellKey_table hr ho, cellKey_row hr ho, hp, beq_self_eq_true]
    rfl
  cases g <;> exact Store.get_filter_dropped _ _
    (fun a => !(a / 2 ^ 36 == idx && p (a / 2 ^ 12 % 2 ^ 24))) hdropped

theorem octet_clearTable_kept {o : Nat} (hr : row < 2 ^ 24) (ho : o < 4096) (hp : p row = false) :
    ((Act.clearTable g idx p).run s).octet g (cellKey idx row o) = s.octet g (cellKey idx row o) := by
  have hkept : (!(cellKey idx row o / 2 ^ 36 == idx && p (cellKey idx row o / 2 ^ 12 % 2 ^ 24))) = true := by
    rw [cellKey_row hr ho, hp, Bool.and_false]
    rfl
  cases g <;> exact Store.get_filter _ _ (fun a => !(a / 2 ^ 36 == idx && p (a / 2 ^ 12 % 2 ^ 24))) _ hkept

/-- A field reads alike in two states that agree on its octets. -/
theorem fld_congr {s t : State} (h : ∀ i < f.span, t.octet g (cellKey idx row (f.first + i)) = s.octet g (cellKey idx row (f.first + i))) :
    t.fld g idx row f = s.fld g idx row f := by
  have hoctets : t.octets g (cellKey idx row f.first) f.span = s.octets g (cellKey idx row f.first) f.span :=
    List.map_congr_left fun i hi => by
      rw [cellKey_add]
      exact h i (List.mem_range.mp hi)
  rw [fld_eq, fld_eq, hoctets]

theorem fld_clearTable_kept (hr : row < 2 ^ 24) (hf : f.first + f.span ≤ 4096) (hp : p row = false) :
    ((Act.clearTable g idx p).run s).fld g idx row f = s.fld g idx row f :=
  fld_congr fun _ _ => octet_clearTable_kept s hr (by omega) hp

theorem leNat_replicate_zero (n : Nat) : leNat (List.replicate n 0#8) = 0 := by
  induction n with
  | zero => rfl
  | succ n ih => simp [List.replicate_succ, leNat, ih]

/-- A field whose octets are 0 reads 0. -/
theorem fld_of_zeros {s : State} (h : ∀ i < f.span, s.octet g (cellKey idx row (f.first + i)) = 0#8) : s.fld g idx row f = 0 := by
  have hoctets : s.octets g (cellKey idx row f.first) f.span = List.replicate f.span 0#8 :=
    List.eq_replicate_iff.mpr ⟨octets_length .., fun b hb => by
      obtain ⟨i, hi, rfl⟩ := List.mem_map.mp hb
      rw [cellKey_add]
      exact h i (List.mem_range.mp hi)⟩
  rw [fld_eq, hoctets, leNat_replicate_zero]
  simp [bits]

/-- The tables whose rows are empty until they are written. -/
def emptyTable (idx : Nat) : Prop := ∀ row, rowImage idx row = 0

theorem layoutImage_zero {fs : List Fld} (h : ∀ f ∈ fs, f.dflt = 0) : layoutImage fs = 0 := by
  induction fs with
  | nil => rfl
  | cons f fs ih =>
    obtain ⟨hf, hrest⟩ := List.forall_mem_cons.mp h
    rw [layoutImage, hf, ih hrest, Nat.zero_mul]

theorem emptyTable_sessions : emptyTable 0xF046 := fun _ => layoutImage_zero (fs := layoutF046) (by decide)
theorem emptyTable_fragments : emptyTable 0xF047 := fun _ => layoutImage_zero (fs := layoutF047) (by decide)
theorem emptyTable_forwarding : emptyTable 0xF052 := fun _ => layoutImage_zero (fs := layoutF052) (by decide)

theorem memDefault_empty (he : emptyTable idx) {o : Nat} (hr : row < 2 ^ 24) (ho : o < 4096) :
    memDefault .live (cellKey idx row o) = 0#8 := by
  rw [memDefault, octetDefault, cellKey_table hr ho, he, Nat.zero_div]
  nofun

/-- Every field of a cleared row of such a table reads 0. -/
theorem fld_clearTable_cleared (he : emptyTable idx) (hr : row < 2 ^ 24) (hf : f.first + f.span ≤ 4096) (hp : p row = true) :
    ((Act.clearTable .live idx p).run s).fld .live idx row f = 0 :=
  fld_of_zeros fun _ _ => (octet_clearTable_cleared s hr (by omega) hp).trans (memDefault_empty he hr (by omega))

/-- Clearing one row writes that row alone. -/
theorem within_clearRow {ks : Nat → Prop} (g : Gen) (idx row : Nat) :
    Within ks (rowCells g idx row) (Act.clearTable g idx fun x => x == row) := by
  intro a
  by_cases ha : a / 2 ^ 36 = idx ∧ a / 2 ^ 12 % 2 ^ 24 = row
  · exact .inl ⟨rfl, by unfold cellKey; omega, by unfold cellKey; omega⟩
  · refine .inr ?_
    simp only [Bool.not_eq_true', Bool.and_eq_false_iff, beq_eq_false_iff_ne]
    exact not_and_or.mp ha

/-! ### Listed rows -/

theorem fldOn_iff {s : State} : s.fldOn g idx row f = true ↔ s.fld g idx row f ≠ 0 := by simp [State.fldOn]
theorem fldOn_false_iff {s : State} : s.fldOn g idx row f = false ↔ s.fld g idx row f = 0 := by simp [State.fldOn]

theorem listedRows_lt {s : State} (h : row ∈ s.listedRows g idx) : row < 2 ^ 24 := by
  obtain ⟨c, -, rfl⟩ := List.mem_map.mp (List.mem_dedup.mp h)
  exact Nat.mod_lt _ (by decide)

/-- The octets of a row that is not listed read as if nothing had written them. -/
theorem octet_unlisted {s : State} {o : Nat} (hr : row < 2 ^ 24) (ho : o < 4096) (h : row ∉ s.listedRows g idx) :
    s.octet g (cellKey idx row o) = memDefault g (cellKey idx row o) := by
  refine Store.get_unlisted _ _ fun c hc heq => h ?_
  refine List.mem_dedup.mpr (List.mem_map.mpr ⟨c, List.mem_filter.mpr ⟨hc, ?_⟩, ?_⟩)
  · rw [heq, cellKey_table hr ho]
    exact beq_self_eq_true idx
  · rw [heq, cellKey_row hr ho]

/-- A row of an empty table with a field that is not 0 is listed. -/
theorem listed_of_fldOn {s : State} (he : emptyTable idx) (hr : row < 2 ^ 24) (hf : f.first + f.span ≤ 4096)
    (h : s.fldOn .live idx row f = true) : row ∈ s.listedRows .live idx := by
  by_contra hno
  exact fldOn_iff.mp h (fld_of_zeros fun _ _ => (octet_unlisted hr (by omega) hno).trans (memDefault_empty he hr (by omega)))

/-! ### Fields that share octets -/

/-- A field leaves alone a field that takes other bits of the same octets. -/
theorem fld_setF_beside (row' : Nat) {f' : Fld} (v : Nat) (hfirst : f'.first = f.first) (hspan : f'.span = f.span)
    (hbits : f'.bit % 8 + f'.width ≤ f.bit % 8 ∨ f.bit % 8 + f.width ≤ f'.bit % 8) (hf : f.first + f.span ≤ 4096) :
    ((Act.setF g idx row f v).run s).fld g idx row' f' = s.fld g idx row' f' := by
  by_cases hrow : row' = row
  · subst hrow
    have hstored := octets_block_self s g (cellKey idx row' f.first)
      (leBytes f.span (setBits (leNat (s.octets g (cellKey idx row' f.first) f.span)) (f.bit % 8) f.width v))
    rw [leBytes_length] at hstored
    have hrun : ((Act.setF g idx row' f v).run s).octets g (cellKey idx row' f.first) f.span
        = leBytes f.span (setBits (leNat (s.octets g (cellKey idx row' f.first) f.span)) (f.bit % 8) f.width v) := hstored
    have hold := leNat_lt (s.octets g (cellKey idx row' f.first) f.span)
    rw [octets_length, show (256 : Nat) = 2 ^ 8 from rfl, ← Nat.pow_mul] at hold
    have hnew := setBits_lt (x := v) hold (show f.bit % 8 + f.width ≤ 8 * f.span by unfold Fld.span; omega)
    rw [fld_eq, fld_eq, hfirst, hspan, hrun, leNat_leBytes, show (256 : Nat) = 2 ^ 8 from rfl, ← Nat.pow_mul, Nat.mod_eq_of_lt hnew]
    rcases hbits with h | h
    · exact bits_setBits_below _ _ _ _ _ _ h
    · exact bits_setBits_above _ _ _ _ _ _ h
  · exact fld_setF_row s g idx row row' f f' v hrow hf (by omega)

end Sys2Proof.Machine
end

section
/-! PROOFS. Sessions, fragments, learnt addresses and recovery histories age out (R148, R153, R180, R247). -/

namespace Sys2Proof.Machine

/-! ### Sessions and fragments -/

theorem run_sessionExpires {s : State} {r : Nat} (hst : s.fld .live 0xF046 r F.sessState ≠ 0)
    (hidle : s.get (Rg.sessionAt r) + s.sessionTimeout (s.fld .live 0xF046 r F.sessState) ≤ s.now) :
    (sessionExpires r).run s = (Act.clearTable .live 0xF046 fun x => x == r).run s := by
  simp [sessionExpires, run_when, hst, hidle]

theorem run_fragmentExpires {s : State} {r : Nat} (hvalid : s.fldOn .live 0xF047 r F.fragValid = true)
    (hend : s.get (Rg.fragmentEnd r) ≤ s.now) :
    (fragmentExpires r).run s = (Act.clearTable .live 0xF047 fun x => x == r).run s := by
  simp [fragmentExpires, run_when, hvalid, hend]

/-- The fields of a session's row lie in its 64 octets. -/
theorem sessionFields_fit {f : Fld} (hf : f ∈ layout 0xF046) : f.first + f.span ≤ 64 :=
  have hfits : ∀ f ∈ layoutF046, f.first + f.span ≤ 64 := by decide
  hfits f hf

/-! ### The ageing sweep -/

section
variable {s : State} {r : Nat}

theorem mem_dynamicRows (hr : r < 2 ^ 24) : r ∈ s.dynamicRows
    ↔ s.fldOn .live 0xF052 r F.fdbValid = true ∧ s.fldOn .live 0xF052 r F.fdbStatic = false := by
  simp only [State.dynamicRows, State.rowsWhere, List.mem_filter, Bool.and_eq_true, Bool.not_eq_true', and_iff_right_iff_imp]
  exact fun h => listed_of_fldOn emptyTable_forwarding hr (by decide) h.1

/-- The dynamic entries that were not hit since the last sweep. -/
def State.oldRows (s : State) : List Nat := s.dynamicRows.filter fun r => !s.fldOn .live 0xF052 r F.fdbHit

theorem mem_oldRows (hr : r < 2 ^ 24) : r ∈ s.oldRows ↔ (s.fldOn .live 0xF052 r F.fdbValid = true
    ∧ s.fldOn .live 0xF052 r F.fdbStatic = false) ∧ s.fldOn .live 0xF052 r F.fdbHit = false := by
  rw [State.oldRows, List.mem_filter, mem_dynamicRows hr, Bool.not_eq_true']

/-- The valid entries. -/
def State.validRows (s : State) : List Nat := s.rowsWhere .live 0xF052 fun r => s.fldOn .live 0xF052 r F.fdbValid

theorem mem_validRows (hr : r < 2 ^ 24) : r ∈ s.validRows ↔ s.fldOn .live 0xF052 r F.fdbValid = true := by
  simp only [State.validRows, State.rowsWhere, List.mem_filter, and_iff_right_iff_imp]
  exact listed_of_fldOn emptyTable_forwarding hr (by decide)

/-- Clears the hits of rows. -/
def clearHits (rows : List Nat) : Act := Act.each rows fun r => Act.setF .live 0xF052 r F.fdbHit 0

theorem fld_clearHits_valid (rows : List Nat) :
    ((clearHits rows).run s).fld .live 0xF052 r F.fdbValid = s.fld .live 0xF052 r F.fdbValid := by
  unfold clearHits
  induction rows generalizing s with
  | nil => rfl
  | cons q rows ih => rw [run_each_cons, ih, fld_setF_beside _ _ _ (by decide) (by decide) (by decide) (by decide)]

/-- A hit that is 0 stays 0. -/
theorem fld_clearHits_zero (rows : List Nat) (h : s.fld .live 0xF052 r F.fdbHit = 0) :
    ((clearHits rows).run s).fld .live 0xF052 r F.fdbHit = 0 := by
  unfold clearHits
  induction rows generalizing s with
  | nil => exact h
  | cons q rows ih =>
    refine ih ?_
    by_cases hq : r = q
    · rw [hq, fld_setF_self, Nat.zero_mod]
    · rw [fld_setF_row _ _ _ _ _ _ _ _ hq (by decide) (by decide), h]

theorem fld_clearHits_mem {rows : List Nat} (h : r ∈ rows) : ((clearHits rows).run s).fld .live 0xF052 r F.fdbHit = 0 := by
  induction rows generalizing s with
  | nil => cases h
  | cons q rows ih =>
    rcases List.mem_cons.mp h with rfl | h
    · exact fld_clearHits_zero rows (by rw [fld_setF_self, Nat.zero_mod])
    · exact ih h

theorem within_clearHits {ks : Nat → Prop} {rows : List Nat} (h : ∀ r ∈ rows, r < 2 ^ 24) :
    Within ks (tableCells .live 0xF052) (clearHits rows) :=
  within_each fun r hr => within_mono (fun _ hk => hk) (fun _ _ => rowCells_table (h r hr)) _ (within_setF_row .live 0xF052 r F.fdbHit 0)

/-- The state of the sweep once the old entries are gone. -/
def State.swept (s : State) : State := (Act.clearTable .live 0xF052 fun r => s.oldRows.contains r).run s

theorem run_age (s : State) : age.run s = (clearHits s.swept.validRows).run s.swept := rfl

theorem swept_old {f : Fld} (hr : r < 2 ^ 24) (hf : f.first + f.span ≤ 4096) (h : r ∈ s.oldRows) : s.swept.fld .live 0xF052 r f = 0 :=
  fld_clearTable_cleared s emptyTable_forwarding hr hf (List.contains_iff_mem.mpr h)

theorem swept_kept {f : Fld} (hr : r < 2 ^ 24) (hf : f.first + f.span ≤ 4096) (h : r ∉ s.oldRows) :
    s.swept.fld .live 0xF052 r f = s.fld .live 0xF052 r f :=
  fld_clearTable_kept s hr hf (by simpa using h)

theorem age_valid (s : State) (r : Nat) : (age.run s).fldOn .live 0xF052 r F.fdbValid = s.swept.fldOn .live 0xF052 r F.fdbValid := by
  rw [run_age, State.fldOn, State.fldOn, fld_clearHits_valid]

/-- The sweep removes an old entry. -/
theorem age_removes (hr : r < 2 ^ 24) (h : r ∈ s.oldRows) : (age.run s).fldOn .live 0xF052 r F.fdbValid = false := by
  rw [age_valid, fldOn_false_iff]
  exact swept_old hr (by decide) h

/-- It leaves every other entry. -/
theorem age_keeps (hr : r < 2 ^ 24) (h : r ∉ s.oldRows) :
    (age.run s).fldOn .live 0xF052 r F.fdbValid = s.fldOn .live 0xF052 r F.fdbValid := by
  rw [age_valid, State.fldOn, State.fldOn, swept_kept hr (by decide) h]

/-- No entry that stays has a hit. -/
theorem age_unhit (hr : r < 2 ^ 24) (h : (age.run s).fldOn .live 0xF052 r F.fdbValid = true) :
    (age.run s).fldOn .live 0xF052 r F.fdbHit = false := by
  rw [age_valid] at h
  rw [run_age, fldOn_false_iff]
  exact fld_clearHits_mem ((mem_validRows hr).mpr h)

theorem age_leavesRest (s : State) : leavesRest s (age.run s) (keysIn []) (tableCells .live 0xF052) :=
  leavesRest_trans (run_leavesRest _ s (within_clearTable fun _ h => h))
    (run_leavesRest (clearHits s.swept.validRows) s.swept (within_clearHits fun _ h => listedRows_lt (List.mem_of_mem_filter h)))

end

/-! ### Recovery functions -/

theorem run_recoveryResets {s : State} {r : Nat} (hvalid : s.fldOn .fair 0xF074 r F.recValid = true) (hon : s.get (Rg.recoveryOn r) ≠ 0)
    (hdue : s.get (Rg.recoveryAt r) + ms (s.fld .fair 0xF074 r F.recTimeout) ≤ s.now) : (recoveryResets r).run s
      = (Act.bumpF .live 0xF078 r F.rstResets).run ((Act.put (Rg.recoveryHistory r) 0).run ((Act.put (Rg.recoveryOn r) 0).run s)) := by
  have htest : (s.fldOn .fair 0xF074 r F.recValid && s.flag (Rg.recoveryOn r)
      && decide (s.get (Rg.recoveryAt r) + ms (s.fld .fair 0xF074 r F.recTimeout) ≤ s.now)) = true := by
    simp only [Bool.and_eq_true, decide_eq_true_eq]
    exact ⟨⟨hvalid, bne_iff_ne.mpr hon⟩, hdue⟩
  rw [recoveryResets, run_dep]
  dsimp only
  rw [htest, run_when_true, run_all_cons, run_all_cons, run_all_cons, run_all_nil]

/-- A counter field after one more event. -/
theorem fld_bumpF_one (s : State) (idx row : Nat) (f : Fld) :
    ((Act.bumpF .live idx row f).run s).fld .live idx row f = min (s.fld .live idx row f + 1) (2 ^ f.width - 1) := by
  rw [Act.bumpF, run_dep, fld_setF_self]
  have hpos := Nat.two_pow_pos f.width
  exact Nat.mod_eq_of_lt (by omega)

theorem recovery_apart (r : Nat) : Rg.recoveryOn r ≠ Rg.recoveryHistory r := by
  unfold Rg.recoveryOn Rg.recoveryHistory Rg.at'
  omega

/-- Settles O25: each event clears the row that it names; the sweep clears the old entries and then the hits of those that stay. -/
theorem rowsAgeOut : Obligations.RowsAgeOut := by
  refine ⟨?_, ?_, ?_, ?_⟩
  · intro s dt r u st hp hst hidle
    refine runs_powered rfl hp ?_
    rw [run_sessionExpires hst hidle]
    exact ⟨fun f hf => fld_clearTable_cleared u emptyTable_sessions (by omega) (by have := sessionFields_fit hf; omega) (beq_self_eq_true _),
      run_leavesRest _ u (within_clearRow _ _ _)⟩
  · intro s dt r u hp hvalid hend
    refine runs_powered rfl hp ?_
    rw [run_fragmentExpires hvalid hend]
    exact ⟨fldOn_false_iff.mpr (fld_clearTable_cleared u emptyTable_fragments (by omega) (by decide) (beq_self_eq_true _)),
      run_leavesRest _ u (within_clearRow _ _ _)⟩
  · intro s dt hp
    refine runs_powered rfl hp ⟨fun r hr hvalid hdynamic hunhit => ?_, fun r hr hstays => ?_, fun r hr => age_unhit (by omega),
      age_leavesRest _⟩
    · refine age_removes (by omega) ((mem_oldRows (by omega)).mpr ?_)
      simp only [after_fldOn]
      exact ⟨⟨hvalid, hdynamic⟩, hunhit⟩
    · rw [age_keeps (by omega), after_fldOn]
      rw [mem_oldRows (by omega)]
      simp only [after_fldOn]
      rintro ⟨⟨-, hdynamic⟩, hunhit⟩
      simp [hdynamic, hunhit] at hstays
  · intro s dt r u hp hvalid hon hdue
    refine runs_powered rfl hp ?_
    rw [run_recoveryResets hvalid hon hdue]
    have hwithin : Within (keysIn [Rg.recoveryOn r.val, Rg.recoveryHistory r.val]) (rowCells .live 0xF078 r.val)
        (.seq (.seq (.put (Rg.recoveryOn r) 0) (.put (Rg.recoveryHistory r) 0)) (Act.bumpF .live 0xF078 r F.rstResets)) :=
      ⟨⟨by simp [keysIn], by simp [keysIn]⟩, within_bumpF_row .live 0xF078 r F.rstResets 1⟩
    have hrest := run_leavesRest _ u hwithin
    rw [run_seq, run_seq] at hrest
    refine ⟨?_, ?_, ?_, hrest⟩
    · rw [get_bumpF, get_put_ne _ _ (recovery_apart _), get_put_self, Nat.zero_mod]
    · rw [get_bumpF, get_put_self, Nat.zero_mod]
    · rw [fld_bumpF_one, fld_put, fld_put]

end Sys2Proof.Machine
end

section
/-! PROOFS. The firewall's switch, and the upkeep that a command starts and that ends later (R150, R162, R198). -/

namespace Sys2Proof.Machine

/-! ### The switch of the firewall -/

theorem objAt_firewallEnable {s : State} {o : Obj} (h : s.objAt 0x4100 1 = some o) :
    isCommand o = false ∧ o.ty = .bool ∧ o.legal = .any := by
  cases h
  exact ⟨rfl, rfl, rfl⟩

/-- A write of 0 or 1 to FirewallEnable is taken as it is, with no clamp. -/
theorem writeScalarAt_firewallEnable {u : State} {path : Path} {x : Nat} (hx : x < 2) (ha : u.admits path 0x4100 1 = true) :
    writeScalarAt u path 0x4100 1 x = ⟨0, Act.all [.skip, enableFirewall x], true⟩ := by
  obtain ⟨o, ho, hw⟩ := writeScalarAt_admits u path 0x4100 1 x ha
  obtain ⟨hcommand, hty, hlegal⟩ := objAt_firewallEnable ho
  have hslot : ofSlot o.ty x = x := by
    rw [hty]
    exact Nat.mod_eq_of_lt hx
  have hvalue : u.legalValue 0x4100 1 o x = x := by
    unfold State.legalValue
    rw [hlegal]
    rfl
  have hwrite : writeValue u path 0x4100 1 x o = ⟨0, enableFirewall x, true⟩ := by
    rw [writeValue, hcommand]
    rfl
  have hclamp : isClamp 0x4100 x x = false := by simp [isClamp]
  rw [hw, hslot, hvalue, hwrite, hclamp]
  rfl

theorem exec_firewallEnable (s : State) (dt : Nat) (path : Path) {v : BitVec 64} (hv : v.toNat < 2)
    (ha : (s.facing dt path).admits path 0x4100 1 = true) :
    exec (.firewallEnable dt path v) s = .next ((Act.answer 0 []).run ((enableFirewall v.toNat).run (s.facing dt path))) :=
  (command_scalarWrite ..).trans
    (congrArg (fun w => Host.Outcome.next (w.act.run (s.facing dt path))) (writeScalarAt_firewallEnable hv ha))

/-- While no session is being freed, 1 enables the firewall and 0 starts the freeing. -/
theorem run_enableFirewall_on {u : State} (hf : u.get Rg.freeing = 0) :
    (enableFirewall 1).run u = (Act.put Key.firewallEnable 1).run u := by
  simp [enableFirewall, flag_eq, hf, run_when]

theorem run_enableFirewall_off {u : State} (hf : u.get Rg.freeing = 0) :
    (enableFirewall 0).run u = (Act.put Rg.freeing 1).run ((Act.put Key.firewallEnable 0).run u) := by
  simp [enableFirewall, flag_eq, hf, run_when, startFreeing]

/-- While sessions are being freed, an enable of the disabled firewall is held. -/
theorem run_enableFirewall_held {u : State} (hf : u.get Rg.freeing ≠ 0) (he : u.get Key.firewallEnable = 0) :
    (enableFirewall 1).run u = (Act.put Key.firewallPendingEnable 1).run u := by
  simp [enableFirewall, flag_eq, hf, he, run_when]

/-- A write of FirewallEnable (R150) while no session is being freed. -/
theorem firewallEnable_switches {s : State} {dt : Nat} {path : Path} (b : Bool) (ha : (s.facing dt path).admits path 0x4100 1 = true)
    (hf : (s.facing dt path).get Rg.freeing = 0) : Runs (.firewallEnable dt path (if b then 1 else 0)) s fun t => t.status = 0
      ∧ t.get Key.firewallEnable = (if b then 1 else 0) ∧ t.get Rg.freeing = (if b then 0 else 1)
      ∧ leavesRest (s.facing dt path) t (keysIn [Key.firewallEnable, Rg.freeing]) noCells := by
  cases b
  · have hrun := exec_firewallEnable s dt path (v := 0) (by decide) ha
    rw [show (0 : BitVec 64).toNat = 0 from rfl, run_enableFirewall_off hf] at hrun
    refine ⟨_, hrun, rfl, ?_, ?_, leavesRest_trans (run_leavesRest (.seq (.put Key.firewallEnable 0) (.put Rg.freeing 1)) _
      ⟨by simp [keysIn], by simp [keysIn]⟩) (leavesRest_answered _ _ _)⟩
    · rw [get_answer, get_put_ne _ _ (by decide), get_put_self]
      rfl
    · rw [get_answer, get_put_self, regMod_internal (by decide)]
      rfl
  · have hrun := exec_firewallEnable s dt path (v := 1) (by decide) ha
    rw [show (1 : BitVec 64).toNat = 1 from rfl, run_enableFirewall_on hf] at hrun
    refine ⟨_, hrun, rfl, ?_, ?_, leavesRest_trans (run_leavesRest (.put Key.firewallEnable 1) _ (by simp [keysIn]))
      (leavesRest_answered _ _ _)⟩
    · rw [get_answer, get_put_self, regMod_firewallEnable]
      rfl
    · rw [get_answer, get_put_ne _ _ (by decide), hf]
      rfl

/-- An enable of the disabled firewall (R150) while sessions are being freed. -/
theorem firewallEnable_isHeld {s : State} {dt : Nat} {path : Path} (ha : (s.facing dt path).admits path 0x4100 1 = true)
    (hf : (s.facing dt path).get Rg.freeing ≠ 0) (he : (s.facing dt path).get Key.firewallEnable = 0) :
    Runs (.firewallEnable dt path 1) s fun t => t.status = 0 ∧ t.get Key.firewallEnable = 0 ∧ t.get Key.firewallPendingEnable = 1
      ∧ leavesRest (s.facing dt path) t (keysIn [Key.firewallPendingEnable]) noCells := by
  have hrun := exec_firewallEnable s dt path (v := 1) (by decide) ha
  rw [show (1 : BitVec 64).toNat = 1 from rfl, run_enableFirewall_held hf he] at hrun
  refine ⟨_, hrun, rfl, ?_, ?_, leavesRest_trans (run_leavesRest (.put Key.firewallPendingEnable 1) _ (by simp [keysIn]))
    (leavesRest_answered _ _ _)⟩
  · rw [get_answer, get_put_ne _ _ (by decide), he]
  · rw [get_answer, get_put_self, regMod_firewallPendingEnable]

/-! ### Commands that start an upkeep -/

/-- What such a command leaves: it answers that it still runs, and its flag is up. -/
theorem upkeep_starts (u : State) {idx sub flag : Nat} (clamps : Bool) (hi : idx < 2 ^ 16) (hs : sub < 2 ^ 8)
    (hk : regMod (idx * 256 + sub) = 256) (hf : 2 ^ 24 ≤ flag) :
    let t := (Wrote.act ⟨3, commandAct (.runs (.put flag 1)) idx sub clamps, true⟩).run u
    t.status = 3 ∧ t.get (idx * 256 + sub) = 3 ∧ t.get flag = 1 ∧ leavesRest u t (keysIn [idx * 256 + sub, flag]) clampCells := by
  intro t
  have hrun : t = (Act.answer 3 []).run ((Act.put flag 1).run ((Act.put (idx * 256 + sub) 3).run
    ((Act.when clamps (countClamp idx sub)).run u))) := run_executed ..
  have hwithin : Within (keysIn [idx * 256 + sub, flag]) clampCells
      (.seq (.seq (.seq (Act.when clamps (countClamp idx sub)) (.put (idx * 256 + sub) 3)) (.put flag 1)) (.answer 3 [])) :=
    ⟨⟨⟨within_when fun _ => within_countClamp_cells hi hs, by simp [keysIn]⟩, by simp [keysIn]⟩, trivial⟩
  have hrest := run_leavesRest _ u hwithin
  rw [run_seq, run_seq, run_seq, ← hrun] at hrest
  refine ⟨by rw [hrun]; rfl, ?_, ?_, hrest⟩
  · rw [hrun, get_answer, get_put_ne _ _ (by omega), get_put_self, hk]
  · rw [hrun, get_answer, get_put_self, regMod_internal hf, Nat.mod_zero]

theorem isCommand_sessionFlush {s : State} {o : Obj} (h : s.objAt 0x4100 8 = some o) : isCommand o = true := by
  cases h
  rfl

theorem isCommand_fdbFlushDynamic {s : State} {o : Obj} (h : s.objAt 0x3000 18 = some o) : isCommand o = true := by
  cases h
  rfl

/-- SessionFlush starts the freeing (R162). -/
theorem sessionFlush_starts {s : State} {dt : Nat} {path : Path} (v : BitVec 64) (ha : (s.facing dt path).admits path 0x4100 8 = true) :
    Runs (.sessionFlush dt path v) s fun t => t.status = 3 ∧ t.get Key.sessionFlush = 3 ∧ t.get Rg.freeing = 1
      ∧ leavesRest (s.facing dt path) t (keysIn [Key.sessionFlush, Rg.freeing]) clampCells := by
  obtain ⟨x, clamps, hw⟩ := writeScalarAt_command v.toNat ha (fun _ => isCommand_sessionFlush) rfl
  exact ⟨_, (command_scalarWrite ..).trans (congrArg (fun w => Host.Outcome.next (w.act.run (s.facing dt path))) hw),
    upkeep_starts (s.facing dt path) clamps (by decide) (by decide) regMod_sessionFlush (by decide)⟩

/-- FdbFlushDynamic starts the flush (R198). -/
theorem fdbFlushDynamic_starts {s : State} {dt : Nat} {path : Path} (v : BitVec 64)
    (ha : (s.facing dt path).admits path 0x3000 18 = true) :
    Runs (.fdbFlushDynamic dt path v) s fun t => t.status = 3 ∧ t.get Key.fdbFlushDynamic = 3 ∧ t.get Rg.fdbFlushing = 1
      ∧ leavesRest (s.facing dt path) t (keysIn [Key.fdbFlushDynamic, Rg.fdbFlushing]) clampCells := by
  obtain ⟨x, clamps, hw⟩ := writeScalarAt_command v.toNat ha (fun _ => isCommand_fdbFlushDynamic) rfl
  exact ⟨_, (command_scalarWrite ..).trans (congrArg (fun w => Host.Outcome.next (w.act.run (s.facing dt path))) hw),
    upkeep_starts (s.facing dt path) clamps (by decide) (by decide) regMod_fdbFlushDynamic (by decide)⟩

/-! ### The end of the freeing -/

theorem get_whenPut_ne (s : State) (c : Bool) {j k : Nat} (v : Nat) (h : j ≠ k) : ((Act.when c (.put k v)).run s).get j = s.get j := by
  rw [run_when]
  split
  · exact get_put_ne s v h
  · rfl

@[simp] theorem fld_whenPut (s : State) (c : Bool) (k v : Nat) (g : Gen) (idx row : Nat) (f : Fld) :
    ((Act.when c (.put k v)).run s).fld g idx row f = s.fld g idx row f := by
  rw [run_when]
  split
  · exact fld_put ..
  · rfl

/-- What the end of a freeing does. -/
def freedAct (s : State) : Act :=
  Act.all [Act.clearTable .live 0xF046, .put Rg.freeing 0, Act.when (s.get Key.sessionFlush == 3) (.put Key.sessionFlush 0),
    Act.when (s.flag Key.firewallPendingEnable) (.put Key.firewallEnable 1), .put Key.firewallPendingEnable 0]

theorem run_freeingEnds {s : State} (h : s.get Rg.freeing ≠ 0) : freeingEnds.run s = (freedAct s).run s := by
  have hflag : s.flag Rg.freeing = true := bne_iff_ne.mpr h
  rw [freeingEnds, run_dep, hflag]
  rfl

theorem freedAct_leavesRest (s : State) : leavesRest s ((freedAct s).run s)
    (keysIn [Rg.freeing, Key.sessionFlush, Key.firewallEnable, Key.firewallPendingEnable]) (tableCells .live 0xF046) :=
  run_leavesRest _ s ⟨within_clearTable fun _ h => h, by simp [keysIn], within_when fun _ => by simp [keysIn],
    within_when fun _ => by simp [keysIn], by simp [keysIn], trivial⟩

/-- No session is left. -/
theorem fld_freedAct {s : State} {r : Nat} (hr : r < 2 ^ 24) {f : Fld} (hf : f ∈ layout 0xF046) :
    ((freedAct s).run s).fld .live 0xF046 r f = 0 := by
  simp only [freedAct, run_all_cons, run_all_nil, fld_put, fld_whenPut]
  exact fld_clearTable_cleared s emptyTable_sessions hr (by have := sessionFields_fit hf; omega) rfl

theorem freeing_freedAct (s : State) : ((freedAct s).run s).get Rg.freeing = 0 := by
  simp only [freedAct, run_all_cons, run_all_nil]
  rw [get_put_ne _ _ (by decide), get_whenPut_ne _ _ _ (by decide), get_whenPut_ne _ _ _ (by decide), get_put_self, Nat.zero_mod]

theorem sessionFlush_freedAct {s : State} (h : s.get Key.sessionFlush = 3) : ((freedAct s).run s).get Key.sessionFlush = 0 := by
  simp only [freedAct, run_all_cons, run_all_nil, h]
  rw [get_put_ne _ _ (by decide), get_whenPut_ne _ _ _ (by decide), beq_self_eq_true, run_when_true, get_put_self, Nat.zero_mod]

/-- A held enable takes effect. -/
theorem firewallEnable_freedAct (s : State) : ((freedAct s).run s).get Key.firewallEnable
    = if s.get Key.firewallPendingEnable = 0 then s.get Key.firewallEnable else 1 := by
  simp only [freedAct, run_all_cons, run_all_nil]
  rw [get_put_ne _ _ (by decide)]
  by_cases h : s.get Key.firewallPendingEnable = 0
  · rw [if_pos h, flag_eq, h, bne_self_eq_false, run_when_false, get_whenPut_ne _ _ _ (by decide), get_put_ne _ _ (by decide),
      get_clearTable]
  · rw [if_neg h, flag_eq, bne_iff_ne.mpr h, run_when_true, get_put_self, regMod_firewallEnable]

theorem firewallPendingEnable_freedAct (s : State) : ((freedAct s).run s).get Key.firewallPendingEnable = 0 := by
  simp only [freedAct, run_all_cons, run_all_nil]
  rw [get_put_self, Nat.zero_mod]

theorem sessionFreeingEnd_frees {s : State} (dt : Nat) (hp : s.operates = true) (hf : s.get Rg.freeing ≠ 0) :
    Runs (.sessionFreeingEnd dt) s fun t => (∀ r f, r < 16384 → f ∈ layout 0xF046 → t.fld .live 0xF046 r f = 0)
      ∧ t.get Rg.freeing = 0 ∧ (s.get Key.sessionFlush = 3 → t.get Key.sessionFlush = 0)
      ∧ t.get Key.firewallEnable = (if s.get Key.firewallPendingEnable = 0 then s.get Key.firewallEnable else 1)
      ∧ t.get Key.firewallPendingEnable = 0
      ∧ leavesRest (s.after dt) t (keysIn [Rg.freeing, Key.sessionFlush, Key.firewallEnable, Key.firewallPendingEnable])
          (tableCells .live 0xF046) := by
  refine runs_powered rfl hp ?_
  have henable := firewallEnable_freedAct (s.after dt)
  rw [after_object s dt (by decide), after_object s dt (by decide)] at henable
  rw [run_freeingEnds (by rw [after_get s dt (by decide) (by decide)]; exact hf)]
  exact ⟨fun r f hr hmem => fld_freedAct (by omega) hmem, freeing_freedAct _,
    fun h => sessionFlush_freedAct ((after_object s dt (by decide)).trans h), henable, firewallPendingEnable_freedAct _, freedAct_leavesRest _⟩

/-! ### The end of the dynamic flush -/

/-- What the end of a dynamic flush does. -/
def flushedAct (s : State) : Act :=
  Act.all [Act.clearTable .live 0xF052 fun r => s.dynamicRows.contains r, .put Rg.fdbFlushing 0, .put Key.fdbFlushDynamic 0]

theorem run_fdbFlushEnds {s : State} (h : s.get Rg.fdbFlushing ≠ 0) : fdbFlushEnds.run s = (flushedAct s).run s := by
  have hflag : s.flag Rg.fdbFlushing = true := bne_iff_ne.mpr h
  rw [fdbFlushEnds, run_dep, hflag]
  rfl

theorem flushedAct_leavesRest (s : State) : leavesRest s ((flushedAct s).run s) (keysIn [Key.fdbFlushDynamic, Rg.fdbFlushing])
    (tableCells .live 0xF052) :=
  run_leavesRest _ s ⟨within_clearTable fun _ h => h, by simp [keysIn], by simp [keysIn], trivial⟩

section
variable {s : State} {r : Nat} {f : Fld}

theorem fld_flushedAct_dynamic (hr : r < 2 ^ 24) (hf : f.first + f.span ≤ 4096) (h : r ∈ s.dynamicRows) :
    ((flushedAct s).run s).fld .live 0xF052 r f = 0 := by
  simp only [flushedAct, run_all_cons, run_all_nil, fld_put]
  exact fld_clearTable_cleared s emptyTable_forwarding hr hf (List.contains_iff_mem.mpr h)

theorem fld_flushedAct_kept (hr : r < 2 ^ 24) (hf : f.first + f.span ≤ 4096) (h : r ∉ s.dynamicRows) :
    ((flushedAct s).run s).fld .live 0xF052 r f = s.fld .live 0xF052 r f := by
  simp only [flushedAct, run_all_cons, run_all_nil, fld_put]
  exact fld_clearTable_kept s hr hf (by simpa using h)

/-- No dynamic entry is left. -/
theorem dynamicRows_flushedAct (s : State) : ((flushedAct s).run s).dynamicRows = [] := by
  refine List.eq_nil_iff_forall_not_mem.mpr fun r hr => ?_
  have hlt : r < 2 ^ 24 := listedRows_lt (List.mem_of_mem_filter hr)
  obtain ⟨hvalid, hstatic⟩ := (mem_dynamicRows hlt).mp hr
  by_cases hmem : r ∈ s.dynamicRows
  · exact fldOn_iff.mp hvalid (fld_flushedAct_dynamic hlt (by decide) hmem)
  · rw [State.fldOn, fld_flushedAct_kept hlt (by decide) hmem] at hvalid hstatic
    exact hmem ((mem_dynamicRows hlt).mpr ⟨hvalid, hstatic⟩)

theorem fdbFields_fit (hf : f ∈ layout 0xF052) : f.first + f.span ≤ 16 :=
  have hfits : ∀ f ∈ layoutF052, f.first + f.span ≤ 16 := by decide
  hfits f hf

/-- At its end no dynamic entry is left, and every static entry stands (R198). -/
theorem fdbFlushEnd_frees (dt : Nat) (hp : s.operates = true) (hf : s.get Rg.fdbFlushing ≠ 0) :
    Runs (.fdbFlushEnd dt) s fun t => t.dynamicRows = [] ∧ t.get Rg.fdbFlushing = 0 ∧ t.get Key.fdbFlushDynamic = 0
      ∧ (∀ r < 32768, s.fldOn .live 0xF052 r F.fdbStatic = true → ∀ f ∈ layout 0xF052, t.fld .live 0xF052 r f = s.fld .live 0xF052 r f)
      ∧ leavesRest (s.after dt) t (keysIn [Key.fdbFlushDynamic, Rg.fdbFlushing]) (tableCells .live 0xF052) := by
  refine runs_powered rfl hp ?_
  rw [run_fdbFlushEnds (by rw [after_get s dt (by decide) (by decide)]; exact hf)]
  refine ⟨dynamicRows_flushedAct _, ?_, ?_, fun r hr hstatic f hmem => ?_, flushedAct_leavesRest _⟩
  · simp only [flushedAct, run_all_cons, run_all_nil]
    rw [get_put_ne _ _ (by decide), get_put_self, Nat.zero_mod]
  · simp only [flushedAct, run_all_cons, run_all_nil]
    rw [get_put_self, Nat.zero_mod]
  · have hkept : r ∉ (s.after dt).dynamicRows := by
      rw [mem_dynamicRows (by omega), after_fldOn, after_fldOn, hstatic]
      exact fun h => Bool.noConfusion h.2
    rw [fld_flushedAct_kept (by omega) (by have := fdbFields_fit hmem; omega) hkept, after_fld]

end

end Sys2Proof.Machine
end

section
/-! PROOFS. The write of octets to a row of an unstaged table, and to a session (R36, R39, R149). -/

namespace Sys2Proof.Machine

/-! ### Merged rows of unstaged tables -/

section
variable {u : State} {path : Path} {tab : Tab} {idx row off : Nat} {data : List Byte} {fs : List Fld} {f : Fld}

/-- What a writable field reads as once a write has been merged into its row. -/
def liveValue (u : State) (tab : Tab) (idx row off : Nat) (data : List Byte) (f : Fld) : Nat :=
  if f.touched off data.length = true
  then clampTo f.legal f.width f.dflt (bits (leNat (overlay (u.rowOctets .live idx row 0 tab.stride) off data)) f.bit f.width) % 2 ^ f.width
  else u.fld .live idx row f

theorem liveValue_untouched (h : f.touched off data.length = false) : liveValue u tab idx row off data f = u.fld .live idx row f := by
  rw [liveValue, h, if_neg Bool.false_ne_true]

theorem liveValue_lt : liveValue u tab idx row off data f < 2 ^ f.width := by
  unfold liveValue
  split
  · exact Nat.mod_lt _ (Nat.two_pow_pos _)
  · exact Nat.mod_lt _ (Nat.two_pow_pos _)

/-- The write of some fields merged into the row, before any rule beside the layout. -/
def liveMerge (u : State) (tab : Tab) (idx row off : Nat) (data : List Byte) (fs : List Fld) : Nat × Bool :=
  mergeFields fs (leNat (u.rowOctets .live idx row 0 tab.stride)) (leNat (overlay (u.rowOctets .live idx row 0 tab.stride) off data)) off
    data.length

theorem imageField_liveMerge (hp : fs.Pairwise fun f f' => f.apart f' = true) (hf : f ∈ fs) (hro : f.ro = false)
    (hfit : f.bit + f.width ≤ 8 * tab.stride) :
    imageField (liveMerge u tab idx row off data fs).1 f = liveValue u tab idx row off data f := by
  unfold liveValue
  split
  next h => exact bits_foldl_written hf hp hro h _ _
  next h =>
    rw [fld_eq_bits u .live idx row tab.stride f hfit]
    exact bits_foldl_untouched hp hf (fun h' => h h'.2) _ _

/-- A field of none of the merged fields' bits stays. -/
theorem imageField_liveMerge_apart (h : ∀ f' ∈ fs, f.apart f' = true) (hfit : f.bit + f.width ≤ 8 * tab.stride) :
    imageField (liveMerge u tab idx row off data fs).1 f = u.fld .live idx row f := by
  rw [fld_eq_bits u .live idx row tab.stride f hfit]
  exact bits_foldl_apart h _ _ _ _

/-- So does an RO field. -/
theorem imageField_liveMerge_ro (hp : fs.Pairwise fun f f' => f.apart f' = true) (hf : f ∈ fs) (hro : f.ro = true)
    (hfit : f.bit + f.width ≤ 8 * tab.stride) : imageField (liveMerge u tab idx row off data fs).1 f = u.fld .live idx row f := by
  rw [fld_eq_bits u .live idx row tab.stride f hfit]
  exact bits_foldl_untouched hp hf (fun h' => by simp [hro] at h') _ _

/-! ### Storing a merged row -/

/-- Stores a row image that was merged from the row of `u`, and counts its clamp. -/
def storeLive (u : State) (tab : Tab) (idx row : Nat) (img : Nat × Bool) : Act :=
  Act.all [Act.setImage .live idx row tab.stride (leNat (u.rowOctets .live idx row 0 tab.stride)) img.1, countRow idx img.2]

theorem storeLive_leavesRest (hs : tab.stride ≤ 4096) (hi : idx < 2 ^ 16) (img : Nat × Bool) :
    leavesRest u ((storeLive u tab idx row img).run u) (keysIn []) (bothCells (rowCells .live idx row) clampCells) :=
  run_leavesRest _ u ⟨within_mono (fun _ h => h) (fun _ _ => .inl) _ (within_setImage (ks := keysIn []) hs),
    within_mono (fun _ h => h) (fun _ _ => .inr) _ (within_countRow (ks := keysIn []) hi _), trivial⟩

/-- Without a clamp it stores in the row alone. -/
theorem storeLive_unclamped (hs : tab.stride ≤ 4096) (v : Nat) :
    leavesRest u ((storeLive u tab idx row (v, false)).run u) (keysIn []) (rowCells .live idx row) :=
  run_leavesRest _ u ⟨within_setImage (ks := keysIn []) hs, trivial, trivial⟩

/-- A clamp counter is no octet of another table. -/
theorem octet_countRow (s : State) (hi : idx < 2 ^ 16) (c : Bool) {a : Nat} (ha : a / 2 ^ 36 ≠ 0xF000) :
    ((countRow idx c).run s).octet .live a = s.octet .live a :=
  (run_leavesRest _ s (within_countRow (ks := keysIn []) hi c)).2.1 .live a fun h => ha h.2

theorem rowOctets_storeLive (hr : row < 2 ^ 24) (hs : tab.stride ≤ 4096) (hi : idx < 2 ^ 16) (hn : idx ≠ 0xF000) (img : Nat × Bool) :
    ((storeLive u tab idx row img).run u).rowOctets .live idx row 0 tab.stride = leBytes tab.stride img.1 := by
  rw [← rowOctets_setImage u .live idx row tab.stride img.1]
  refine List.map_congr_left fun i hmem => octet_countRow _ hi _ ?_
  have hlt := List.mem_range.mp hmem
  rw [cellKey_add, cellKey_table hr (by omega)]
  exact hn

theorem fld_storeLive (hr : row < 2 ^ 24) (hs : tab.stride ≤ 4096) (hi : idx < 2 ^ 16) (hn : idx ≠ 0xF000)
    (hfit : f.bit + f.width ≤ 8 * tab.stride) (img : Nat × Bool) :
    ((storeLive u tab idx row img).run u).fld .live idx row f = imageField img.1 f := by
  rw [imageField, ← fld_setImage u .live idx row tab.stride img.1 f hfit]
  refine fld_congr fun i hlt => octet_countRow _ hi _ ?_
  have hoctets := Fld.octets_fit hfit
  rw [cellKey_table hr (by omega)]
  exact hn

/-! ### The write of an unstaged row -/

theorem writeRowAt_unstaged (h : u.serves path = true) (ht : tableOf idx = some tab) (hst : tab.staged = false)
    (hin : tab.holds row off data.length) (hw : u.mayWriteRow path tab row false = true)
    (hb : u.rowBusy path tab row off data.length = false) : writeRowAt u path idx row false off data
      = ⟨(writeUnstaged u path tab row off data).1, (writeUnstaged u path tab row off data).2,
        (writeUnstaged u path tab row off data).1 == 0⟩ := by
  simp only [writeRowAt, h, ht, Tab.inside_iff.mpr hin, hw, hb, hst, Bool.not_true, Bool.false_eq_true, if_false]

end

/-! ### What a written session counts from now -/

section
variable {v : State} {row was : Nat}

/-- Whether a written row comes into use. -/
def sessionBegins (was st : Nat) : Bool := was == 0 && st != 0

/-- Whether its idle time begins with the write: it comes into use, or enters Closing. -/
def sessionRestarts (was st : Nat) : Bool := sessionBegins was st || (was != 3 && st == 3)

theorem sessionBegins_iff {was st : Nat} : sessionBegins was st = true ↔ was = 0 ∧ st ≠ 0 := by simp [sessionBegins]

theorem sessionRestarts_iff {was st : Nat} : sessionRestarts was st = true ↔ (was = 0 ∧ st ≠ 0) ∨ (was ≠ 3 ∧ st = 3) := by
  simp [sessionRestarts, sessionBegins]

/-- A row that stays as it was neither comes into use nor restarts. -/
theorem sessionRestarts_same (st : Nat) : sessionRestarts st st = false := by
  rw [Bool.eq_false_iff, ne_eq, sessionRestarts_iff]
  omega

/-- The frames of a session that comes into use are counted from 0. -/
def clearFrames (row : Nat) : Act := .seq (Act.setF .live 0xF046 row F.sessFramesInit 0) (Act.setF .live 0xF046 row F.sessFramesResp 0)
/-- The idle time begins now. -/
def restartIdle (row : Nat) (s : State) : Act := .seq (Act.setF .live 0xF046 row F.sessTime s.vns) (.put (Rg.sessionAt row) s.now)

theorem run_sessionWritten (v : State) (row was : Nat) : (sessionWritten row was).run v
    = (Act.when (sessionRestarts was (v.fld .live 0xF046 row F.sessState)) (restartIdle row v)).run
        ((Act.when (sessionBegins was (v.fld .live 0xF046 row F.sessState)) (clearFrames row)).run v) := rfl

theorem fld_whenClearFrames (c : Bool) {f : Fld} (hf : f.first + f.span ≤ 56) :
    ((Act.when c (clearFrames row)).run v).fld .live 0xF046 row f = v.fld .live 0xF046 row f := by
  cases c
  · rfl
  · rw [run_when_true, clearFrames, run_seq, fld_setF_apart _ _ _ _ _ _ _ (.inl (le_trans hf (by decide))),
      fld_setF_apart _ _ _ _ _ _ _ (.inl (le_trans hf (by decide)))]

theorem fld_whenRestartIdle (s : State) (c : Bool) {f : Fld} (hf : f.first + f.span ≤ 48 ∨ 56 ≤ f.first) :
    ((Act.when c (restartIdle row s)).run v).fld .live 0xF046 row f = v.fld .live 0xF046 row f := by
  cases c
  · rfl
  · rw [run_when_true, restartIdle, run_seq, fld_put, fld_setF_apart _ _ _ _ _ _ _ hf]

/-- The octets before octet 48 of the row stay. -/
theorem fld_sessionWritten {f : Fld} (hf : f.first + f.span ≤ 48) :
    ((sessionWritten row was).run v).fld .live 0xF046 row f = v.fld .live 0xF046 row f := by
  rw [run_sessionWritten, fld_whenRestartIdle _ _ (.inl hf), fld_whenClearFrames _ (by omega)]

theorem frames_sessionWritten_begins (h : sessionBegins was (v.fld .live 0xF046 row F.sessState) = true) :
    ((sessionWritten row was).run v).fld .live 0xF046 row F.sessFramesInit = 0
      ∧ ((sessionWritten row was).run v).fld .live 0xF046 row F.sessFramesResp = 0 := by
  rw [run_sessionWritten, h, fld_whenRestartIdle _ _ (.inr (by decide)), fld_whenRestartIdle _ _ (.inr (by decide)), run_when_true,
    clearFrames, run_seq]
  constructor
  · rw [fld_setF_apart _ _ _ _ _ _ _ (by decide), fld_setF_self, Nat.zero_mod]
  · rw [fld_setF_self, Nat.zero_mod]

theorem frames_sessionWritten_goesOn (h : sessionBegins was (v.fld .live 0xF046 row F.sessState) = false) :
    ((sessionWritten row was).run v).fld .live 0xF046 row F.sessFramesInit = v.fld .live 0xF046 row F.sessFramesInit
      ∧ ((sessionWritten row was).run v).fld .live 0xF046 row F.sessFramesResp = v.fld .live 0xF046 row F.sessFramesResp := by
  rw [run_sessionWritten, h, fld_whenRestartIdle _ _ (.inr (by decide)), fld_whenRestartIdle _ _ (.inr (by decide)), run_when_false]
  exact ⟨rfl, rfl⟩

theorem idle_sessionWritten_restarts (h : sessionRestarts was (v.fld .live 0xF046 row F.sessState) = true) :
    ((sessionWritten row was).run v).get (Rg.sessionAt row) = v.now
      ∧ ((sessionWritten row was).run v).fld .live 0xF046 row F.sessTime = v.vtime / 65536 % 2 ^ 64 := by
  rw [run_sessionWritten, h, run_when_true, restartIdle, run_seq]
  constructor
  · rw [get_put_self, regMod_internal (by unfold Rg.sessionAt Rg.at'; omega), Nat.mod_zero]
  · rw [fld_put, fld_setF_self]
    rfl

theorem idle_sessionWritten_goesOn (h : sessionRestarts was (v.fld .live 0xF046 row F.sessState) = false) :
    ((sessionWritten row was).run v).get (Rg.sessionAt row) = v.get (Rg.sessionAt row)
      ∧ ((sessionWritten row was).run v).fld .live 0xF046 row F.sessTime = v.fld .live 0xF046 row F.sessTime := by
  rw [run_sessionWritten, h, run_when_false, fld_whenClearFrames _ (by decide), run_when]
  refine ⟨?_, rfl⟩
  split
  · rw [clearFrames, run_seq, get_setF, get_setF]
  · rfl

theorem within_sessionWritten (row was : Nat) :
    Within (keysIn [Rg.sessionAt row]) (rowCells .live 0xF046 row) (sessionWritten row was) := fun _ =>
  ⟨within_when fun _ => ⟨within_setF_row _ _ _ F.sessFramesInit _, within_setF_row _ _ _ F.sessFramesResp _⟩,
    within_when fun _ => ⟨within_setF_row _ _ _ F.sessTime _, List.mem_singleton.mpr rfl⟩, trivial⟩

end

/-! ### The write of a session -/

/-- The table of the sessions. -/
def sessionTab : Tab := ⟨0xF046, 16384, 64, .rw, .application, false, "FirewallSessions"⟩

section
variable {u : State} {path : Path} {row off : Nat} {data : List Byte}

/-- A field of a session that a partition writes lies before octet 48, and its bits lie in the row. -/
theorem writableSessionField_fits {f : Fld} (hf : f ∈ layout 0xF046) (hro : f.ro = false) : f.first + f.span ≤ 48 :=
  have hfits : ∀ f ∈ layoutF046, f.ro = false → f.first + f.span ≤ 48 := by decide
  hfits f hf hro

theorem sessionLayout_apart : (layout 0xF046).Pairwise (fun f f' => f.apart f' = true)
    ∧ ∀ f ∈ layout 0xF046, f.bit + f.width ≤ 8 * sessionTab.stride := by decide

/-- Whether a write touches a field that it may change. -/
def touchesSession (off n : Nat) : Bool := (layout 0xF046).any fun f => !f.ro && f.touched off n

/-- The state once the written fields are stored, before the idle time follows. -/
def sessionStored (u : State) (row off : Nat) (data : List Byte) : State :=
  (storeLive u sessionTab 0xF046 row (liveMerge u sessionTab 0xF046 row off data (layout 0xF046))).run u

theorem writeUnstaged_session (u : State) (path : Path) (row off : Nat) (data : List Byte) :
    writeUnstaged u path sessionTab row off data = (0, Act.when (touchesSession off data.length)
      (.seq (storeLive u sessionTab 0xF046 row (liveMerge u sessionTab 0xF046 row off data (layout 0xF046)))
        (sessionWritten row (u.fld .live 0xF046 row F.sessState)))) := rfl

/-- What a write leaves of a session: `w` is the state after it, with `st` the written State and `old` the one before. -/
structure SessionTaken (u w : State) (row off : Nat) (data : List Byte) (old st : Nat) : Prop where
  fields : ∀ f ∈ layout 0xF046, f.ro = false → w.fld .live 0xF046 row f = liveValue u sessionTab 0xF046 row off data f
  begins : sessionBegins old st = true → w.fld .live 0xF046 row F.sessFramesInit = 0 ∧ w.fld .live 0xF046 row F.sessFramesResp = 0
  goesOn : sessionBegins old st = false → w.fld .live 0xF046 row F.sessFramesInit = u.fld .live 0xF046 row F.sessFramesInit
    ∧ w.fld .live 0xF046 row F.sessFramesResp = u.fld .live 0xF046 row F.sessFramesResp
  restarts : sessionRestarts old st = true → w.get (Rg.sessionAt row) = u.now
    ∧ w.fld .live 0xF046 row F.sessTime = u.vtime / 65536 % 2 ^ 64
  idles : sessionRestarts old st = false → w.get (Rg.sessionAt row) = u.get (Rg.sessionAt row)
    ∧ w.fld .live 0xF046 row F.sessTime = u.fld .live 0xF046 row F.sessTime
  rest : leavesRest u w (keysIn [Rg.sessionAt row]) (bothCells (rowCells .live 0xF046 row) clampCells)

theorem sessionStored_leavesRest : leavesRest u (sessionStored u row off data) (keysIn []) (bothCells (rowCells .live 0xF046 row) clampCells) :=
  storeLive_leavesRest (by decide) (by decide) _

theorem fld_sessionStored (hr : row < 2 ^ 24) {f : Fld} (hf : f ∈ layout 0xF046) (hro : f.ro = false) :
    (sessionStored u row off data).fld .live 0xF046 row f = liveValue u sessionTab 0xF046 row off data f := by
  obtain ⟨hapart, hfit⟩ := sessionLayout_apart
  rw [sessionStored, fld_storeLive hr (by decide) (by decide) (by decide) (hfit f hf), imageField_liveMerge hapart hf hro (hfit f hf)]

theorem fld_sessionStored_ro (hr : row < 2 ^ 24) {f : Fld} (hf : f ∈ layout 0xF046) (hro : f.ro = true) :
    (sessionStored u row off data).fld .live 0xF046 row f = u.fld .live 0xF046 row f := by
  obtain ⟨hapart, hfit⟩ := sessionLayout_apart
  rw [sessionStored, fld_storeLive hr (by decide) (by decide) (by decide) (hfit f hf), imageField_liveMerge_ro hapart hf hro (hfit f hf)]

/-- A write that touches a writable field stores it, and then the frames and the idle time follow. -/
theorem sessionTaken_touched (hr : row < 2 ^ 24) :
    SessionTaken u ((sessionWritten row (u.fld .live 0xF046 row F.sessState)).run (sessionStored u row off data)) row off data
      (u.fld .live 0xF046 row F.sessState) (liveValue u sessionTab 0xF046 row off data F.sessState) := by
  have hstate := fld_sessionStored (u := u) (off := off) (data := data) hr (f := F.sessState) (by decide) rfl
  have hro : ∀ f ∈ layout 0xF046, f.ro = true → (sessionStored u row off data).fld .live 0xF046 row f = u.fld .live 0xF046 row f :=
    fun f => fld_sessionStored_ro hr
  obtain ⟨hregs, -, -, -, hnow, hvtime, -⟩ := sessionStored_leavesRest (u := u) (row := row) (off := off) (data := data)
  rw [← hstate]
  refine ⟨fun f hf hw => ?_, frames_sessionWritten_begins, fun h => ?_, fun h => ?_, fun h => ?_, ?_⟩
  · rw [fld_sessionWritten (writableSessionField_fits hf hw), fld_sessionStored hr hf hw]
  · rw [← hro F.sessFramesInit (by decide) rfl, ← hro F.sessFramesResp (by decide) rfl]
    exact frames_sessionWritten_goesOn h
  · rw [← hnow, ← hvtime]
    exact idle_sessionWritten_restarts h
  · rw [← hro F.sessTime (by decide) rfl, ← hregs _ (by simp [keysIn])]
    exact idle_sessionWritten_goesOn h
  · exact leavesRest_trans (leavesRest_mono (by simp [keysIn]) (fun _ _ h => h) sessionStored_leavesRest)
      (leavesRest_mono (fun _ h => h) (fun _ _ => .inl) (run_leavesRest _ _ (within_sessionWritten row _)))

/-- A write that touches none leaves the session, whose State is then as before. -/
theorem sessionTaken_untouched (h : touchesSession off data.length = false) :
    SessionTaken u u row off data (u.fld .live 0xF046 row F.sessState) (liveValue u sessionTab 0xF046 row off data F.sessState) := by
  have hsame : ∀ f ∈ layout 0xF046, f.ro = false → liveValue u sessionTab 0xF046 row off data f = u.fld .live 0xF046 row f :=
    fun f hf hro => liveValue_untouched (by simpa [hro] using List.any_eq_false.mp h f hf)
  rw [hsame F.sessState (by decide) rfl]
  have hrestarts := sessionRestarts_same (u.fld .live 0xF046 row F.sessState)
  have hbegins : sessionBegins (u.fld .live 0xF046 row F.sessState) (u.fld .live 0xF046 row F.sessState) = false :=
    (Bool.or_eq_false_iff.mp hrestarts).1
  refine ⟨fun f hf hro => (hsame f hf hro).symm, fun h => ?_, fun _ => ⟨rfl, rfl⟩, fun h => ?_, fun _ => ⟨rfl, rfl⟩, leavesRest_refl⟩
  · exact absurd h (by rw [hbegins]; exact Bool.false_ne_true)
  · exact absurd h (by rw [hrestarts]; exact Bool.false_ne_true)

/-- R149: a write while no session is being freed. -/
theorem sessionWrite_taken {s : State} (dt : Nat) {row : BitVec 24} (h : (s.facing dt path).serves path = true)
    (hin : sessionTab.holds row.toNat off data.length) (hw : (s.facing dt path).mayWriteRow path sessionTab row.toNat false = true)
    (hf : (s.facing dt path).get Rg.freeing = 0) : ∃ w, exec (.firewallSessionWrite dt path row off data) s = .next ((Act.answer 0 []).run w)
      ∧ SessionTaken (s.facing dt path) w row.toNat off data ((s.facing dt path).fld .live 0xF046 row.toNat F.sessState)
        (liveValue (s.facing dt path) sessionTab 0xF046 row.toNat off data F.sessState) := by
  have hbusy : (s.facing dt path).rowBusy path sessionTab row.toNat off data.length = false := by
    have hflag : (s.facing dt path).flag Rg.freeing = false := by rw [flag_eq, hf]; rfl
    exact hflag
  have hwrite := writeRowAt_unstaged h (idx := 0xF046) (tab := sessionTab) rfl rfl hin hw hbusy
  rw [writeUnstaged_session] at hwrite
  have hexec : exec (.firewallSessionWrite dt path row off data) s = _ :=
    (command_rowWrite ..).trans (congrArg (fun w => Host.Outcome.next (w.act.run (s.facing dt path))) hwrite)
  cases htouch : touchesSession off data.length
  · rw [htouch] at hexec
    exact ⟨_, hexec, sessionTaken_untouched htouch⟩
  · rw [htouch] at hexec
    exact ⟨_, hexec, sessionTaken_touched (by omega)⟩

/-- A write while sessions are being freed ends with 0x03. -/
theorem sessionWrite_busy {s : State} (dt : Nat) {row : BitVec 24} (h : (s.facing dt path).serves path = true)
    (hin : sessionTab.holds row.toNat off data.length) (hw : (s.facing dt path).mayWriteRow path sessionTab row.toNat false = true)
    (hf : (s.facing dt path).get Rg.freeing ≠ 0) : Runs (.firewallSessionWrite dt path row off data) s fun t => t.status = 3
      ∧ leavesRest (s.facing dt path) t (keysIn []) noCells :=
  ⟨_, exec_asRowWrite_ends rfl (writeRowAt_busy h rfl hin hw (bne_iff_ne.mpr hf)), rfl, leavesRest_answered _ _ _⟩

end

end Sys2Proof.Machine
end

section
/-! PROOFS. The write of octets to a row of the forwarding database (R178), and the statement about entries that are freed and written. -/

namespace Sys2Proof.Machine

/-! ### The row that a write leaves -/

/-- The table of the forwarding entries. -/
def fdbTab : Tab := ⟨0xF052, 32768, 16, .rw, .application, false, "ForwardingDatabase"⟩

/-- The fields of an entry that a partition writes. -/
def fdbFields : List Fld := [F.fdbAddress, F.fdbVid, F.fdbGroup, F.fdbStatic, F.fdbValid, F.fdbTarget]

section
variable {u : State} {path : Path} {row off : Nat} {data : List Byte}

/-- The row that a write of octets leaves, and its value in a field. -/
def writtenEntry (u : State) (row off : Nat) (data : List Byte) : Nat × Bool :=
  fdbRow (leNat (u.rowOctets .live 0xF052 row 0 16)) (leNat (overlay (u.rowOctets .live 0xF052 row 0 16) off data)) off data.length
def fdbValue (u : State) (row off : Nat) (data : List Byte) (f : Fld) : Nat := liveValue u fdbTab 0xF052 row off data f
def mergedEntry (u : State) (row off : Nat) (data : List Byte) (fs : List Fld) : Nat × Bool := liveMerge u fdbTab 0xF052 row off data fs

/-- Whether a write touches octets 6 and 7 of the entry. -/
def touchesTag (off n : Nat) : Bool := F.fdbVid.touched off n || F.fdbValid.touched off n

theorem fdbLayout_apart : fdbFields.Pairwise (fun f f' => f.apart f' = true)
    ∧ ∀ f ∈ fdbFields, f.ro = false ∧ f.bit + f.width ≤ 8 * fdbTab.stride := by decide

theorem imageField_mergedEntry {f : Fld} (hf : f ∈ fdbFields) :
    imageField (mergedEntry u row off data fdbFields).1 f = fdbValue u row off data f := by
  obtain ⟨hapart, hfit⟩ := fdbLayout_apart
  exact imageField_liveMerge hapart hf (hfit f hf).1 (hfit f hf).2

theorem fdbValid_merged : imageField (mergedEntry u row off data [F.fdbValid]).1 F.fdbValid = fdbValue u row off data F.fdbValid :=
  imageField_liveMerge (List.pairwise_singleton _ _) (by decide) rfl (by decide)

theorem fdbValid_binary : fdbValue u row off data F.fdbValid = 0 ∨ fdbValue u row off data F.fdbValid = 1 := by
  have hlt : fdbValue u row off data F.fdbValid < 2 ^ 1 := liveValue_lt
  omega

/-- The row of a removed entry: octets 6 and 7 are 0. -/
def removedEntry (u : State) (row off : Nat) (data : List Byte) : Nat :=
  setBits (mergedEntry u row off data [F.fdbAddress, F.fdbTarget]).1 48 16 0

/-- The row of a static entry: its Static is 1, and the target of an individual address is a port. -/
def pinnedEntry (u : State) (row off : Nat) (data : List Byte) : Nat × Bool := pin (mergedEntry u row off data fdbFields) F.fdbStatic 1 false
def staticEntry (u : State) (row off : Nat) (data : List Byte) : Nat × Bool :=
  if imageField (pinnedEntry u row off data).1 F.fdbGroup = 0
  then pin (pinnedEntry u row off data) F.fdbTarget (min (imageField (pinnedEntry u row off data).1 F.fdbTarget) 255)
  else pinnedEntry u row off data

theorem writtenEntry_eq (u : State) (row off : Nat) (data : List Byte) : writtenEntry u row off data =
    if touchesTag off data.length && imageField (mergedEntry u row off data [F.fdbValid]).1 F.fdbValid = 0
    then (removedEntry u row off data, false)
    else if imageField (mergedEntry u row off data fdbFields).1 F.fdbValid = 0 then mergedEntry u row off data fdbFields
    else staticEntry u row off data := rfl

theorem writtenEntry_removed (ht : touchesTag off data.length = true) (hv : fdbValue u row off data F.fdbValid = 0) :
    writtenEntry u row off data = (removedEntry u row off data, false) := by
  rw [writtenEntry_eq, fdbValid_merged, hv, ht]
  rfl

theorem writtenEntry_empty (ht : touchesTag off data.length = false) (hv : fdbValue u row off data F.fdbValid = 0) :
    writtenEntry u row off data = mergedEntry u row off data fdbFields := by
  rw [writtenEntry_eq, imageField_mergedEntry (by decide), hv, ht]
  rfl

theorem writtenEntry_static (hv : fdbValue u row off data F.fdbValid = 1) : writtenEntry u row off data = staticEntry u row off data := by
  rw [writtenEntry_eq, fdbValid_merged, imageField_mergedEntry (by decide), hv]
  simp

/-! ### Its fields -/

theorem removedEntry_fields : imageField (removedEntry u row off data) F.fdbAddress = fdbValue u row off data F.fdbAddress
    ∧ imageField (removedEntry u row off data) F.fdbValid = 0
    ∧ imageField (removedEntry u row off data) F.fdbTarget = fdbValue u row off data F.fdbTarget := by
  have hfs : [F.fdbAddress, F.fdbTarget].Pairwise (fun f f' => f.apart f' = true) := by decide
  refine ⟨(bits_setBits_below _ _ _ _ _ _ (by decide)).trans (imageField_liveMerge hfs (by decide) rfl (by decide)), ?_,
    (bits_setBits_above _ _ _ _ _ _ (by decide)).trans (imageField_liveMerge hfs (by decide) rfl (by decide))⟩
  have htag := bits_setBits (mergedEntry u row off data [F.fdbAddress, F.fdbTarget]).1 48 16 0
  change bits (removedEntry u row off data) 48 16 = 0 % 2 ^ 16 at htag
  change bits (removedEntry u row off data) 63 1 = 0
  unfold bits at htag ⊢
  omega

theorem pinnedEntry_other {f : Fld} (hf : f ∈ fdbFields) (hne : f ≠ F.fdbStatic) :
    imageField (pinnedEntry u row off data).1 f = fdbValue u row off data f := by
  rw [pinnedEntry, imageField_pin_apart (apart_of_ne fdbLayout_apart.1 hf (by decide) hne), imageField_mergedEntry hf]

theorem staticEntry_other {f : Fld} (hf : f.apart F.fdbTarget = true) :
    imageField (staticEntry u row off data).1 f = imageField (pinnedEntry u row off data).1 f := by
  unfold staticEntry
  split
  · exact imageField_pin_apart hf _ _ _
  · rfl

theorem staticEntry_target : imageField (staticEntry u row off data).1 F.fdbTarget
    = if fdbValue u row off data F.fdbGroup = 0 then min (fdbValue u row off data F.fdbTarget) 255 else fdbValue u row off data F.fdbTarget := by
  have hgroup := pinnedEntry_other (u := u) (row := row) (off := off) (data := data) (f := F.fdbGroup) (by decide) (by decide)
  have htarget := pinnedEntry_other (u := u) (row := row) (off := off) (data := data) (f := F.fdbTarget) (by decide) (by decide)
  unfold staticEntry
  rw [hgroup, htarget]
  split
  · rw [imageField_pin_self]
    exact Nat.mod_eq_of_lt (lt_of_le_of_lt (Nat.min_le_right _ _) (by decide))
  · exact htarget

theorem staticEntry_static : imageField (staticEntry u row off data).1 F.fdbStatic = 1 := by
  rw [staticEntry_other (by decide), pinnedEntry, imageField_pin_self]
  rfl

/-- Hit is the block's. -/
theorem staticEntry_hit : imageField (staticEntry u row off data).1 F.fdbHit = u.fld .live 0xF052 row F.fdbHit := by
  rw [staticEntry_other (by decide), pinnedEntry, imageField_pin_apart (by decide)]
  exact imageField_liveMerge_apart (by decide) (by decide)

/-! ### The write -/

/-- The state after an entry is written. -/
def entryStored (u : State) (row off : Nat) (data : List Byte) : State := (storeLive u fdbTab 0xF052 row (writtenEntry u row off data)).run u

theorem fld_entryStored (hr : row < 2 ^ 24) {f : Fld} (hfit : f.bit + f.width ≤ 128) :
    (entryStored u row off data).fld .live 0xF052 row f = imageField (writtenEntry u row off data).1 f :=
  fld_storeLive hr (by decide) (by decide) (by decide) hfit _

theorem entryStored_leavesRest : leavesRest u (entryStored u row off data) (keysIn []) (bothCells (rowCells .live 0xF052 row) clampCells) :=
  storeLive_leavesRest (by decide) (by decide) _

/-- The address and Valid are those written. -/
theorem entryStored_key (hr : row < 2 ^ 24) :
    (entryStored u row off data).fld .live 0xF052 row F.fdbAddress = fdbValue u row off data F.fdbAddress
      ∧ (entryStored u row off data).fld .live 0xF052 row F.fdbValid = fdbValue u row off data F.fdbValid := by
  rw [fld_entryStored hr (by decide), fld_entryStored hr (by decide)]
  rcases fdbValid_binary (u := u) (row := row) (off := off) (data := data) with hv | hv
  · cases ht : touchesTag off data.length
    · rw [writtenEntry_empty ht hv]
      exact ⟨imageField_mergedEntry (by decide), imageField_mergedEntry (by decide)⟩
    · obtain ⟨haddress, hvalid, -⟩ := removedEntry_fields (u := u) (row := row) (off := off) (data := data)
      rw [writtenEntry_removed ht hv, hv]
      exact ⟨haddress, hvalid⟩
  · rw [writtenEntry_static hv, staticEntry_other (by decide), staticEntry_other (by decide)]
    exact ⟨pinnedEntry_other (by decide) (by decide), pinnedEntry_other (by decide) (by decide)⟩

/-- A write that leaves Valid at 1 makes or keeps a static entry. -/
theorem entryStored_static (hr : row < 2 ^ 24) (hv : fdbValue u row off data F.fdbValid = 1) :
    let w := entryStored u row off data
    w.fld .live 0xF052 row F.fdbStatic = 1 ∧ w.fld .live 0xF052 row F.fdbVid = fdbValue u row off data F.fdbVid
      ∧ w.fld .live 0xF052 row F.fdbGroup = fdbValue u row off data F.fdbGroup
      ∧ w.fld .live 0xF052 row F.fdbHit = u.fld .live 0xF052 row F.fdbHit
      ∧ w.fld .live 0xF052 row F.fdbTarget = (if fdbValue u row off data F.fdbGroup = 0 then min (fdbValue u row off data F.fdbTarget) 255
          else fdbValue u row off data F.fdbTarget) := by
  intro w
  simp only [w, fld_entryStored hr (f := F.fdbStatic) (by decide), fld_entryStored hr (f := F.fdbVid) (by decide),
    fld_entryStored hr (f := F.fdbGroup) (by decide), fld_entryStored hr (f := F.fdbHit) (by decide),
    fld_entryStored hr (f := F.fdbTarget) (by decide), writtenEntry_static hv]
  refine ⟨staticEntry_static, ?_, ?_, staticEntry_hit, staticEntry_target⟩
  · exact (staticEntry_other (by decide)).trans (pinnedEntry_other (by decide) (by decide))
  · exact (staticEntry_other (by decide)).trans (pinnedEntry_other (by decide) (by decide))

/-- One that leaves it at 0 stores the target as written. -/
theorem entryStored_target (hr : row < 2 ^ 24) (hv : fdbValue u row off data F.fdbValid = 0) :
    (entryStored u row off data).fld .live 0xF052 row F.fdbTarget = fdbValue u row off data F.fdbTarget := by
  rw [fld_entryStored hr (by decide)]
  cases ht : touchesTag off data.length
  · rw [writtenEntry_empty ht hv]
    exact imageField_mergedEntry (by decide)
  · rw [writtenEntry_removed ht hv]
    exact removedEntry_fields.2.2

/-- Octets that make the number 0 are 0. -/
theorem eq_zeros_of_leNat {bs : List Byte} (h : leNat bs = 0) : bs = leBytes bs.length 0 := by
  rw [← h, leBytes_leNat]

/-- One that touches octets 6 and 7 and leaves it at 0 stores 0 there, and nothing outside of the row. -/
theorem entryStored_removed (hr : row < 2 ^ 24) (ht : touchesTag off data.length = true) (hv : fdbValue u row off data F.fdbValid = 0) :
    (entryStored u row off data).rowOctets .live 0xF052 row 6 2 = [0#8, 0#8]
      ∧ leavesRest u (entryStored u row off data) (keysIn []) (rowCells .live 0xF052 row) := by
  have hstored : entryStored u row off data = (storeLive u fdbTab 0xF052 row (removedEntry u row off data, false)).run u := by
    rw [entryStored, writtenEntry_removed ht hv]
  constructor
  · have hrow : (entryStored u row off data).rowOctets .live 0xF052 row 0 16 = leBytes 16 (removedEntry u row off data) := by
      rw [hstored]
      exact rowOctets_storeLive (tab := fdbTab) hr (by decide) (by decide) (by decide) _
    have htag : bits (removedEntry u row off data) 48 16 = 0 := bits_setBits _ _ _ 0
    have hpart : (entryStored u row off data).rowOctets .live 0xF052 row 6 2 = ((leBytes 16 (removedEntry u row off data)).drop 6).take 2 := by
      have hoctets := octets_part (entryStored u row off data) .live (cellKey 0xF052 row 0) 6 2 16 (by decide)
      rw [cellKey_add] at hoctets
      rw [← hrow]
      exact hoctets
    have hzero : leNat (((leBytes 16 (removedEntry u row off data)).drop 6).take 2) = 0 := by
      rw [leNat_drop_take _ _ _ (by rw [leBytes_length]; decide), leNat_leBytes]
      unfold bits at htag
      omega
    rw [hpart, eq_zeros_of_leNat hzero, List.length_take, List.length_drop, leBytes_length]
    rfl
  · rw [hstored]
    exact storeLive_unclamped (by decide) _

/-- R178: a write during no dynamic flush. -/
theorem exec_fdbEntryWrite {s : State} (dt : Nat) {row : BitVec 24} (h : (s.facing dt path).serves path = true)
    (hin : fdbTab.holds row.toNat off data.length) (hw : (s.facing dt path).mayWriteRow path fdbTab row.toNat false = true)
    (hf : (s.facing dt path).get Rg.fdbFlushing = 0) : exec (.fdbEntryWrite dt path row off data) s
      = .next ((Act.answer 0 []).run (entryStored (s.facing dt path) row.toNat off data)) := by
  have hbusy : (s.facing dt path).rowBusy path fdbTab row.toNat off data.length = false := by
    have hflag : (s.facing dt path).flag Rg.fdbFlushing = false := by rw [flag_eq, hf]; rfl
    exact hflag
  exact (command_rowWrite ..).trans (congrArg (fun w => Host.Outcome.next (w.act.run (s.facing dt path)))
    (writeRowAt_unstaged h (idx := 0xF052) (tab := fdbTab) rfl rfl hin hw hbusy))

/-- A write during a dynamic flush ends with 0x03. -/
theorem fdbEntryWrite_busy {s : State} (dt : Nat) {row : BitVec 24} (h : (s.facing dt path).serves path = true)
    (hin : fdbTab.holds row.toNat off data.length) (hw : (s.facing dt path).mayWriteRow path fdbTab row.toNat false = true)
    (hf : (s.facing dt path).get Rg.fdbFlushing ≠ 0) : Runs (.fdbEntryWrite dt path row off data) s fun t => t.status = 3
      ∧ leavesRest (s.facing dt path) t (keysIn []) noCells :=
  ⟨_, exec_asRowWrite_ends rfl (writeRowAt_busy h rfl hin hw (bne_iff_ne.mpr hf)), rfl, leavesRest_answered _ _ _⟩

end

/-! ### The statement -/

/-- Settles O24: the switch, the commands and their ends one by one; a row write stores its merged row, and what follows it is said of the
stored row. -/
theorem entriesAreFreedAndWritten : Obligations.EntriesAreFreedAndWritten := by
  refine ⟨⟨?_, ?_, fun s dt => sessionFreeingEnd_frees dt⟩, ?_, ⟨?_, fun s dt => fdbFlushEnd_frees dt⟩, ?_⟩
  · intro s dt path b u ha
    exact ⟨firewallEnable_switches b ha, firewallEnable_isHeld ha⟩
  · intro s dt path v u ha
    exact sessionFlush_starts v ha
  · intro s dt path row off data tab u r n was x old h ht hr hn hin hw
    obtain rfl : sessionTab = tab := Option.some.inj ht
    refine ⟨fun hf => ?_, sessionWrite_busy dt h ⟨hr, hn, hin⟩ hw⟩
    obtain ⟨w, hexec, htaken⟩ := sessionWrite_taken dt h ⟨hr, hn, hin⟩ hw hf
    refine ⟨_, hexec, rfl, ?_⟩
    simp only [fld_answer, get_answer]
    exact ⟨htaken.fields, fun h1 h2 => htaken.begins (sessionBegins_iff.mpr ⟨h1, h2⟩),
      fun h => htaken.restarts (sessionRestarts_iff.mpr h),
      fun h => htaken.goesOn (Bool.eq_false_iff.mpr fun h' => h (sessionBegins_iff.mp h')),
      fun h1 h2 => htaken.idles (Bool.eq_false_iff.mpr fun h' => (sessionRestarts_iff.mp h').elim h1 h2),
      leavesRest_trans htaken.rest (leavesRest_answered _ _ _)⟩
  · intro s dt path v u ha
    exact fdbFlushDynamic_starts v ha
  · intro s dt path row off data tab u r n was x tagged h ht hr hn hin hw
    obtain rfl : fdbTab = tab := Option.some.inj ht
    have hlt : r < 2 ^ 24 := row.isLt
    refine ⟨fun hf => ⟨_, exec_fdbEntryWrite dt h ⟨hr, hn, hin⟩ hw hf, rfl, ?_⟩, fdbEntryWrite_busy dt h ⟨hr, hn, hin⟩ hw⟩
    simp only [fld_answer]
    obtain ⟨haddress, hvalid⟩ := entryStored_key (u := u) (off := off) (data := data) hlt
    refine ⟨haddress, hvalid, entryStored_static hlt, entryStored_target hlt, fun htag hv => ?_,
      leavesRest_trans entryStored_leavesRest (leavesRest_answered _ _ _)⟩
    obtain ⟨htail, hrest⟩ := entryStored_removed hlt htag hv
    have ⟨_, hcells, _⟩ := leavesRest_trans hrest (leavesRest_answered _ 0 [])
    exact ⟨htail, hcells⟩

end Sys2Proof.Machine
end

section
/-! PROOFS. The expiry of a copy (R278) that is out of shape. -/

namespace Sys2Proof.Machine

/-- The stray copy's lifetime ends at vehicle time 0. -/
def expiringCopy : Copy := { strayCopy with expiry := some 0 }

/-- Port 208 is Up, and its queue holds that copy. -/
def expiringStray : State := (Act.setCopies [expiringCopy]).run strayQueue

/-- The state is sound: soundness does not speak of the queues. -/
theorem expiringStray_sound : expiringStray.sound = true := sound_run _ _ strayQueue_sound

theorem strayLost_lifetimeExpiry :
    strayLost (expiringStray.after 0) ((powered (lifetimesExpire 208)).run (expiringStray.after 0)) 1 := by
  unfold strayLost
  decide +kernel

/-- Refutes O30: a copy that names a route in no table expires, and its failure counts outside of what forwarding may write. The statement
takes any queue. -/
theorem not_queuesAreWatched : ¬ Obligations.QueuesAreWatched := by
  rintro ⟨hexpiry, -⟩
  obtain ⟨-, hframe⟩ := of_runs rfl (hexpiry expiringStray 0 208 (by decide +kernel))
  exact not_forwardsOnly_of_strayLost (by decide) id strayLost_lifetimeExpiry hframe

end Sys2Proof.Machine
end

section
/-! PROOFS. The ternary lookup (R138) in a memory that is no generation of the tables. -/

namespace Sys2Proof.Machine

/-- The ternary key whose 640 bits are all 1. -/
def onesKey : Nat := 2 ^ 640 - 1

theorem ternaryLookup_flash : ternaryLookup State.reset .flash onesKey = none := by decide +kernel

/-- Read as a row of TernaryRules, the erased flash is a valid row that matches that key. -/
theorem erasedRow_matches : State.reset.fldOn .flash 0xF040 0 F.ternValid = true ∧ ∀ i < 80,
    ((beBytes 80 onesKey).getD i 0#8 ^^^ (State.reset.rowOctets .flash 0xF040 0 0 80).getD i 0#8)
      &&& (State.reset.rowOctets .flash 0xF040 0 80 80).getD i 0#8 = 0#8 := by decide +kernel

/-- Refutes O33: after reset the erased boot flash (R431) lists no row, and the lookup there finds none, though row 0 would match. The
statement takes any memory as the generation of the rules, and an octet that nothing has written reads 0xFF in the flash (log entry 6). -/
theorem not_framesAreClassified : ¬ Obligations.FramesAreClassified := by
  rintro ⟨hternary, -⟩
  obtain ⟨-, hnone⟩ := hternary State.reset .flash onesKey (by decide)
  exact hnone ternaryLookup_flash 0 (by decide) erasedRow_matches

end Sys2Proof.Machine
end

section
/-! PROOFS. How a frame whose lookahead is complete comes to its decision (R192): what it passes before it, and the slot that it takes,
for a free time within 48 cycles. -/

namespace Sys2Proof.Machine

/-- What follows the slot: steps 2 and 3 of a frame without a SecTAG that a pipeline has taken, and step 4 on. -/
def decisionBy (n : Nat) (f : Frame) : Act :=
  .dep fun s => Act.all [(untaggedAt s f f.parse).2, Act.when f.parse.incomplete (Act.bump Key.parseIncompleteFrames),
    .dep fun t => .seq (classify t f f.parse).acts
      (forward { f with secured := false, pipeline := n } f.parse (classify t f f.parse) (untaggedAt s f f.parse).1)]

section
variable {s : State} {id n i : Nat} {f g : Frame}

/-- The octets that complete a frame's lookahead are stored, and the frame is decided. -/
theorem run_look_decides {bs : List Byte} (hg : { f with octets := f.octets ++ bs } = g) (h : s.arriving id f g) :
    (look id bs).run s = (decideFrame id).run (notePeak.run ((setFrame id fun _ => g).run s)) := by
  obtain ⟨-, hframe?, -, -, hstage, -, -, hwhole, hdone, htaken⟩ := h
  have hwhole : (f.complete || (f.kind == 0 && !f.preemptable)) = true := by
    subst hg
    simpa using hwhole
  simp only [look, run_dep, hframe?, hg]
  simp only [hstage, hwhole, hdone, htaken]
  rfl

/-- A frame that no SecY checks is noted as traffic (R370), and takes a slot of the pipeline that serves its port. -/
theorem run_decideFrame_served (hframe? : s.frame? id = some f) (hfirst : f.second = false) (hplain : f.secured = false)
    (hsecy : s.secyValidates f.port = 0) (hserved : s.servedBy (s.genOf f.tag) f.port = some n) :
    (decideFrame id).run s
      = (takeSlot n id (decisionBy n f) (discardFrame f false)).run ((noteTraffic f.port f f.parse).run s) := by
  have htag : (f.secured || (!f.second && f.kind == 0 && s.secyValidates f.port != 0 && hasSecTag f.octets)) = false := by
    simp [hplain, hsecy]
  have hnoted : Act.when (!f.second) (noteTraffic f.port f f.parse) = noteTraffic f.port f f.parse := by
    rw [hfirst]
    rfl
  simp only [decideFrame, run_dep, hframe?, htag, hnoted, hserved]
  rfl

/-- The first free slot is held for a free time, and what it was taken for follows. -/
theorem run_takeSlot_granted {a b : Act} (h : (List.range 64).find? (fun j => decide (s.get (Rg.slotUntil n j) ≤ s.now)) = some i) :
    (takeSlot n id a b).run s = (Act.drawIn 0 slotHold fun d =>
      Act.all [.put (Rg.slotUntil n i) (s.now + d), .put (Rg.slotFrame n i) (id + 1), a]).run s := by
  simp only [takeSlot, run_dep, h]

end

/-- A register that takes another value than its default is listed with it. -/
theorem run_put_listed {s : State} {k v : Nat} (h : v % regMod k ≠ regDefault k) :
    (Act.put k v).run s = { s with regs := Store.insert k (v % regMod k) (Store.erase k s.regs) } := by
  simp only [Act.run, Store.set, if_neg h]

end Sys2Proof.Machine
end

section
/-! PROOFS. The decision of an Ethernet frame (R174 to R186) that has come by no port. -/

namespace Sys2Proof.Machine

/-- An untagged frame of 64 octets on port 2^20, past the 256 ports there are. -/
def unportedEthernet : Frame := { unportedFrame with octets := List.replicate 64 0 }

/-- The fabric holds that frame alone, and row 0 of TernaryRules takes every frame to action set 0, which forwards it. -/
def switchingUnported : State :=
  (Act.all [.put Rg.frameCount 1, Act.setF .fair 0xF040 0 F.ternValid 1, Act.setF .fair 0xF044 0 F.actForward 1,
    .setFrames [unportedEthernet]]).run State.reset

/-- The state is sound: soundness does not speak of the fabric. -/
theorem switchingUnported_sound : switchingUnported.sound = true := sound_run _ _ (by decide)

/-- The state in which the frame is decided, one unit of time later. -/
def decidingUnported : State := switchingUnported.after 1

/-- No SecY checks the frame, and pipeline 0 has a free slot for it. -/
theorem decidingUnported_decides : decidingUnported.decides 0 unportedEthernet unportedEthernet :=
  ⟨by unfold State.arriving; decide +kernel, by decide +kernel, 0, by decide +kernel, 0, by decide +kernel, by decide +kernel⟩

/-- Its verdict forwards it to no fixed port, and it is of no stream. -/
theorem decidingUnported_forwards :
    let u := decidingUnported
    let v := classify u unportedEthernet unportedEthernet.parse
    v.builtIn = none ∧ dropsFrame v.actions = false ∧ actBit v.actions F.actFixedPort = 0
      ∧ identify u (u.genOf unportedEthernet.tag) unportedEthernet unportedEthernet.parse = none := by decide +kernel

/-- VLAN 1, in which it is by default, admits it (R176). -/
theorem decidingUnported_admits :
    let u := decidingUnported
    let gen := u.genOf unportedEthernet.tag
    let p := unportedEthernet.parse
    let vid := frameVid u gen unportedEthernet p
    let accepted := u.fld gen 0xF053 unportedEthernet.source F.pfwdAccepted
    ¬ ((accepted = 1 ∧ p.outerVid = 0) ∨ (accepted = 2 ∧ p.outerVid ≠ 0) ∨ vid = 0xFFF ∨ u.fldOn gen 0xF051 vid F.vlanValid = false
      ∨ (u.fldOn gen 0xF053 unportedEthernet.source F.pfwdIngressFilter = true
        ∧ (u.fld gen 0xF051 vid F.vlanMembers).testBit unportedEthernet.source = false)) := by decide +kernel

/-- The frame's octets are stored. -/
def lookedUnported : State := notePeak.run ((setFrame 0 fun _ => unportedEthernet).run decidingUnported)

/-- It is noted as traffic. -/
def notedUnported : State := (noteTraffic unportedEthernet.port unportedEthernet unportedEthernet.parse).run lookedUnported

/-- The free time until which it holds its slot. -/
def unportedHold : Nat := notedUnported.now + (0 + Config.freeValue notedUnported.free % (slotHold + 1 - 0))

/-- It holds slot 0 of pipeline 0. -/
def slottedUnported : State :=
  let s := Act.drawn.run notedUnported
  { s with regs := Store.insert (Rg.slotUntil 0 0) (unportedHold % regMod (Rg.slotUntil 0 0)) (Store.erase (Rg.slotUntil 0 0) s.regs) }

theorem unportedHold_listed : unportedHold % regMod (Rg.slotUntil 0 0) ≠ regDefault (Rg.slotUntil 0 0) := by
  have hnow : notedUnported.now = 1 := by decide +kernel
  rw [show regMod (Rg.slotUntil 0 0) = 0 from by decide, show regDefault (Rg.slotUntil 0 0) = 0 from by decide, Nat.mod_zero]
  unfold unportedHold
  omega

theorem run_look_unported : (look 0 []).run decidingUnported
    = (decisionBy 0 unportedEthernet).run ((Act.put (Rg.slotFrame 0 0) 1).run slottedUnported) := by
  have hserved : lookedUnported.frame? 0 = some unportedEthernet ∧ lookedUnported.secyValidates unportedEthernet.port = 0
      ∧ lookedUnported.servedBy (lookedUnported.genOf unportedEthernet.tag) unportedEthernet.port = some 0 := by decide +kernel
  have hslot : (List.range 64).find? (fun j => decide (notedUnported.get (Rg.slotUntil 0 j) ≤ notedUnported.now)) = some 0 := by
    decide +kernel
  obtain ⟨hframe?, hsecy, hpipe⟩ := hserved
  calc (look 0 []).run decidingUnported
      = (decideFrame 0).run lookedUnported := run_look_decides rfl decidingUnported_decides.1
    _ = (takeSlot 0 0 (decisionBy 0 unportedEthernet) (discardFrame unportedEthernet false)).run notedUnported :=
        run_decideFrame_served hframe? rfl rfl hsecy hpipe
    _ = (decisionBy 0 unportedEthernet).run ((Act.put (Rg.slotFrame 0 0) 1).run
          ((Act.put (Rg.slotUntil 0 0) unportedHold).run (Act.drawn.run notedUnported))) := by
        rw [run_takeSlot_granted hslot, run_drawIn]
        rfl
    _ = (decisionBy 0 unportedEthernet).run ((Act.put (Rg.slotFrame 0 0) 1).run slottedUnported) := by
        rw [run_put_listed unportedHold_listed, slottedUnported]

/-- R370's note of the frame's port lands in the verdict of the commit checks (R43), whatever time the slot is held. -/
theorem verdict_switching : ((powered (reselect (look 0 []))).run decidingUnported).get (Rg.verdict 0) = 2 := by
  have hpower : decidingUnported.operates = true := by decide +kernel
  simp only [powered, reselect, run_dep, hpower, run_when_true, run_seq, run_look_unported]
  decide +kernel

/-- Refutes O34: a frame on no port that VLAN 1 admits is noted as traffic in a register that forwarding never writes. The statement takes
any frame. -/
theorem not_framesAreQueued : ¬ Obligations.FramesAreQueued := by
  rintro ⟨-, -, hdecision⟩
  obtain ⟨hbuiltIn, hforwards, hfixed, hstream⟩ := decidingUnported_forwards
  obtain ⟨-, hqueued⟩ := hdecision switchingUnported 1 0 [] unportedEthernet decidingUnported_decides rfl rfl hbuiltIn hforwards hfixed
    hstream
  obtain ⟨-, -, -, -, -, -, hregs, -⟩ := of_runs rfl (hqueued decidingUnported_admits)
  have hkept := hregs (Rg.verdict 0) (by simp [keysIn]) (by decide)
  rw [after_get _ _ (by decide) (by decide)] at hkept
  exact absurd (verdict_switching.symm.trans hkept) (by decide +kernel)

end Sys2Proof.Machine
end

section
/-! PROOFS. A lookup's uncorrectable error (R401) while a queue is out of shape. -/

namespace Sys2Proof.Machine

/-- The stored frame whose lookup fails has a copy behind the stray one, and none of its copies has begun to leave. -/
theorem testBesideStray_lookup : testBesideStray.operates = true ∧ (testBesideStray.after 0).frame? 1 = some arrivingFrame
    ∧ (∃ c ∈ (testBesideStray.after 0).copies, c.frame = 1) ∧ ∀ c ∈ (testBesideStray.after 0).copies, c.frame = 1 → c.begun = false := by
  decide +kernel

/-- The frame's copy is discarded, the line of port 208 is selected, and the stray copy cannot be sent there (R108). -/
theorem strayLost_lookupFault : strayLost (testBesideStray.after 0)
    ((powered (faultReported (.lookup 0 0 1))).run (testBesideStray.after 0)) 5 := by
  unfold strayLost
  decide +kernel

/-- Index 0 is no table. -/
theorem tableOf_zero : tableOf 0 = none := by decide

/-- Refutes O52: the discard of a frame whose lookup met an uncorrectable error in no table has its port selected, the selection drops the
stray copy, and that failure counts outside of what forwarding may write. The statement takes any queue. -/
theorem not_theSafetyPartitionReacts : ¬ Obligations.TheSafetyPartitionReacts := by
  rintro ⟨-, -, -, -, hlookup, -⟩
  obtain ⟨hpower, -⟩ := testBesideStray_lookup
  obtain ⟨-, -, -, -, -, hframe, -⟩ := of_runs rfl (hlookup testBesideStray 0 0 0 1 hpower)
  have hclosed : ¬ ∃ tab, tableOf 0 = some tab ∧ tab.staged = false ∧ 0 < tab.rows := by
    rw [tableOf_zero]
    rintro ⟨-, ⟨⟩, -⟩
  refine not_forwardsOnly_of_strayLost (by decide) ?_ strayLost_lookupFault (hframe hclosed)
  rintro ⟨-, htable⟩
  exact absurd htable (by decide)

end Sys2Proof.Machine
end

section
/-! PROOFS. A change of gate control lists (R216) while a queue is out of shape. -/

namespace Sys2Proof.Machine

/-- A new gate control list of port 208 takes over at vehicle time 0, and the stray copy waits in the port's queue. -/
def retimingBesideStray : State := (Act.put (Rg.gateChange 208) 1).run strayQueue

/-- The state is sound: soundness does not speak of the queues. -/
theorem retimingBesideStray_sound : retimingBesideStray.sound = true := sound_run _ _ strayQueue_sound

theorem retimingBesideStray_due : retimingBesideStray.operates = true ∧ (retimingBesideStray.after 0).changeAt 208 = some 0 := by
  decide +kernel

theorem strayLost_configChange : strayLost (retimingBesideStray.after 0)
    ((powered (configChanges 208)).run (retimingBesideStray.after 0)) 5 := by
  unfold strayLost
  decide +kernel

/-- Refutes O31: the selection behind the change to a new list (R216) drops the stray copy, and its failure counts outside of what
forwarding may write. The statement takes any queue. -/
theorem not_gatesAndPreemptionRun : ¬ Obligations.GatesAndPreemptionRun := by
  rintro ⟨-, -, hchange, -⟩
  obtain ⟨hpower, hdue⟩ := retimingBesideStray_due
  obtain ⟨-, -, -, -, -, -, -, hframe⟩ := of_runs rfl (hchange retimingBesideStray 0 208 0 hpower hdue (Nat.zero_le _))
  exact not_forwardsOnly_of_strayLost (by decide) id strayLost_configChange hframe

end Sys2Proof.Machine
end

section
/-! PROOFS. Changes of TimeStatus (R205, R206), and the events that make them. -/

namespace Sys2Proof.Machine

/-! ### A change of TimeStatus -/

/-- What the status that is entered does besides. -/
def State.statusEntry (s : State) : Nat → Act
  | 2 => Act.all [Act.bump Key.syncLossEvents, .put Rg.holdoverAt s.now, .put Rg.slewUp 0, .put Rg.slewDown 0,
    .put Key.frequencyAdjust (s.get Rg.servoAdjust)]
  | 4 => Act.all [.put Rg.slewUp 0, .put Rg.slewDown 0, .put Key.frequencyAdjust 0, .put (Rg.syncInterval (s.get Key.timeSourceInstance)) 0]
  | _ => .skip

theorem timeStatusTo_eq (v : Nat) : timeStatusTo v = .dep fun s => if s.get Key.timeStatus = v then .skip
    else Act.all [.put Key.timeStatus v, Act.vectorOf Key.timeEventVector, s.statusEntry v] := by
  unfold timeStatusTo State.statusEntry
  rfl

theorem run_timeStatusTo {s : State} {v : Nat} (h : s.get Key.timeStatus ≠ v) : (timeStatusTo v).run s
    = (s.statusEntry v).run ((Act.vectorOf Key.timeEventVector).run ((Act.put Key.timeStatus v).run s)) := by
  rw [timeStatusTo_eq, run_dep, if_neg h]
  rfl

theorem within_timeStatusTo {ks : Nat → Prop} {cs : Gen → Nat → Prop} {v : Nat} (hstatus : ks Key.timeStatus)
    (hentry : ∀ s : State, Within ks cs (s.statusEntry v)) : Within ks cs (timeStatusTo v) := by
  rw [timeStatusTo_eq, within_dep]
  intro s
  split
  · trivial
  · exact ⟨hstatus, within_vectorOf _, hentry s, trivial⟩

/-- What the entry to Holdover writes. -/
def holdoverRegs : List Nat := [Key.timeStatus, Key.syncLossEvents, Rg.holdoverAt, Rg.slewUp, Rg.slewDown, Key.frequencyAdjust]

theorem within_timeStatusTo_holdover : Within (keysIn holdoverRegs) noCells (timeStatusTo 2) :=
  within_timeStatusTo (by simp [keysIn, holdoverRegs]) fun _ => by simp [State.statusEntry, keysIn, holdoverRegs]

theorem within_timeReview : Within (keysIn holdoverRegs) noCells timeReview :=
  fun _ => within_when fun _ => within_timeStatusTo_holdover

/-- The source is lost. -/
theorem timeStatusTo_holdover {s : State} (h : s.get Key.timeStatus ≠ 2) :
    let t := (timeStatusTo 2).run s
    t.get Key.timeStatus = 2 ∧ t.get Key.syncLossEvents = s.counted Key.syncLossEvents ∧ t.get Rg.holdoverAt = s.now
      ∧ t.get Key.frequencyAdjust = s.get Rg.servoAdjust % 2 ^ 32 ∧ t.get Rg.slewUp = 0 ∧ t.get Rg.slewDown = 0 := by
  have hinternal : regMod Rg.holdoverAt = 0 := regMod_internal (by decide)
  simp (disch := decide) [run_timeStatusTo h, State.statusEntry, State.counted, get_bump_self, hinternal]

/-! ### The events -/

/-- The status passes on to one that does nothing besides. -/
theorem within_timeStatusTo_plain {v : Nat} (hholdover : v ≠ 2) (hgrandmaster : v ≠ 4) :
    Within (keysIn [Key.timeStatus]) noCells (timeStatusTo v) := by
  refine within_timeStatusTo (List.mem_singleton_self _) fun s => ?_
  unfold State.statusEntry
  split
  · exact absurd rfl hholdover
  · exact absurd rfl hgrandmaster
  · trivial

theorem timeStatusTo_expired {s : State} (h : s.get Key.timeStatus ≠ 3) : ((timeStatusTo 3).run s).get Key.timeStatus = 3 := by
  simp [run_timeStatusTo h, State.statusEntry]

theorem run_syncLost {s : State} (hlocked : s.get Key.timeStatus = 1)
    (hdue : s.get (Rg.syncAt (s.get Key.timeSourceInstance)) - 1 + s.syncTimeout (s.get Key.timeSourceInstance) ≤ s.now) :
    syncLost.run s = (timeStatusTo 2).run s := by
  rw [syncLost, run_dep]
  simp only [hlocked, hdue, decide_true, beq_self_eq_true, Bool.and_self, run_when_true]

theorem run_holdoverEnds {s : State} (hholdover : s.get Key.timeStatus = 2)
    (hdue : s.get Rg.holdoverAt + ms (s.get Key.holdoverLimit) ≤ s.now) : holdoverEnds.run s = (timeStatusTo 3).run s := by
  rw [holdoverEnds, run_dep]
  simp only [hholdover, hdue, decide_true, beq_self_eq_true, Bool.and_self, run_when_true]

/-- A clock identity fits GrandmasterIdentity, whatever it is. -/
theorem leNat_beBytes_lt (v : Nat) : leNat (beBytes 8 v) < 18446744073709551616 := by
  simpa [beBytes] using leNat_lt (beBytes 8 v)

/-- The registers of a gPTP domain, whatever its number, are none of the clock's. -/
theorem clock_ne_domain (i : Nat) : Key.timeStatus ≠ Key.grandmasterIdentity i ∧ Key.frequencyAdjust ≠ Key.grandmasterIdentity i
    ∧ Rg.slewUp ≠ Key.grandmasterIdentity i ∧ Rg.slewDown ≠ Key.grandmasterIdentity i ∧ Key.timeStatus ≠ Rg.syncInterval i
    ∧ Key.frequencyAdjust ≠ Rg.syncInterval i ∧ Rg.slewUp ≠ Rg.syncInterval i ∧ Rg.slewDown ≠ Rg.syncInterval i := by
  unfold Key.timeStatus Key.frequencyAdjust Key.grandmasterIdentity Rg.slewUp Rg.slewDown Rg.syncInterval Rg.at'
  omega

theorem clock_distinct : Key.timeStatus ≠ Key.frequencyAdjust ∧ Key.timeStatus ≠ Rg.slewUp ∧ Key.timeStatus ≠ Rg.slewDown
    ∧ Rg.slewUp ≠ Key.frequencyAdjust ∧ Rg.slewDown ≠ Key.frequencyAdjust ∧ Rg.slewUp ≠ Rg.slewDown := by decide

section
variable {s : State} (hbest : s.isGrandmaster (s.get Key.timeSourceInstance) = true) (hother : s.get Key.timeStatus ≠ 4)
include hbest hother

theorem run_grandmasterEnters :
    grandmasterEnters.run s = (Act.put (Key.grandmasterIdentity (s.get Key.timeSourceInstance)) (leNat (beBytes 8 ownClock))).run
      ((timeStatusTo 4).run s) := by
  have hstatus : (s.get Key.timeStatus != 4) = true := by simpa using hother
  rw [grandmasterEnters, run_dep]
  simp only [hbest, hstatus, Bool.and_self, run_when_true, run_seq]

theorem grandmasterEnters_enters :
    let i := s.get Key.timeSourceInstance
    let t := grandmasterEnters.run s
    t.get Key.timeStatus = 4 ∧ t.get Key.frequencyAdjust = 0 ∧ t.get Rg.slewUp = 0 ∧ t.get Rg.slewDown = 0
      ∧ (i < 2 → t.get (Key.grandmasterIdentity i) = leNat (beBytes 8 ownClock)) := by
  simp +contextual [run_grandmasterEnters hbest hother, run_timeStatusTo hother, State.statusEntry, clock_ne_domain, clock_distinct,
    leNat_beBytes_lt]

theorem leavesRest_grandmasterEnters :
    let i := s.get Key.timeSourceInstance
    leavesRest s (grandmasterEnters.run s) (keysIn [Key.timeStatus, Key.frequencyAdjust, Rg.slewUp, Rg.slewDown, Rg.syncInterval i,
      Key.grandmasterIdentity i]) noCells := by
  rw [run_grandmasterEnters hbest hother, run_timeStatusTo hother]
  refine leavesRest_trans (run_leavesRest (.put Key.timeStatus 4) s ?_) (leavesRest_trans (run_leavesRest _ _ (within_vectorOf _))
    (leavesRest_trans (run_leavesRest (s.statusEntry 4) _ ?_) (run_leavesRest (.put _ _) _ ?_)))
  all_goals simp [State.statusEntry, keysIn]

end

end Sys2Proof.Machine
end

section
/-! PROOFS. A step of vehicle time (R204, R207) while a queue is out of shape. -/

namespace Sys2Proof.Machine

/-! ### A Sync that is far from vehicle time -/

theorem run_timeReview_steady {s : State} (h : s.get Key.timeStatus ≠ 4) : timeReview.run s = s := by
  have hother : (s.get Key.timeStatus == 4) = false := by simpa using h
  rw [timeReview, run_dep, hother, Bool.false_and, run_when_false]

/-- The servo corrects the frequency by a free value of up to 300 ppm (R204). -/
def steer : Act :=
  Act.drawIn 0 600000 fun f => .seq (.put Key.frequencyAdjust (ofSigned 32 ((f : Int) - 300000)))
    (.put Rg.servoAdjust (ofSigned 32 ((f : Int) - 300000)))

/-- That value, as both of its registers take it. -/
def State.correction (s : State) : Nat := ofSigned 32 (((0 + Config.freeValue s.free % (600000 + 1 - 0) : Nat) : Int) - 300000)

/-- The state with a correction in force. -/
def State.steered (s : State) (v : Nat) : State :=
  (Act.put Rg.servoAdjust v).run ((Act.put Key.frequencyAdjust v).run (Act.drawn.run s))

theorem run_steer (s : State) : steer.run s = s.steered s.correction := by
  rw [steer, run_drawIn]
  rfl

/-- What the servo notes of a Sync before it corrects anything. -/
def State.syncNoted (s : State) (i : Nat) (off log : Int) : State :=
  (Act.put Key.offsetFromMaster (sat32 (off / 65536))).run ((Act.put (Rg.syncInterval i) (log + 128).toNat).run
    ((Act.put (Rg.syncAt i) (s.now + 1)).run s))

/-- What follows the correction where the offset is past StepThreshold (R204). -/
def stepLocks (d : Int) : Act := Act.all [.put Rg.slewUp 0, .put Rg.slewDown 0, timeStep d swapNow, timeStatusTo 1]

theorem run_syncArrives_far {s : State} {i p carried : Nat} {log : Int} (hstatus : s.get Key.timeStatus ≠ 4)
    (hrole : s.gptpRole i p = 2) (hopen : s.get (Rg.isolated p) = 0) (hsource : i = s.get Key.timeSourceInstance)
    (hfar : ns (s.get Key.stepThreshold) < (s.offsetOf p carried).natAbs) :
    let noted := s.syncNoted i (s.offsetOf p carried) log
    (syncArrives i p carried log swapNow).run s
      = (relaySync i p carried).run ((stepLocks (-s.offsetOf p carried)).run (noted.steered noted.correction)) := by
  have hmine : (i == s.get Key.timeSourceInstance) = true := by simpa using hsource
  have htaken : (s.gptpRole i p != 2 || s.flag (Rg.isolated p)) = false := by simp [hrole, State.flag, hopen]
  rw [syncArrives, run_dep, htaken, if_neg Bool.false_ne_true, run_all_cons, run_timeReview_steady hstatus, hmine]
  dsimp only
  rw [if_pos hfar, ← steer, run_all_cons, run_all_cons, run_all_cons, run_when_true, run_all_cons, run_all_cons, run_all_cons,
    run_all_nil, run_steer, stepLocks, State.syncNoted]

theorem correction_lt (s : State) : s.correction < 2 ^ 32 := by
  unfold State.correction ofSigned
  omega

/-- A correction other than 0 is listed in both registers. -/
theorem steered_listed {s : State} {v : Nat} (h : v ≠ 0) (hlt : v < 2 ^ 32) :
    s.steered v = { s with
      free := s.free + 1
      regs := Store.insert Rg.servoAdjust v (Store.erase Rg.servoAdjust
        (Store.insert Key.frequencyAdjust v (Store.erase Key.frequencyAdjust s.regs))) } := by
  have hfrequency : v % regMod Key.frequencyAdjust = v := by
    rw [regMod_frequencyAdjust]
    exact Nat.mod_eq_of_lt hlt
  have hservo : v % regMod Rg.servoAdjust = v := by rw [regMod_internal (by decide), Nat.mod_zero]
  rw [State.steered, run_put_listed (by rw [hservo]; exact h), run_put_listed (by rw [hfrequency]; exact h), hservo, hfrequency]
  rfl

/-! ### A step of vehicle time where no shaper has begun -/

theorem run_each_unmet {α : Type} {l : List α} {c : α → Bool} (f : α → Act) (s : State) (h : ∀ x ∈ l, c x = false) :
    (Act.each l fun x => Act.when (c x) (f x)).run s = s := by
  induction l with
  | nil => rfl
  | cons x l ih =>
    rw [run_each_cons, h x List.mem_cons_self, run_when_false]
    exact ih fun y hy => h y (List.mem_cons_of_mem x hy)

/-- What a step moves but for the buckets of the shapers (R207). -/
def moveEligibility (d : Int) : Act :=
  .dep fun s => Act.all [
    .setFrames (s.frames.map fun f => { f with eligible := f.eligible.map (moved d), stepAt := f.stepAt.or (some s.now) }),
    .setCopies (s.copies.map fun c => { c with
      eligible := c.eligible.map (moved d)
      egress := if s.kind c.port = 6 && s.notStarted c then c.egress.map (moved d) else c.egress }),
    Act.each (List.range 1024) fun g => Act.when (s.flag (Rg.groupElig g)) (.put (Rg.groupElig g) (moved d (s.get (Rg.groupElig g))))]

theorem run_moveShaping_unshaped {s : State} (d : Int) (h : ∀ k < 4096, s.get (Rg.bucketEmpty k) = 0) :
    (moveShaping d).run s = (moveEligibility d).run s := by
  have hflag : ∀ k ∈ List.range 4096, s.flag (Rg.bucketEmpty k) = false := by
    intro k hk
    simp [State.flag, h k (List.mem_range.mp hk)]
  rw [moveShaping, run_dep, run_all_cons, run_all_cons, run_all_cons, run_all_cons, run_each_unmet _ _ hflag, moveEligibility,
    run_dep, run_all_cons, run_all_cons, run_all_cons]

/-- A step up to what it moves. -/
def stepBegins (d : Int) : Act :=
  .dep fun s => Act.all [.clock s.now (vehicle (s.vtime + d)), .put Rg.slewUp 0, .put Rg.slewDown 0, Act.bump Key.timeSteps,
    .put Key.lastStepSize (sat32 (d / 65536)), .put Rg.steppedAt (s.now + 1), Act.vectorOf Key.timeEventVector]

/-- The gates land, a swap that was jumped over is made, and the ports select. -/
def stepLands (swapNow : Act) : Act :=
  Act.all [Act.each (List.range 256) gateAfterStep,
    .dep fun t => Act.when (t.get Key.commitState == 3 && decide (t.get Rg.swapAt ≤ t.vtime)) swapNow,
    .dep fun t => Act.each ((t.copies.map fun c => c.port).dedup) fun p => selectPort p]

theorem bucketEmpty_ne_object (k : Nat) {j : Nat} (h : j < 2 ^ 24) : Rg.bucketEmpty k ≠ j := by
  unfold Rg.bucketEmpty Rg.at'
  omega

theorem bucketEmpty_ne_time (k : Nat) : Rg.bucketEmpty k ≠ Rg.slewUp ∧ Rg.bucketEmpty k ≠ Rg.slewDown
    ∧ Rg.bucketEmpty k ≠ Rg.servoAdjust ∧ Rg.bucketEmpty k ≠ Rg.steppedAt := by
  unfold Rg.bucketEmpty Rg.slewUp Rg.slewDown Rg.servoAdjust Rg.steppedAt Rg.at'
  omega

theorem get_stepBegins_bucketEmpty (d : Int) (s : State) (k : Nat) :
    ((stepBegins d).run s).get (Rg.bucketEmpty k) = s.get (Rg.bucketEmpty k) := by
  obtain ⟨hup, hdown, -, hstepped⟩ := bucketEmpty_ne_time k
  simp only [stepBegins, run_dep, run_all_cons, run_all_nil, get_vectorOf, get_clock, get_put_ne _ _ hup, get_put_ne _ _ hdown,
    get_put_ne _ _ hstepped, get_put_ne _ _ (bucketEmpty_ne_object k (show Key.lastStepSize < 2 ^ 24 by decide)),
    get_bump_ne _ _ (bucketEmpty_ne_object k (show Key.timeSteps < 2 ^ 24 by decide))]

theorem run_timeStep_unshaped {s : State} (d : Int) (swapNow : Act) (h : ∀ k < 4096, s.get (Rg.bucketEmpty k) = 0) :
    (timeStep d swapNow).run s = (stepLands swapNow).run ((moveEligibility d).run ((stepBegins d).run s)) := by
  rw [timeStep, run_dep, run_all_cons, run_all_cons, run_all_cons, run_all_cons, run_all_cons, run_all_cons, run_all_cons, run_all_cons,
    run_moveShaping_unshaped]
  · rfl
  · intro k hk
    exact (get_stepBegins_bucketEmpty d s k).trans (h k hk)

/-- The state once a step has been made and nothing is left to slew. -/
def stepLanded (d : Int) (s : State) : State :=
  (stepLands swapNow).run ((moveEligibility d).run ((stepBegins d).run ((Act.put Rg.slewDown 0).run ((Act.put Rg.slewUp 0).run s))))

theorem run_stepLocks_unshaped {s : State} (d : Int) (h : ∀ k < 4096, s.get (Rg.bucketEmpty k) = 0) :
    (stepLocks d).run s = (timeStatusTo 1).run (stepLanded d s) := by
  rw [stepLocks, run_all_cons, run_all_cons, run_all_cons, run_all_cons, run_all_nil, run_timeStep_unshaped, stepLanded]
  intro k hk
  obtain ⟨hup, hdown, -⟩ := bucketEmpty_ne_time k
  rw [get_put_ne _ _ hdown, get_put_ne _ _ hup, h k hk]

/-! ### What follows a step writes no register but TimeStatus -/

theorem within_relaySync (i p carried : Nat) : Within (fun _ => False) noCells (relaySync i p carried) :=
  fun _ => within_each fun _ _ => within_draw fun _ => within_draw fun _ => ⟨trivial, trivial⟩

theorem get_relaySync (i p carried k : Nat) (s : State) : ((relaySync i p carried).run s).get k = s.get k := by
  obtain ⟨hregs, -⟩ := run_leavesRest _ s (within_relaySync i p carried)
  exact hregs k id

theorem get_locks {k : Nat} (h : k ≠ Key.timeStatus) (s : State) : ((timeStatusTo 1).run s).get k = s.get k := by
  obtain ⟨hregs, -⟩ := run_leavesRest _ s (within_timeStatusTo_plain (v := 1) (by decide) (by decide))
  exact hregs k (by simpa [keysIn] using h)

/-! ### The step in a state whose queue holds a copy of no port -/

/-- A copy for port 2^20 + 1, past the 256 ports there are. -/
def unportedCopy : Copy := { strayCopy with port := 2 ^ 20 + 1, tc := 0, pair := none, expiry := none }

/-- Port 3 is the slave port of gPTP domain 0, the source, shaper group 1 has an eligibility time, and that copy waits on a port that
reads as Up. -/
def steppingUnported : State :=
  (Act.all [.put Key.startupState 2, .put (Key.instanceEnable 0) 1, .put (Key.externalPortConfiguration 0) 1,
    Act.setF .live 0xF066 3 F.gptpEnable 1, Act.setF .live 0xF066 3 F.gptpRole 2, .put (Rg.groupElig 1) 1,
    .put (Key.portState (2 ^ 20 + 1)) 2, .setFrames [emptyFrame], .setCopies [unportedCopy]]).run State.reset

/-- The state is sound: soundness does not speak of the queues. -/
theorem steppingUnported_sound : steppingUnported.sound = true := sound_run _ _ (by decide)

/-- A Sync that is 90 ms ahead of vehicle time steps it, and no commit waits for its instant. -/
theorem steppingUnported_steps :
    let u := steppingUnported.after 0
    steppingUnported.operates = true ∧ u.get Key.timeStatus ≠ 4 ∧ u.gptpRole 0 3 = 2 ∧ u.get (Rg.isolated 3) = 0
      ∧ 0 = u.get Key.timeSourceInstance ∧ u.offsetOf 3 (ms 90) = -(ms 90)
      ∧ ns (u.get Key.stepThreshold) < (u.offsetOf 3 (ms 90)).natAbs ∧ u.get Key.commitState ≠ 3 ∧ u.get (Rg.groupElig 1) = 1 := by
  decide +kernel

/-- The state in which the servo corrects the frequency. -/
def syncedUnported : State := (steppingUnported.after 0).syncNoted 0 (-(ms 90)) 0

/-- No shaper has begun in it: the one register of number 24 that it lists is the group's. -/
theorem bucketEmpty_syncedUnported {k : Nat} (h : k < 4096) : syncedUnported.get (Rg.bucketEmpty k) = 0 := by
  have hlisted : ∀ c ∈ syncedUnported.regs, Rg.numberOf c.1 = 24 → c.1 % 2 = 0 := by decide +kernel
  have hkey : 2 ^ 24 ≤ Rg.bucketEmpty k ∧ Rg.numberOf (Rg.bucketEmpty k) = 24 ∧ Rg.bucketEmpty k % 2 = 1 := by
    unfold Rg.numberOf Rg.bucketEmpty Rg.at'
    omega
  obtain ⟨hinternal, hnumber, hodd⟩ := hkey
  have hdefault : regDefault (Rg.bucketEmpty k) = 0 := if_neg (Nat.not_lt.mpr hinternal)
  refine (Store.get_unlisted _ _ fun c hc hck => ?_).trans hdefault
  have heven := hlisted c hc (hck ▸ hnumber)
  rw [hck, hodd] at heven
  exact absurd heven (by decide)

theorem bucketEmpty_steeredUnported (v : Nat) {k : Nat} (h : k < 4096) : (syncedUnported.steered v).get (Rg.bucketEmpty k) = 0 := by
  obtain ⟨-, -, hservo, -⟩ := bucketEmpty_ne_time k
  rw [State.steered, get_put_ne _ _ hservo, get_put_ne _ _ (bucketEmpty_ne_object k (by decide)), get_drawn,
    bucketEmpty_syncedUnported h]

/-- The group's time moves with vehicle time; then the copy is selected, and its sample (R260) counts in the register of the group's
time. -/
theorem groupElig_unsteered : (stepLanded (ms 90) (syncedUnported.steered 0)).get (Rg.groupElig 1) = ms 90 + 2 := by decide +kernel

/-- The state with a correction listed, whatever it is. -/
def correctedUnported : State :=
  { syncedUnported with
    free := syncedUnported.free + 1
    regs := Store.insert Rg.servoAdjust syncedUnported.correction (Store.erase Rg.servoAdjust
      (Store.insert Key.frequencyAdjust syncedUnported.correction (Store.erase Key.frequencyAdjust syncedUnported.regs))) }

theorem groupElig_corrected : (stepLanded (ms 90) correctedUnported).get (Rg.groupElig 1) = ms 90 + 2 := by decide +kernel

theorem groupElig_stepLanded :
    (stepLanded (ms 90) (syncedUnported.steered syncedUnported.correction)).get (Rg.groupElig 1) = ms 90 + 2 := by
  by_cases hzero : syncedUnported.correction = 0
  · rw [hzero]
    exact groupElig_unsteered
  · rw [steered_listed hzero (correction_lt _), ← correctedUnported]
    exact groupElig_corrected

theorem groupElig_steppingUnported :
    ((powered (syncArrives 0 3 (ms 90) 0 swapNow)).run (steppingUnported.after 0)).get (Rg.groupElig 1) = ms 90 + 2 := by
  obtain ⟨hpower, hstatus, hrole, hopen, hsource, hoff, hfar, -⟩ := steppingUnported_steps
  rw [run_powered (steppingUnported.after 0) ((after_operates _ _).trans hpower),
    run_syncArrives_far hstatus hrole hopen hsource hfar, hoff, ← syncedUnported, Int.neg_neg, get_relaySync,
    run_stepLocks_unshaped _ fun k hk => bucketEmpty_steeredUnported _ hk, get_locks (by decide), groupElig_stepLanded]

/-- Refutes O38: the selection behind a step (R207) takes a copy of no port, whose samples are counted in the register of a shaper group's
eligibility time, so that this has not moved by the step alone. The statement takes any queue. -/
theorem not_syncSteersVehicleTime : ¬ Obligations.SyncSteersVehicleTime := by
  intro h
  obtain ⟨hpower, -, hrole, hopen, hsource, hoff, hfar, hcommit, helig⟩ := steppingUnported_steps
  obtain ⟨-, hsync⟩ := h steppingUnported 0 0 3 (ms 90) 0 hpower
  obtain ⟨-, hstep, -⟩ := hsync hrole hopen
  obtain ⟨-, -, -, -, -, -, -, hmoved⟩ := of_runs rfl (hstep hsource hfar hcommit)
  have hkept := groupElig_steppingUnported.symm.trans (hmoved 1 (by decide) (by rw [helig]; decide))
  rw [helig] at hkept
  change ms 90 + 2 = moved (-(steppingUnported.after 0).offsetOf 3 (ms 90)) 1 at hkept
  rw [hoff] at hkept
  exact absurd hkept (by decide)

end Sys2Proof.Machine
end

section
/-! PROOFS. What the roles of the ports (R202, R234) are made of, and what leaves them as they are. -/

namespace Sys2Proof.Machine

/-- The registers that say whether a port sends time messages, and for which gPTP domain: objects of its groups 0 and 1, of the domains
and of start-up, and the internal registers of its peer delay and of a self-test. -/
def sendingReg (k : Nat) : Prop :=
  (k < 2 ^ 24 ∧ k / 256 ≠ 0x5000 ∧ k % 256 < 8) ∨ (2 ^ 24 ≤ k ∧ 34 ≤ Rg.numberOf k ∧ Rg.numberOf k ≤ 35)

/-- With the Announces that the ports hold: the registers that say what their roles are. -/
def roleReg (k : Nat) : Prop := sendingReg k ∨ Rg.numberOf k = 63

/-- Two states agree on some registers, on every octet and on true time. -/
def State.agrees (u : State) (R : Nat → Prop) (t : State) : Prop :=
  (∀ k, R k → t.get k = u.get k) ∧ (∀ g a, t.octet g a = u.octet g a) ∧ t.now = u.now

theorem agrees_of_leavesRest {u t : State} {R ks : Nat → Prop} (h : leavesRest u t ks noCells) (hks : ∀ k, R k → ¬ ks k) :
    u.agrees R t := by
  obtain ⟨hregs, hcells, -, -, hnow, -⟩ := h
  exact ⟨fun k hk => hregs k (hks k hk), fun g a => hcells g a id, hnow⟩

theorem agrees_sending {u t : State} (h : u.agrees roleReg t) : u.agrees sendingReg t := by
  obtain ⟨hregs, hcells, hnow⟩ := h
  exact ⟨fun k hk => hregs k (.inl hk), hcells, hnow⟩

theorem sendingReg_port {p : Nat} (hp : p < 256) : sendingReg (Key.attachmentBinding p) ∧ sendingReg (Key.portState p) := by
  unfold sendingReg Key.attachmentBinding Key.portState
  omega

theorem sendingReg_domain {i : Nat} (hi : i < 2) : sendingReg (Key.instanceEnable i) ∧ sendingReg (Key.domainNumber i)
    ∧ sendingReg (Key.externalPortConfiguration i) ∧ sendingReg (Key.priority1 i) ∧ sendingReg (Key.priority2 i) := by
  unfold sendingReg Key.instanceEnable Key.domainNumber Key.externalPortConfiguration Key.priority1 Key.priority2
  omega

theorem sendingReg_internal {i p : Nat} (hi : i < 2) (hp : p < 256) : sendingReg (Rg.pdelayOk p) ∧ sendingReg (Rg.neighborAt i p)
    ∧ sendingReg (Rg.isolated p) := by
  unfold sendingReg Rg.numberOf Rg.pdelayOk Rg.neighborAt Rg.isolated Rg.at'
  omega

theorem roleReg_announce {i p : Nat} (hi : i < 2) (hp : p < 256) : roleReg (Rg.annVector i p) ∧ roleReg (Rg.annAt i p)
    ∧ roleReg (Rg.annHops i p) := by
  unfold roleReg Rg.numberOf Rg.annVector Rg.annAt Rg.annHops Rg.at'
  omega

section
variable {u t : State} {i p : Nat} (h : u.agrees sendingReg t)
include h

theorem kind_agrees (hp : p < 256) : t.kind p = u.kind p := by
  obtain ⟨hregs, -⟩ := h
  obtain ⟨hbinding, -⟩ := sendingReg_port hp
  simp only [State.kind, State.attachment, hregs _ hbinding]

theorem instRuns_agrees (hi : i < 2) : t.instRuns i = u.instRuns i := by
  obtain ⟨hregs, -⟩ := h
  obtain ⟨hon, hdomain, -⟩ := sendingReg_domain hi
  obtain ⟨hon0, hdomain0, -⟩ := sendingReg_domain (i := 0) (by decide)
  obtain ⟨-, hdomain1, -⟩ := sendingReg_domain (i := 1) (by decide)
  have hstart : sendingReg Key.startupState := by unfold sendingReg; decide
  simp only [State.instRuns, State.flag, hregs _ hon, hregs _ hon0, hregs _ hdomain0, hregs _ hdomain1, hregs _ hstart]

theorem partOf_agrees (hp : p < 256) : t.partOf i p = u.partOf i p := by
  have hfld : t.fld .live 0xF066 (256 * i + p) F.gptpEnable = u.fld .live 0xF066 (256 * i + p) F.gptpEnable :=
    fld_congr fun _ _ => h.2.1 _ _
  simp only [State.partOf, State.timeAware, kind_agrees h hp, State.fldOn, hfld]

theorem sendsTime_agrees (hi : i < 2) (hp : p < 256) : t.sendsTime i p = u.sendsTime i p := by
  obtain ⟨hregs, -, hnow⟩ := h
  obtain ⟨-, hstate⟩ := sendingReg_port hp
  obtain ⟨-, hdomain, -⟩ := sendingReg_domain hi
  obtain ⟨hmeasured, hneighbour, -⟩ := sendingReg_internal hi hp
  simp only [State.sendsTime, State.isUp, State.portState, State.asCapable, State.flag, hregs _ hstate, hregs _ hdomain, hregs _ hmeasured,
    hregs _ hneighbour, hnow]

theorem emitsTime_agrees (hi : i < 2) (hp : p < 256) : t.emitsTime i p = u.emitsTime i p := by
  obtain ⟨hregs, -⟩ := id h
  obtain ⟨-, -, hisolated⟩ := sendingReg_internal hi hp
  simp only [State.emitsTime, sendsTime_agrees h hi hp, State.flag, hregs _ hisolated]

end

section
variable {u t : State} {i p : Nat} (h : u.agrees roleReg t) (hi : i < 2)
include h hi

theorem announced_agrees (hp : p < 256) : t.announced i p = u.announced i p := by
  obtain ⟨hregs, -, hnow⟩ := id h
  obtain ⟨hvector, hat, -⟩ := roleReg_announce hi hp
  simp only [State.announced, sendsTime_agrees (agrees_sending h) hi hp, State.flag, hregs _ hvector, hregs _ hat, hnow]
  rfl

theorem pathVector_agrees (hp : p < 256) : t.pathVector i p = u.pathVector i p := by
  simp only [State.pathVector, announced_agrees h hi hp]

theorem bestVector_agrees : t.bestVector i = u.bestVector i := by
  obtain ⟨hregs, hcells, -⟩ := id h
  obtain ⟨-, -, hexternal, hfirst, hsecond⟩ := sendingReg_domain hi
  have hports : (List.range 256).filter (t.partOf i) = (List.range 256).filter (u.partOf i) :=
    List.filter_congr fun p hp => partOf_agrees (agrees_sending h) (List.mem_range.mp hp)
  have hpath : ∀ p ∈ (List.range 256).filter (u.partOf i), t.pathVector i p = u.pathVector i p := fun p hp =>
    pathVector_agrees h hi (List.mem_range.mp (List.mem_of_mem_filter hp))
  have hrole : ∀ p, t.fld .live 0xF066 (256 * i + p) F.gptpRole = u.fld .live 0xF066 (256 * i + p) F.gptpRole :=
    fun _ => fld_congr fun _ _ => hcells _ _
  have hslaves : ∀ p ∈ ((List.range 256).filter (u.partOf i)).filter fun p => u.fld .live 0xF066 (256 * i + p) F.gptpRole == 2,
      t.pathVector i p = u.pathVector i p := fun p hp => hpath p (List.mem_of_mem_filter hp)
  simp only [State.bestVector, State.systemIdentity, State.flag, hregs _ (.inl hexternal), hregs _ (.inl hfirst), hregs _ (.inl hsecond),
    hports, hrole, ← List.head?_filterMap, List.filterMap_congr hpath, List.filterMap_congr hslaves]

theorem masterVector_agrees : t.masterVector i p = u.masterVector i p := by
  simp only [State.masterVector, bestVector_agrees h hi]

theorem gptpRole_agrees (hp : p < 256) : t.gptpRole i p = u.gptpRole i p := by
  obtain ⟨hregs, hcells, -⟩ := id h
  obtain ⟨-, -, hexternal, -⟩ := sendingReg_domain hi
  have hrole : t.fld .live 0xF066 (256 * i + p) F.gptpRole = u.fld .live 0xF066 (256 * i + p) F.gptpRole := fld_congr fun _ _ => hcells _ _
  simp only [State.gptpRole, instRuns_agrees (agrees_sending h) hi, partOf_agrees (agrees_sending h) hp, State.flag,
    hregs _ (.inl hexternal), hrole, sendsTime_agrees (agrees_sending h) hi hp, announced_agrees h hi hp, pathVector_agrees h hi hp,
    bestVector_agrees h hi, masterVector_agrees h hi]
  rfl

theorem gptpPorts_agrees (role : Nat) : t.gptpPorts i role = u.gptpPorts i role := by
  refine List.filter_congr fun p hp => ?_
  rw [gptpRole_agrees h hi (List.mem_range.mp hp)]

end

end Sys2Proof.Machine
end

section
/-! PROOFS. The 802.1AS messages other than Sync (R202, R209). -/

namespace Sys2Proof.Machine

/-! ### What takes a message -/

/-- What a message does where it is taken. -/
def State.messageTaken (s : State) (i p : Nat) : GptpMsg → Act
  | .announce p1 quality p2 gm steps source path =>
    announceArrives i p (((p1.toNat * 2 ^ 32 + quality.toNat) * 2 ^ 8 + p2.toNat) * 2 ^ 64 + gm.toNat) steps.toNat source.toNat path
  | .pdelayRequest => answerDelay p
  | .pdelayResponse t1 t2 t3 t4 => measureDelay p t1 t2 t3 t4
  | .pdelayLost => missDelay p
  | .followUp tlv => Act.when (s.gptpRole i p == 2) (.put (Rg.followTlv i) (tlv.toNat + 1))
  | .signaling capable => Act.when capable (.put (Rg.neighborAt i p) (s.now + 1))

theorem run_gptpArrives_taken {s : State} {i p : Nat} {m : GptpMsg} (hpart : s.takesPart p = true)
    (hcomes : overLine m = false ∨ s.get (Rg.isolated p) = 0) : (gptpArrives i p m).run s = (s.messageTaken i p m).run s := by
  have htaken : (!s.takesPart p || (overLine m && s.flag (Rg.isolated p))) = false := by
    rcases hcomes with hcomes | hcomes <;> simp [hpart, hcomes, State.flag]
  rw [gptpArrives, run_dep, htaken, if_neg Bool.false_ne_true]
  cases m <;> rfl

/-- A message does not come over an isolated line (R419). -/
theorem run_gptpArrives_isolated {s : State} {i p : Nat} {m : GptpMsg} (hline : overLine m = true) (hisolated : s.get (Rg.isolated p) ≠ 0) :
    (gptpArrives i p m).run s = s := by
  have hshut : (!s.takesPart p || (overLine m && s.flag (Rg.isolated p))) = true := by simp [hline, hisolated, State.flag]
  rw [gptpArrives, run_dep, hshut, if_pos rfl, run_skip]

theorem overLine_of_ne {m : GptpMsg} (h : m ≠ .pdelayLost) : overLine m = true := by
  cases m with
  | pdelayLost => exact absurd rfl h
  | _ => rfl

theorem run_requestDelay {s : State} {p : Nat} (hpart : s.takesPart p = true) (hopen : s.get (Rg.isolated p) = 0) :
    (requestDelay p).run s = (Act.emit (.gptp p gptpPdelayRequest s.vtime [])).run s := by
  rw [requestDelay, run_dep]
  simp only [hpart, State.flag, hopen, bne_self_eq_false, Bool.not_false, Bool.and_self, run_when_true]

theorem run_requestDelay_isolated {s : State} {p : Nat} (hisolated : s.get (Rg.isolated p) ≠ 0) : (requestDelay p).run s = s := by
  have hshut : s.flag (Rg.isolated p) = true := by simpa [State.flag] using hisolated
  rw [requestDelay, run_dep, hshut, Bool.not_true, Bool.and_false, run_when_false]

/-! ### Peer delay -/

theorem delayRegs_distinct (p : Nat) : Rg.pdelayLost p ≠ Rg.pdelayOk p ∧ Rg.pdelayOk p ≠ Rg.pdelayLost p := by
  unfold Rg.pdelayLost Rg.pdelayOk Rg.at'
  omega

theorem regMod_delayRegs (p : Nat) : regMod (Rg.pdelayLost p) = 0 ∧ regMod (Rg.pdelayOk p) = 0 := by
  unfold Rg.pdelayLost Rg.pdelayOk Rg.at'
  refine ⟨regMod_internal ?_, regMod_internal ?_⟩ <;> omega

theorem meanLinkDelay_ne {p : Nat} (hp : p < 256) : Key.meanLinkDelay p ≠ Rg.pdelayLost p ∧ Key.meanLinkDelay p ≠ Rg.pdelayOk p := by
  unfold Key.meanLinkDelay Rg.pdelayLost Rg.pdelayOk Rg.at'
  omega

theorem run_missDelay (s : State) (p : Nat) : (missDelay p).run s
    = (Act.when (decide (9 < s.get (Rg.pdelayLost p) + 1)) (.put (Rg.pdelayOk p) 0)).run
      ((Act.put (Rg.pdelayLost p) (s.get (Rg.pdelayLost p) + 1)).run s) := by
  rw [missDelay, run_dep, run_seq]

theorem missDelay_counts (s : State) (p : Nat) :
    let t := (missDelay p).run s
    t.get (Rg.pdelayLost p) = s.get (Rg.pdelayLost p) + 1
      ∧ t.get (Rg.pdelayOk p) = (if 9 ≤ s.get (Rg.pdelayLost p) then 0 else s.get (Rg.pdelayOk p))
      ∧ leavesRest s t (keysIn [Rg.pdelayLost p, Rg.pdelayOk p]) noCells := by
  obtain ⟨hlost, hok⟩ := delayRegs_distinct p
  obtain ⟨hlost0, hok0⟩ := regMod_delayRegs p
  refine ⟨?_, ?_, run_leavesRest _ s fun _ => ⟨?_, within_when fun _ => ?_⟩⟩
  · rw [run_missDelay, get_whenPut_ne _ _ _ hlost, get_put_self, hlost0, Nat.mod_zero]
  · rw [run_missDelay]
    by_cases hnine : 9 ≤ s.get (Rg.pdelayLost p)
    · rw [if_pos hnine, decide_eq_true (Nat.lt_succ_of_le hnine), run_when_true, get_put_self, hok0]
    · rw [if_neg hnine, decide_eq_false (fun h => hnine (Nat.le_of_lt_succ h)), run_when_false, get_put_ne _ _ hok]
  · exact List.mem_cons_self
  · exact List.mem_cons_of_mem _ List.mem_cons_self

theorem run_answerDelay (s : State) (p : Nat) : (answerDelay p).run s
    = (Act.emit (.gptp p gptpPdelayFollowUp (s.vtime + Config.freeValue s.free - ns (s.get (Key.egressLatency p))) [])).run
      ((Act.emit (.gptp p gptpPdelayResponse (s.vtime + ns (s.get (Key.ingressLatency p))) [])).run (Act.drawn.run s)) := by
  rw [answerDelay, run_dep, run_draw, run_seq]

theorem outs_answerDelay (s : State) (p : Nat) :
    ∃ d, ((answerDelay p).run s).outs = s.outs ++ [.gptp p gptpPdelayResponse (s.vtime + ns (s.get (Key.ingressLatency p))) [],
      .gptp p gptpPdelayFollowUp (s.vtime + d - ns (s.get (Key.egressLatency p))) []] := by
  refine ⟨Config.freeValue s.free, ?_⟩
  rw [run_answerDelay, run_emit_outs, run_emit_outs, run_drawn_outs, List.append_assoc, List.singleton_append]

theorem within_answerDelay {ks : Nat → Prop} {cs : Gen → Nat → Prop} (p : Nat) : Within ks cs (answerDelay p) :=
  fun _ => within_draw fun _ => ⟨trivial, trivial⟩

/-- The link delay that a measurement finds (R209). -/
def State.delayFound (s : State) (p t1 t2 t3 t4 : Nat) : Int :=
  ((t4 : Int) + ns (s.get (Key.ingressLatency p)) - (t1 - ns (s.get (Key.egressLatency p))) - (t3 - t2)) / 2

theorem run_measureDelay (s : State) (p t1 t2 t3 t4 : Nat) : (measureDelay p t1 t2 t3 t4).run s
    = (Act.put (Rg.pdelayOk p) (if s.delayFound p t1 t2 t3 t4 ≤ Config.linkDelayLimit (s.kind p) then 1 else 0)).run
      ((Act.put (Key.meanLinkDelay p) (s.delayFound p t1 t2 t3 t4 / 65536).toNat).run ((Act.put (Rg.pdelayLost p) 0).run s)) := by
  rw [measureDelay, run_dep]
  dsimp only
  rw [run_all_cons, run_all_cons, run_all_cons, run_all_nil, State.delayFound]

theorem measureDelay_measures (s : State) {p : Nat} (hp : p < 256) (t1 t2 t3 t4 : Nat) :
    let t := (measureDelay p t1 t2 t3 t4).run s
    t.get (Key.meanLinkDelay p) = (s.delayFound p t1 t2 t3 t4 / 65536).toNat % 2 ^ 32
      ∧ t.get (Rg.pdelayOk p) = (if s.delayFound p t1 t2 t3 t4 ≤ Config.linkDelayLimit (s.kind p) then 1 else 0)
      ∧ t.get (Rg.pdelayLost p) = 0 ∧ leavesRest s t (keysIn [Rg.pdelayLost p, Rg.pdelayOk p, Key.meanLinkDelay p]) noCells := by
  obtain ⟨hlost, -⟩ := delayRegs_distinct p
  obtain ⟨-, hok0⟩ := regMod_delayRegs p
  obtain ⟨hmean, hmean'⟩ := meanLinkDelay_ne hp
  refine ⟨?_, ?_, ?_, run_leavesRest _ s fun _ => ?_⟩
  · rw [run_measureDelay, get_put_ne _ _ hmean', get_put_self, regMod_meanLinkDelay hp]
    norm_num
  · rw [run_measureDelay, get_put_self, hok0, Nat.mod_zero]
  · rw [run_measureDelay, get_put_ne _ _ hlost, get_put_ne _ _ hmean.symm, get_put_self, Nat.zero_mod]
  · simp [keysIn]

end Sys2Proof.Machine
end

section
/-! PROOFS. An Announce (R202). -/

namespace Sys2Proof.Machine

/-! ### What becomes of it -/

/-- An Announce comes from the device itself or has passed it, or as many clocks as it may. -/
def announceOwn (steps source : Nat) (path : List (BitVec 64)) : Bool :=
  source / 2 ^ 16 == ownClock || decide (255 ≤ steps) || path.any fun x => x.toNat == ownClock

theorem announceOwn_iff {steps source : Nat} {path : List (BitVec 64)} :
    announceOwn steps source path = true ↔ source / 2 ^ 16 = ownClock ∨ 255 ≤ steps ∨ ∃ x ∈ path, x.toNat = ownClock := by
  simp only [announceOwn, Bool.or_eq_true, beq_iff_eq, decide_eq_true_eq, List.any_eq_true, or_assoc]

/-- The best master clock algorithm keeps an Announce of a vector `v` from `source`. -/
def State.keepsAnnounce (s : State) (i p v source : Nat) : Bool :=
  s.flag (Key.externalPortConfiguration i) || match s.announced i p with
    | none => decide (v < s.masterVector i p)
    | some old => decide (v ≤ old) || old / 2 ^ 16 % 2 ^ 80 == source

theorem keepsAnnounce_iff {s : State} {i p v source : Nat} : s.keepsAnnounce i p v source = true
    ↔ s.get (Key.externalPortConfiguration i) ≠ 0 ∨ (s.announced i p = none ∧ v < s.masterVector i p)
      ∨ ∃ old, s.announced i p = some old ∧ (v ≤ old ∨ old / 2 ^ 16 % 2 ^ 80 = source) := by
  unfold State.keepsAnnounce
  cases s.announced i p <;> simp [State.flag]

/-- The grandmaster is named where the port is a slave. -/
def namesGrandmaster (i p root : Nat) : Act :=
  .dep fun t => Act.when (t.gptpRole i p == 2) (.put (Key.grandmasterIdentity i) (leNat (beBytes 8 (root % 2 ^ 64))))

theorem announceArrives_eq (i p root steps source : Nat) (path : List (BitVec 64)) :
    announceArrives i p root steps source path = .dep fun s => Act.when (s.instRuns i && s.partOf i p && s.sendsTime i p
      && !announceOwn steps source path && s.keepsAnnounce i p (priorityVector root steps source p) source) (Act.all [
        .put (Rg.annVector i p) (priorityVector root steps source p + 1), .put (Rg.annAt i p) s.now, .put (Rg.annHops i p) path.length,
        .put (Rg.annPath i p) (beNat (path.flatMap fun x => beBytes 8 x.toNat)), namesGrandmaster i p root, timeReview]) := by
  unfold announceArrives announceOwn State.keepsAnnounce namesGrandmaster
  rfl

theorem run_announceArrives_own {i p root steps source : Nat} {path : List (BitVec 64)} (hown : announceOwn steps source path = true)
    (s : State) : (announceArrives i p root steps source path).run s = s := by
  rw [announceArrives_eq, run_dep, hown, Bool.not_true, Bool.and_false, Bool.false_and, run_when_false]

/-- The port holds an Announce of a vector and a path. -/
def State.holding (s : State) (i p v : Nat) (path : List (BitVec 64)) : State :=
  (Act.put (Rg.annPath i p) (beNat (path.flatMap fun x => beBytes 8 x.toNat))).run ((Act.put (Rg.annHops i p) path.length).run
    ((Act.put (Rg.annAt i p) s.now).run ((Act.put (Rg.annVector i p) (v + 1)).run s)))

theorem run_announceArrives_kept {s : State} {i p root steps source : Nat} {path : List (BitVec 64)} (hruns : s.instRuns i = true)
    (hpart : s.partOf i p = true) (hsends : s.sendsTime i p = true) (hother : announceOwn steps source path = false)
    (hkept : s.keepsAnnounce i p (priorityVector root steps source p) source = true) :
    (announceArrives i p root steps source path).run s
      = timeReview.run ((namesGrandmaster i p root).run (s.holding i p (priorityVector root steps source p) path)) := by
  rw [announceArrives_eq, run_dep, hruns, hpart, hsends, hother, hkept, Bool.not_false, Bool.and_self, Bool.and_self, Bool.and_self,
    Bool.and_self, run_when_true, run_all_cons, run_all_cons, run_all_cons, run_all_cons, run_all_cons, run_all_cons, run_all_nil,
    State.holding]

/-! ### The Announce that is held -/

section
variable (s : State) (i p v : Nat) (path : List (BitVec 64))

theorem annRegs_distinct : Rg.annVector i p ≠ Rg.annAt i p ∧ Rg.annVector i p ≠ Rg.annHops i p ∧ Rg.annVector i p ≠ Rg.annPath i p
    ∧ Rg.annAt i p ≠ Rg.annHops i p ∧ Rg.annAt i p ≠ Rg.annPath i p ∧ Rg.annHops i p ≠ Rg.annPath i p := by
  unfold Rg.annVector Rg.annAt Rg.annHops Rg.annPath Rg.at'
  omega

theorem annRegs_internal : regMod (Rg.annVector i p) = 0 ∧ regMod (Rg.annAt i p) = 0 ∧ regMod (Rg.annHops i p) = 0 := by
  unfold Rg.annVector Rg.annAt Rg.annHops Rg.at'
  refine ⟨regMod_internal ?_, regMod_internal ?_, regMod_internal ?_⟩ <;> omega

theorem holding_holds :
    let t := s.holding i p v path
    t.get (Rg.annVector i p) = v + 1 ∧ t.get (Rg.annAt i p) = s.now ∧ t.get (Rg.annHops i p) = path.length := by
  obtain ⟨hva, hvh, hvp, hah, hap, hhp⟩ := annRegs_distinct i p
  obtain ⟨hvector, hat, hhops⟩ := annRegs_internal i p
  refine ⟨?_, ?_, ?_⟩
  · rw [State.holding, get_put_ne _ _ hvp, get_put_ne _ _ hvh, get_put_ne _ _ hva, get_put_self, hvector, Nat.mod_zero]
  · rw [State.holding, get_put_ne _ _ hap, get_put_ne _ _ hah, get_put_self, hat, Nat.mod_zero]
  · rw [State.holding, get_put_ne _ _ hhp, get_put_self, hhops, Nat.mod_zero]

/-- The registers of the Announce that a port holds. -/
def announceRegs : List Nat := [Rg.annVector i p, Rg.annAt i p, Rg.annHops i p, Rg.annPath i p]

theorem leavesRest_holding : leavesRest s (s.holding i p v path) (keysIn (announceRegs i p)) noCells := by
  rw [State.holding, ← run_seq, ← run_seq, ← run_seq]
  exact run_leavesRest _ s (by simp [keysIn, announceRegs])

end

theorem announceRegs_unsent {i p k : Nat} (hi : i < 2) (hp : p < 256) (h : sendingReg k) : ¬ keysIn (announceRegs i p) k := by
  simp only [keysIn, announceRegs, List.mem_cons, List.not_mem_nil, or_false]
  unfold sendingReg Rg.numberOf at h
  unfold Rg.annVector Rg.annAt Rg.annHops Rg.annPath Rg.at'
  omega

theorem announced_holding (s : State) {i p v : Nat} (hi : i < 2) (hp : p < 256) (path : List (BitVec 64))
    (hsends : s.sendsTime i p = true) : (s.holding i p v path).announced i p = some v := by
  obtain ⟨hvector, hat, -⟩ := holding_holds s i p v path
  have hagrees := agrees_of_leavesRest (leavesRest_holding s i p v path) fun k hk => announceRegs_unsent hi hp hk
  obtain ⟨-, -, hnow⟩ := id hagrees
  have hms : s.now < s.now + ms 3000 := by unfold ms; omega
  rw [State.announced, sendsTime_agrees hagrees hi hp, hsends, State.flag, hvector, hat, hnow, decide_eq_true hms]
  rfl

/-! ### The grandmaster is named, and the status is reviewed -/

/-- What follows the Announce may write. -/
def namedRegs (i : Nat) : List Nat := Key.grandmasterIdentity i :: holdoverRegs

theorem namedRegs_unread {i k : Nat} (hi : i < 2) (h : roleReg k) : ¬ keysIn (namedRegs i) k := by
  simp only [keysIn, namedRegs, holdoverRegs, List.mem_cons, List.not_mem_nil, or_false]
  unfold roleReg sendingReg Rg.numberOf at h
  unfold Key.grandmasterIdentity Key.timeStatus Key.syncLossEvents Rg.holdoverAt Rg.slewUp Rg.slewDown Key.frequencyAdjust Rg.at'
  omega

theorem leavesRest_named (s : State) (i p root : Nat) :
    leavesRest s (timeReview.run ((namesGrandmaster i p root).run s)) (keysIn (namedRegs i)) noCells := by
  refine run_leavesRest (.seq (namesGrandmaster i p root) timeReview) s ⟨fun _ => within_when fun _ => List.mem_cons_self, ?_⟩
  exact within_mono (fun k hk => List.mem_cons_of_mem _ hk) (fun _ _ => id) _ within_timeReview

theorem grandmasterIdentity_named {s : State} {i p root : Nat} (hi : i < 2) (hslave : s.gptpRole i p = 2) :
    (timeReview.run ((namesGrandmaster i p root).run s)).get (Key.grandmasterIdentity i) = leNat (beBytes 8 (root % 2 ^ 64)) := by
  have hkept : ¬ keysIn holdoverRegs (Key.grandmasterIdentity i) := by
    simp only [keysIn, holdoverRegs, List.mem_cons, List.not_mem_nil, or_false]
    unfold Key.grandmasterIdentity Key.timeStatus Key.syncLossEvents Rg.holdoverAt Rg.slewUp Rg.slewDown Key.frequencyAdjust Rg.at'
    omega
  obtain ⟨hregs, -⟩ := run_leavesRest timeReview ((namesGrandmaster i p root).run s) within_timeReview
  rw [hregs _ hkept, namesGrandmaster, run_dep, hslave, beq_self_eq_true, run_when_true, get_put_self, regMod_grandmasterIdentity hi,
    Nat.mod_eq_of_lt (leNat_beBytes_lt _)]

/-- The kept Announce: it is held, and the slave port's grandmaster is named. -/
theorem announceArrives_kept {s : State} {i p root steps source : Nat} {path : List (BitVec 64)} (hi : i < 2) (hp : p < 256)
    (hruns : s.instRuns i = true) (hpart : s.partOf i p = true) (hsends : s.sendsTime i p = true)
    (hother : announceOwn steps source path = false)
    (hkept : s.keepsAnnounce i p (priorityVector root steps source p) source = true) :
    let t := (announceArrives i p root steps source path).run s
    t.announced i p = some (priorityVector root steps source p) ∧ t.get (Rg.annHops i p) = path.length
      ∧ (t.gptpRole i p = 2 → t.get (Key.grandmasterIdentity i) = leNat (beBytes 8 (root % 2 ^ 64)))
      ∧ leavesRest s t (keysIn (announceRegs i p ++ namedRegs i)) noCells := by
  rw [run_announceArrives_kept hruns hpart hsends hother hkept]
  generalize priorityVector root steps source p = v
  have hheld := leavesRest_holding s i p v path
  obtain ⟨-, -, hhops⟩ := holding_holds s i p v path
  have hannounced := announced_holding s hi hp path hsends (v := v)
  generalize s.holding i p v path = m at *
  have hnamed := leavesRest_named m i p root
  have hagrees := agrees_of_leavesRest hnamed fun k hk => namedRegs_unread hi hk
  refine ⟨(announced_agrees hagrees hi hp).trans hannounced, ?_, fun hslave => ?_, ?_⟩
  · obtain ⟨hregs, -⟩ := hnamed
    obtain ⟨-, -, hread⟩ := roleReg_announce hi hp
    exact (hregs _ (namedRegs_unread hi hread)).trans hhops
  · rw [gptpRole_agrees hagrees hi hp] at hslave
    exact grandmasterIdentity_named hi hslave
  · exact leavesRest_trans (leavesRest_mono (fun k hk => List.mem_append_left _ hk) (fun _ _ => id) hheld)
      (leavesRest_mono (fun k hk => List.mem_append_right _ hk) (fun _ _ => id) hnamed)

end Sys2Proof.Machine
end

section
/-! PROOFS. What a gPTP domain sends in a sync interval (R202, R203, R208, R209). -/

namespace Sys2Proof.Machine

/-! ### Outputs in order -/

theorem outs_each {α : Type} {l : List α} {f : α → Act} {g : α → List Out} (h : ∀ x s, ((f x).run s).outs = s.outs ++ g x) (s : State) :
    ((Act.each l f).run s).outs = s.outs ++ l.flatMap g := by
  induction l generalizing s with
  | nil => rw [run_each_nil, List.flatMap_nil, List.append_nil]
  | cons x l ih => rw [run_each_cons, ih, h, List.flatMap_cons, List.append_assoc]

theorem outs_when {a : Act} {g : State → List Out} (h : ∀ s, (a.run s).outs = s.outs ++ g s) (c : Bool) (s : State) :
    ((Act.when c a).run s).outs = s.outs ++ if c then g s else [] := by
  cases c
  · rw [run_when_false, if_neg Bool.false_ne_true, List.append_nil]
  · rw [run_when_true, h, if_pos rfl]

/-! ### Sync, Follow_Up and Announce on the master ports -/

/-- The master ports of a domain that may send. -/
def State.masters (s : State) (i : Nat) : List Nat := (s.gptpPorts i 1).filter (s.emitsTime i)

theorem mem_masters {s : State} {i q : Nat} : q ∈ s.masters i ↔ q < 256 ∧ s.gptpRole i q = 1 ∧ s.emitsTime i q = true := by
  simp only [State.masters, State.gptpPorts, List.mem_filter, List.mem_range, beq_iff_eq, and_assoc]

theorem masters_agrees {u t : State} {i : Nat} (h : u.agrees roleReg t) (hi : i < 2) : t.masters i = u.masters i := by
  rw [State.masters, gptpPorts_agrees h hi, State.masters]
  refine List.filter_congr fun q hq => emitsTime_agrees (agrees_sending h) hi ?_
  exact List.mem_range.mp (List.mem_of_mem_filter hq)

/-- What a domain sends where it is the grandmaster. -/
def State.syncOuts (s : State) (i : Nat) : List Out :=
  (s.masters i).flatMap fun q =>
    [.gptp q gptpSync 0 [], .gptp q gptpFollowUp (s.vtime - ns (s.get (Key.egressLatency q))) followInfo]

theorem outs_sendTime (q v : Nat) (tlv : List Byte) (s : State) :
    ((sendTime q v tlv).run s).outs = s.outs ++ [.gptp q gptpSync 0 [], .gptp q gptpFollowUp v tlv] := by
  rw [sendTime, run_seq, run_emit_outs, run_emit_outs, List.append_assoc, List.singleton_append]

theorem outs_sendSync (i : Nat) (s : State) : ((sendSync i).run s).outs = s.outs ++ s.syncOuts i := by
  rw [sendSync, run_dep]
  exact outs_each (fun q s => outs_sendTime ..) s

/-- The path trace that a domain announces: that of its slave port, with the device behind it. -/
def State.pathTrace (s : State) (i : Nat) : List Byte :=
  (((List.range 256).find? fun p => s.gptpRole i p == 2).map fun p => beBytes (8 * s.get (Rg.annHops i p)) (s.get (Rg.annPath i p))).getD []
    ++ beBytes 8 ownClock

/-- What a domain announces. -/
def State.announceOuts (s : State) (i : Nat) : List Out :=
  (s.masters i).flatMap fun q =>
    [.gptp q gptpAnnounce (s.masterVector i q / 2 ^ 16) (beBytes 2 8 ++ beBytes 2 (s.pathTrace i).length ++ s.pathTrace i)]

theorem run_sendAnnounce (i : Nat) (s : State) : (sendAnnounce i).run s = (Act.each (s.masters i) fun q =>
    .emit (.gptp q gptpAnnounce (s.masterVector i q / 2 ^ 16) (beBytes 2 8 ++ beBytes 2 (s.pathTrace i).length ++ s.pathTrace i))).run
      ((Act.put (Rg.annSent i) (s.now + 1)).run s) := by
  rw [sendAnnounce, run_dep]
  dsimp only
  rw [run_seq, State.masters, State.pathTrace]

theorem outs_sendAnnounce (i : Nat) (s : State) : ((sendAnnounce i).run s).outs = s.outs ++ s.announceOuts i := by
  rw [run_sendAnnounce, outs_each (fun q s => run_emit_outs ..), run_put_outs, State.announceOuts]

theorem within_sendSync {ks : Nat → Prop} {cs : Gen → Nat → Prop} (i : Nat) : Within ks cs (sendSync i) :=
  fun _ => within_each fun _ _ => ⟨trivial, trivial⟩

theorem within_sendAnnounce (i : Nat) : Within (keysIn [Rg.annSent i]) noCells (sendAnnounce i) :=
  fun _ => ⟨List.mem_singleton_self _, within_each fun _ _ => trivial⟩

theorem get_sendAnnounce_annSent (i : Nat) (s : State) : ((sendAnnounce i).run s).get (Rg.annSent i) = s.now + 1 := by
  have hinternal : regMod (Rg.annSent i) = 0 := regMod_internal (by unfold Rg.annSent Rg.at'; omega)
  obtain ⟨hregs, -⟩ := run_leavesRest (ks := keysIn []) (cs := noCells) _ ((Act.put (Rg.annSent i) (s.now + 1)).run s)
    (within_each (l := s.masters i) fun q _ => within_emit (.gptp q gptpAnnounce (s.masterVector i q / 2 ^ 16)
      (beBytes 2 8 ++ beBytes 2 (s.pathTrace i).length ++ s.pathTrace i)))
  rw [run_sendAnnounce, hregs _ List.not_mem_nil, get_put_self, hinternal, Nat.mod_zero]

/-! ### A sync interval -/

/-- Whether an Announce is due: one second after the last. -/
def State.announceDue (s : State) (i : Nat) : Bool :=
  !s.flag (Rg.annSent i) || decide (s.get (Rg.annSent i) - 1 + ms 1000 ≤ s.now)

theorem run_transmitSync {s : State} {i : Nat} (hruns : s.instRuns i = true) : (transmitSync i).run s
    = (Act.when (s.isGrandmaster i && i == s.get Key.timeSourceInstance) (sendSync i)).run
      ((Act.when (s.announceDue i) (sendAnnounce i)).run s) := by
  rw [transmitSync, run_dep, hruns, run_when_true, run_seq, State.announceDue]

theorem run_transmitSync_off {s : State} {i : Nat} (hoff : s.instRuns i = false) : (transmitSync i).run s = s := by
  rw [transmitSync, run_dep, hoff, run_when_false]

theorem within_transmitSync (i : Nat) : Within (keysIn [Rg.annSent i]) noCells (transmitSync i) :=
  fun _ => within_when fun _ => ⟨within_when fun _ => within_sendAnnounce i, within_when fun _ => within_sendSync i⟩

theorem annSent_unread {i k : Nat} (h : roleReg k) : ¬ keysIn [Rg.annSent i] k := by
  simp only [keysIn, List.mem_singleton]
  unfold roleReg sendingReg Rg.numberOf at h
  unfold Rg.annSent Rg.at'
  omega

/-- What a grandmaster sends is the same behind an Announce. -/
theorem syncOuts_announced (s : State) {i : Nat} (hi : i < 2) (c : Bool) :
    ((Act.when c (sendAnnounce i)).run s).syncOuts i = s.syncOuts i := by
  have hrest := run_leavesRest _ s (within_when (c := c) fun _ => within_sendAnnounce i)
  have hmasters := masters_agrees (agrees_of_leavesRest hrest fun k hk => annSent_unread hk) hi
  obtain ⟨hregs, -, -, -, -, hvtime, -⟩ := hrest
  have hlatency : ∀ q, ¬ keysIn [Rg.annSent i] (Key.egressLatency q) := fun q => by
    simp only [keysIn, List.mem_singleton]
    unfold Key.egressLatency Rg.annSent Rg.at'
    omega
  simp only [State.syncOuts, hmasters, hvtime, hregs _ (hlatency _)]

theorem outs_transmitSync {s : State} {i : Nat} (hi : i < 2) (hruns : s.instRuns i = true) : ((transmitSync i).run s).outs
    = (s.outs ++ if s.announceDue i then s.announceOuts i else [])
      ++ if s.isGrandmaster i && i == s.get Key.timeSourceInstance then s.syncOuts i else [] := by
  rw [run_transmitSync hruns, outs_when (outs_sendSync i), outs_when (outs_sendAnnounce i), syncOuts_announced _ hi]

theorem instRuns_of_isGrandmaster {s : State} {i : Nat} (h : s.isGrandmaster i = true) : s.instRuns i = true := by
  simp only [State.isGrandmaster, Bool.and_eq_true] at h
  obtain ⟨⟨hruns, -⟩, -⟩ := h
  exact hruns

theorem transmitSync_grandmaster {s : State} {i : Nat} (hi : i < 2) (hbest : s.isGrandmaster i = true)
    (hsource : i = s.get Key.timeSourceInstance) {q : Nat} (hq : q < 256) (hmaster : s.gptpRole i q = 1) (hemits : s.emitsTime i q = true) :
    Out.gptp q gptpSync 0 [] ∈ ((transmitSync i).run s).outs
      ∧ Out.gptp q gptpFollowUp (s.vtime - ns (s.get (Key.egressLatency q))) followInfo ∈ ((transmitSync i).run s).outs := by
  have hsends : (s.isGrandmaster i && i == s.get Key.timeSourceInstance) = true := by rw [hbest, ← hsource, beq_self_eq_true]; rfl
  have hport : q ∈ s.masters i := mem_masters.mpr ⟨hq, hmaster, hemits⟩
  rw [outs_transmitSync hi (instRuns_of_isGrandmaster hbest), hsends, if_pos rfl]
  refine ⟨List.mem_append_right _ (List.mem_flatMap.mpr ⟨q, hport, ?_⟩), List.mem_append_right _ (List.mem_flatMap.mpr ⟨q, hport, ?_⟩)⟩
  · exact List.mem_cons_self
  · exact List.mem_cons_of_mem _ List.mem_cons_self

theorem transmitSync_other {s : State} {i : Nat} (hi : i < 2) (hquiet : s.outs = []) (hother : i ≠ s.get Key.timeSourceInstance) (q v : Nat)
    (tlv : List Byte) : Out.gptp q gptpSync v tlv ∉ ((transmitSync i).run s).outs := by
  cases hruns : s.instRuns i with
  | false =>
    rw [run_transmitSync_off hruns, hquiet]
    exact List.not_mem_nil
  | true =>
    have hsends : (s.isGrandmaster i && i == s.get Key.timeSourceInstance) = false := by
      rw [beq_eq_false_iff_ne.mpr hother, Bool.and_false]
    rw [outs_transmitSync hi hruns, hsends, hquiet, if_neg Bool.false_ne_true, List.append_nil, List.nil_append]
    intro hmem
    split at hmem
    · obtain ⟨x, -, hx⟩ := List.mem_flatMap.mp hmem
      exact absurd (List.mem_singleton.mp hx) (by simp [gptpSync, gptpAnnounce])
    · exact absurd hmem List.not_mem_nil

theorem transmitSync_announces {s : State} {i : Nat} (hi : i < 2) (hruns : s.instRuns i = true) (hdue : s.announceDue i = true) :
    ((transmitSync i).run s).get (Rg.annSent i) = s.now + 1 ∧ ∀ q < 256, s.gptpRole i q = 1 → s.emitsTime i q = true →
      ∃ path, Out.gptp q gptpAnnounce (s.masterVector i q / 2 ^ 16) path ∈ ((transmitSync i).run s).outs := by
  refine ⟨?_, fun q hq hmaster hemits => ?_⟩
  · rw [run_transmitSync hruns, hdue, run_when_true]
    obtain ⟨hregs, -⟩ := run_leavesRest (ks := keysIn []) (cs := noCells) _ ((sendAnnounce i).run s)
      (within_when (c := s.isGrandmaster i && i == s.get Key.timeSourceInstance) fun _ => within_sendSync i)
    rw [hregs _ List.not_mem_nil, get_sendAnnounce_annSent]
  · rw [outs_transmitSync hi hruns, hdue, if_pos rfl]
    exact ⟨_, List.mem_append_left _ (List.mem_append_right _ (List.mem_flatMap.mpr ⟨q, mem_masters.mpr ⟨hq, hmaster, hemits⟩,
      List.mem_cons_self⟩))⟩

end Sys2Proof.Machine
end

section
/-! PROOFS. Time status and gPTP messages (R202, R203, R205, R206, R209). -/

namespace Sys2Proof.Machine

/-! ### Messages -/

section
variable {s : State} {i p : Nat} (hpart : s.takesPart p = true) (hopen : s.get (Rg.isolated p) = 0)
include hpart hopen

theorem gptpArrives_followUp (tlv : BitVec 256) (hslave : s.gptpRole i p = 2) :
    let t := (gptpArrives i p (.followUp tlv)).run s
    t.get (Rg.followTlv i) = tlv.toNat + 1 ∧ leavesRest s t (keysIn [Rg.followTlv i]) noCells := by
  have hinternal : regMod (Rg.followTlv i) = 0 := regMod_internal (by unfold Rg.followTlv Rg.at'; omega)
  have hrun : (gptpArrives i p (.followUp tlv)).run s = (Act.put (Rg.followTlv i) (tlv.toNat + 1)).run s := by
    rw [run_gptpArrives_taken hpart (.inr hopen), State.messageTaken, hslave, beq_self_eq_true, run_when_true]
  rw [hrun]
  exact ⟨by rw [get_put_self, hinternal, Nat.mod_zero], run_leavesRest (.put _ _) s (List.mem_singleton_self _)⟩

theorem gptpArrives_capable :
    let t := (gptpArrives i p (.signaling true)).run s
    t.get (Rg.neighborAt i p) = s.now + 1 ∧ leavesRest s t (keysIn [Rg.neighborAt i p]) noCells := by
  have hinternal : regMod (Rg.neighborAt i p) = 0 := regMod_internal (by unfold Rg.neighborAt Rg.at'; omega)
  have hrun : (gptpArrives i p (.signaling true)).run s = (Act.put (Rg.neighborAt i p) (s.now + 1)).run s := by
    rw [run_gptpArrives_taken hpart (.inr hopen), State.messageTaken, run_when_true]
  rw [hrun]
  exact ⟨by rw [get_put_self, hinternal, Nat.mod_zero], run_leavesRest (.put _ _) s (List.mem_singleton_self _)⟩

end

/-- The grandmaster's identity is the last part of its system identity. -/
theorem systemIdentity_clock (n : Nat) (gm : BitVec 64) : (n * 2 ^ 64 + gm.toNat) % 2 ^ 64 = gm.toNat := by
  have hlt := gm.isLt
  omega

/-- Settles O39: the events are changes of TimeStatus; each message that is taken is one act; and an Announce that is held, and what a
domain sends, leave the roles of the ports as what follows them finds them. -/
theorem timeFollowsEventsAndMessages : Obligations.TimeFollowsEventsAndMessages := by
  refine ⟨fun s dt hpower => ⟨fun hlocked hdue => ?timeout, fun hholdover hdue => ?expiry, fun hbest hother => ?grandmaster⟩,
    fun s dt i p hpower => ⟨fun hisolated => ⟨fun m hm => ?noMessage, ?noRequest⟩, fun hpart hopen => ?request, fun hpart => ?lost,
      fun hpart hopen => ⟨?answer, fun t1 t2 t3 t4 => ?measurement, fun tlv hslave => ?followUp, ?signaling,
        fun p1 quality p2 gm steps source path => ⟨fun hown => ?own, fun hown hruns hmember hsends hkept => ?kept⟩⟩,
      fun hbest hsource => ?sync, fun hother => ?noSync, fun hruns hdue => ?announce⟩⟩
  all_goals refine runs_powered rfl hpower ?_
  case timeout =>
    rw [run_syncLost hlocked hdue]
    obtain ⟨hstatus, hlost, hat, hfrequency, hup, hdown⟩ := timeStatusTo_holdover (s := s.after dt) (by rw [hlocked]; decide)
    exact ⟨hstatus, hlost, hat, hfrequency, hup, hdown, run_leavesRest _ _ within_timeStatusTo_holdover⟩
  case expiry =>
    rw [run_holdoverEnds hholdover hdue]
    exact ⟨timeStatusTo_expired (by rw [hholdover]; decide), run_leavesRest _ _ (within_timeStatusTo_plain (by decide) (by decide))⟩
  case grandmaster =>
    obtain ⟨hstatus, hfrequency, hup, hdown, hnamed⟩ := grandmasterEnters_enters hbest hother
    exact ⟨hstatus, hfrequency, hup, hdown, hnamed, leavesRest_grandmasterEnters hbest hother⟩
  case noMessage =>
    rw [run_gptpArrives_isolated (overLine_of_ne hm) hisolated]
    exact ⟨after_outs .., leavesRest_refl⟩
  case noRequest =>
    rw [run_requestDelay_isolated hisolated]
    exact ⟨after_outs .., leavesRest_refl⟩
  case request =>
    rw [run_requestDelay hpart hopen, run_emit_outs, after_outs, List.nil_append]
    exact ⟨rfl, run_leavesRest (.emit _) _ trivial⟩
  case lost =>
    rw [run_gptpArrives_taken hpart (.inl rfl)]
    exact missDelay_counts _ _
  case answer =>
    rw [run_gptpArrives_taken hpart (.inr hopen)]
    obtain ⟨d, houts⟩ := outs_answerDelay (s.after dt) p.val
    rw [after_outs, List.nil_append] at houts
    exact ⟨⟨d, houts⟩, run_leavesRest _ _ (within_answerDelay _)⟩
  case measurement =>
    rw [run_gptpArrives_taken hpart (.inr hopen)]
    exact measureDelay_measures _ p.isLt t1 t2 t3 t4
  case followUp => exact gptpArrives_followUp hpart hopen tlv hslave
  case signaling => exact gptpArrives_capable hpart hopen
  case own =>
    rw [run_gptpArrives_taken hpart (.inr hopen), State.messageTaken, run_announceArrives_own (announceOwn_iff.mpr hown)]
    exact leavesRest_refl
  case kept =>
    rw [run_gptpArrives_taken hpart (.inr hopen), State.messageTaken]
    obtain ⟨hheld, hhops, hnamed, hrest⟩ := announceArrives_kept i.isLt p.isLt hruns hmember hsends
      (Bool.eq_false_iff.mpr fun h => hown (announceOwn_iff.mp h)) (keepsAnnounce_iff.mpr hkept)
    rw [systemIdentity_clock] at hnamed
    exact ⟨hheld, hhops, hnamed, hrest⟩
  case sync =>
    exact ⟨fun q hq hmaster hemits => transmitSync_grandmaster i.isLt hbest hsource hq hmaster hemits,
      run_leavesRest _ _ (within_transmitSync _)⟩
  case noSync => exact ⟨transmitSync_other i.isLt (after_outs ..) hother, run_leavesRest _ _ (within_transmitSync _)⟩
  case announce => exact transmitSync_announces i.isLt hruns (by simpa [State.announceDue, State.flag] using hdue)

end Sys2Proof.Machine
end

section
/-! PROOFS. The shut-down of a gateway channel (R282) while a queue is out of shape. -/

namespace Sys2Proof.Machine

/-- Port 208 is Up with its gateway channel Enabled, and its queue holds the stray copy. -/
def channelBesideStray : State := (Act.put (Key.gatewayChannelState 208) 2).run strayQueue

/-- The state is sound: soundness does not speak of the queues. -/
theorem channelBesideStray_sound : channelBesideStray.sound = true := sound_run _ _ strayQueue_sound

theorem channelBesideStray_enabled : (channelBesideStray.facing 0 .safety).admits .safety (0x200A + 16 * 208) 1 = true
    ∧ (channelBesideStray.facing 0 .safety).get (Key.gatewayChannelState 208) = 2 := by decide +kernel

theorem strayLost_shutDown : strayLost (channelBesideStray.facing 0 .safety)
    ((scalarWrite .safety (0x200A + 16 * 208) 1 0).run (channelBesideStray.after 0)) 6 := by
  unfold strayLost
  decide +kernel

/-- Refutes O40: a write of 0 to GatewayChannelEnable releases the stray copy, and its failure counts outside of what forwarding may write.
The statement takes any queue. -/
theorem not_streamsAndChannelsAreSwitched : ¬ Obligations.StreamsAndChannelsAreSwitched := by
  rintro ⟨-, hchannel, -⟩
  obtain ⟨hadmits, henabled⟩ := channelBesideStray_enabled
  obtain ⟨-, -, hshut⟩ := hchannel channelBesideStray 0 .safety 208 false hadmits
  obtain ⟨-, -, -, -, hframe⟩ := of_runs rfl (hshut henabled)
  exact not_forwardsOnly_of_strayLost (by decide) id strayLost_shutDown hframe

end Sys2Proof.Machine
end

section
/-! PROOFS. The decision of a frame of a stream (R237 to R248) that has come by no port. -/

namespace Sys2Proof.Machine

/-! ### Frame 0 takes the first slot of pipeline 0 -/

section
variable (s : State) (f : Frame)

/-- The state once the octets that complete the frame's lookahead are stored. -/
def State.lookedAt : State := notePeak.run ((setFrame 0 fun _ => f).run s)

/-- The state once the frame is noted as traffic as well (R370). -/
def State.notedAt : State := (noteTraffic f.port f f.parse).run (s.lookedAt f)

/-- The free time until which the frame then holds its slot. -/
def State.holdAt : Nat := (s.notedAt f).now + (0 + Config.freeValue (s.notedAt f).free % (slotHold + 1 - 0))

/-- The state in which it has that slot, with the time listed. -/
def State.slottedAt : State :=
  let t := Act.drawn.run (s.notedAt f)
  { t with regs := Store.insert (Rg.slotUntil 0 0) (s.holdAt f % regMod (Rg.slotUntil 0 0)) (Store.erase (Rg.slotUntil 0 0) t.regs) }

variable {s f}

theorem holdAt_listed (h : 0 < (s.notedAt f).now) : s.holdAt f % regMod (Rg.slotUntil 0 0) ≠ regDefault (Rg.slotUntil 0 0) := by
  rw [show regMod (Rg.slotUntil 0 0) = 0 from by decide, show regDefault (Rg.slotUntil 0 0) = 0 from by decide, Nat.mod_zero]
  unfold State.holdAt
  omega

/-- A frame whose octets have all come before, and that no SecY checks, is decided in the first slot of pipeline 0 where that is free. -/
theorem run_look_slotted (hlook : s.arriving 0 f f) (hframe? : (s.lookedAt f).frame? 0 = some f)
    (hsecy : (s.lookedAt f).secyValidates f.port = 0) (hserved : (s.lookedAt f).servedBy ((s.lookedAt f).genOf f.tag) f.port = some 0)
    (hslot : (List.range 64).find? (fun j => decide ((s.notedAt f).get (Rg.slotUntil 0 j) ≤ (s.notedAt f).now)) = some 0)
    (hnow : 0 < (s.notedAt f).now) :
    (look 0 []).run s = (decisionBy 0 f).run ((Act.put (Rg.slotFrame 0 0) 1).run (s.slottedAt f)) := by
  have hfirst : f.second = false ∧ f.secured = false := by
    obtain ⟨-, -, -, -, -, hsecond, hsecured, -⟩ := hlook
    exact ⟨hsecond, hsecured⟩
  calc (look 0 []).run s
      = (decideFrame 0).run (s.lookedAt f) := run_look_decides (by rw [List.append_nil]) hlook
    _ = (takeSlot 0 0 (decisionBy 0 f) (discardFrame f false)).run (s.notedAt f) :=
        run_decideFrame_served hframe? hfirst.1 hfirst.2 hsecy hserved
    _ = (decisionBy 0 f).run ((Act.put (Rg.slotFrame 0 0) 1).run
          ((Act.put (Rg.slotUntil 0 0) (s.holdAt f)).run (Act.drawn.run (s.notedAt f)))) := by
        rw [run_takeSlot_granted hslot, run_drawIn, run_all_cons, run_all_cons, run_all_cons, run_all_nil, State.holdAt]
    _ = (decisionBy 0 f).run ((Act.put (Rg.slotFrame 0 0) 1).run (s.slottedAt f)) := by
        rw [run_put_listed (holdAt_listed hnow), State.slottedAt]

end

/-! ### The frame on no port, in a stream -/

/-- The frame's key under method 1: destination 0 and the PVID 1 (R238). -/
def unportedKey : List Byte := beBytes 6 0 ++ beBytes 2 1 ++ List.replicate 40 0

/-- The first row of its bucket (R239). -/
def unportedRow : Nat := 4 * (crc32c (1 :: unportedKey) % 2 ^ 11)

/-- In the state of `switchingUnported`, method 1 takes the frame to stream 9. -/
def streamingUnported : State :=
  (Act.all [Act.setF .fair 0xF075 (2 ^ 20) F.sportMethods 1, Act.setF .fair 0xF070 unportedRow F.sidKey (leNat unportedKey),
    Act.setF .fair 0xF070 unportedRow F.sidMethod 1, Act.setF .fair 0xF070 unportedRow F.sidValid 1,
    Act.setF .fair 0xF070 unportedRow F.sidHandle 9, Act.setF .fair 0xF071 9 F.ctxValid 1]).run switchingUnported

/-- The state is sound: soundness does not speak of the fabric. -/
theorem streamingUnported_sound : streamingUnported.sound = true := sound_run _ _ switchingUnported_sound

/-- The state in which the frame is decided, one unit of time later. -/
def filteringUnported : State := streamingUnported.after 1

theorem filteringUnported_decides : filteringUnported.decides 0 unportedEthernet unportedEthernet :=
  ⟨by unfold State.arriving; decide +kernel, by decide +kernel, 0, by decide +kernel, 0, by decide +kernel, by decide +kernel⟩

/-- Its verdict forwards it, and it is of stream 9. -/
theorem filteringUnported_identifies :
    let u := filteringUnported
    let v := classify u unportedEthernet unportedEthernet.parse
    v.builtIn = none ∧ dropsFrame v.actions = false
      ∧ identify u (u.genOf unportedEthernet.tag) unportedEthernet unportedEthernet.parse = some 9 := by decide +kernel

theorem run_look_filtering : (look 0 []).run filteringUnported
    = (decisionBy 0 unportedEthernet).run ((Act.put (Rg.slotFrame 0 0) 1).run (filteringUnported.slottedAt unportedEthernet)) :=
  run_look_slotted filteringUnported_decides.1 (by decide +kernel) (by decide +kernel) (by decide +kernel) (by decide +kernel)
    (by decide +kernel)

/-- R370's note of the frame's port lands in the verdict of the commit checks (R43), whatever time the slot is held. -/
theorem verdict_filtering : ((powered (reselect (look 0 []))).run filteringUnported).get (Rg.verdict 0) = 2 := by
  have hpower : filteringUnported.operates = true := by decide +kernel
  simp only [powered, reselect, run_dep, hpower, run_when_true, run_seq, run_look_filtering]
  decide +kernel

/-- Refutes O35: a frame on no port whose stream is valid is noted as traffic in a register that forwarding never writes. The statement
takes any frame. -/
theorem not_streamsAreFiltered : ¬ Obligations.StreamsAreFiltered := by
  rintro ⟨-, -, -, -, hdecision⟩
  obtain ⟨hbuiltIn, hforwards, hstream⟩ := filteringUnported_identifies
  obtain ⟨-, ⟨hregs, -⟩, -⟩ := of_runs rfl
    (hdecision streamingUnported 1 0 [] unportedEthernet 9 filteringUnported_decides hbuiltIn hforwards hstream)
  have hkept := hregs (Rg.verdict 0) (by simp [keysIn]) (by decide)
  rw [after_get _ _ (by decide) (by decide)] at hkept
  exact absurd (verdict_filtering.symm.trans hkept) (by decide +kernel)

end Sys2Proof.Machine
end

section
/-! PROOFS. What sets counters to 0 and empties logs and tables, and the commands that do no more (R59 to R62, R124, R162, R197, R198, R230
to R232, R262 to R264, R280, R290, R291, R323, R371, R388). -/

namespace Sys2Proof.Machine

/-! ### The write of a clearing command -/

/-- Whether subindex `sub` of a template holds commands and nothing else, under every attachment kind. -/
def holdsCommand (t sub : Nat) : Bool :=
  !byKindGroup t && (objectsAt t).all fun o => !(decide (o.lo ≤ sub) && decide (sub ≤ o.hi)) || isCommand o

section
variable {u : State} {idx sub t p : Nat} (ht : template idx = (t, p)) (hc : holdsCommand t sub = true)
include ht hc

theorem isCommand_of_holdsCommand {o : Obj} (h : u.objAt idx sub = some o) : isCommand o = true := by
  simp only [holdsCommand, Bool.and_eq_true, Bool.not_eq_true', List.all_eq_true] at hc
  simp only [State.objAt, ht, hc.1] at h
  have hplace := List.find?_some h
  have hcommand := hc.2 o (List.mem_of_find?_eq_some h)
  simp only [Bool.and_eq_true, decide_eq_true_eq] at hplace
  simpa [hplace.1.1, hplace.1.2] using hcommand

theorem keyAt_of_holdsCommand : u.keyAt idx sub = idx * 256 + sub := by
  simp only [holdsCommand, Bool.and_eq_true, Bool.not_eq_true'] at hc
  simp only [State.keyAt, ht, hc.1, Bool.false_eq_true, if_false]

/-- A command that always runs one act does so in a state in which only its object and the clamp counters may have changed. -/
theorem runs_done {c : Instr} {s : State} {dt : Nat} {path : Path} {slot : Nat} {a : Act} {P : State → Prop}
    (hexec : exec c s = command dt (scalarWrite path idx sub slot) s) (hi : idx < 2 ^ 16) (hs : sub < 2 ^ 8)
    (hrun : ∀ u x, runCommand u path idx sub x = .done a) (ha : (s.facing dt path).admits path idx sub = true)
    (hP : ∀ w, leavesRest (s.facing dt path) w (keysIn [idx * 256 + sub]) clampCells → P ((Act.answer 0 []).run (a.run w))) :
    Runs c s P := by
  obtain ⟨x, clamps, hw⟩ := writeScalarAt_command slot ha (fun _ => isCommand_of_holdsCommand ht hc) (keyAt_of_holdsCommand ht hc)
  rw [hrun] at hw
  refine ⟨_, hexec.trans ((command_scalarWrite ..).trans (congrArg (fun r => Host.Outcome.next (r.act.run (s.facing dt path))) hw)), ?_⟩
  exact hP _ (run_leavesRest (.seq (Act.when clamps (countClamp idx sub)) (.put (idx * 256 + sub) 0)) _
    ⟨within_when fun _ => within_countClamp_cells hi hs, List.mem_singleton.mpr rfl⟩)

end

/-! ### Acts that only clear -/

/-- The act sets the registers `ks` to 0 and the live octets `cs` to their defaults, and does no more. -/
structure Empties (a : Act) (ks : List Nat) (cs : Nat → Prop) : Prop where
  zero : ∀ s, ∀ k ∈ ks, (a.run s).get k = 0
  empty : ∀ s o, cs o → (a.run s).octet .live o = octetDefault o
  within : Within (keysIn ks) (fun g o => g = .live ∧ cs o) a

/-- No octet. -/
def noOctets : Nat → Prop := fun _ => False

/-- The octets of a table. -/
def tableOctets (idx : Nat) : Nat → Prop := fun o => o / 2 ^ 36 = idx

section
variable {a b : Act} {ks ks' : List Nat} {cs cs' : Nat → Prop} {idx lo hi k : Nat}

theorem empties_skip : Empties .skip [] noOctets := ⟨fun _ _ h => absurd h List.not_mem_nil, fun _ _ h => h.elim, trivial⟩

theorem empties_put : Empties (.put k 0) [k] noOctets where
  zero s j hj := by rw [List.mem_singleton.mp hj, get_put_self, Nat.zero_mod]
  empty _ _ h := h.elim
  within := List.mem_singleton.mpr rfl

/-- What either of two acts clears, and neither fills again. -/
theorem Empties.seq (ha : Empties a ks cs) (hb : Empties b ks' cs') : Empties (.seq a b) (ks ++ ks') (fun o => cs o ∨ cs' o) where
  zero s k hk := by
    by_cases hk' : k ∈ ks'
    · exact hb.zero _ k hk'
    · obtain ⟨hregs, -⟩ := run_leavesRest b (a.run s) hb.within
      exact (hregs k hk').trans (ha.zero s k ((List.mem_append.mp hk).resolve_right hk'))
  empty s o ho := by
    by_cases ho' : cs' o
    · exact hb.empty _ o ho'
    · obtain ⟨-, hcells, -⟩ := run_leavesRest b (a.run s) hb.within
      exact (hcells .live o fun h => ho' h.2).trans (ha.empty s o (ho.resolve_right ho'))
  within := ⟨within_mono (fun _ h => List.mem_append_left _ h) (fun _ _ h => ⟨h.1, .inl h.2⟩) _ ha.within,
    within_mono (fun _ h => List.mem_append_right _ h) (fun _ _ h => ⟨h.1, .inr h.2⟩) _ hb.within⟩

theorem Empties.congr (h : Empties a ks cs) (hk : ∀ k, k ∈ ks ↔ k ∈ ks') (hc : ∀ o, cs o ↔ cs' o) : Empties a ks' cs' where
  zero s k hk' := h.zero s k ((hk k).mpr hk')
  empty s o ho := h.empty s o ((hc o).mpr ho)
  within := within_mono (fun k => (hk k).mp) (fun _ o ho => ⟨ho.1, (hc o).mp ho.2⟩) _ h.within

theorem empties_zero (ks : List Nat) : Empties (Act.zero ks) ks noOctets where
  zero s _ h := get_zero_mem s h
  empty _ _ h := h.elim
  within := within_zero fun _ h => h

theorem each_put_zero {α : Type} (l : List α) (f : α → Nat) : (Act.each l fun x => .put (f x) 0) = Act.zero (l.map f) := by
  simp only [Act.zero, Act.each, List.map_map]
  rfl

theorem empties_zeroSpan : Empties (zeroSpan idx lo hi) (spanKeys idx lo hi) noOctets := by
  rw [zeroSpan, each_put_zero]
  exact empties_zero _

theorem empties_clearTable (idx : Nat) (p : Nat → Bool) :
    Empties (Act.clearTable .live idx p) [] (fun o => tableOctets idx o ∧ p (o / 2 ^ 12 % 2 ^ 24) = true) where
  zero _ _ h := absurd h List.not_mem_nil
  empty s o h := by
    obtain ⟨htable, hp⟩ := h
    have hdropped : (!(o / 2 ^ 36 == idx && p (o / 2 ^ 12 % 2 ^ 24))) = false := by
      rw [show o / 2 ^ 36 = idx from htable, hp, beq_self_eq_true]
      rfl
    exact Store.get_filter_dropped _ _ (fun o => !(o / 2 ^ 36 == idx && p (o / 2 ^ 12 % 2 ^ 24))) hdropped
  within o := by
    by_cases h : tableOctets idx o ∧ p (o / 2 ^ 12 % 2 ^ 24) = true
    · exact .inl ⟨rfl, h⟩
    · refine .inr ?_
      simp only [Bool.not_eq_true', Bool.and_eq_false_iff, beq_eq_false_iff_ne]
      exact (not_and_or.mp h).imp_right Bool.eq_false_of_not_eq_true

theorem empties_wholeTable (idx : Nat) : Empties (Act.clearTable .live idx) [] (tableOctets idx) :=
  (empties_clearTable idx fun _ => true).congr (fun _ => Iff.rfl) fun _ => and_iff_left rfl

/-- A log that is emptied. -/
theorem empties_emptyLog (idx count overflow : Nat) : Empties (emptyLog idx count overflow) [count, overflow] (tableOctets idx) :=
  ((empties_wholeTable idx).seq (empties_put.seq (empties_put.seq empties_skip))).congr (fun _ => Iff.rfl)
    fun _ => by simp [noOctets]

end

/-! ### Commands that only clear -/

/-- From `u` to `t` a command has set the registers `ks` to 0 and the live octets `cs` to their defaults; beside these only its own object,
under `key`, and the clamp counters may have changed. -/
def State.cleared (u : State) (key : Nat) (ks : List Nat) (cs : Nat → Prop) (t : State) : Prop :=
  t.status = 0 ∧ (∀ k ∈ ks, t.get k = 0) ∧ (∀ o, cs o → t.octet .live o = octetDefault o)
    ∧ leavesRest u t (keysIn (key :: ks)) (bothCells (fun g o => g = .live ∧ cs o) clampCells)

theorem Empties.cleared {a : Act} {ks : List Nat} {cs : Nat → Prop} (h : Empties a ks cs) {u w : State} {key : Nat}
    (hw : leavesRest u w (keysIn [key]) clampCells) : u.cleared key ks cs ((Act.answer 0 []).run (a.run w)) :=
  ⟨rfl, fun k hk => h.zero w k hk, fun o ho => h.empty w o ho,
    leavesRest_trans (leavesRest_mono (fun _ hk => List.mem_cons.mpr (.inl (List.mem_singleton.mp hk))) (fun _ _ => .inr) hw)
      (leavesRest_trans (leavesRest_mono (fun _ => List.mem_cons_of_mem _) (fun _ _ => .inl) (run_leavesRest a w h.within))
        (leavesRest_answered _ _ _))⟩

/-- A command that only clears. -/
theorem runs_empties {c : Instr} {s : State} {dt : Nat} {path : Path} {idx sub slot t p : Nat} {a : Act} {ks : List Nat} {cs : Nat → Prop}
    (hexec : exec c s = command dt (scalarWrite path idx sub slot) s) (ht : template idx = (t, p)) (hc : holdsCommand t sub = true)
    (hi : idx < 2 ^ 16) (hs : sub < 2 ^ 8) (hrun : ∀ u x, runCommand u path idx sub x = .done a) (h : Empties a ks cs)
    (ha : (s.facing dt path).admits path idx sub = true) :
    Runs c s ((s.facing dt path).cleared ((s.facing dt path).keyAt idx sub) ks cs) := by
  rw [keyAt_of_holdsCommand ht hc]
  exact runs_done ht hc hexec hi hs hrun ha fun _ hw => h.cleared hw

/-! ### The spans -/

theorem empties_clearClassifier : Empties clearClassifier (spanKeys 0x4000 6 6 ++ spanKeys 0x4000 9 17)
    (fun o => tableOctets 0xF049 o ∨ tableOctets 0xF04A o) :=
  (empties_zeroSpan.seq (empties_zeroSpan.seq ((empties_wholeTable _).seq ((empties_wholeTable _).seq empties_skip)))).congr
    (fun _ => Iff.rfl) fun _ => by simp [noOctets]

theorem empties_clearQueues (p : Nat) :
    Empties (clearQueues p) (spanKeys (0x2003 + 16 * p) 25 40 ++ spanKeys (0x2003 + 16 * p) 42 43) noOctets :=
  (empties_zeroSpan.seq empties_zeroSpan).congr (fun _ => Iff.rfl) fun _ => by simp [noOctets]

theorem empties_clearSampling (p : Nat) : Empties (clearSampling p)
    (spanKeys (0x2007 + 16 * p) 1 16 ++ Key.unadmittedRemovals p :: (List.range 8).map (Rg.sampled p))
    (fun o => tableOctets 0xF07B o ∧ o / 2 ^ 12 % 2 ^ 24 / 8 = p) := by
  rw [clearSampling, each_put_zero]
  exact (empties_zeroSpan.seq (empties_put.seq ((empties_clearTable 0xF07B fun r => r / 8 == p).seq
    ((empties_zero ((List.range 8).map (Rg.sampled p))).seq empties_skip)))).congr (fun _ => by simp) fun _ => by simp [noOctets]

theorem empties_clearGateway : Empties clearGateway (spanKeys 0x7000 2 3 ++ spanKeys 0x7000 8 9 ++ [Key.gatewayResidenceMax])
    (tableOctets 0xF083) :=
  (empties_zeroSpan.seq (empties_zeroSpan.seq (empties_put.seq ((empties_wholeTable _).seq empties_skip)))).congr
    (fun _ => by simp) fun _ => by simp [noOctets]

/-! ### Fields of rows -/

/-- Two fields of a row have no octet in common. -/
def Fld.disjoint (f f' : Fld) : Bool := decide (f.first + f.span ≤ f'.first) || decide (f'.first + f'.span ≤ f.first)

section
variable {idx k : Nat} {f f' : Fld}

theorem fld_setF_kept (s : State) {row : Nat} (v : Nat) (h : k ≠ row ∨ f.disjoint f' = true) (hf : f.first + f.span ≤ 4096)
    (hf' : f'.first + f'.span ≤ 4096) : ((Act.setF .live idx row f' v).run s).fld .live idx k f = s.fld .live idx k f := by
  by_cases hrow : k = row
  · subst hrow
    exact fld_setF_apart s .live idx k f' f v (by simpa [Fld.disjoint] using h)
  · exact fld_setF_row s .live idx row k f' f v hrow hf' hf

/-- What a loop sets to 0 of a field, where each turn sets it to 0 or leaves it. -/
theorem fld_each_zero {α : Type} {P : α → Prop} [DecidablePred P] {B : α → Act}
    (h : ∀ x s, ((B x).run s).fld .live idx k f = if P x then 0 else s.fld .live idx k f) (l : List α) (s : State) :
    ((Act.each l B).run s).fld .live idx k f = if ∃ x ∈ l, P x then 0 else s.fld .live idx k f := by
  induction l generalizing s with
  | nil => simp
  | cons x l ih =>
    rw [run_each_cons, ih, h]
    by_cases hx : P x <;> simp [hx]

variable {fs : List Fld} (hfs : ∀ f' ∈ fs, (f' = f ∨ f.disjoint f' = true) ∧ f'.first + f'.span ≤ 4096)
  (hf : f.first + f.span ≤ 4096)
include hfs hf

/-- A row of which some fields are set to 0. -/
theorem fld_zeroRow (row : Nat) (s : State) : ((Act.each fs fun f => Act.setF .live idx row f 0).run s).fld .live idx k f
    = if k = row ∧ f ∈ fs then 0 else s.fld .live idx k f := by
  have hturn : ∀ f' ∈ fs, ∀ s, ((Act.setF .live idx row f' 0).run s).fld .live idx k f
      = if k = row ∧ f' = f then 0 else s.fld .live idx k f := by
    intro f' hf' s
    obtain ⟨hsame, hfit⟩ := hfs f' hf'
    split
    next h =>
      obtain ⟨rfl, rfl⟩ := h
      rw [fld_setF_self, Nat.zero_mod]
    next h => exact fld_setF_kept s 0 (by tauto) hf hfit
  clear hfs
  induction fs generalizing s with
  | nil => simp
  | cons f' fs ih =>
    rw [run_each_cons, ih _ fun g hg => hturn g (List.mem_cons_of_mem _ hg), hturn f' List.mem_cons_self]
    by_cases hrow : k = row
    · by_cases hsame : f = f'
      · simp [hrow, hsame]
      · simp [hrow, hsame, Ne.symm hsame]
    · simp [hrow]

/-- The listed rows hold all that such a table counts. -/
theorem fld_zeroFields (he : emptyTable idx) (hk : k < 2 ^ 24) (s : State) :
    ((zeroFields idx fs).run s).fld .live idx k f = if f ∈ fs then 0 else s.fld .live idx k f := by
  have hrows : ((zeroFields idx fs).run s).fld .live idx k f
      = if ∃ r ∈ s.listedRows .live idx, k = r ∧ f ∈ fs then 0 else s.fld .live idx k f :=
    fld_each_zero (fun r => fld_zeroRow hfs hf r) _ s
  rw [hrows]
  by_cases hlisted : k ∈ s.listedRows .live idx
  · simp [hlisted]
  · have hzero : s.fld .live idx k f = 0 := by
      by_contra hne
      exact hlisted (listed_of_fldOn he hk hf (fldOn_iff.mpr hne))
    simp [hlisted, hzero]

end

theorem within_zeroFields {ks : Nat → Prop} {idx : Nat} {fs : List Fld} (hfs : ∀ f ∈ fs, f.first + f.span ≤ 4096) :
    Within ks (tableCells .live idx) (zeroFields idx fs) := fun _ => within_each fun r hr => within_each fun f hf =>
  within_mono (fun _ h => h) (fun _ _ => rowCells_table (listedRows_lt hr)) _ (within_setF_row .live idx r f 0 (hfs f hf))

/-- What leaves all but the clamp counters leaves the fields of every other table. -/
theorem fld_of_leavesRest {u w : State} {ks : Nat → Prop} (h : leavesRest u w ks clampCells) {idx row : Nat} {f : Fld} (hi : idx ≠ 0xF000)
    (hr : row < 2 ^ 24) (hf : f.first + f.span ≤ 4096) : w.fld .live idx row f = u.fld .live idx row f := by
  obtain ⟨-, hcells, -⟩ := h
  exact fld_congr fun i hlt => hcells .live _ fun hclamp => hi ((cellKey_table hr (by omega)).symm.trans hclamp.2)

end Sys2Proof.Machine
end

section
/-! PROOFS. The clears that reach into rows or name what they clear (R232, R263, R317, R383). -/

namespace Sys2Proof.Machine

/-! ### The counters of time (R232) -/

/-- The fields of AtsState that TimeCountersClear sets to 0. -/
def atsCounters : List Fld := [F.atssShaped, F.atssDiscards]

theorem clearTimeCounters_eq (s : State) :
    clearTimeCounters.run s = (zeroFields 0xF065 atsCounters).run ((Act.zero [Key.timeSteps, Key.syncLossEvents]).run s) := by
  have hloop : ∀ (l : List Nat) (t : State),
      (Act.each l fun k => .seq (Act.setF .live 0xF065 k F.atssShaped 0) (Act.setF .live 0xF065 k F.atssDiscards 0)).run t
        = (Act.each l fun r => Act.each atsCounters fun f => Act.setF .live 0xF065 r f 0).run t := by
    intro l
    induction l with
    | nil => exact fun _ => rfl
    | cons k l ih =>
      intro t
      rw [run_each_cons, run_each_cons, ih, atsCounters, run_each_cons, run_each_cons, run_each_nil, run_seq]
  rw [clearTimeCounters, run_seq, run_dep, hloop, zeroFields, run_dep]

theorem emptyTable_ats : emptyTable 0xF065 := fun _ => layoutImage_zero (fs := layoutF065) (by decide)

theorem fld_zeroRegs (ks : List Nat) (s : State) (g : Gen) (idx row : Nat) (f : Fld) :
    ((Act.zero ks).run s).fld g idx row f = s.fld g idx row f := by
  unfold Act.zero
  induction ks generalizing s with
  | nil => rfl
  | cons k ks ih => rw [run_each_cons, ih, fld_put]

theorem fld_clearTimeCounters (s : State) {k : Nat} (hk : k < 4096) {f : Fld} (hf : f ∈ layout 0xF065) :
    (clearTimeCounters.run s).fld .live 0xF065 k f = if f ∈ atsCounters then 0 else s.fld .live 0xF065 k f := by
  have hfit : ∀ f ∈ layoutF065, f.first + f.span ≤ 4096
      ∧ ∀ f' ∈ atsCounters, (f' = f ∨ f.disjoint f' = true) ∧ f'.first + f'.span ≤ 4096 := by decide
  obtain ⟨hfits, hcounters⟩ := hfit f hf
  rw [clearTimeCounters_eq, fld_zeroFields hcounters hfits emptyTable_ats (by omega), fld_zeroRegs]

theorem clearTimeCounters_leavesRest (s : State) :
    leavesRest s (clearTimeCounters.run s) (keysIn [Key.timeSteps, Key.syncLossEvents]) (tableCells .live 0xF065) := by
  rw [clearTimeCounters_eq]
  exact run_leavesRest (.seq (Act.zero [Key.timeSteps, Key.syncLossEvents]) (zeroFields 0xF065 atsCounters)) s
    ⟨within_zero fun _ h => h, within_zeroFields (by decide)⟩

theorem get_clearTimeCounters (s : State) {k : Nat} (hk : k ∈ [Key.timeSteps, Key.syncLossEvents]) : (clearTimeCounters.run s).get k = 0 := by
  obtain ⟨hregs, -⟩ := run_leavesRest (ks := keysIn []) (zeroFields 0xF065 atsCounters) ((Act.zero [Key.timeSteps, Key.syncLossEvents]).run s)
    (within_zeroFields (by decide))
  rw [clearTimeCounters_eq, hregs k List.not_mem_nil, get_zero_mem _ hk]

/-! ### The counters of streams (R263) -/

/-- The fields of StreamState that StreamCountersClear sets to 0. -/
def streamCounters : List Fld := [F.stMatched, F.stPassed, F.stFiltered, F.stYellow, F.stRed, F.stFaults, F.stMaxSojourn]

theorem emptyTable_streams : emptyTable 0xF077 := fun _ => layoutImage_zero (fs := layoutF077) (by decide)

/-- The fields of a stream's row that StreamCountersClear keeps are those that count nothing. -/
theorem mem_streamCounters {f : Fld} (hf : f ∈ layout 0xF077) :
    f ∈ streamCounters ↔ f ∉ [F.stBound, F.stBlocked, F.stSuspended, F.stAdmitted, F.stSequence] :=
  have hsplit : ∀ f ∈ layoutF077, f ∈ streamCounters ↔ f ∉ [F.stBound, F.stBlocked, F.stSuspended, F.stAdmitted, F.stSequence] := by
    decide
  hsplit f hf

/-- What the clear does beside the rows of StreamState. -/
def clearRecovery : Act :=
  .seq (Act.clearTable .live 0xF078) (.seq (.put Key.stepExemptions 0) (.seq (.put Key.transitionExemptions 0) .skip))

theorem empties_clearRecovery : Empties clearRecovery [Key.stepExemptions, Key.transitionExemptions] (tableOctets 0xF078) :=
  ((empties_wholeTable _).seq (empties_put.seq (empties_put.seq empties_skip))).congr (fun _ => Iff.rfl) fun _ => by simp [noOctets]

theorem run_clearStreams (s : State) : clearStreams.run s = clearRecovery.run ((zeroFields 0xF077 streamCounters).run s) := rfl

theorem fld_clearStreams (s : State) {k : Nat} (hk : k < 4096) {f : Fld} (hf : f ∈ layout 0xF077) :
    (clearStreams.run s).fld .live 0xF077 k f = if f ∈ streamCounters then 0 else s.fld .live 0xF077 k f := by
  have hfit : ∀ f ∈ layoutF077, f.first + f.span ≤ 4096
      ∧ ∀ f' ∈ streamCounters, (f' = f ∨ f.disjoint f' = true) ∧ f'.first + f'.span ≤ 4096 := by decide
  obtain ⟨hfits, hcounters⟩ := hfit f hf
  obtain ⟨-, hcells, -⟩ := run_leavesRest clearRecovery ((zeroFields 0xF077 streamCounters).run s) empties_clearRecovery.within
  rw [run_clearStreams, ← fld_zeroFields hcounters hfits emptyTable_streams (by omega)]
  refine fld_congr fun i hlt => hcells .live _ fun h => ?_
  exact absurd ((cellKey_table (by omega) (by omega)).symm.trans h.2) (by decide)

theorem clearStreams_leavesRest (s : State) : leavesRest s (clearStreams.run s) (keysIn [Key.stepExemptions, Key.transitionExemptions])
    (fun g o => g = .live ∧ (tableOctets 0xF077 o ∨ tableOctets 0xF078 o)) :=
  leavesRest_trans (run_leavesRest (zeroFields 0xF077 streamCounters) s (within_mono (fun _ h => h) (fun _ _ h => ⟨h.1, .inl h.2⟩) _
      (within_zeroFields (by decide))))
    (run_leavesRest clearRecovery _ (within_mono (fun _ h => h) (fun _ _ h => ⟨h.1, .inr h.2⟩) _ empties_clearRecovery.within))

/-! ### The starvation flags (R317) -/

theorem objAt_starvationClear {s : State} {o : Obj} (h : s.objAt 0x8010 12 = some o) : isCommand o = true ∧ o.ty = .u8 ∧ o.legal = .any := by
  cases h
  exact ⟨rfl, rfl, rfl⟩

/-- A write of StarvationClear takes the low octet of its slot as it is, with no clamp. -/
theorem writeScalarAt_starvationClear {u : State} {path : Path} (slot : Nat) (ha : u.admits path 0x8010 12 = true) :
    writeScalarAt u path 0x8010 12 slot
      = ⟨0, Act.all [.skip, .seq (.put (u.keyAt 0x8010 12) 0) (clearStarvation (slot % 256))], true⟩ := by
  obtain ⟨o, ho, hw⟩ := writeScalarAt_admits u path 0x8010 12 slot ha
  obtain ⟨hcommand, hty, hlegal⟩ := objAt_starvationClear ho
  have hslot : ofSlot o.ty slot = slot % 256 := by
    rw [hty]
    rfl
  have hvalue : u.legalValue 0x8010 12 o (slot % 256) = slot % 256 := by
    unfold State.legalValue
    rw [hlegal]
    rfl
  have hwrite : writeValue u path 0x8010 12 (slot % 256) o
      = ⟨0, .seq (.put (u.keyAt 0x8010 12) 0) (clearStarvation (slot % 256)), true⟩ := by
    rw [writeValue, hcommand]
    rfl
  have hclamp : isClamp 0x8010 (slot % 256) (slot % 256) = false := by simp [isClamp]
  rw [hw, hslot, hvalue, hwrite, hclamp]
  rfl

theorem starvationClear_clears {s : State} {dt : Nat} {path : Path} (v : BitVec 64) (ha : (s.facing dt path).admits path 0x8010 12 = true) :
    let u := s.facing dt path
    Runs (.starvationClear dt path v) s fun t => t.status = 0
      ∧ t.get Key.starvationFlags = u.get Key.starvationFlags &&& (255 - v.toNat % 256)
      ∧ leavesRest u t (keysIn [Key.starvationFlags, u.keyAt 0x8010 12]) noCells := by
  intro u
  have hkey : Key.starvationFlags ≠ u.keyAt 0x8010 12 := show Key.starvationFlags ≠ 0x8010 * 256 + 12 by decide
  refine ⟨_, (command_scalarWrite ..).trans (congrArg (fun w => Host.Outcome.next (w.act.run u)) (writeScalarAt_starvationClear v.toNat ha)),
    rfl, ?_, ?_⟩
  · have hflags : ((clearStarvation (v.toNat % 256)).run ((Act.put (u.keyAt 0x8010 12) 0).run u)).get Key.starvationFlags
        = (u.get Key.starvationFlags &&& (255 - v.toNat % 256 % 256)) % 256 := by
      rw [clearStarvation, run_dep, get_put_self, get_put_ne _ _ hkey]
      rfl
    refine hflags.trans ?_
    rw [Nat.mod_mod, Nat.mod_eq_of_lt (lt_of_le_of_lt Nat.and_le_right (by omega))]
  · exact run_leavesRest (Wrote.act ⟨0, Act.all [.skip, .seq (.put (u.keyAt 0x8010 12) 0) (clearStarvation (v.toNat % 256))], true⟩) u
      ⟨⟨trivial, ⟨by simp [keysIn], fun _ => by simp [keysIn]⟩, trivial⟩, trivial⟩

/-! ### The counters of a ring (R383) -/

/-- A ring's counters. -/
def ringCounters (r : Nat) : List Nat := [Key.abortedCommits r, Key.falseWakes r, Key.busSleepsForced r, Key.badRingMessages r, Key.busSleeps r]

/-- What the clear does to one member: its holding is counted up to now, and HeldTotal begins anew. -/
def clearHeld (s : State) (r m : Nat) : Act :=
  Act.all [Act.when (s.flag (Rg.isHolding 1 r m)) (accrue r 1 m), .put (Rg.holdAll r m) 0, Act.setF .live 0xF0A1 (64 * r + m) F.memberHeld 0]

theorem run_clearRing (r : Nat) (s : State) : (clearRing r).run s = (Act.each (List.range 64) fun m =>
    clearHeld ((Act.zero (ringCounters r)).run s) r m).run ((Act.zero (ringCounters r)).run s) := by
  simp only [clearRing, ringCounters, clearHeld, run_all_cons, run_all_nil, run_dep]

theorem fld_accrue_kept (s : State) (r m : Nat) {k : Nat} {f : Fld} (h : k ≠ 64 * r + m ∨ f.disjoint F.memberHeld = true)
    (hf : f.first + f.span ≤ 4096) : ((accrue r 1 m).run s).fld .live 0xF0A1 k f = s.fld .live 0xF0A1 k f := by
  rw [run_accrue, fld_restartHolding, run_when]
  split
  · rw [addHeld, run_dep, run_seq, fld_setF_kept _ _ h hf (by decide), fld_put, fld_put]
  · rw [fld_put]

/-- Of the fields that lie apart from HeldTotal or are it, the clear of a member sets its own HeldTotal to 0 alone. -/
theorem fld_clearHeld (u s : State) {r m k : Nat} {f : Fld} (h : f = F.memberHeld ∨ f.disjoint F.memberHeld = true)
    (hf : f.first + f.span ≤ 4096) : ((clearHeld u r m).run s).fld .live 0xF0A1 k f
      = if k = 64 * r + m ∧ f = F.memberHeld then 0 else s.fld .live 0xF0A1 k f := by
  rw [clearHeld, run_all_cons, run_all_cons, run_all_cons, run_all_nil]
  split
  next hself =>
    obtain ⟨rfl, rfl⟩ := hself
    rw [fld_setF_self, Nat.zero_mod]
  next hother =>
    have hkept : k ≠ 64 * r + m ∨ f.disjoint F.memberHeld = true := by tauto
    rw [fld_setF_kept _ _ hkept hf (by decide), fld_put, run_when]
    split
    · exact fld_accrue_kept s r m hkept hf
    · rfl

theorem fld_clearRing (s : State) (r : Nat) {m : Nat} (hm : m < 64) {f : Fld} (h : f = F.memberHeld ∨ f.disjoint F.memberHeld = true)
    (hf : f.first + f.span ≤ 4096) :
    ((clearRing r).run s).member r m f = if f = F.memberHeld then 0 else s.member r m f := by
  have hloop := fld_each_zero (fun m' t => fld_clearHeld ((Act.zero (ringCounters r)).run s) t (r := r) (m := m') (k := 64 * r + m) h hf)
    (List.range 64) ((Act.zero (ringCounters r)).run s)
  rw [State.member, run_clearRing, hloop, fld_zeroRegs, State.member]
  have hrow : ∃ x ∈ List.range 64, 64 * r + m = 64 * r + x := ⟨m, List.mem_range.mpr hm, rfl⟩
  by_cases hheld : f = F.memberHeld
  · rw [if_pos hheld, if_pos (by simpa [hheld] using hm)]
  · simp [hheld]

/-- The registers that count a ring's holdings (R371). -/
def holdingRegs : Nat → Prop := fun k => 2 ^ 24 ≤ k ∧ Rg.numberOf k = 49

theorem holdKeys_regs {r m k : Nat} (hr : r < 32) (hm : m < 64) (h : k ∈ holdKeys r m) : holdingRegs k := by
  simp only [holdKeys, List.mem_cons, List.not_mem_nil, or_false] at h
  rcases h with rfl | rfl | rfl | rfl <;>
    simp only [holdingRegs, Rg.numberOf, Rg.holdTotal, Rg.holdSince, Rg.holdAll, Rg.holdStart, Rg.at'] <;> omega

theorem within_accrue (r m : Nat) : Within (keysIn (holdKeys r m)) (rowCells .live 0xF0A1 (64 * r + m)) (accrue r 1 m) := fun s =>
  ⟨by simp [keysIn, holdKeys], within_when fun _ => within_addHeld r m _, within_restartHolding s r m, trivial⟩

theorem within_clearHeld (u : State) {r m : Nat} (hr : r < 32) (hm : m < 64) :
    Within holdingRegs (tableCells .live 0xF0A1) (clearHeld u r m) :=
  within_mono (fun _ => holdKeys_regs hr hm) (fun _ _ => rowCells_table (by omega)) _
    ⟨within_when fun _ => within_accrue r m, by simp [holdKeys], within_setF_row _ _ _ F.memberHeld _, trivial⟩

theorem clearHolds_leavesRest (u s : State) {r : Nat} (hr : r < 32) :
    leavesRest s ((Act.each (List.range 64) fun m => clearHeld u r m).run s) holdingRegs (tableCells .live 0xF0A1) :=
  run_leavesRest _ s (within_each fun _ hm => within_clearHeld u hr (List.mem_range.mp hm))

theorem ringCounters_objects {r k : Nat} (hr : r < 32) (h : k ∈ ringCounters r) : k / 256 = 0x9100 + r ∧ configured k = false ∧ k < 2 ^ 24 :=
  have hall : ∀ r : Fin 32, ∀ k ∈ ringCounters r.val, k / 256 = 0x9100 + r.val ∧ configured k = false ∧ k < 2 ^ 24 := by decide
  hall ⟨r, hr⟩ k h

theorem get_clearRing (s : State) {r k : Nat} (hr : r < 32) (hk : k ∈ ringCounters r) : ((clearRing r).run s).get k = 0 := by
  obtain ⟨-, -, hlow⟩ := ringCounters_objects hr hk
  obtain ⟨hregs, -⟩ := clearHolds_leavesRest ((Act.zero (ringCounters r)).run s) ((Act.zero (ringCounters r)).run s) hr
  rw [run_clearRing, hregs k fun h => absurd hlow (Nat.not_lt.mpr h.1), get_zero_mem _ hk]

theorem ringRegs_counters {u : State} {r k : Nat} (hr : r < 32) (hk : k ∈ ringCounters r) : ringRegs u r k :=
  have ⟨hindex, hfree, _⟩ := ringCounters_objects hr hk
  .inl ⟨hindex, hfree⟩

theorem ringRegs_command (u : State) {r : Nat} (hr : r < 32) : ringRegs u r ((0x9100 + r) * 256 + 12) :=
  have hall : ∀ r : Fin 32, configured ((0x9100 + r.val) * 256 + 12) = false := by decide
  .inl ⟨by omega, hall ⟨r, hr⟩⟩

theorem ringRegs_holdings {u : State} {r k : Nat} (h : holdingRegs k) : ringRegs u r k :=
  .inr (.inr (.inr (.inl ⟨h.1, by rw [h.2]; decide⟩)))

theorem clearRing_leavesRest (u s : State) {r : Nat} (hr : r < 32) : leavesRest s ((clearRing r).run s) (ringRegs u r) ringCells := by
  rw [run_clearRing]
  exact leavesRest_trans (run_leavesRest (Act.zero (ringCounters r)) s (within_zero fun _ => ringRegs_counters hr))
    (leavesRest_mono (fun _ => ringRegs_holdings) (fun _ _ h => ⟨h.1, by rw [h.2]; decide⟩) (clearHolds_leavesRest _ _ hr))

/-! ### The commands that reach into rows -/

section
variable {s : State} {dt : Nat} {path : Path} (v : BitVec 64)

/-- What a command has changed before its act runs, its act's own changes, and its answer. -/
theorem leavesRest_command {u w t : State} {key : Nat} {ks : Nat → Prop} {cs : Gen → Nat → Prop} (hw : leavesRest u w (keysIn [key]) clampCells)
    (ht : leavesRest w t ks cs) : leavesRest u ((Act.answer 0 []).run t) (fun k => k = key ∨ ks k) (bothCells cs clampCells) :=
  leavesRest_trans (leavesRest_mono (fun _ hk => .inl (List.mem_singleton.mp hk)) (fun _ _ => .inr) hw)
    (leavesRest_trans (leavesRest_mono (fun _ => .inr) (fun _ _ => .inl) ht) (leavesRest_answered _ _ _))

theorem timeCountersClear_clears (ha : (s.facing dt path).admits path 0x5000 14 = true) :
    let u := s.facing dt path
    Runs (.timeCountersClear dt path v) s fun t => t.status = 0 ∧ t.get Key.timeSteps = 0 ∧ t.get Key.syncLossEvents = 0
      ∧ (∀ k < 4096, t.fld .live 0xF065 k F.atssShaped = 0 ∧ t.fld .live 0xF065 k F.atssDiscards = 0
          ∧ t.fld .live 0xF065 k F.atssBucket = u.fld .live 0xF065 k F.atssBucket)
      ∧ leavesRest u t (keysIn [Key.timeSteps, Key.syncLossEvents, u.keyAt 0x5000 14]) (bothCells (tableCells .live 0xF065) clampCells) := by
  refine runs_done (p := 0) rfl (by decide) rfl (by decide) (by decide) (fun _ _ => rfl) ha fun w hw =>
    ⟨rfl, get_clearTimeCounters w (by decide), get_clearTimeCounters w (by decide), fun k hk => ?_, ?_⟩
  · simp only [fld_answer, fld_clearTimeCounters w hk (f := F.atssShaped) (by decide),
      fld_clearTimeCounters w hk (f := F.atssDiscards) (by decide), fld_clearTimeCounters w hk (f := F.atssBucket) (by decide)]
    exact ⟨rfl, rfl, fld_of_leavesRest hw (by decide) (by omega) (by decide)⟩
  · refine leavesRest_mono (fun k hk => ?_) (fun _ _ h => h) (leavesRest_command hw (clearTimeCounters_leavesRest w))
    change k ∈ [Key.timeSteps, Key.syncLossEvents, 0x5000 * 256 + 14]
    simp only [keysIn, List.mem_cons] at hk ⊢
    tauto

theorem streamCountersClear_clears (ha : (s.facing dt path).admits path 0x6000 14 = true) :
    let u := s.facing dt path
    Runs (.streamCountersClear dt path v) s fun t => t.status = 0 ∧ t.get Key.stepExemptions = 0 ∧ t.get Key.transitionExemptions = 0
      ∧ (∀ k < 4096, ∀ f ∈ layout 0xF077, t.fld .live 0xF077 k f
          = (if f ∈ [F.stBound, F.stBlocked, F.stSuspended, F.stAdmitted, F.stSequence] then u.fld .live 0xF077 k f else 0))
      ∧ (∀ o, tableOctets 0xF078 o → t.octet .live o = octetDefault o)
      ∧ leavesRest u t (keysIn [Key.stepExemptions, Key.transitionExemptions, u.keyAt 0x6000 14])
          (bothCells (fun g o => g = .live ∧ (tableOctets 0xF077 o ∨ tableOctets 0xF078 o)) clampCells) := by
  refine runs_done (p := 0) rfl (by decide) rfl (by decide) (by decide) (fun _ _ => rfl) ha fun w hw =>
    ⟨rfl, empties_clearRecovery.zero _ _ (by decide), empties_clearRecovery.zero _ _ (by decide), fun k hk f hf => ?_,
      empties_clearRecovery.empty _, ?_⟩
  · have hfit : ∀ f ∈ layoutF077, f.first + f.span ≤ 4096 := by decide
    rw [fld_answer, fld_clearStreams w hk hf, fld_of_leavesRest hw (by decide) (by omega) (hfit f hf)]
    simp only [mem_streamCounters hf, ite_not]
  · refine leavesRest_mono (fun k hk => ?_) (fun _ _ h => h) (leavesRest_command hw (clearStreams_leavesRest w))
    change k ∈ [Key.stepExemptions, Key.transitionExemptions, 0x6000 * 256 + 14]
    simp only [keysIn, List.mem_cons] at hk ⊢
    tauto

theorem template_ring {r : Nat} (hr : r < 32) : template (0x9100 + r) = (0x9100, r) := by
  have hall : ∀ r : Fin 32, template (0x9100 + r.val) = (0x9100, r.val) := by decide
  exact hall ⟨r, hr⟩

theorem ringCountersClear_clears (r : Fin 32) (ha : (s.facing dt path).admits path (0x9100 + r.val) 12 = true) :
    let u := s.facing dt path
    Runs (.ringCountersClear dt path r v) s fun t => t.status = 0 ∧ (∀ k ∈ ringCounters r.val, t.get k = 0)
      ∧ (∀ m < 64, t.member r.val m F.memberHeld = 0 ∧ t.member r.val m F.memberReady = u.member r.val m F.memberReady)
      ∧ leavesRest u t (fun k => ringRegs u r.val k) (bothCells ringCells clampCells) := by
  have ht := template_ring r.isLt
  refine runs_done ht (by decide) rfl (by omega) (by decide) (fun _ _ => by simp only [runCommand, ht]) ha fun w hw =>
    ⟨run_answer_status .., fun k hk => (get_answer ..).trans (get_clearRing w r.isLt hk), fun m hm => ⟨?_, ?_⟩, ?_⟩
  · exact (fld_answer ..).trans (fld_clearRing w r.val hm (f := F.memberHeld) (by decide) (by decide))
  · refine (fld_answer ..).trans ((fld_clearRing w r.val hm (f := F.memberReady) (by decide) (by decide)).trans ?_)
    exact fld_of_leavesRest hw (by decide) (by omega) (by decide)
  · refine leavesRest_mono (fun k hk => ?_) (fun _ _ h => h) (leavesRest_command hw (clearRing_leavesRest (s.facing dt path) w r.isLt))
    rcases hk with rfl | hk
    · exact ringRegs_command _ r.isLt
    · exact hk

end

/-! ### The statement -/

section
variable {c : Instr} {s : State} {dt : Nat} {path : Path} {sub slot : Nat} {a : Act} {ks : List Nat} {cs : Nat → Prop}

/-- A command of an index of its own that only clears. -/
theorem runs_empties_index {idx : Nat} (h : Empties a ks cs) (ha : (s.facing dt path).admits path idx sub = true)
    (hexec : exec c s = command dt (scalarWrite path idx sub slot) s := by rfl) (ht : template idx = (idx, 0) := by decide)
    (hc : holdsCommand idx sub = true := by decide) (hi : idx < 2 ^ 16 := by decide) (hs : sub < 2 ^ 8 := by decide)
    (hrun : ∀ u x, runCommand u path idx sub x = .done a := by intros; rfl) :
    Runs c s ((s.facing dt path).cleared ((s.facing dt path).keyAt idx sub) ks cs) :=
  runs_empties hexec ht hc hi hs hrun h ha

/-- A command of a group of a port that only clears. -/
theorem runs_empties_port {p : Port} (g : Nat) (h : Empties a ks cs)
    (ha : (s.facing dt path).admits path (0x2000 + g + 16 * p.val) sub = true)
    (hexec : exec c s = command dt (scalarWrite path (0x2000 + g + 16 * p.val) sub slot) s := by rfl) (hg : g < 16 := by decide)
    (hc : holdsCommand (0x2000 + g) sub = true := by decide) (hs : sub < 2 ^ 8 := by decide)
    (hrun : template (0x2000 + g + 16 * p.val) = (0x2000 + g, p.val) →
      ∀ u x, runCommand u path (0x2000 + g + 16 * p.val) sub x = .done a := by intro ht _ _; simp only [runCommand, ht]) :
    Runs c s ((s.facing dt path).cleared ((s.facing dt path).keyAt (0x2000 + g + 16 * p.val) sub) ks cs) :=
  have ht := template_port hg p.isLt
  runs_empties hexec ht hc (by have := p.isLt; omega) hs (hrun ht) h ha

end

/-- Settles O60: each command runs its act in a state that differs only in what the write of a command changes; most of the acts set
registers to 0 and empty tables and do no more, the others also reach into rows. -/
theorem clearsZeroTheirSpan : Obligations.ClearsZeroTheirSpan := by
  intro s dt path p r v u cleared table none' port
  refine ⟨fun ha => ?postedErrors, fun ha => ?clamps, fun ha => ?portCounters, fun ha => ?classifier, fun ha => ?queues,
    fun ha => ?forwarding, fun ha => ?gates, fun ha => ?shaping, fun ha => ?deliveryFaults, fun ha => ?sampling, fun ha => ?gatewayPort,
    fun ha => ?gatewayFailures, fun ha => ?gateway, fun ha => ?macsec, fun ha => ?keepAwake, fun ha => ?faults,
    timeCountersClear_clears v, streamCountersClear_clears v, starvationClear_clears v, ringCountersClear_clears v r⟩
  case postedErrors => exact runs_empties_index (empties_emptyLog ..) ha
  case clamps => exact runs_empties_index (empties_wholeTable _) ha
  case portCounters => exact runs_empties_port (a := clearPort p.val) 6 empties_zeroSpan ha
  case classifier => exact runs_empties_index empties_clearClassifier ha
  case queues => exact runs_empties_port 3 (empties_clearQueues _) ha
  case forwarding => exact runs_empties_index empties_zeroSpan ha
  case gates => exact runs_empties_port (a := clearGate p.val) 4 empties_zeroSpan ha
  case shaping => exact runs_empties_port (a := clearShaping p.val) 5 empties_zeroSpan ha
  case deliveryFaults => exact runs_empties_index (empties_emptyLog ..) ha
  case sampling => exact runs_empties_port 7 (empties_clearSampling _) ha
  case gatewayPort => exact runs_empties_port (a := clearGatewayPort p.val) 10 empties_zeroSpan ha
  case gatewayFailures => exact runs_empties_index (empties_emptyLog ..) ha
  case gateway => exact runs_empties_index empties_clearGateway ha
  case macsec => exact runs_empties_port (a := clearMacsec p.val) 11 empties_zeroSpan ha
  case keepAwake => exact runs_empties_index (empties_emptyLog ..) ha
  case faults => exact runs_empties_index (empties_emptyLog ..) ha

end Sys2Proof.Machine
end

section
/-! PROOFS. The route lookup (R268) in a memory that is no generation of the tables. -/

namespace Sys2Proof.Machine

/-- The header of a classical CAN cell whose source and identifier have all their bits set. -/
def onesCell : List Byte := mkCell 1 0xFF 0xFFFFFFFF 0 0 0 0 0 0 []

theorem routeLookup_flash : routeLookup State.reset .flash onesCell = none := by decide +kernel

/-- Read as a row of GatewayRoutes, the erased flash is a valid row for that source, kind and identifier. -/
theorem erasedRoute_matches : State.reset.fldOn .flash 0xF080 0 F.routeValid = true
    ∧ State.reset.fld .flash 0xF080 0 F.routeSource = cellSource onesCell
    ∧ (State.reset.fld .flash 0xF080 0 F.routeKinds).testBit (cellKind onesCell - 1) = true
    ∧ (routeIdent onesCell ^^^ State.reset.fld .flash 0xF080 0 F.routeIdent) &&& State.reset.fld .flash 0xF080 0 F.routeMask = 0 := by
  decide +kernel

/-- Refutes O36: after reset the erased boot flash (R431) lists no row, and the lookup there finds none, though row 0 would match. The
statement takes any memory as the generation of the routes, and an octet that nothing has written reads 0xFF in the flash (log entry 6). -/
theorem not_cellsAreRouted : ¬ Obligations.CellsAreRouted := by
  rintro ⟨hlookup, -⟩
  obtain ⟨-, hnone⟩ := hlookup State.reset .flash onesCell (by decide)
  exact hnone routeLookup_flash 0 (by decide) erasedRoute_matches

end Sys2Proof.Machine
end

section
/-! PROOFS. A protected copy whose key is lost on the wire (R303) while a queue is out of shape. -/

namespace Sys2Proof.Machine

/-- The copy on the wire of port 208, protected under a key slot that does not hold its key. -/
def keylessCopy : Copy := { wireCopy with sec := some ⟨0, 0, 0, [], []⟩ }

/-- Port 208 sends that copy, and the stray copy waits for it. -/
def keylessBesideStray : State := (Act.setCopies [strayCopy, keylessCopy]).run strayQueue

/-- The state is sound: soundness does not speak of the queues. -/
theorem keylessBesideStray_sound : keylessBesideStray.sound = true := sound_run _ _ strayQueue_sound

theorem keylessBesideStray_sends : keylessBesideStray.operates = true ∧ keylessBesideStray.sending 208 = some keylessCopy
    ∧ keylessBesideStray.frame? keylessCopy.frame = some emptyFrame ∧ emptyFrame.complete = true
    ∧ (keylessBesideStray.after 0).secAlive keylessCopy = false := by decide +kernel

theorem strayLost_keyless :
    strayLost (keylessBesideStray.after 0) ((powered (transmissionDone 208)).run (keylessBesideStray.after 0)) 5 := by
  unfold strayLost
  decide +kernel

/-- Refutes O37: the copy whose key is lost ends, the selection behind it drops the stray copy, and the failure counts outside of what
forwarding may write. The statement takes any queue. -/
theorem not_secysProtectAndVerify : ¬ Obligations.SecysProtectAndVerify := by
  rintro ⟨-, -, -, -, hends⟩
  obtain ⟨hpower, hsends, hframe?, hwhole, hlost⟩ := keylessBesideStray_sends
  have hruns := hends keylessBesideStray 0 208 keylessCopy emptyFrame hpower (by decide) hsends hframe? hwhole hlost (.inl rfl)
  obtain ⟨-, -, -, hframe⟩ := of_runs rfl hruns
  exact not_forwardsOnly_of_strayLost (by decide) id strayLost_keyless hframe

end Sys2Proof.Machine
end

section
/-! PROOFS. The record seal is disabled (R351) while the queue of its port is out of shape. -/

namespace Sys2Proof.Machine

/-- The seal runs, its port 244 is Up, and the stray copy is in that port's queue. -/
def sealBesideStray : State :=
  (Act.all [.put Key.recordSealState 2, .put (Key.portState 244) 2, .setCopies [{ strayCopy with port := 244 }]]).run strayQueue

/-- The state is sound: soundness does not speak of the queues. -/
theorem sealBesideStray_sound : sealBesideStray.sound = true := sound_run _ _ strayQueue_sound

theorem sealBesideStray_admits : (sealBesideStray.facing 0 .safety).admits .safety 0x8400 1 = true := by decide +kernel

theorem strayLost_recordSealEnable : strayLost (sealBesideStray.facing 0 .safety)
    ((scalarWrite .safety 0x8400 1 0).run (sealBesideStray.after 0)) 6 := by
  unfold strayLost
  decide +kernel

theorem strayCounter_notKeys {reason : Nat} (h : reason < 8) : ¬ keyCells .live (strayCounter reason) := by
  rintro ⟨-, htable⟩
  rw [strayCounter_table h] at htable
  exact absurd htable (by decide)

/-- Refutes O47: a write of 0 to RecordSealEnable puts port 244 into Flushing (R113), which releases the stray copy, and its failure counts
outside of what the seal and forwarding may write. The statement takes any queue. -/
theorem not_recordsAreSealed : ¬ Obligations.RecordsAreSealed := by
  rintro ⟨⟨henable, -⟩, -⟩
  obtain ⟨-, -, -, -, -, hframe⟩ := of_runs rfl (henable sealBesideStray 0 .safety false sealBesideStray_admits)
  exact not_forwardsOnly_of_strayLost (by decide) (strayCounter_notKeys (by decide)) strayLost_recordSealEnable hframe

end Sys2Proof.Machine
end

section
/-! PROOFS. Single bits of a number, counters, and the registers of the arbiter (R314 to R318). -/

namespace Sys2Proof.Machine

/-! ### Single bits -/

/-- Adding a power of two sets a bit that is 0 and leaves the others. -/
theorem testBit_add_two_pow {x r : Nat} (h : x.testBit r = false) (q : Nat) : (x + 2 ^ r).testBit q = (decide (q = r) || x.testBit q) := by
  have hlow : x % 2 ^ r < 2 ^ r := Nat.mod_lt _ (Nat.two_pow_pos r)
  have heven : x / 2 ^ r % 2 = 0 := by
    rw [Nat.testBit_eq_decide_div_mod_eq, decide_eq_false_iff_not] at h
    omega
  have hsum : x + 2 ^ r = 2 ^ r * (x / 2 ^ r + 1) + x % 2 ^ r := by
    have := Nat.div_add_mod x (2 ^ r)
    rw [Nat.mul_add]
    omega
  rw [hsum, Nat.testBit_two_pow_mul_add _ hlow]
  conv_rhs => rw [← Nat.div_add_mod x (2 ^ r), Nat.testBit_two_pow_mul_add _ hlow]
  by_cases hq : q < r
  · simp [hq, Nat.ne_of_lt hq]
  · obtain ⟨n, rfl⟩ := Nat.exists_eq_add_of_le (Nat.not_lt.mp hq)
    cases n with
    | zero => simp [Nat.add_mod, heven]
    | succ n =>
      have hhalf : (x / 2 ^ r + 1) / 2 = x / 2 ^ r / 2 := by omega
      simp [Nat.testBit_succ, hhalf]

/-- Taking a power of two away clears a bit that is 1 and leaves the others. -/
theorem testBit_sub_two_pow {x r : Nat} (h : x.testBit r = true) (q : Nat) : (x - 2 ^ r).testBit q = (!decide (q = r) && x.testBit q) := by
  have hsum : x - 2 ^ r + 2 ^ r = x := Nat.sub_add_cancel (Nat.ge_two_pow_of_testBit h)
  have hclear : (x - 2 ^ r).testBit r = false := by
    have hflip := Nat.testBit_two_pow_add_eq (x - 2 ^ r) r
    rw [Nat.add_comm, hsum, h] at hflip
    simpa using hflip.symm
  have hset := testBit_add_two_pow hclear q
  rw [hsum] at hset
  by_cases hq : q = r
  · subst hq
    simp [hclear]
  · simp [hset, hq]

/-! ### Counters -/

/-- A counter reads as one that stops at its maximum (R37). -/
theorem get_bump_counted (s : State) (k n : Nat) : ((Act.bump k n).run s).get k = s.counted k n := by
  rw [get_bump_self, State.counted]
  rcases Nat.eq_zero_or_pos (regMod k) with h | h
  · simp [h]
  · exact Nat.mod_eq_of_lt (by omega)

/-- An internal register has no width. -/
theorem regMod_at' (n i j : Nat) : regMod (Rg.at' n i j) = 0 := regMod_internal (by unfold Rg.at'; omega)

/-! ### What a decision sees of a requester -/

section
variable {s t : State} {r : Nat}

/-- What keeps the credit and the mask of a requester that a decision sees. -/
def seenKeys (r : Nat) : List Nat := [Rg.creditOld r, Rg.maskOld r, Rg.seenAt r]

theorem seenKeys_internal (r : Nat) : regMod (Rg.creditOld r) = 0 ∧ regMod (Rg.maskOld r) = 0 ∧ regMod (Rg.seenAt r) = 0 := by
  exact ⟨regMod_at' 53 r 2, regMod_at' 53 r 3, regMod_at' 53 r 4⟩

theorem seenKeys_distinct (r : Nat) : Rg.creditOld r ≠ Rg.maskOld r ∧ Rg.creditOld r ≠ Rg.seenAt r ∧ Rg.maskOld r ≠ Rg.seenAt r := by
  unfold Rg.creditOld Rg.maskOld Rg.seenAt Rg.at'
  omega

theorem within_keepSeen {cs : Gen → Nat → Prop} (r : Nat) : Within (keysIn (seenKeys r)) cs (keepSeen r) :=
  fun _ => within_when fun _ => ⟨by simp [keysIn, seenKeys], by simp [keysIn, seenKeys], by simp [keysIn, seenKeys], trivial⟩

theorem sameCycle_of_now (h : t.now = s.now) (x : Nat) : t.sameCycle x = s.sameCycle x := by simp only [State.sameCycle, h]

theorem sameCycle_now (s : State) : s.sameCycle (s.now + 1) = true := by
  simp only [State.sameCycle, Nat.sub_self, Nat.zero_mul, Nat.succ_pos, decide_true, Bool.true_and]

/-- Three registers that are put one after the other. -/
theorem get_put_three (s : State) {k c m : Nat} (hck : c ≠ k) (hmk : m ≠ k) (hcm : c ≠ m) (x y z : Nat) :
    ((Act.all [.put k x, .put c y, .put m z]).run s).get k = x % regMod k
      ∧ ((Act.all [.put k x, .put c y, .put m z]).run s).get c = y % regMod c
      ∧ ((Act.all [.put k x, .put c y, .put m z]).run s).get m = z % regMod m := by
  simp [hck.symm, hmk.symm, hcm]

/-- In the first change of a cycle the credit and the mask are kept as they stand; later in it they are kept already. -/
theorem run_keepSeen_first (h : s.sameCycle (s.get (Rg.seenAt r)) = false) : (keepSeen r).run s
    = (Act.all [.put (Rg.seenAt r) (s.now + 1), .put (Rg.creditOld r) (s.get (Rg.credit r)),
        .put (Rg.maskOld r) (if s.masked r then 1 else 0)]).run s := by
  rw [keepSeen, run_dep, h, Bool.not_false, run_when_true]

theorem run_keepSeen_again (h : s.sameCycle (s.get (Rg.seenAt r)) = true) : (keepSeen r).run s = s := by
  rw [keepSeen, run_dep, h, Bool.not_true, run_when_false]

/-- Once a change is announced, what a decision of this cycle sees no longer depends on the credit or the mask. -/
theorem seen_of_keepSeen (hkeys : ∀ k ∈ seenKeys r, t.get k = ((keepSeen r).run s).get k) (hnow : t.now = s.now) :
    t.seenCredit r = s.seenCredit r ∧ t.seenMasked r = s.seenMasked r := by
  obtain ⟨hcm, hcs, hms⟩ := seenKeys_distinct r
  obtain ⟨hc0, hm0, hs0⟩ := seenKeys_internal r
  have hcredit := hkeys (Rg.creditOld r) (by simp [seenKeys])
  have hmask := hkeys (Rg.maskOld r) (by simp [seenKeys])
  have hseen := hkeys (Rg.seenAt r) (by simp [seenKeys])
  simp only [State.seenCredit, State.seenMasked, flag_eq, sameCycle_of_now hnow]
  cases hcycle : s.sameCycle (s.get (Rg.seenAt r))
  · obtain ⟨hat, hold, hwas⟩ := get_put_three s hcs hms hcm (s.now + 1) (s.get (Rg.credit r)) (if s.masked r then 1 else 0)
    rw [run_keepSeen_first hcycle] at hcredit hmask hseen
    rw [hat, hs0, Nat.mod_zero] at hseen
    rw [hold, hc0, Nat.mod_zero] at hcredit
    rw [hwas, hm0, Nat.mod_zero] at hmask
    rw [hseen, sameCycle_now, hcredit, hmask]
    cases s.masked r <;> simp
  · rw [run_keepSeen_again hcycle] at hcredit hmask hseen
    simp [hseen, hcycle, hcredit, hmask]

/-- So an act behind the announcement that leaves the kept registers alone changes nothing that a decision sees. -/
theorem seen_behind {a : Act} {ks : Nat → Prop} {cs : Gen → Nat → Prop} (ha : Within ks cs a) (hks : ∀ k ∈ seenKeys r, ¬ ks k) :
    (a.run ((keepSeen r).run s)).seenCredit r = s.seenCredit r ∧ (a.run ((keepSeen r).run s)).seenMasked r = s.seenMasked r := by
  obtain ⟨hregs, -, -, -, hnow, -⟩ := run_leavesRest a ((keepSeen r).run s) ha
  obtain ⟨-, -, -, -, hkept, -⟩ := run_leavesRest (cs := noCells) (keepSeen r) s (within_keepSeen r)
  exact seen_of_keepSeen (fun k hk => hregs k (hks k hk)) (hnow.trans hkept)

end

theorem seen_congr {s t : State} {r : Nat} (hkeys : ∀ k ∈ seenKeys r, t.get k = s.get k) (hcredit : t.get (Rg.credit r) = s.get (Rg.credit r))
    (hmask : t.get Key.maskState = s.get Key.maskState) (hnow : t.now = s.now) :
    t.seenCredit r = s.seenCredit r ∧ t.seenMasked r = s.seenMasked r := by
  have hold := hkeys (Rg.creditOld r) (by simp [seenKeys])
  have hwas := hkeys (Rg.maskOld r) (by simp [seenKeys])
  have hseen := hkeys (Rg.seenAt r) (by simp [seenKeys])
  simp only [State.seenCredit, State.seenMasked, State.masked, flag_eq, sameCycle_of_now hnow, hold, hwas, hseen, hcredit, hmask, and_self]

end Sys2Proof.Machine
end

section
/-! PROOFS. The refill of the arbiter (R315, R317, R318), requester by requester. -/

namespace Sys2Proof.Machine

/-! ### One requester's turn -/

/-- A requester that is found to have waited too long is flagged, with the vector. -/
def flagStarved (r flags : Nat) (found : Bool) : Act :=
  Act.when (found && !flags.testBit r) (.seq (.put Key.starvationFlags (flags + 2 ^ r)) (Act.vectorOf Key.starvationVector))

/-- A requester that waits through the refill is counted; `u` is the state before the refill. -/
def countWait (u : State) (r : Nat) : Act :=
  .dep fun t => .seq (.put (Rg.waits r) (u.get (Rg.waits r) + 1))
    (flagStarved r (t.get Key.starvationFlags) (decide (t.get Key.starvationWindows < u.get (Rg.waits r) + 1)))

/-- What the refill does with one requester. -/
def refillTurn (u : State) (words : List Nat) (r : Nat) : Act :=
  Act.all [keepSeen r, .put (Rg.credit r) (if u.masked r then 0 else u.get (Key.arbiterWeight r)),
    if wordsOf words r = 0 || u.masked r then .skip else countWait u r]

theorem run_refillArbiter (words : List Nat) (u : State) :
    (refillArbiter words).run u = (Act.each (List.range 8) (refillTurn u words)).run u := by
  rw [refillArbiter, run_dep]
  unfold refillTurn countWait flagStarved
  rfl

/-- Whether a requester has a request that the refill leaves waiting. -/
def State.waiting (u : State) (words : List Nat) (r : Nat) : Bool := !(wordsOf words r == 0 || u.masked r)

/-- Whether the refill finds a requester that has waited too long. -/
def State.starved (u : State) (words : List Nat) (r : Nat) : Bool :=
  u.waiting words r && decide (u.get Key.starvationWindows < u.get (Rg.waits r) + 1)

/-- The registers that a requester's turn writes, and those that it reads beside the flags. -/
def turnKeys (r : Nat) : List Nat := Key.starvationFlags :: Rg.credit r :: Rg.waits r :: seenKeys r
def requesterKeys (r : Nat) : List Nat :=
  Key.maskState :: Key.starvationWindows :: Key.starvationVector :: Rg.credit r :: Rg.waits r :: seenKeys r

theorem turnKeys_apart {q r : Nat} (hne : q ≠ r) : ∀ k ∈ turnKeys q, k ∉ requesterKeys r := by
  simp only [turnKeys, requesterKeys, seenKeys, List.mem_cons, List.not_mem_nil, or_false, Key.starvationFlags, Key.maskState,
    Key.starvationWindows, Key.starvationVector, Rg.credit, Rg.waits, Rg.creditOld, Rg.maskOld, Rg.seenAt, Rg.at']
  omega

theorem within_refillTurn {cs : Gen → Nat → Prop} (u : State) (words : List Nat) (r : Nat) :
    Within (keysIn (turnKeys r)) cs (refillTurn u words r) := by
  refine ⟨within_mono (fun _ hk => ?_) (fun _ _ h => h) _ (within_keepSeen r), by simp [keysIn, turnKeys], ?_, trivial⟩
  · simp only [keysIn, turnKeys, List.mem_cons] at hk ⊢
    exact .inr (.inr (.inr hk))
  · split
    · trivial
    · exact fun _ => ⟨by simp [keysIn, turnKeys], within_when fun _ => ⟨by simp [keysIn, turnKeys], within_vectorOf _⟩⟩

section
variable {u v t : State} {words : List Nat} {q r : Nat}

theorem waiting_iff : u.waiting words r = true ↔ ¬ (wordsOf words r = 0 ∨ u.masked r = true) := by simp [State.waiting]

/-! ### The flags -/

theorem within_flagStarved {cs : Gen → Nat → Prop} (r flags : Nat) (found : Bool) :
    Within (keysIn [Key.starvationFlags]) cs (flagStarved r flags found) :=
  within_when fun _ => ⟨by simp [keysIn], within_vectorOf _⟩

theorem testBit_flagStarved {flags : Nat} (found : Bool) (hr : r < 8) (hflags : v.get Key.starvationFlags = flags) (hq : q < 8) :
    (((flagStarved r flags found).run v).get Key.starvationFlags).testBit q = (flags.testBit q || (decide (q = r) && found)) := by
  rw [flagStarved, run_when]
  split
  next h =>
    simp only [Bool.and_eq_true, Bool.not_eq_true'] at h
    obtain ⟨hfound, hbit⟩ := h
    rw [run_seq, get_vectorOf, get_put_self, regMod_starvationFlags, show 256 = 2 ^ 8 from rfl, Nat.testBit_mod_two_pow,
      testBit_add_two_pow hbit, hfound]
    simp [hq, Bool.or_comm]
  next h =>
    rw [hflags]
    by_cases hqr : q = r
    · subst hqr
      cases found <;> simp_all
    · simp [hqr]

theorem outs_flagStarved {flags : Nat} {found : Bool} : v.outs ⊆ ((flagStarved r flags found).run v).outs := by
  rw [flagStarved, run_when]
  split
  · simp only [run_seq, Act.vectorOf, run_dep, run_when]
    split <;> simp
  · exact List.Subset.refl _

theorem outs_flagStarved_found {flags : Nat} (hbit : flags.testBit r = false) (hvector : v.get Key.starvationVector ≠ 255) :
    Out.vector (v.get Key.starvationVector) ∈ ((flagStarved r flags true).run v).outs := by
  have hother : Key.starvationVector ≠ Key.starvationFlags := by decide
  simp [flagStarved, hbit, Act.vectorOf, run_when, get_put_ne _ _ hother, hvector]

/-! ### A turn -/

theorem arbiterObjects_apart (r : Nat) : Key.starvationFlags ∉ Rg.credit r :: seenKeys r ∧ Key.starvationWindows ∉ Rg.credit r :: seenKeys r
    ∧ Key.starvationVector ∉ Rg.credit r :: seenKeys r := by
  simp only [seenKeys, List.mem_cons, List.not_mem_nil, or_false, Key.starvationFlags, Key.starvationWindows, Key.starvationVector,
    Rg.credit, Rg.creditOld, Rg.maskOld, Rg.seenAt, Rg.at']
  omega

/-- The state in which a requester has its new credit. -/
def State.credited (u v : State) (r : Nat) : State :=
  (Act.put (Rg.credit r) (if u.masked r then 0 else u.get (Key.arbiterWeight r))).run ((keepSeen r).run v)

theorem credited_get {k : Nat} (hk : k ∉ Rg.credit r :: seenKeys r) : (u.credited v r).get k = v.get k := by
  simp only [List.mem_cons, not_or] at hk
  obtain ⟨hcredit, hseen⟩ := hk
  obtain ⟨hregs, -⟩ := run_leavesRest (cs := noCells) (keepSeen r) v (within_keepSeen r)
  exact (get_put_ne _ _ hcredit).trans (hregs k hseen)

theorem run_refillTurn_idle (h : u.waiting words r = false) : (refillTurn u words r).run v = u.credited v r := by
  have hcond : (decide (wordsOf words r = 0) || u.masked r) = true := by simpa [State.waiting, or_iff_not_imp_left] using h
  rw [refillTurn, if_pos hcond]
  rfl

theorem run_refillTurn_waits (h : u.waiting words r = true) (hwindows : v.get Key.starvationWindows = u.get Key.starvationWindows) :
    (refillTurn u words r).run v = (flagStarved r (v.get Key.starvationFlags) (u.starved words r)).run
      ((Act.put (Rg.waits r) (u.get (Rg.waits r) + 1)).run (u.credited v r)) := by
  have hcond : ¬ (decide (wordsOf words r = 0) || u.masked r) = true := by simpa [State.waiting] using h
  obtain ⟨hflagsApart, hwindowsApart, -⟩ := arbiterObjects_apart r
  have hflags : (u.credited v r).get Key.starvationFlags = v.get Key.starvationFlags := credited_get hflagsApart
  have hlimit : (u.credited v r).get Key.starvationWindows = v.get Key.starvationWindows := credited_get hwindowsApart
  rw [refillTurn, if_neg hcond, State.starved, h, Bool.true_and, ← hwindows, ← hlimit, ← hflags]
  rfl

/-- The turn's flag: set where the requester has waited too long, and no other flag changes. -/
theorem testBit_refillTurn (hr : r < 8) (hq : q < 8) (hwindows : v.get Key.starvationWindows = u.get Key.starvationWindows) :
    (((refillTurn u words r).run v).get Key.starvationFlags).testBit q
      = ((v.get Key.starvationFlags).testBit q || (decide (q = r) && u.starved words r)) := by
  obtain ⟨hflagsApart, -⟩ := arbiterObjects_apart r
  have hflags : (u.credited v r).get Key.starvationFlags = v.get Key.starvationFlags := credited_get hflagsApart
  cases hwaits : u.waiting words r
  · rw [run_refillTurn_idle hwaits, hflags, State.starved, hwaits]
    simp
  · have hwaitsApart : Key.starvationFlags ≠ Rg.waits r := by unfold Key.starvationFlags Rg.waits Rg.at'; omega
    rw [run_refillTurn_waits hwaits hwindows, testBit_flagStarved _ hr ((get_put_ne _ _ hwaitsApart).trans hflags) hq]

/-- What a turn leaves of another requester's: the registers that its own turn reads, its flag, the time, and what has been put out. -/
structure Untouched (r : Nat) (u v : State) : Prop where
  regs : ∀ k ∈ requesterKeys r, v.get k = u.get k
  flag : (v.get Key.starvationFlags).testBit r = (u.get Key.starvationFlags).testBit r
  now : v.now = u.now
  outs : ∀ o ∈ u.outs, o ∈ v.outs

theorem untouched_refl (r : Nat) (u : State) : Untouched r u u := ⟨fun _ _ => rfl, rfl, rfl, fun _ ho => ho⟩

theorem Untouched.trans (h : Untouched r u v) (h' : Untouched r v t) : Untouched r u t :=
  ⟨fun k hk => (h'.regs k hk).trans (h.regs k hk), h'.flag.trans h.flag, h'.now.trans h.now,
    fun o ho => h'.outs o (h.outs o ho)⟩

theorem outs_credited : (u.credited v r).outs = v.outs :=
  have hsilent : Silent (.seq (keepSeen r) (.put (Rg.credit r) (if u.masked r then 0 else u.get (Key.arbiterWeight r)))) :=
    ⟨fun _ => silent_when ⟨trivial, trivial, trivial, trivial⟩, trivial⟩
  (run_silent v hsilent).2.2

theorem outs_refillTurn (hwindows : v.get Key.starvationWindows = u.get Key.starvationWindows) {o : Out} (ho : o ∈ v.outs) :
    o ∈ ((refillTurn u words r).run v).outs := by
  rw [← outs_credited (u := u) (r := r)] at ho
  cases hwaits : u.waiting words r
  · rwa [run_refillTurn_idle hwaits]
  · rw [run_refillTurn_waits hwaits hwindows]
    exact outs_flagStarved (by rwa [run_put_outs])

/-- The turn of one requester leaves another. -/
theorem untouched_refillTurn (hq : q < 8) (hr : r < 8) (hne : q ≠ r)
    (hwindows : v.get Key.starvationWindows = u.get Key.starvationWindows) : Untouched r v ((refillTurn u words q).run v) := by
  obtain ⟨hregs, -, -, -, hnow, -⟩ := run_leavesRest (cs := noCells) (refillTurn u words q) v (within_refillTurn u words q)
  refine ⟨fun k hk => hregs k fun hturn => turnKeys_apart hne k hturn hk, ?_, hnow, fun _ => outs_refillTurn hwindows⟩
  rw [testBit_refillTurn hq hr hwindows]
  simp [hne.symm]

/-- What the refill leaves of a requester. -/
structure Refilled (words : List Nat) (r : Nat) (u t : State) : Prop where
  credit : t.get (Rg.credit r) = if u.masked r then 0 else u.get (Key.arbiterWeight r)
  waits : t.get (Rg.waits r) = u.get (Rg.waits r) + if u.waiting words r then 1 else 0
  flag : (t.get Key.starvationFlags).testBit r = ((u.get Key.starvationFlags).testBit r || u.starved words r)
  vector : u.starved words r = true → (u.get Key.starvationFlags).testBit r = false → u.get Key.starvationVector ≠ 255 →
    Out.vector (u.get Key.starvationVector) ∈ t.outs
  seen : t.seenCredit r = u.seenCredit r ∧ t.seenMasked r = u.seenMasked r

theorem Refilled.kept (h : Refilled words r u v) (h' : Untouched r v t) : Refilled words r u t where
  credit := (h'.regs _ (by simp [requesterKeys])).trans h.credit
  waits := (h'.regs _ (by simp [requesterKeys])).trans h.waits
  flag := h'.flag.trans h.flag
  vector hs hf hv := h'.outs _ (h.vector hs hf hv)
  seen := by
    obtain ⟨hcredit, hmasked⟩ := seen_congr (r := r) (fun k hk => h'.regs k (by simp [requesterKeys, hk])) (h'.regs _ (by simp [requesterKeys]))
      (h'.regs _ (by simp [requesterKeys])) h'.now
    exact ⟨hcredit.trans h.seen.1, hmasked.trans h.seen.2⟩

theorem credited_credit : (u.credited v r).get (Rg.credit r) = if u.masked r then 0 else u.get (Key.arbiterWeight r) := by
  rw [State.credited, get_put_self, show regMod (Rg.credit r) = 0 from regMod_at' 53 r 0, Nat.mod_zero]

theorem credited_seen {k : Nat} (hk : k ∈ seenKeys r) : (u.credited v r).get k = ((keepSeen r).run v).get k := by
  refine get_put_ne _ _ ?_
  revert k
  simp only [seenKeys, List.mem_cons, List.not_mem_nil, or_false, Rg.credit, Rg.creditOld, Rg.maskOld, Rg.seenAt, Rg.at']
  omega

/-- Behind the credit, a turn writes only the flags and the wait count. -/
theorem refillTurn_get (hwindows : v.get Key.starvationWindows = u.get Key.starvationWindows) {k : Nat} (hflags : k ≠ Key.starvationFlags)
    (hwaits : k ≠ Rg.waits r) : ((refillTurn u words r).run v).get k = (u.credited v r).get k := by
  cases hwaiting : u.waiting words r
  · rw [run_refillTurn_idle hwaiting]
  · obtain ⟨hregs, -⟩ := run_leavesRest (cs := noCells) _ ((Act.put (Rg.waits r) (u.get (Rg.waits r) + 1)).run (u.credited v r))
      (within_flagStarved r (v.get Key.starvationFlags) (u.starved words r))
    rw [run_refillTurn_waits hwaiting hwindows, hregs k fun h => hflags (List.mem_singleton.mp h), get_put_ne _ _ hwaits]

theorem waits_refillTurn (h : Untouched r u v) :
    ((refillTurn u words r).run v).get (Rg.waits r) = u.get (Rg.waits r) + if u.waiting words r then 1 else 0 := by
  have hflags : Rg.waits r ≠ Key.starvationFlags := by unfold Rg.waits Key.starvationFlags Rg.at'; omega
  have hapart : Rg.waits r ∉ Rg.credit r :: seenKeys r := by
    simp only [seenKeys, List.mem_cons, List.not_mem_nil, or_false, Rg.waits, Rg.credit, Rg.creditOld, Rg.maskOld, Rg.seenAt, Rg.at']
    omega
  cases hwaiting : u.waiting words r
  · rw [run_refillTurn_idle hwaiting, credited_get hapart, h.regs _ (by simp [requesterKeys])]
    rfl
  · obtain ⟨hregs, -⟩ := run_leavesRest (cs := noCells) _ ((Act.put (Rg.waits r) (u.get (Rg.waits r) + 1)).run (u.credited v r))
      (within_flagStarved r (v.get Key.starvationFlags) (u.starved words r))
    rw [run_refillTurn_waits hwaiting (h.regs _ (by simp [requesterKeys])), hregs _ fun h => hflags (List.mem_singleton.mp h),
      get_put_self, show regMod (Rg.waits r) = 0 from regMod_at' 53 r 1, Nat.mod_zero]
    rfl

/-- A requester's own turn, where the turns before it have left it. -/
theorem refilled_refillTurn (hr : r < 8) (h : Untouched r u v) : Refilled words r u ((refillTurn u words r).run v) := by
  have hwindows := h.regs Key.starvationWindows (by simp [requesterKeys])
  obtain ⟨-, -, -, -, hnow, -⟩ := run_leavesRest (cs := noCells) (refillTurn u words r) v (within_refillTurn u words r)
  refine ⟨?credit, waits_refillTurn h, ?flag, fun hstarved hflag hvector => ?vector, ?seen⟩
  case credit =>
    have hapart : Rg.credit r ≠ Key.starvationFlags ∧ Rg.credit r ≠ Rg.waits r := by
      unfold Rg.credit Rg.waits Key.starvationFlags Rg.at'
      omega
    rw [refillTurn_get hwindows hapart.1 hapart.2, credited_credit]
  case flag =>
    rw [testBit_refillTurn hr hr hwindows, h.flag]
    simp
  case vector =>
    obtain ⟨-, -, hvectorApart⟩ := arbiterObjects_apart r
    have hwaits : Key.starvationVector ≠ Rg.waits r := by unfold Key.starvationVector Rg.waits Rg.at'; omega
    have hwaiting : u.waiting words r = true := (Bool.and_eq_true_iff.mp hstarved).1
    have hkept : ((Act.put (Rg.waits r) (u.get (Rg.waits r) + 1)).run (u.credited v r)).get Key.starvationVector
        = u.get Key.starvationVector := by
      rw [get_put_ne _ _ hwaits, credited_get hvectorApart, h.regs _ (by simp [requesterKeys])]
    rw [run_refillTurn_waits hwaiting hwindows, hstarved, ← hkept]
    exact outs_flagStarved_found (h.flag.trans hflag) (by rwa [hkept])
  case seen =>
    have hkeys : ∀ k ∈ seenKeys r, ((refillTurn u words r).run v).get k = ((keepSeen r).run v).get k := by
      intro k hk
      have hapart : k ≠ Key.starvationFlags ∧ k ≠ Rg.waits r := by
        revert k
        simp only [seenKeys, List.mem_cons, List.not_mem_nil, or_false, Rg.waits, Key.starvationFlags, Rg.creditOld, Rg.maskOld, Rg.seenAt,
          Rg.at']
        omega
      rw [refillTurn_get hwindows hapart.1 hapart.2, credited_seen hk]
    obtain ⟨hcredit, hmasked⟩ := seen_of_keepSeen hkeys hnow
    obtain ⟨hcredit', hmasked'⟩ := seen_congr (r := r) (fun k hk => h.regs k (by simp [requesterKeys, hk])) (h.regs _ (by simp [requesterKeys]))
      (h.regs _ (by simp [requesterKeys])) h.now
    exact ⟨hcredit.trans hcredit', hmasked.trans hmasked'⟩

/-! ### All turns -/

theorem untouched_refillTurns (hr : r < 8) {l : List Nat} (hl : ∀ q ∈ l, q < 8 ∧ q ≠ r)
    (hwindows : v.get Key.starvationWindows = u.get Key.starvationWindows) : Untouched r v ((Act.each l (refillTurn u words)).run v) := by
  induction l generalizing v with
  | nil => exact untouched_refl r v
  | cons q l ih =>
    obtain ⟨⟨hq, hne⟩, hrest⟩ := List.forall_mem_cons.mp hl
    have hturn := untouched_refillTurn (words := words) hq hr hne hwindows
    exact hturn.trans (ih hrest ((hturn.regs _ (by simp [requesterKeys])).trans hwindows))

/-- A requester's own turn leaves the windows that the next turns read. -/
theorem refillTurn_windows : ((refillTurn u words r).run v).get Key.starvationWindows = v.get Key.starvationWindows := by
  obtain ⟨hregs, -⟩ := run_leavesRest (cs := noCells) (refillTurn u words r) v (within_refillTurn u words r)
  refine hregs _ ?_
  simp only [keysIn, turnKeys, seenKeys, List.mem_cons, List.not_mem_nil, or_false, Key.starvationFlags, Key.starvationWindows, Rg.credit,
    Rg.waits, Rg.creditOld, Rg.maskOld, Rg.seenAt, Rg.at']
  omega

theorem run_each_append {α : Type} (l l' : List α) (f : α → Act) (s : State) :
    (Act.each (l ++ l') f).run s = (Act.each l' f).run ((Act.each l f).run s) := by
  induction l generalizing s with
  | nil => rfl
  | cons x l ih => exact ih _

theorem refilled_refillArbiter (u : State) (words : List Nat) (hr : r < 8) : Refilled words r u ((refillArbiter words).run u) := by
  obtain ⟨before, behind, hsplit⟩ := List.append_of_mem (List.mem_range.mpr hr)
  have hnodup := hsplit ▸ List.nodup_range (n := 8)
  have hbound : ∀ q ∈ before ++ r :: behind, q < 8 := fun q hq => List.mem_range.mp (hsplit ▸ hq)
  obtain ⟨hbefore, hbehind⟩ : (∀ q ∈ before, q < 8 ∧ q ≠ r) ∧ ∀ q ∈ behind, q < 8 ∧ q ≠ r := by
    rw [List.nodup_append, List.nodup_cons] at hnodup
    obtain ⟨-, ⟨hnot, -⟩, hdisjoint⟩ := hnodup
    exact ⟨fun q hq => ⟨hbound q (by simp [hq]), fun h => hdisjoint q hq r (by simp) h⟩,
      fun q hq => ⟨hbound q (by simp [hq]), fun h => hnot (h ▸ hq)⟩⟩
  rw [run_refillArbiter, hsplit, run_each_append, run_each_cons]
  have hsame := untouched_refillTurns (u := u) (v := u) (words := words) hr hbefore rfl
  have hown := refilled_refillTurn (words := words) hr hsame
  exact hown.kept (untouched_refillTurns hr hbehind (refillTurn_windows.trans (hsame.regs _ (by simp [requesterKeys]))))

/-- The registers that a refill may write. -/
theorem within_refillArbiter (words : List Nat) : Within (fun k => k = Key.starvationFlags
    ∨ ∃ r < 8, k ∈ [Rg.credit r, Rg.waits r, Rg.creditOld r, Rg.maskOld r, Rg.seenAt r]) noCells (refillArbiter words) := by
  intro u
  refine within_each (f := refillTurn u words) fun r hr => within_mono (fun k hk => ?_) (fun _ _ h => h) _ (within_refillTurn u words r)
  rcases List.mem_cons.mp hk with rfl | hk
  · exact .inl rfl
  · exact .inr ⟨r, List.mem_range.mp hr, hk⟩

end

end Sys2Proof.Machine
end

section
/-! PROOFS. The grants of the arbiter and its masks (R314 to R316, R465), and the arbiter whole. -/

namespace Sys2Proof.Machine

/-! ### The winner -/

section
variable {u : State} {words : List Nat} {n r w : Nat}

/-- Whether a decision sees a requester that has a request and is not masked. -/
def State.competes (u : State) (words : List Nat) (r : Nat) : Bool := !(wordsOf words r == 0 || u.seenMasked r)

/-- The better of the best so far and the next requester. -/
def State.better (u : State) (words : List Nat) (best : Option Nat) (r : Nat) : Option Nat :=
  if u.competes words r then
    match best with
    | none => some r
    | some b => if u.seenCredit b < u.seenCredit r then some r else some b
  else best

theorem competes_iff : u.competes words r = true ↔ wordsOf words r ≠ 0 ∧ u.seenMasked r = false := by simp [State.competes]

theorem better_not_competing (h : u.competes words r = false) (best : Option Nat) : u.better words best r = best := by
  unfold State.better
  rw [h]
  rfl

theorem better_none (h : u.competes words r = true) : u.better words none r = some r := by
  unfold State.better
  rw [if_pos h]

theorem better_some (h : u.competes words r = true) (b : Nat) :
    u.better words (some b) r = if u.seenCredit b < u.seenCredit r then some r else some b := by
  unfold State.better
  rw [if_pos h]

theorem arbiterWinner_eq : u.arbiterWinner words = (List.range 8).foldl (u.better words) none := by
  unfold State.arbiterWinner
  congr 1
  funext best r
  cases h : u.competes words r
  · rw [better_not_competing h, if_pos (by simpa [State.competes, or_iff_not_imp_left] using h)]
  · rw [if_neg (by simpa [State.competes] using h)]
    cases best with
    | none => rw [better_none h]
    | some b => rw [better_some h]

/-- The best of the first requesters is one of them, and competes. -/
theorem competes_of_best (h : (List.range n).foldl (u.better words) none = some r) : r < n ∧ u.competes words r = true := by
  induction n generalizing r with
  | zero => cases h
  | succ n ih =>
    rw [List.range_succ, List.foldl_append, List.foldl_cons, List.foldl_nil] at h
    have hkeep : ∀ b, (List.range n).foldl (u.better words) none = some b → b < n + 1 ∧ u.competes words b = true :=
      fun b hb => ⟨Nat.lt_succ_of_lt (ih hb).1, (ih hb).2⟩
    cases hn : u.competes words n
    · rw [better_not_competing hn] at h
      exact hkeep r h
    · cases hbest : (List.range n).foldl (u.better words) none with
      | none =>
        rw [hbest, better_none hn] at h
        cases h
        exact ⟨Nat.lt_succ_self _, hn⟩
      | some b =>
        rw [hbest, better_some hn] at h
        split at h
        · cases h
          exact ⟨Nat.lt_succ_self _, hn⟩
        · cases h
          exact hkeep r hbest

theorem best_eq_none (h : ∀ r < n, u.competes words r = false) : (List.range n).foldl (u.better words) none = none := by
  cases hbest : (List.range n).foldl (u.better words) none with
  | none => rfl
  | some r =>
    obtain ⟨hr, hcompetes⟩ := competes_of_best hbest
    simp [h r hr] at hcompetes

/-- One that competes and is behind no other is the best: of equals, the one that stands first stays. -/
theorem best_eq (hw : w < n) (hcompetes : u.competes words w = true) (hbest : ∀ r < n, u.competes words r = true →
    u.seenCredit r < u.seenCredit w ∨ (u.seenCredit r = u.seenCredit w ∧ w ≤ r)) :
    (List.range n).foldl (u.better words) none = some w := by
  induction n with
  | zero => omega
  | succ n ih =>
    rw [List.range_succ, List.foldl_append, List.foldl_cons, List.foldl_nil]
    rcases Nat.lt_succ_iff_lt_or_eq.mp hw with hlt | rfl
    · rw [ih hlt fun r hr => hbest r (by omega)]
      cases hn : u.competes words n
      · exact better_not_competing hn _
      · have := hbest n (by omega) hn
        rw [better_some hn, if_neg (by omega)]
    · cases hfirst : (List.range w).foldl (u.better words) none with
      | none => exact better_none hcompetes
      | some b =>
        obtain ⟨hlt, hb⟩ := competes_of_best hfirst
        have := hbest b (by omega) hb
        rw [better_some hcompetes, if_pos (by omega)]

theorem arbiterWinner_none (h : ∀ r < 8, wordsOf words r = 0 ∨ u.seenMasked r = true) : u.arbiterWinner words = none := by
  rw [arbiterWinner_eq]
  refine best_eq_none fun r hr => ?_
  rcases h r hr with h | h <;> simp [State.competes, h]

theorem arbiterWinner_some (hw : w < 8) (hwords : wordsOf words w ≠ 0) (hmask : u.seenMasked w = false)
    (hbest : ∀ r < 8, wordsOf words r ≠ 0 → u.seenMasked r = false →
      u.seenCredit r < u.seenCredit w ∨ (u.seenCredit r = u.seenCredit w ∧ w ≤ r)) : u.arbiterWinner words = some w := by
  rw [arbiterWinner_eq]
  refine best_eq hw (competes_iff.mpr ⟨hwords, hmask⟩) fun r hr h => ?_
  obtain ⟨hr', hm⟩ := competes_iff.mp h
  exact hbest r hr hr' hm

/-! ### A grant -/

/-- Registers that are put one after the other, no one twice, read as they were put. -/
theorem get_puts {l : List (Nat × Nat)} (hl : (l.map Prod.fst).Nodup) {k x : Nat} (hk : (k, x) ∈ l) (s : State) :
    ((Act.each l fun p => .put p.1 p.2).run s).get k = x % regMod k := by
  induction l generalizing s with
  | nil => cases hk
  | cons p l ih =>
    obtain ⟨hp, hl⟩ := List.nodup_cons.mp hl
    rw [run_each_cons]
    rcases List.mem_cons.mp hk with rfl | hk
    · have hrest : Within (keysIn (l.map Prod.fst)) noCells (Act.each l fun p => .put p.1 p.2) :=
        within_each fun p hp => List.mem_map_of_mem hp
      rw [(run_leavesRest _ _ hrest).1 k hp, get_put_self]
    · exact ih hl hk _

/-- The registers that a grant puts; `u` is the state that the decision is made in. -/
def grantPuts (u : State) (words : List Nat) (w : Nat) : List (Nat × Nat) :=
  [(Rg.credit w, u.get (Rg.credit w) - wordsOf words w), (Rg.waits w, 0), (Key.grantOwner, if u.masked w then 255 else w),
    (Rg.transferring, if u.masked w then 0 else 1)]

/-- What a grant writes behind the announcement. -/
def grantTo (u : State) (words : List Nat) (w : Nat) : Act :=
  .seq (Act.each (grantPuts u words w) fun p => .put p.1 p.2) (Act.bump (Key.wordsGranted w) (wordsOf words w))

theorem run_grantArbiter_some (h : u.arbiterWinner words = some w) :
    (grantArbiter words).run u = (grantTo u words w).run ((keepSeen w).run u) := by
  rw [grantArbiter, run_dep, h]
  rfl

theorem run_grantArbiter_none (h : u.arbiterWinner words = none) : (grantArbiter words).run u = (Act.put Rg.transferring 0).run u := by
  rw [grantArbiter, run_dep, h]

def grantKeys (w : Nat) : List Nat := [Rg.credit w, Rg.waits w, Key.grantOwner, Rg.transferring, Key.wordsGranted w]

theorem grantKeys_nodup (hw : w < 8) : (grantKeys w).Nodup := by
  simp only [grantKeys, List.nodup_cons, List.mem_cons, List.not_mem_nil, or_false, not_false_eq_true, List.nodup_nil, and_true,
    Rg.credit, Rg.waits, Key.grantOwner, Rg.transferring, Key.wordsGranted, Rg.at']
  omega

theorem grantKeys_apart (hw : w < 8) : ∀ k ∈ seenKeys w, k ∉ grantKeys w := by
  simp only [seenKeys, grantKeys, List.mem_cons, List.not_mem_nil, or_false, Rg.credit, Rg.waits, Key.grantOwner, Rg.transferring,
    Key.wordsGranted, Rg.creditOld, Rg.maskOld, Rg.seenAt, Rg.at']
  omega

theorem within_grantTo {cs : Gen → Nat → Prop} : Within (keysIn (grantKeys w)) cs (grantTo u words w) := by
  refine ⟨within_each fun p hp => ?_, (within_bump _ _).mpr (by simp [keysIn, grantKeys])⟩
  have hkey := List.mem_map_of_mem (f := Prod.fst) hp
  simp only [grantPuts, List.map_cons, List.map_nil] at hkey
  exact List.mem_of_mem_dropLast hkey

/-- A register that a grant puts. -/
theorem get_grantTo (hw : w < 8) {k x : Nat} (hk : (k, x) ∈ grantPuts u words w) (v : State) :
    ((grantTo u words w).run v).get k = x % regMod k := by
  have hnodup := grantKeys_nodup hw
  have hputs : grantKeys w = (grantPuts u words w).map Prod.fst ++ [Key.wordsGranted w] := rfl
  rw [hputs, List.nodup_append] at hnodup
  obtain ⟨hnodup, -, hapart⟩ := hnodup
  rw [grantTo, run_seq, get_bump_ne _ _ (hapart k (List.mem_map_of_mem (f := Prod.fst) hk) _ (List.mem_singleton_self _)), get_puts hnodup hk]

/-- The counter of granted words stands behind all else that a grant writes. -/
theorem wordsGranted_grantTo (hw : w < 8) :
    ((grantTo u words w).run ((keepSeen w).run u)).get (Key.wordsGranted w) = u.counted (Key.wordsGranted w) (wordsOf words w) := by
  have hnodup := grantKeys_nodup hw
  have hputs : grantKeys w = (grantPuts u words w).map Prod.fst ++ [Key.wordsGranted w] := rfl
  rw [hputs, List.nodup_append] at hnodup
  obtain ⟨-, -, hapart⟩ := hnodup
  have hseen : Key.wordsGranted w ∉ seenKeys w := fun h => grantKeys_apart hw _ h (by simp [grantKeys])
  have hbefore : Within (keysIn ((grantPuts u words w).map Prod.fst)) noCells (Act.each (grantPuts u words w) fun p => .put p.1 p.2) :=
    within_each fun p hp => List.mem_map_of_mem hp
  have hkept := (run_leavesRest _ ((keepSeen w).run u) hbefore).1 (Key.wordsGranted w) fun h => hapart _ h _ (List.mem_singleton_self _) rfl
  have hkept' := (run_leavesRest (cs := noCells) _ u (within_keepSeen w)).1 (Key.wordsGranted w) hseen
  rw [grantTo, run_seq, get_bump_counted, State.counted, hkept, hkept', State.counted]

theorem grantArbiter_grants (hw : w < 8) (h : u.arbiterWinner words = some w) {t : State} (ht : t = (grantArbiter words).run u) :
    t.get Key.grantOwner = (if u.masked w then 255 else w) ∧ t.get Rg.transferring = (if u.masked w then 0 else 1)
      ∧ t.get (Rg.credit w) = u.get (Rg.credit w) - wordsOf words w ∧ t.get (Rg.waits w) = 0
      ∧ (t.seenCredit w = u.seenCredit w ∧ t.seenMasked w = u.seenMasked w)
      ∧ t.get (Key.wordsGranted w) = u.counted (Key.wordsGranted w) (wordsOf words w)
      ∧ leavesRest u t (keysIn [Rg.credit w, Rg.waits w, Rg.creditOld w, Rg.maskOld w, Rg.seenAt w, Key.grantOwner, Rg.transferring,
          Key.wordsGranted w]) noCells := by
  rw [ht, run_grantArbiter_some h]
  refine ⟨?owner, ?transferring, ?credit, ?waits, seen_behind (cs := noCells) within_grantTo (grantKeys_apart hw), wordsGranted_grantTo hw, ?rest⟩
  case owner =>
    rw [get_grantTo hw (x := if u.masked w then 255 else w) (by simp [grantPuts]), regMod_grantOwner]
    split <;> omega
  case transferring =>
    rw [get_grantTo hw (x := if u.masked w then 0 else 1) (by simp [grantPuts]), show regMod Rg.transferring = 0 from regMod_at' 53 8 1,
      Nat.mod_zero]
  case credit =>
    rw [get_grantTo hw (x := u.get (Rg.credit w) - wordsOf words w) (by simp [grantPuts]), show regMod (Rg.credit w) = 0 from regMod_at' 53 w 0,
      Nat.mod_zero]
  case waits => rw [get_grantTo hw (x := 0) (by simp [grantPuts]), Nat.zero_mod]
  case rest =>
    refine leavesRest_trans (leavesRest_mono (fun k hk => ?_) (fun _ _ h => h) (run_leavesRest (cs := noCells) _ u (within_keepSeen w)))
      (leavesRest_mono (fun k hk => ?_) (fun _ _ h => h) (run_leavesRest (cs := noCells) _ _ within_grantTo))
    · simp only [keysIn, seenKeys, List.mem_cons, List.not_mem_nil, or_false] at hk ⊢
      omega
    · simp only [keysIn, grantKeys, List.mem_cons, List.not_mem_nil, or_false] at hk ⊢
      omega
end

/-! ### A mask -/

section
variable {u : State} {r q : Nat}

/-- The mask that is asserted. -/
def maskBit (u : State) (r : Nat) : Act := Act.when (!u.masked r) (.put Key.maskState (u.get Key.maskState + 2 ^ r))

/-- What it takes of its requester. -/
def maskTakes (u : State) (r : Nat) : Act :=
  Act.all [.put (Rg.credit r) 0, .put (Rg.waits r) 0,
    Act.when (u.get Key.grantOwner == r) (.seq (.put Key.grantOwner 255) (.put Rg.transferring 0))]

theorem run_maskRequester_on : (maskRequester r true).run u = (maskTakes u r).run ((maskBit u r).run ((keepSeen r).run u)) := by
  rw [maskRequester, run_dep, if_pos rfl]
  rfl

theorem run_maskRequester_off : (maskRequester r false).run u
    = (Act.when (u.masked r && !u.heldMasked r) (.seq (keepSeen r) (.put Key.maskState (u.get Key.maskState - 2 ^ r)))).run u := by
  rw [maskRequester, run_dep, if_neg Bool.false_ne_true]

/-- What a mask that is asserted takes beside the mask itself. -/
def maskKeys (r : Nat) : List Nat := [Rg.credit r, Rg.waits r, Key.grantOwner, Rg.transferring]

theorem maskKeys_apart : ∀ k ∈ Key.maskState :: seenKeys r, k ∉ maskKeys r := by
  simp only [seenKeys, maskKeys, List.mem_cons, List.not_mem_nil, or_false, Rg.credit, Rg.waits, Key.grantOwner, Rg.transferring,
    Key.maskState, Rg.creditOld, Rg.maskOld, Rg.seenAt, Rg.at']
  omega

theorem maskState_apart : Key.maskState ∉ seenKeys r := by
  simp only [seenKeys, List.mem_cons, List.not_mem_nil, or_false, Key.maskState, Rg.creditOld, Rg.maskOld, Rg.seenAt, Rg.at']
  omega

theorem keepSeen_get {k : Nat} (hk : k ∉ seenKeys r) : ((keepSeen r).run u).get k = u.get k :=
  (run_leavesRest (cs := noCells) _ u (within_keepSeen r)).1 k hk

/-- MaskState with the mask of a requester, and without it. -/
theorem testBit_maskState (h : u.get Key.maskState < 256) (hr : r < 8) :
    (u.masked r = false → ((u.get Key.maskState + 2 ^ r) % 256).testBit q = (decide (q = r) || u.masked q))
      ∧ (u.masked r = true → ((u.get Key.maskState - 2 ^ r) % 256).testBit q = (!decide (q = r) && u.masked q)) := by
  refine ⟨fun hclear => ?_, fun hset => ?_⟩
  · have hlow : q < 8 ∨ u.masked q = false := by
      rcases Nat.lt_or_ge q 8 with hq | hq
      · exact .inl hq
      · exact .inr (Nat.testBit_lt_two_pow (Nat.lt_of_lt_of_le h (Nat.pow_le_pow_right (n := 2) (by decide) hq)))
    rw [show 256 = 2 ^ 8 from rfl, Nat.testBit_mod_two_pow, testBit_add_two_pow hclear]
    rcases hlow with hq | hq
    · simp [hq, State.masked]
    · rw [State.masked] at hq
      have : q = r → q < 8 := fun h => h ▸ hr
      by_cases hqr : q = r <;> simp_all [State.masked]
  · rw [Nat.mod_eq_of_lt (Nat.lt_of_le_of_lt (Nat.sub_le _ _) h), testBit_sub_two_pow hset]
    rfl

theorem within_maskTakes {cs : Gen → Nat → Prop} : Within (keysIn (maskKeys r)) cs (maskTakes u r) :=
  ⟨by simp [keysIn, maskKeys], by simp [keysIn, maskKeys], within_when fun _ => ⟨by simp [keysIn, maskKeys], by simp [keysIn, maskKeys]⟩,
    trivial⟩

theorem within_maskBit {cs : Gen → Nat → Prop} : Within (keysIn [Key.maskState]) cs (maskBit u r) :=
  within_when fun _ => List.mem_singleton_self _

/-- What a mask takes: the credit, the wait count, and the ownership where the requester is owner. -/
theorem maskTakes_takes (hr : r < 8) (v : State) (h : v.get Key.grantOwner = u.get Key.grantOwner) :
    ((maskTakes u r).run v).get (Rg.credit r) = 0 ∧ ((maskTakes u r).run v).get (Rg.waits r) = 0
      ∧ ((maskTakes u r).run v).get Key.grantOwner = if u.get Key.grantOwner = r then 255 else u.get Key.grantOwner := by
  have hapart : Rg.credit r ≠ Rg.waits r ∧ Rg.credit r ∉ [Key.grantOwner, Rg.transferring] ∧ Rg.waits r ∉ [Key.grantOwner, Rg.transferring]
      ∧ Key.grantOwner ∉ [Rg.credit r, Rg.waits r, Rg.transferring] := by
    simp only [List.mem_cons, List.not_mem_nil, or_false, Rg.credit, Rg.waits, Key.grantOwner, Rg.transferring, Rg.at']
    omega
  obtain ⟨hcw, hc, hw, ho⟩ := hapart
  simp only [List.mem_cons, List.not_mem_nil, or_false, not_or] at hc hw ho
  obtain ⟨hco, hct⟩ := hc
  obtain ⟨hwo, hwt⟩ := hw
  obtain ⟨hoc, how, hot⟩ := ho
  rw [maskTakes, run_all_cons, run_all_cons, run_all_cons, run_all_nil, run_when]
  by_cases howner : u.get Key.grantOwner = r
  · rw [if_pos (by simp [howner]), if_pos howner, run_seq]
    exact ⟨by rw [get_put_ne _ _ hct, get_put_ne _ _ hco, get_put_ne _ _ hcw, get_put_self, Nat.zero_mod],
      by rw [get_put_ne _ _ hwt, get_put_ne _ _ hwo, get_put_self, Nat.zero_mod], by rw [get_put_ne _ _ hot, get_put_self, regMod_grantOwner]⟩
  · rw [if_neg (by simp [howner]), if_neg howner]
    exact ⟨by rw [get_put_ne _ _ hcw, get_put_self, Nat.zero_mod], by rw [get_put_self, Nat.zero_mod],
      by rw [get_put_ne _ _ how, get_put_ne _ _ hoc, h]⟩

/-- The mask itself. -/
theorem testBit_maskBit {v : State} (hu : u.get Key.maskState < 256) (hr : r < 8) (hv : v.get Key.maskState = u.get Key.maskState) :
    ((maskBit u r).run v).masked q = (decide (q = r) || u.masked q) := by
  rw [maskBit, run_when, State.masked]
  cases hmask : u.masked r
  · rw [if_pos (by simp), get_put_self, regMod_maskState, (testBit_maskState hu hr).1 hmask]
  · rw [if_neg (by simp), hv]
    by_cases hq : q = r
    · subst hq
      simpa [State.masked] using hmask
    · simp [hq, State.masked]

theorem maskRequester_masks (hu : u.get Key.maskState < 256) (hr : r < 8) {t : State} (ht : t = (maskRequester r true).run u) :
    t.masked r = true ∧ t.get (Rg.credit r) = 0 ∧ t.get (Rg.waits r) = 0
      ∧ t.get Key.grantOwner = (if u.get Key.grantOwner = r then 255 else u.get Key.grantOwner)
      ∧ (t.seenCredit r = u.seenCredit r ∧ t.seenMasked r = u.seenMasked r) ∧ (∀ q, q ≠ r → t.masked q = u.masked q)
      ∧ leavesRest u t (keysIn [Key.maskState, Rg.credit r, Rg.waits r, Rg.creditOld r, Rg.maskOld r, Rg.seenAt r, Key.grantOwner,
          Rg.transferring]) noCells := by
  have hrun : t = (Act.seq (maskBit u r) (maskTakes u r)).run ((keepSeen r).run u) := ht.trans run_maskRequester_on
  have hrest : Within (keysIn (Key.maskState :: maskKeys r)) noCells (.seq (maskBit u r) (maskTakes u r)) :=
    ⟨within_mono (fun k hk => List.mem_cons.mpr (.inl (List.mem_singleton.mp hk))) (fun _ _ h => h) _ within_maskBit,
      within_mono (fun k hk => List.mem_cons_of_mem _ hk) (fun _ _ h => h) _ within_maskTakes⟩
  have howner : ((maskBit u r).run ((keepSeen r).run u)).get Key.grantOwner = u.get Key.grantOwner := by
    rw [(run_leavesRest _ _ (within_maskBit (cs := noCells))).1 _ (by simp [keysIn, Key.grantOwner, Key.maskState]), keepSeen_get]
    simp only [seenKeys, List.mem_cons, List.not_mem_nil, or_false, Key.grantOwner, Rg.creditOld, Rg.maskOld, Rg.seenAt, Rg.at']
    omega
  have hmask (q : Nat) : t.masked q = (decide (q = r) || u.masked q) := by
    have htakes : t.masked q = ((maskBit u r).run ((keepSeen r).run u)).masked q := by
      rw [hrun, run_seq, State.masked, State.masked,
        (run_leavesRest _ _ (within_maskTakes (cs := noCells))).1 _ (maskKeys_apart Key.maskState (List.mem_cons_self ..))]
    rw [htakes, testBit_maskBit hu hr (keepSeen_get maskState_apart)]
  obtain ⟨hcredit, hwaits, hown⟩ := maskTakes_takes hr ((maskBit u r).run ((keepSeen r).run u)) howner
  refine ⟨by simp [hmask], hrun ▸ hcredit, hrun ▸ hwaits, hrun ▸ hown, ?seen, fun q hq => by simp [hmask, hq], ?rest⟩
  case seen =>
    rw [hrun]
    refine seen_behind hrest fun k hk h => ?_
    rcases List.mem_cons.mp h with rfl | h
    · exact maskState_apart hk
    · exact maskKeys_apart k (List.mem_cons_of_mem _ hk) h
  case rest =>
    rw [hrun]
    refine leavesRest_trans (leavesRest_mono (fun k hk => ?_) (fun _ _ h => h) (run_leavesRest (cs := noCells) _ u (within_keepSeen r)))
      (leavesRest_mono (fun k hk => ?_) (fun _ _ h => h) (run_leavesRest _ _ hrest))
    · simp only [keysIn, seenKeys, List.mem_cons, List.not_mem_nil, or_false] at hk ⊢
      omega
    · simp only [keysIn, maskKeys, List.mem_cons, List.not_mem_nil, or_false] at hk ⊢
      omega

theorem maskRequester_unmasks (hu : u.get Key.maskState < 256) (hr : r < 8) (hheld : u.heldMasked r = false) {t : State}
    (ht : t = (maskRequester r false).run u) :
    t.masked r = false ∧ (∀ q, q ≠ r → t.masked q = u.masked q) ∧ (t.seenCredit r = u.seenCredit r ∧ t.seenMasked r = u.seenMasked r)
      ∧ leavesRest u t (keysIn [Key.maskState, Rg.creditOld r, Rg.maskOld r, Rg.seenAt r]) noCells := by
  rw [run_maskRequester_off, hheld, Bool.not_false, Bool.and_true, run_when] at ht
  cases hmask : u.masked r
  · rw [hmask, if_neg Bool.false_ne_true] at ht
    subst ht
    exact ⟨hmask, fun _ _ => rfl, ⟨rfl, rfl⟩, leavesRest_refl⟩
  · rw [hmask, if_pos rfl, run_seq] at ht
    have hput : Within (keysIn [Key.maskState]) noCells (.put Key.maskState (u.get Key.maskState - 2 ^ r)) := List.mem_singleton_self _
    have hmasked (q : Nat) : t.masked q = (!decide (q = r) && u.masked q) := by
      rw [State.masked, ht, get_put_self, regMod_maskState, (testBit_maskState hu hr).2 hmask]
    refine ⟨by simp [hmasked], fun q hq => by simp [hmasked, hq], ?seen, ?rest⟩
    case seen =>
      rw [ht]
      exact seen_behind hput fun k hk h => maskState_apart (List.mem_singleton.mp h ▸ hk)
    case rest =>
      rw [ht]
      exact leavesRest_trans
        (leavesRest_mono (fun k hk => List.mem_cons_of_mem _ hk) (fun _ _ h => h) (run_leavesRest (cs := noCells) _ u (within_keepSeen r)))
        (leavesRest_mono (fun k hk => List.mem_cons.mpr (.inl (List.mem_singleton.mp hk))) (fun _ _ h => h) (run_leavesRest _ _ hput))

theorem run_maskRequester_held (hheld : u.heldMasked r = true) : (maskRequester r false).run u = u := by
  rw [run_maskRequester_off, hheld, Bool.not_true, Bool.and_false, run_when_false]

end

/-! ### The arbiter -/

/-- Settles O44: the refill takes each requester's turn on its own, a decision takes the best of those that compete, and what it sees of a
requester is kept before the requester's credit or mask changes. -/
theorem theArbiterGrantsByCredit : Obligations.TheArbiterGrantsByCredit := by
  intro s dt words hd u seen
  refine ⟨?refill, ?grant, ?idle, fun r hmask => ⟨?on, ?off, ?held⟩⟩
  case refill =>
    refine runs_powered rfl hd ⟨fun r hr => ?_, run_leavesRest _ _ (within_refillArbiter words)⟩
    obtain ⟨hcredit, hwaits, hflag, hvector, hseen⟩ := refilled_refillArbiter u words hr
    have hwaiting : u.waiting words r = true ↔ ¬ (wordsOf words r = 0 ∨ u.masked r = true) := waiting_iff
    have hstarved : u.starved words r = true
        ↔ ¬ (wordsOf words r = 0 ∨ u.masked r = true) ∧ u.get Key.starvationWindows < u.get (Rg.waits r) + 1 := by
      rw [State.starved, Bool.and_eq_true, decide_eq_true_iff, hwaiting]
    refine ⟨hcredit, hseen, ?_, ?_, fun h => hvector (hstarved.mpr h)⟩
    · exact hwaits.trans (by simp only [hwaiting])
    · rw [← hstarved, hflag, Bool.or_eq_true]
  case grant =>
    exact fun w hw hwords hmask hbest => runs_powered rfl hd (grantArbiter_grants hw (arbiterWinner_some hw hwords hmask hbest) rfl)
  case idle =>
    intro hnone
    refine runs_powered rfl hd ?_
    rw [run_grantArbiter_none (arbiterWinner_none hnone)]
    exact ⟨by rw [get_put_self, Nat.zero_mod], run_leavesRest _ _ (List.mem_singleton_self _)⟩
  case on => exact runs_powered rfl hd (maskRequester_masks hmask r.isLt rfl)
  case off => exact fun hheld => runs_powered rfl hd (maskRequester_unmasks hmask r.isLt hheld rfl)
  case held =>
    intro hheld
    refine runs_powered rfl hd ?_
    rw [run_maskRequester_held hheld]
    exact leavesRest_refl

end Sys2Proof.Machine
end

section
/-! PROOFS. The Gloves' jobs and freshness counters: what each act on them writes and leaves (R307 to R312). -/

namespace Sys2Proof.Machine

section
variable {s t u v : State} {ks : Nat → Prop} {f : Fld} {idx idx' row row' c : Nat}

/-! ### Rows -/

/-- An octet of another row. -/
theorem rowCells_apart {g h : Gen} {o : Nat} (hrow : row < 2 ^ 24) (hrow' : row' < 2 ^ 24) (ho : o < 4096) (hne : idx' ≠ idx ∨ row' ≠ row) :
    ¬ rowCells g idx row h (cellKey idx' row' o) := by
  rintro ⟨-, hlo, hhi⟩
  unfold cellKey at hlo hhi
  omega

/-- What writes only one row leaves the fields of every other. -/
theorem fld_other_row (h : leavesRest u t ks (rowCells .live idx row)) (hrow : row < 2 ^ 24) (hrow' : row' < 2 ^ 24)
    (hf : f.first + f.span ≤ 4096) (hne : idx' ≠ idx ∨ row' ≠ row) : t.fld .live idx' row' f = u.fld .live idx' row' f := by
  obtain ⟨-, hcells, -⟩ := h
  exact fld_congr fun i hi => hcells .live _ (rowCells_apart hrow hrow' (by omega) hne)

theorem job_row_lt (p : Fin 64) (v : Fin 16) : 16 * p.val + v.val < 1024 := by omega

/-- The counter that a job names is a row of its table. -/
theorem jobCounter_lt (s : State) (row : Nat) : s.job row F.jobCounter < 2 ^ 24 :=
  Nat.lt_trans (Nat.mod_lt _ (Nat.two_pow_pos _)) (by decide)

/-! ### The end of a job -/

/-- The octets of a slot that the end of its job writes: State, Status, Result and Time. -/
def endCells (row : Nat) : Gen → Nat → Prop := fun g a => g = .live
  ∧ (cellKey 0xF096 row 0 ≤ a ∧ a < cellKey 0xF096 row 14 ∨ cellKey 0xF096 row 40 ≤ a ∧ a < cellKey 0xF096 row 48)

theorem endCells_row {g : Gen} {a : Nat} (h : endCells row g a) : rowCells .live 0xF096 row g a := by
  obtain ⟨hg, h⟩ := h
  unfold cellKey at h
  exact ⟨hg, by unfold cellKey; omega, by unfold cellKey; omega⟩

theorem within_endJob (row status result : Nat) : Within ks (endCells row) (endJob row status result) := by
  have hfield (f : Fld) (x : Nat) (hf : f.first + f.span ≤ 14 ∨ 40 ≤ f.first ∧ f.first + f.span ≤ 48) :
      Within ks (endCells row) (Act.setF .live 0xF096 row f x) := within_setF _ _ _ _ _ fun i hi => by
    unfold Fld.first Fld.span at hf
    exact ⟨rfl, by unfold cellKey; omega⟩
  exact fun _ => ⟨hfield F.jobState _ (by decide), hfield F.jobStatus _ (by decide), hfield F.jobResult _ (by decide),
    hfield F.jobTime _ (by decide), within_when fun _ => trivial, trivial⟩

theorem endJob_leavesRest (s : State) (row status result : Nat) :
    leavesRest s ((endJob row status result).run s) (keysIn []) (rowCells .live 0xF096 row) :=
  leavesRest_mono (fun _ h => h) (fun _ _ => endCells_row) (run_leavesRest _ s (within_endJob row status result))

/-- What a job that has ended reads as. -/
def State.jobDone (t : State) (row status result vns : Nat) : Prop :=
  t.job row F.jobState = 3 ∧ t.job row F.jobStatus = status ∧ t.job row F.jobResult = result ∧ t.job row F.jobTime = vns % 2 ^ 64

theorem fld_notify (u : State) (b : Bool) (o : Out) (g : Gen) : ((Act.when b (.emit o)).run u).fld g idx row f = u.fld g idx row f := by
  cases b
  · rfl
  · exact fld_emit u o ..

/-- A field is left by what is stored in other octets of its row. -/
theorem fld_setF_disjoint (u : State) (idx row : Nat) {f' : Fld} (x : Nat) (h : f.disjoint f' = true) :
      ((Act.setF .live idx row f' x).run u).fld .live idx row f = u.fld .live idx row f :=
    fld_setF_apart u .live idx row f' f x (by simpa [Fld.disjoint] using h)

theorem run_endJob (s : State) (row status result : Nat) :  (endJob row status result).run s = (Act.when (s.page (row / 16) F.pageVector != 255)
      (.emit (.vector (s.page (row / 16) F.pageVector)))).run ((Act.setF .live 0xF096 row F.jobTime s.vns).run
        ((Act.setF .live 0xF096 row F.jobResult result).run ((Act.setF .live 0xF096 row F.jobStatus status).run
          ((Act.setF .live 0xF096 row F.jobState 3).run s)))) := by
  rw [endJob, run_dep]
  dsimp only
  rw [run_all_cons, run_all_cons, run_all_cons, run_all_cons, run_all_cons, run_all_nil]

theorem endJob_jobDone (s : State) {row status result : Nat} (hstatus : status < 256) (hresult : result < 256) :
    ((endJob row status result).run s).jobDone row status result s.vns := by
  rw [run_endJob]
  refine ⟨?_, ?_, ?_, ?_⟩ <;> rw [State.job, fld_notify]
  · rw [fld_setF_disjoint _ _ _ _ (by decide), fld_setF_disjoint _ _ _ _ (by decide), fld_setF_disjoint _ _ _ _ (by decide), fld_setF_self]
    decide
  · rw [fld_setF_disjoint _ _ _ _ (by decide), fld_setF_disjoint _ _ _ _ (by decide), fld_setF_self]
    exact Nat.mod_eq_of_lt hstatus
  · rw [fld_setF_disjoint _ _ _ _ (by decide), fld_setF_self]
    exact Nat.mod_eq_of_lt hresult
  · exact fld_setF_self ..

/-- The end of a job leaves its freshness value and its MAC. -/
theorem endJob_jobFresh (s : State) (row status result : Nat) : ((endJob row status result).run s).job row F.jobFresh = s.job row F.jobFresh := by
  obtain ⟨-, hcells, -⟩ := run_leavesRest (ks := keysIn []) _ s (within_endJob row status result)
  refine fld_congr fun i hi => hcells .live _ ?_
  rintro ⟨-, h⟩
  have hspan : F.jobFresh.span = 8 := by decide
  have hfirst : F.jobFresh.first = 16 := by decide
  unfold cellKey at h
  omega

theorem endJob_mac (s : State) (row status result : Nat) :
    ((endJob row status result).run s).rowOctets .live 0xF096 row 24 16 = s.rowOctets .live 0xF096 row 24 16 := by
  obtain ⟨-, hcells, -⟩ := run_leavesRest (ks := keysIn []) _ s (within_endJob row status result)
  refine List.map_congr_left fun i hi => hcells .live _ ?_
  rintro ⟨-, h⟩
  have := List.mem_range.mp hi
  unfold cellKey at h
  omega

/-! ### The MAC -/

theorem within_writeMac (row : Nat) (mac : List Byte) : Within ks (rowCells .live 0xF096 row) (writeMac row mac) :=
  fun _ => within_block _ _ _ fun i hi => by
    rw [octetsAt_length] at hi
    rw [cellKey_add]
    exact rowCells_mem (by omega)

theorem writeMac_mac (s : State) (row : Nat) (mac : List Byte) :
    ((writeMac row mac).run s).rowOctets .live 0xF096 row 24 16 = octetsAt (mac.take (s.job row F.jobMacLength)) 0 16 := by
  have h := octets_block_self s .live (cellKey 0xF096 row 24) (octetsAt (mac.take (s.job row F.jobMacLength)) 0 16)
  rwa [octetsAt_length] at h

/-! ### The warning of a counter -/

theorem within_warnFresh (c : Nat) : Within ks (rowCells .live 0xF094 c) (warnFresh c) :=
  fun _ => within_when fun _ => ⟨within_setF_row _ _ _ _ _, within_vectorOf _⟩

/-- The warning leaves the value of its counter. -/
theorem warnFresh_value (s : State) (c : Nat) : ((warnFresh c).run s).fresh c F.freshValue = s.fresh c F.freshValue := by
  rw [warnFresh, run_dep, run_when]
  split
  · rw [run_seq, State.fresh, Act.vectorOf, run_dep, fld_notify]
    exact fld_setF_apart s .live 0xF094 c F.freshWarned F.freshValue 1 (by decide)
  · rfl

theorem vns_of_leavesRest {cs : Gen → Nat → Prop} (h : leavesRest u t ks cs) : t.vns = u.vns := by
  obtain ⟨-, -, -, -, -, hvtime, -⟩ := h
  rw [State.vns, hvtime, State.vns]

/-! ### Completion -/

theorem completes_eq {op : Nat} (hstate : u.job row F.jobState = 2) (hop : u.job row F.jobOp = op) : u.completes row op = true := by
  simp [State.completes, hstate, hop]

theorem run_generates (h : u.completes row 1 = true) (hseal : row ≠ sealRow) :
    (generates row).run u = (endJob row 0 0).run ((writeMac row (u.jobMac row [])).run u) := by
  rw [generates, run_dep, h, Bool.true_and, bne_iff_ne.mpr hseal, run_when_true, run_seq]

theorem run_generates_seal : (generates sealRow).run u = u := by
  rw [generates, run_dep, bne_self_eq_false, Bool.and_false, run_when_false]

theorem run_verifies (h : u.completes row 2 = true) :
    (verifies row).run u = (endJob row 0 (if u.macMatches row (u.jobMac row []) then 1 else 2)).run u := by
  rw [verifies, run_dep, h, run_when_true]

theorem run_generatesFresh (h : u.completes row 3 = true) (hkey : u.keyExhausted (u.job row F.jobKeySlot) = false) :
    (generatesFresh row).run u = (endJob row 0 0).run ((Act.setF .live 0xF096 row F.jobFresh (u.get (Rg.jobValue row))).run
      ((writeMac row (u.jobMac row (u.freshOctets (u.job row F.jobCounter) (u.get (Rg.jobValue row))))).run u)) := by
  rw [generatesFresh, run_dep]
  dsimp only
  rw [h, run_when_true, hkey, if_neg Bool.false_ne_true, run_all_cons, run_all_cons, run_all_cons, run_all_nil]

theorem run_generatesFresh_exhausted (h : u.completes row 3 = true) (hkey : u.keyExhausted (u.job row F.jobKeySlot) = true) :
    (generatesFresh row).run u = (endJob row 5 0).run u := by
  rw [generatesFresh, run_dep]
  dsimp only
  rw [h, run_when_true, if_pos hkey]

/-- Whether the key or the counter of a job of MacVerifyFresh is used up, and whether its value is not a newer one. -/
def State.jobSpent (u : State) (row : Nat) : Bool :=
  u.keyExhausted (u.job row F.jobKeySlot) || decide (u.freshLast (u.job row F.jobCounter) ≤ u.fresh (u.job row F.jobCounter) F.freshValue)
def State.jobStale (u : State) (row : Nat) : Bool :=
  decide (u.job row F.jobFresh ≤ u.fresh (u.job row F.jobCounter) F.freshValue)
    || decide (u.freshLast (u.job row F.jobCounter) < u.job row F.jobFresh)

/-- The MAC of a job of MacVerifyFresh. -/
def State.freshMac (u : State) (row : Nat) : List Byte := u.jobMac row (u.freshOctets (u.job row F.jobCounter) (u.job row F.jobFresh))

theorem jobSpent_iff : u.jobSpent row = true ↔ u.keyExhausted (u.job row F.jobKeySlot) = true
    ∨ u.freshLast (u.job row F.jobCounter) ≤ u.fresh (u.job row F.jobCounter) F.freshValue := by
  simp [State.jobSpent]

theorem jobStale_iff : u.jobStale row = true ↔ u.job row F.jobFresh ≤ u.fresh (u.job row F.jobCounter) F.freshValue
    ∨ u.freshLast (u.job row F.jobCounter) < u.job row F.jobFresh := by
  simp [State.jobStale]

/-- The order in which MacVerifyFresh decides (R311). -/
theorem run_verifiesFresh (h : u.completes row 4 = true) : (verifiesFresh row).run u
    = (if u.jobSpent row then Act.seq (warnFresh (u.job row F.jobCounter)) (endJob row 5 0)
      else if u.jobStale row then .seq (warnFresh (u.job row F.jobCounter)) (endJob row 0 3)
      else if !u.macMatches row (u.freshMac row) then .seq (warnFresh (u.job row F.jobCounter)) (endJob row 0 2)
      else Act.all [Act.setF .live 0xF094 (u.job row F.jobCounter) F.freshValue (u.job row F.jobFresh), warnFresh (u.job row F.jobCounter),
        endJob row 0 1]).run u := by
  rw [verifiesFresh, run_dep]
  dsimp only
  rw [h, run_when_true, State.jobSpent, State.jobStale, State.freshMac]

/-- The end of a job behind a change of its counter alone: what the counter was, it stays. -/
theorem warned_ends {status result : Nat} (hrow : row < 2 ^ 24) (hc : c < 2 ^ 24) (hstatus : status < 256) (hresult : result < 256)
    (h : leavesRest u v (keysIn []) (rowCells .live 0xF094 c)) {t : State} (ht : t = (endJob row status result).run ((warnFresh c).run v)) :
    t.jobDone row status result u.vns ∧ t.fresh c F.freshValue = v.fresh c F.freshValue
      ∧ leavesRest u t (keysIn []) (bothCells (rowCells .live 0xF096 row) (rowCells .live 0xF094 c)) := by
  subst ht
  have hwarned := leavesRest_trans h (run_leavesRest (ks := keysIn []) _ v (within_warnFresh c))
  have hended := endJob_leavesRest ((warnFresh c).run v) row status result
  refine ⟨?_, ?_, leavesRest_trans (leavesRest_mono (fun _ h => h) (fun _ _ => .inr) hwarned)
    (leavesRest_mono (fun _ h => h) (fun _ _ => .inl) hended)⟩
  · rw [← vns_of_leavesRest hwarned]
    exact endJob_jobDone _ hstatus hresult
  · exact (fld_other_row hended hrow hc (by decide) (.inl (by decide))).trans (warnFresh_value v c)

/-- A job that generates a MAC ends with it. -/
theorem generated (h : leavesRest u v (keysIn []) (rowCells .live 0xF096 row)) {t : State} (ht : t = (endJob row 0 0).run v) :
    t.jobDone row 0 0 u.vns ∧ t.rowOctets .live 0xF096 row 24 16 = v.rowOctets .live 0xF096 row 24 16
      ∧ t.job row F.jobFresh = v.job row F.jobFresh ∧ leavesRest u t (keysIn []) (rowCells .live 0xF096 row) := by
  subst ht
  refine ⟨?_, endJob_mac .., endJob_jobFresh .., leavesRest_trans h (endJob_leavesRest v row 0 0)⟩
  rw [← vns_of_leavesRest h]
  exact endJob_jobDone _ (by decide) (by decide)

/-- The value of a job stands beside its MAC. -/
theorem mac_setFresh (x : Nat) : ((Act.setF .live 0xF096 row F.jobFresh x).run u).rowOctets .live 0xF096 row 24 16
    = u.rowOctets .live 0xF096 row 24 16 := by
  have hvalue : Within (keysIn []) (fun _ a => cellKey 0xF096 row 16 ≤ a ∧ a < cellKey 0xF096 row 24)
      (Act.setF .live 0xF096 row F.jobFresh x) := within_setF _ _ _ _ _ fun i hi => by
    have hspan : (F.jobFresh.bit % 8 + F.jobFresh.width + 7) / 8 = 8 := by decide
    have hfirst : F.jobFresh.bit / 8 = 16 := by decide
    unfold cellKey
    omega
  obtain ⟨-, hcells, -⟩ := run_leavesRest _ u hvalue
  refine List.map_congr_left fun i _ => hcells .live _ ?_
  unfold cellKey
  omega

/-! ### The five completions -/

/-- A job of MacVerifyFresh that advances nothing. -/
theorem macVerifyFresh_refused (hrow : row < 2 ^ 24) {status result : Nat} (hs : status < 256) (hr : result < 256) {t : State}
    (ht : t = (Act.seq (warnFresh (u.job row F.jobCounter)) (endJob row status result)).run u) : t.jobDone row status result u.vns
      ∧ t.fresh (u.job row F.jobCounter) F.freshValue = u.fresh (u.job row F.jobCounter) F.freshValue
      ∧ leavesRest u t (keysIn []) (bothCells (rowCells .live 0xF096 row) (rowCells .live 0xF094 (u.job row F.jobCounter))) := by
  rw [run_seq] at ht
  exact warned_ends hrow (jobCounter_lt u row) hs hr leavesRest_refl ht

variable (hstate : u.job row F.jobState = 2)
include hstate

theorem macGenerate_completes (hop : u.job row F.jobOp = 1) (hseal : row ≠ sealRow) {t : State} (ht : t = (generates row).run u) :
    t.jobDone row 0 0 u.vns ∧ t.rowOctets .live 0xF096 row 24 16 = octetsAt ((u.jobMac row []).take (u.job row F.jobMacLength)) 0 16
      ∧ leavesRest u t (keysIn []) (rowCells .live 0xF096 row) := by
  obtain ⟨hdone, hmac, -, hrest⟩ := generated (run_leavesRest _ u (within_writeMac row (u.jobMac row [])))
    (ht.trans (run_generates (completes_eq hstate hop) hseal))
  exact ⟨hdone, hmac.trans (writeMac_mac ..), hrest⟩

theorem macVerify_completes (hop : u.job row F.jobOp = 2) {t : State} (ht : t = (verifies row).run u) :
    t.jobDone row 0 (if (u.rowOctets .live 0xF096 row 24 16).take (u.job row F.jobMacLength)
        = (u.jobMac row []).take (u.job row F.jobMacLength) then 1 else 2) u.vns
      ∧ leavesRest u t (keysIn []) (rowCells .live 0xF096 row) := by
  have hmatch : u.macMatches row (u.jobMac row []) = true ↔ (u.rowOctets .live 0xF096 row 24 16).take (u.job row F.jobMacLength)
      = (u.jobMac row []).take (u.job row F.jobMacLength) := by rw [State.macMatches, beq_iff_eq]
  have hrun := ht.trans (run_verifies (completes_eq hstate hop))
  simp only [hmatch] at hrun
  rw [hrun]
  exact ⟨endJob_jobDone u (by decide) (by split <;> decide), endJob_leavesRest ..⟩

theorem macGenerateFresh_completes (hop : u.job row F.jobOp = 3) (hkey : u.keyExhausted (u.job row F.jobKeySlot) = false) {t : State}
    (ht : t = (generatesFresh row).run u) : t.jobDone row 0 0 u.vns
      ∧ t.rowOctets .live 0xF096 row 24 16 = octetsAt ((u.jobMac row (u.freshOctets (u.job row F.jobCounter)
          (u.get (Rg.jobValue row)))).take (u.job row F.jobMacLength)) 0 16
      ∧ t.job row F.jobFresh = u.get (Rg.jobValue row) % 2 ^ 64 ∧ leavesRest u t (keysIn []) (rowCells .live 0xF096 row) := by
  have hmac := run_leavesRest (ks := keysIn []) _ u (within_writeMac row (u.jobMac row (u.freshOctets (u.job row F.jobCounter)
    (u.get (Rg.jobValue row)))))
  have hvalue := run_leavesRest (ks := keysIn []) _ ((writeMac row (u.jobMac row (u.freshOctets (u.job row F.jobCounter)
    (u.get (Rg.jobValue row))))).run u) (within_setF_row .live 0xF096 row F.jobFresh (u.get (Rg.jobValue row)))
  obtain ⟨hdone, hwritten, hfresh, hrest⟩ := generated (leavesRest_trans hmac hvalue)
    (ht.trans (run_generatesFresh (completes_eq hstate hop) hkey))
  exact ⟨hdone, hwritten.trans ((mac_setFresh _).trans (writeMac_mac ..)), hfresh.trans (fld_setF_self ..), hrest⟩

theorem macGenerateFresh_exhausted (hop : u.job row F.jobOp = 3) (hkey : u.keyExhausted (u.job row F.jobKeySlot) = true) {t : State}
    (ht : t = (generatesFresh row).run u) : t.jobDone row 5 0 u.vns ∧ leavesRest u t (keysIn []) (rowCells .live 0xF096 row) := by
  rw [ht, run_generatesFresh_exhausted (completes_eq hstate hop) hkey]
  exact ⟨endJob_jobDone u (by decide) (by decide), endJob_leavesRest ..⟩

theorem macVerifyFresh_completes (hrow : row < 2 ^ 24) (hop : u.job row F.jobOp = 4) {t : State} (ht : t = (verifiesFresh row).run u) :
    let c := u.job row F.jobCounter
    (u.jobSpent row = true → t.jobDone row 5 0 u.vns)
      ∧ (¬ u.jobSpent row = true → u.jobStale row = true → t.jobDone row 0 3 u.vns)
      ∧ (¬ u.jobSpent row = true → ¬ u.jobStale row = true → ¬ u.macMatches row (u.freshMac row) = true → t.jobDone row 0 2 u.vns)
      ∧ (u.jobSpent row = true ∨ u.jobStale row = true ∨ ¬ u.macMatches row (u.freshMac row) = true →
          t.fresh c F.freshValue = u.fresh c F.freshValue)
      ∧ (¬ u.jobSpent row = true → ¬ u.jobStale row = true → ¬ ¬ u.macMatches row (u.freshMac row) = true →
          t.jobDone row 0 1 u.vns ∧ t.fresh c F.freshValue = u.job row F.jobFresh)
      ∧ leavesRest u t (keysIn []) (bothCells (rowCells .live 0xF096 row) (rowCells .live 0xF094 c)) := by
  have hrun := ht.trans (run_verifiesFresh (completes_eq hstate hop))
  cases hspent : u.jobSpent row
  · cases hstale : u.jobStale row
    · rw [hspent, hstale, if_neg Bool.false_ne_true, if_neg Bool.false_ne_true] at hrun
      cases hmatch : u.macMatches row (u.freshMac row)
      · rw [hmatch, if_pos (by decide)] at hrun
        obtain ⟨hdone, hkept, hrest⟩ := macVerifyFresh_refused hrow (by decide) (by decide) hrun
        simp [hdone, hkept, hrest]
      · rw [hmatch, if_neg (by decide), run_all_cons, run_all_cons, run_all_cons, run_all_nil] at hrun
        have hvalue := run_leavesRest (ks := keysIn []) _ u
          (within_setF_row .live 0xF094 (u.job row F.jobCounter) F.freshValue (u.job row F.jobFresh))
        obtain ⟨hdone, hkept, hrest⟩ := warned_ends hrow (jobCounter_lt u row) (by decide) (by decide) hvalue hrun
        have hset : ((Act.setF .live 0xF094 (u.job row F.jobCounter) F.freshValue (u.job row F.jobFresh)).run u).fresh
            (u.job row F.jobCounter) F.freshValue = u.job row F.jobFresh :=
          (fld_setF_self ..).trans (Nat.mod_eq_of_lt (Nat.mod_lt _ (Nat.two_pow_pos _)))
        simp [hdone, hkept, hset, hrest]
    · rw [hspent, hstale, if_neg Bool.false_ne_true, if_pos rfl] at hrun
      obtain ⟨hdone, hkept, hrest⟩ := macVerifyFresh_refused hrow (by decide) (by decide) hrun
      simp [hdone, hkept, hrest]
  · rw [hspent, if_pos rfl] at hrun
    obtain ⟨hdone, hkept, hrest⟩ := macVerifyFresh_refused hrow (by decide) (by decide) hrun
    simp [hdone, hkept, hrest]

end

/-- Settles O42: a completion writes the slot's result octets and, for the freshness operations, the counter's value, each in octets of its
own. -/
theorem jobsComplete : Obligations.JobsComplete := by
  intro s dt p v u row c n x done writes rest exhausted mac hd hstate
  have hrow : row < 2 ^ 24 := Nat.lt_trans (job_row_lt p v) (by decide)
  refine ⟨fun hop hseal => runs_powered rfl hd (macGenerate_completes hstate hop hseal rfl), fun hseal => runs_powered rfl hd ?ofSeal,
    fun hop => runs_powered rfl hd (macVerify_completes hstate hop rfl),
    fun hop hkey => runs_powered rfl hd (macGenerateFresh_completes hstate hop hkey rfl),
    fun hop hkey => runs_powered rfl hd (macGenerateFresh_exhausted hstate hop hkey rfl), fun hop => runs_powered rfl hd ?verifyFresh⟩
  case ofSeal =>
    rw [show 16 * p.val + v.val = sealRow from hseal, run_generates_seal]
    exact leavesRest_refl
  case verifyFresh =>
    have hspent : u.jobSpent row = true ↔ exhausted = true ∨ u.freshLast c ≤ u.fresh c F.freshValue := jobSpent_iff
    have hstale : u.jobStale row = true ↔ x ≤ u.fresh c F.freshValue ∨ u.freshLast c < x := jobStale_iff
    have hmatch : u.macMatches row (u.freshMac row) = true ↔ (u.rowOctets .live 0xF096 row 24 16).take n = (mac x).take n := beq_iff_eq
    dsimp only
    rw [← hspent, ← hstale, ne_eq, ← hmatch]
    exact macVerifyFresh_completes hstate hrow hop rfl

end Sys2Proof.Machine
end

section
/-! PROOFS. The load of a freshness counter by a write of its row (R312, R313, R326). -/

namespace Sys2Proof.Machine

section
variable {s u v : State} {path : Path} {tab : Tab} {f : Fld} {idx row off n : Nat} {data : List Byte}

/-! ### Admitted row writes -/

/-- A row write that is admitted reaches its table. -/
theorem writeRowAt_admitted (h : u.admitsRow path idx row off data.length = true) (ht : tableOf idx = some tab) :
    writeRowAt u path idx row false off data = ⟨(writeUnstaged u path tab row off data).1, (writeUnstaged u path tab row off data).2,
      (writeUnstaged u path tab row off data).1 == 0⟩ ∧ tab.holds row off data.length := by
  simp only [State.admitsRow, ht, Bool.and_eq_true, decide_eq_true_eq, Bool.not_eq_true', bne_iff_ne] at h
  obtain ⟨hserves, ⟨⟨⟨⟨hstaged, hrow⟩, hn⟩, hfit⟩, hmay⟩, hbusy⟩ := h
  exact ⟨writeRowAt_unstaged hserves ht hstaged ⟨hrow, hn, hfit⟩ hmay hbusy, hrow, hn, hfit⟩

/-- A row write whose effect leaves a state answers it. -/
theorem runs_rowWrite {c : Instr} {dt st : Nat} {a : Act} {b : Bool} {P : State → Prop}
    (hc : exec c s = command dt (rowWrite path idx row false off data) s)
    (hw : writeRowAt (s.facing dt path) path idx row false off data = ⟨st, a, b⟩)
    (h : P ((Act.answer st []).run (a.run (s.facing dt path)))) : Runs c s P := by
  refine ⟨_, hc.trans (command_rowWrite ..), ?_⟩
  rw [hw]
  exact h

/-! ### The row of a counter -/

/-- The table of the counters. -/
def freshTab : Tab := ⟨0xF094, 16384, 16, .rwS, .safety, false, "FreshnessCounters"⟩

theorem freshLayout_apart : (layout 0xF094).Pairwise (fun f f' => f.apart f' = true)
    ∧ ∀ f ∈ layout 0xF094, f.bit + f.width ≤ 8 * freshTab.stride := by decide

/-- Whether a write touches Value, Width or KeySlot. -/
def touchesFresh (off n : Nat) : Bool := [F.freshValue, F.freshWidth, F.freshKeySlot].any fun f => f.touched off n

theorem touchesFresh_iff : touchesFresh off n = true
    ↔ F.freshValue.touched off n = true ∨ F.freshWidth.touched off n = true ∨ F.freshKeySlot.touched off n = true := by
  simp [touchesFresh]

/-- They are the fields of the row that a write may change. -/
theorem touchesFresh_layout : ((layout 0xF094).any fun f => !f.ro && f.touched off n) = touchesFresh off n := by
  simp [touchesFresh, layout, layoutF094, F.freshValue, F.freshWidth, F.freshLoaded, F.freshWarned, F.freshExhausted, F.freshKeySlot,
    F.freshGeneration]

theorem freshWritable_iff : u.freshWritable row = true ↔ u.fldOn .live 0xF094 row F.freshLoaded = false
    ∨ u.slotGeneration (u.fresh row F.freshKeySlot) ≠ u.fresh row F.freshGeneration := by
  simp [State.freshWritable]

/-- The row that a write leaves before it is loaded: Value is held below 2^Width. -/
def freshImage (u : State) (row off : Nat) (data : List Byte) : Nat × Bool :=
  pin (liveMerge u freshTab 0xF094 row off data (layout 0xF094)) F.freshValue
    (min (imageField (liveMerge u freshTab 0xF094 row off data (layout 0xF094)).1 F.freshValue)
      (2 ^ imageField (liveMerge u freshTab 0xF094 row off data (layout 0xF094)).1 F.freshWidth - 1))

theorem rowFault_fresh (new : Nat) :
    u.rowFault 0xF094 row off n new = if touchesFresh off n && !u.freshWritable row then some 2 else none := rfl

theorem writeUnstaged_fresh : writeUnstaged u path freshTab row off data
    = if touchesFresh off data.length && !u.freshWritable row then (2, .skip)
      else (0, Act.when (touchesFresh off data.length) (.seq (storeLive u freshTab 0xF094 row (freshImage u row off data)) (loadFresh row))) := by
  rw [← touchesFresh_layout]
  have hfault := rowFault_fresh (u := u) (row := row) (off := off) (n := data.length)
    (leNat (overlay (u.rowOctets .live 0xF094 row 0 16) off data))
  rw [← touchesFresh_layout] at hfault
  have hwrite : writeUnstaged u path freshTab row off data
    = match u.rowFault 0xF094 row off data.length (leNat (overlay (u.rowOctets .live 0xF094 row 0 16) off data)) with
      | some st => (st, .skip)
      | none => (0, Act.when ((layout 0xF094).any fun f => !f.ro && f.touched off data.length)
          (.seq (storeLive u freshTab 0xF094 row (freshImage u row off data)) (loadFresh row))) := rfl
  rw [hwrite, hfault]
  generalize (((layout 0xF094).any fun f => !f.ro && f.touched off data.length) && !u.freshWritable row) = refused
  cases refused
  · rfl
  · rfl

/-! ### What is stored -/

theorem imageField_freshImage (hf : f ∈ layout 0xF094) (hv : f ≠ F.freshValue) :
    imageField (freshImage u row off data).1 f = imageField (liveMerge u freshTab 0xF094 row off data (layout 0xF094)).1 f :=
  have hapart : ∀ f ∈ layout 0xF094, f ≠ F.freshValue → f.apart F.freshValue = true := by decide
  imageField_pin_apart (hapart f hf hv) _ _ _

/-- The state once the written fields are stored, before the counter is loaded. -/
def freshStored (u : State) (row off : Nat) (data : List Byte) : State :=
  (storeLive u freshTab 0xF094 row (freshImage u row off data)).run u

theorem freshStored_leavesRest : leavesRest u (freshStored u row off data) (keysIn []) (bothCells (rowCells .live 0xF094 row) clampCells) :=
  storeLive_leavesRest (by decide) (by decide) _

theorem fld_freshStored (hr : row < 2 ^ 24) (hf : f ∈ layout 0xF094) (hv : f ≠ F.freshValue) (hro : f.ro = false) :
    (freshStored u row off data).fresh row f = liveValue u freshTab 0xF094 row off data f := by
  obtain ⟨hapart, hfit⟩ := freshLayout_apart
  rw [State.fresh, freshStored, fld_storeLive hr (by decide) (by decide) (by decide) (hfit f hf), imageField_freshImage hf hv,
    imageField_liveMerge hapart hf hro (hfit f hf)]

theorem value_freshStored (hr : row < 2 ^ 24) : (freshStored u row off data).fresh row F.freshValue
    = min (liveValue u freshTab 0xF094 row off data F.freshValue) (2 ^ liveValue u freshTab 0xF094 row off data F.freshWidth - 1) := by
  obtain ⟨hapart, hfit⟩ := freshLayout_apart
  have hlt := liveValue_lt (u := u) (tab := freshTab) (idx := 0xF094) (row := row) (off := off) (data := data) (f := F.freshValue)
  rw [State.fresh, freshStored, fld_storeLive hr (by decide) (by decide) (by decide) (hfit _ (by decide)), freshImage, imageField_pin_self,
    imageField_liveMerge hapart (by decide) rfl (hfit _ (by decide)), imageField_liveMerge hapart (by decide) rfl (hfit _ (by decide))]
  exact Nat.mod_eq_of_lt (Nat.lt_of_le_of_lt (Nat.min_le_left _ _) hlt)

/-- The legal values of the three fields fit them. -/
theorem liveValue_fresh (hf : f ∈ [F.freshValue, F.freshWidth, F.freshKeySlot]) : liveValue u freshTab 0xF094 row off data f
    = if f.touched off data.length = true
      then clampTo f.legal f.width f.dflt (bits (leNat (overlay (u.rowOctets .live 0xF094 row 0 16) off data)) f.bit f.width)
      else u.fresh row f := by
  have hlegal (x : Nat) (hx : x < 2 ^ f.width) : clampTo f.legal f.width f.dflt x < 2 ^ f.width := by
    simp only [List.mem_cons, List.not_mem_nil, or_false] at hf
    rcases hf with rfl | rfl | rfl
    · exact hx
    · have hrange : intoInterval 8 64 x ≤ 64 := by
        unfold intoInterval
        split
        · omega
        · split <;> omega
      exact Nat.lt_of_le_of_lt hrange (by decide)
    · exact hx
  rw [liveValue]
  split
  · exact Nat.mod_eq_of_lt (hlegal _ (Nat.mod_lt _ (Nat.two_pow_pos _)))
  · rfl

/-! ### The load -/

theorem run_loadFresh (v : State) (c : Nat) : (loadFresh c).run v = (Act.zero [Rg.exhaustedGen c, Rg.staleFresh c]).run
    ((Act.setF .live 0xF094 c F.freshExhausted 0).run ((Act.setF .live 0xF094 c F.freshWarned 0).run
      ((Act.setF .live 0xF094 c F.freshGeneration (v.slotGeneration (v.fresh c F.freshKeySlot))).run
        ((Act.setF .live 0xF094 c F.freshLoaded 1).run v)))) := by
  rw [loadFresh, run_dep, run_all_cons, run_all_cons, run_all_cons, run_all_cons, run_all_cons, run_all_nil]

theorem within_loadFresh (c : Nat) : Within (keysIn [Rg.exhaustedGen c, Rg.staleFresh c]) (rowCells .live 0xF094 c) (loadFresh c) := fun _ =>
  ⟨within_setF_row _ _ _ _ _, within_setF_row _ _ _ _ _, within_setF_row _ _ _ _ _, within_setF_row _ _ _ _ _, within_zero fun _ h => h, trivial⟩

/-- The load writes no octet of Value, Width or KeySlot. -/
theorem fld_loadFresh (hf : f ∈ [F.freshValue, F.freshWidth, F.freshKeySlot]) :
    ((loadFresh row).run v).fresh row f = v.fresh row f := by
  have hapart : ∀ f ∈ [F.freshValue, F.freshWidth, F.freshKeySlot], f.disjoint F.freshExhausted = true ∧ f.disjoint F.freshWarned = true
      ∧ f.disjoint F.freshGeneration = true ∧ f.disjoint F.freshLoaded = true := by decide
  obtain ⟨hexhausted, hwarned, hgeneration, hloaded⟩ := hapart f hf
  rw [run_loadFresh, State.fresh, fld_zeroRegs, fld_setF_disjoint _ _ _ _ hexhausted, fld_setF_disjoint _ _ _ _ hwarned,
    fld_setF_disjoint _ _ _ _ hgeneration, fld_setF_disjoint _ _ _ _ hloaded, State.fresh]

/-- What a load leaves in the counter's flags and its generation. -/
theorem loadFresh_flags : ((loadFresh row).run v).fresh row F.freshLoaded = 1 ∧ ((loadFresh row).run v).fresh row F.freshWarned = 0
    ∧ ((loadFresh row).run v).fresh row F.freshExhausted = 0
    ∧ ((loadFresh row).run v).fresh row F.freshGeneration = v.slotGeneration (v.fresh row F.freshKeySlot) % 2 ^ F.freshGeneration.width := by
  rw [run_loadFresh]
  refine ⟨?_, ?_, ?_, ?_⟩ <;> rw [State.fresh, fld_zeroRegs]
  · rw [fld_setF_beside _ row _ (by decide) (by decide) (by decide) (by decide),
      fld_setF_beside _ row _ (by decide) (by decide) (by decide) (by decide), fld_setF_disjoint _ _ _ _ (by decide), fld_setF_self]
    decide
  · rw [fld_setF_beside _ row _ (by decide) (by decide) (by decide) (by decide), fld_setF_self, Nat.zero_mod]
  · rw [fld_setF_self, Nat.zero_mod]
  · rw [fld_setF_disjoint _ _ _ _ (by decide), fld_setF_disjoint _ _ _ _ (by decide), fld_setF_self]

theorem loadFresh_usable : ((loadFresh row).run v).get (Rg.exhaustedGen row) = 0 ∧ ((loadFresh row).run v).get (Rg.staleFresh row) = 0 := by
  rw [run_loadFresh]
  exact ⟨get_zero_mem _ (List.mem_cons_self ..), get_zero_mem _ (List.mem_cons_of_mem _ (List.mem_singleton_self _))⟩

/-- The store leaves the key slots. -/
theorem slotGeneration_freshStored (hr : row < 2 ^ 24) {n : Nat} (hn : n < 2 ^ 24) :
    (freshStored u row off data).slotGeneration n = u.slotGeneration n := by
  obtain ⟨-, hcells, -⟩ := freshStored_leavesRest (u := u) (row := row) (off := off) (data := data)
  have hfit : F.keyGeneration.first + F.keyGeneration.span ≤ 4096 := by decide
  refine fld_congr fun i hi => hcells .live _ ?_
  rintro (h | h)
  · exact rowCells_apart hr hn (by omega) (.inl (by decide)) h
  · exact absurd ((cellKey_table hn (by omega)).symm.trans h.2) (by decide)

/-- A counter that is loaded by an accepted write. -/
theorem freshLoaded (hr : row < 2 ^ 24) {t : State} (ht : t = (Act.answer 0 []).run ((loadFresh row).run (freshStored u row off data))) :
    t.status = 0
      ∧ t.fresh row F.freshWidth = liveValue u freshTab 0xF094 row off data F.freshWidth
      ∧ t.fresh row F.freshKeySlot = liveValue u freshTab 0xF094 row off data F.freshKeySlot
      ∧ t.fresh row F.freshValue
        = min (liveValue u freshTab 0xF094 row off data F.freshValue) (2 ^ liveValue u freshTab 0xF094 row off data F.freshWidth - 1)
      ∧ t.fldOn .live 0xF094 row F.freshLoaded = true ∧ t.fresh row F.freshWarned = 0 ∧ t.fresh row F.freshExhausted = 0
      ∧ t.fresh row F.freshGeneration = u.slotGeneration (t.fresh row F.freshKeySlot) % 2 ^ F.freshGeneration.width
      ∧ t.get (Rg.exhaustedGen row) = 0 ∧ t.get (Rg.staleFresh row) = 0
      ∧ leavesRest u t (keysIn [Rg.exhaustedGen row, Rg.staleFresh row]) (bothCells (rowCells .live 0xF094 row) clampCells) := by
  obtain ⟨hloaded, hwarned, hexhausted, hgeneration⟩ := loadFresh_flags (row := row) (v := freshStored u row off data)
  obtain ⟨hgen, hstale⟩ := loadFresh_usable (row := row) (v := freshStored u row off data)
  have hkept (f : Fld) : t.fresh row f = ((loadFresh row).run (freshStored u row off data)).fresh row f := by
    rw [ht, State.fresh, fld_answer, State.fresh]
  have hregs (k : Nat) : t.get k = ((loadFresh row).run (freshStored u row off data)).get k := by rw [ht, get_answer]
  have hslot : t.fresh row F.freshKeySlot = (freshStored u row off data).fresh row F.freshKeySlot :=
    (hkept _).trans (fld_loadFresh (by simp))
  have hlt : (freshStored u row off data).fresh row F.freshKeySlot < 2 ^ 24 :=
    Nat.lt_trans (Nat.mod_lt _ (Nat.two_pow_pos _)) (by decide)
  refine ⟨by rw [ht]; rfl, ?_, ?_, ?_, ?_, (hkept _).trans hwarned, (hkept _).trans hexhausted, ?_, (hregs _).trans hgen,
    (hregs _).trans hstale, ?_⟩
  · rw [hkept, fld_loadFresh (by simp), fld_freshStored hr (by decide) (by decide) rfl]
  · rw [hslot, fld_freshStored hr (by decide) (by decide) rfl]
  · rw [hkept, fld_loadFresh (by simp), value_freshStored hr]
  · rw [State.fldOn, bne_iff_ne]
    exact fun h => absurd (h.symm.trans ((hkept _).trans hloaded)) (by decide)
  · rw [hslot, hkept, hgeneration, slotGeneration_freshStored hr hlt]
  · rw [ht]
    exact leavesRest_trans (leavesRest_mono (by simp [keysIn]) (fun _ _ h => h) freshStored_leavesRest)
      (leavesRest_trans (leavesRest_mono (fun _ h => h) (fun _ _ => .inl) (run_leavesRest _ _ (within_loadFresh row))) (leavesRest_answered _ _ _))

end

/-- Settles O43: a write that names Value, Width or KeySlot is refused while the counter is loaded under its slot's generation, and else
merges the row, holds Value below 2^Width, and loads the counter; no other field of the row can be written. -/
theorem loadedCountersAreNotRewritten : Obligations.LoadedCountersAreNotRewritten := by
  intro s dt path row off data u r n touches mayLoad x hadmits
  obtain ⟨hwrite, hr, -⟩ := writeRowAt_admitted (tab := freshTab) hadmits rfl
  rw [writeUnstaged_fresh] at hwrite
  have hr : r < 2 ^ 24 := Nat.lt_trans hr (by decide)
  have htouches : touchesFresh off n = true ↔ touches := touchesFresh_iff
  have hmayLoad : u.freshWritable r = true ↔ mayLoad := freshWritable_iff
  have hx {f : Fld} (hf : f ∈ [F.freshValue, F.freshWidth, F.freshKeySlot]) : liveValue u freshTab 0xF094 r off data f = x f :=
    liveValue_fresh hf
  refine ⟨fun h hno => ?refused, fun h hmay => ?loaded, fun h => ?untouched⟩
  case refused =>
    rw [htouches.mpr h, Bool.eq_false_iff.mpr (mt hmayLoad.mp hno), Bool.not_false, Bool.and_true, if_pos rfl] at hwrite
    exact runs_rowWrite rfl hwrite ⟨rfl, leavesRest_answered _ _ _⟩
  case loaded =>
    rw [htouches.mpr h, hmayLoad.mpr hmay, Bool.not_true, Bool.and_false, if_neg Bool.false_ne_true] at hwrite
    refine runs_rowWrite rfl hwrite ?_
    rw [← hx (f := F.freshWidth) (by simp), ← hx (f := F.freshKeySlot) (by simp), ← hx (f := F.freshValue) (by simp)]
    refine freshLoaded hr ?_
    dsimp only
    rw [run_when_true, run_seq, freshStored]
  case untouched =>
    rw [Bool.eq_false_iff.mpr (mt htouches.mp h), Bool.false_and, if_neg Bool.false_ne_true] at hwrite
    exact runs_rowWrite rfl hwrite ⟨rfl, leavesRest_answered _ _ _⟩

end Sys2Proof.Machine
end

section
/-! PROOFS. The objects of the Gloves' pages, and the submission of a job (R305). -/

namespace Sys2Proof.Machine

section
variable {s u v : State} {path : Path} {f : Fld} {p n x : Nat}

/-! ### The objects of a page -/

theorem template_page (hp : p < 64) : template (0x8100 + p) = (0x8100, p) := by
  have hall : ∀ p : Fin 64, template (0x8100 + p.val) = (0x8100, p.val) := by decide
  exact hall ⟨p, hp⟩

/-- Every page has the objects of the first. -/
theorem objAt_page (hp : p < 64) (sub : Nat) : u.objAt (0x8100 + p) sub = u.objAt 0x8100 sub := by
  have hfirst : template 0x8100 = (0x8100, 0) := by decide
  have hkinds : byKindGroup 0x8100 = false := by decide
  simp only [State.objAt, template_page hp, hfirst, hkinds, Bool.not_false, Bool.true_or]

theorem legalValue_page (hp : p < 64) (sub : Nat) (o : Obj) (x : Nat) :
    u.legalValue (0x8100 + p) sub o x = clampTo o.legal o.ty.bits (regDefault (u.keyAt (0x8100 + p) sub)) x := by
  unfold State.legalValue
  rw [template_page hp]
  rfl

theorem isClamp_self (idx x : Nat) : isClamp idx x x = false := by simp [isClamp]

/-! ### The write of JobSubmit -/

theorem objAt_jobSubmit {o : Obj} (hp : p < 64) (h : u.objAt (0x8100 + p) 1 = some o) :
    isCommand o = true ∧ o.ty = .u8 ∧ o.legal = .segs [(0, 15)] := by
  rw [objAt_page hp] at h
  cases h
  exact ⟨rfl, rfl, rfl⟩

/-- What the write of a slot number does: a refusal has its own effect alone. -/
def submitAct (u : State) (p n : Nat) : Act :=
  if (submitJob u p n).1 == 0 then .seq (.put (u.keyAt (0x8100 + p) 1) 0) (submitJob u p n).2 else (submitJob u p n).2

theorem writeScalarAt_jobSubmit (hp : p < 64) (hn : n < 16) (ha : u.admits path (0x8100 + p) 1 = true) :
    writeScalarAt u path (0x8100 + p) 1 n
      = ⟨(submitJob u p n).1, Act.all [.skip, submitAct u p n], (submitJob u p n).1 == 0⟩ := by
  obtain ⟨o, ho, hw⟩ := writeScalarAt_admits u path (0x8100 + p) 1 n ha
  obtain ⟨hcommand, hty, hlegal⟩ := objAt_jobSubmit hp ho
  have hslot : ofSlot o.ty n = n := by
    rw [hty]
    exact Nat.mod_eq_of_lt (Nat.lt_trans hn (by decide))
  have hvalue : u.legalValue (0x8100 + p) 1 o n = n := by
    have hrange : intoInterval 0 15 n = n := by
      unfold intoInterval
      rw [if_neg (by omega), if_neg (by omega)]
    rw [legalValue_page hp, hlegal]
    exact hrange
  have hrun : runCommand u path (0x8100 + p) 1 n = .answers (submitJob u p n) := by simp only [runCommand, template_page hp]
  have hwrite : writeValue u path (0x8100 + p) 1 n o = ⟨(submitJob u p n).1, submitAct u p n, (submitJob u p n).1 == 0⟩ := by
    rw [writeValue, hcommand, hrun, submitAct]
    cases hst : (submitJob u p n).1 == 0
    · simp only [Ran.answers, hst, if_true, Bool.false_eq_true, if_false]
    · simp only [Ran.answers, if_true, beq_iff_eq.mp hst]
      rfl
  rw [hw, hslot, hvalue, hwrite, isClamp_self, Bool.and_false]
  rfl

/-! ### The status of a submission -/

/-- The first status that applies (R305), with 4 for a slot that finds 256 jobs in flight. -/
def State.submitStatus (u : State) (p n : Nat) : Nat :=
  if u.get (Key.pageState p) ≠ 2 then 2 else if u.page p F.pageQuota ≤ n then 1
  else if u.job (16 * p + n) F.jobState ≠ 0 then 3
  else if ¬ (u.page p F.pageKeyBase ≤ u.job (16 * p + n) F.jobKeySlot
      ∧ u.job (16 * p + n) F.jobKeySlot < u.page p F.pageKeyBase + u.page p F.pageKeyCount) then 2
  else if ¬ (u.page p F.pageFreshBase ≤ u.job (16 * p + n) F.jobCounter
      ∧ u.job (16 * p + n) F.jobCounter < u.page p F.pageFreshBase + u.page p F.pageFreshCount) then 2
  else if 256 ≤ u.jobsInFlight then 4 else 0

/-- A slot that is taken becomes Queued behind the jobs that were submitted before it. -/
def queueJob (u : State) (row : Nat) : Act :=
  Act.all [Act.setF .live 0xF096 row F.jobState 1, Act.setF .live 0xF096 row F.jobStatus 0,
    Act.setF .live 0xF096 row F.jobResult 0, .put (Rg.jobOrder row) (u.get Rg.jobsSubmitted),
    .put Rg.jobsSubmitted (u.get Rg.jobsSubmitted + 1)]

theorem submitJob_eq : submitJob u p n = (min (u.submitStatus p n) 3,
    if u.submitStatus p n = 0 then queueJob u (16 * p + n)
    else if u.submitStatus p n = 4 then Act.bump Key.submitBusyRefusals else .skip) := by
  unfold submitJob State.submitStatus
  dsimp only
  by_cases hstate : u.get (Key.pageState p) = 2
  · by_cases hquota : u.page p F.pageQuota ≤ n
    · simp [hstate, hquota]
    · by_cases hfree : u.job (16 * p + n) F.jobState = 0
      · by_cases hkey : u.page p F.pageKeyBase ≤ u.job (16 * p + n) F.jobKeySlot
          ∧ u.job (16 * p + n) F.jobKeySlot < u.page p F.pageKeyBase + u.page p F.pageKeyCount
        · by_cases hfresh : u.page p F.pageFreshBase ≤ u.job (16 * p + n) F.jobCounter
            ∧ u.job (16 * p + n) F.jobCounter < u.page p F.pageFreshBase + u.page p F.pageFreshCount
          · by_cases hbusy : 256 ≤ u.jobsInFlight
            · simp [hstate, hquota, hfree, hkey, hfresh, hbusy]
            · simp [hstate, hquota, hfree, hkey, hfresh, hbusy, queueJob]
          · simp [hstate, hquota, hfree, hkey, hfresh]
        · simp [hstate, hquota, hfree, hkey]
      · simp [hstate, hquota, hfree]
  · simp [hstate]

/-! ### A slot that becomes Queued -/

theorem run_queueJob (row : Nat) : (queueJob u row).run v = (Act.put Rg.jobsSubmitted (u.get Rg.jobsSubmitted + 1)).run
    ((Act.put (Rg.jobOrder row) (u.get Rg.jobsSubmitted)).run ((Act.setF .live 0xF096 row F.jobResult 0).run
      ((Act.setF .live 0xF096 row F.jobStatus 0).run ((Act.setF .live 0xF096 row F.jobState 1).run v)))) := by
  rw [queueJob, run_all_cons, run_all_cons, run_all_cons, run_all_cons, run_all_cons, run_all_nil]

theorem within_queueJob (row : Nat) : Within (keysIn [Rg.jobOrder row, Rg.jobsSubmitted]) (rowCells .live 0xF096 row) (queueJob u row) :=
  ⟨within_setF_row _ _ _ _ _, within_setF_row _ _ _ _ _, within_setF_row _ _ _ _ _, List.mem_cons_self ..,
    List.mem_cons_of_mem _ (List.mem_singleton_self _), trivial⟩

theorem job_queueJob (row : Nat) : ((queueJob u row).run v).job row F.jobState = 1 ∧ ((queueJob u row).run v).job row F.jobStatus = 0
    ∧ ((queueJob u row).run v).job row F.jobResult = 0
    ∧ ∀ f ∈ layout 0xF096, ¬ f ∈ [F.jobState, F.jobStatus, F.jobResult] → ((queueJob u row).run v).job row f = v.job row f := by
  rw [run_queueJob]
  refine ⟨?_, ?_, ?_, fun f hf hne => ?_⟩ <;> rw [State.job, fld_put, fld_put]
  · rw [fld_setF_disjoint _ _ _ _ (by decide), fld_setF_disjoint _ _ _ _ (by decide), fld_setF_self]
    decide
  · rw [fld_setF_disjoint _ _ _ _ (by decide), fld_setF_self, Nat.zero_mod]
  · rw [fld_setF_self, Nat.zero_mod]
  · have hapart : ∀ f ∈ layout 0xF096, ¬ f ∈ [F.jobState, F.jobStatus, F.jobResult] →
        f.disjoint F.jobResult = true ∧ f.disjoint F.jobStatus = true ∧ f.disjoint F.jobState = true := by decide
    obtain ⟨hresult, hstatus, hstate⟩ := hapart f hf hne
    rw [fld_setF_disjoint _ _ _ _ hresult, fld_setF_disjoint _ _ _ _ hstatus, fld_setF_disjoint _ _ _ _ hstate, State.job]

/-! ### The submission -/

theorem run_submitAct_queues (h : u.submitStatus p n = 0) :
    (submitAct u p n).run u = (queueJob u (16 * p + n)).run ((Act.put (u.keyAt (0x8100 + p) 1) 0).run u) := by
  rw [submitAct, submitJob_eq, h, if_pos rfl, Nat.zero_min, if_pos (beq_self_eq_true _), run_seq]

theorem run_submitAct_refused (h : u.submitStatus p n ≠ 0) :
    (submitAct u p n).run u = (Act.when (u.submitStatus p n == 4) (Act.bump Key.submitBusyRefusals)).run u := by
  have hmin : ¬ (min (u.submitStatus p n) 3 == 0) = true := by simp [h]
  rw [submitAct, submitJob_eq, if_neg hmin, if_neg h]
  by_cases h4 : u.submitStatus p n = 4
  · rw [if_pos h4, h4, beq_self_eq_true, run_when_true]
  · rw [if_neg h4, beq_false_of_ne h4, run_when_false, run_skip]

theorem submitAct_queued (h : u.submitStatus p n = 0) {t : State} (ht : t = (Act.answer 0 []).run ((submitAct u p n).run u)) :
    t.status = 0 ∧ t.job (16 * p + n) F.jobState = 1 ∧ t.job (16 * p + n) F.jobStatus = 0 ∧ t.job (16 * p + n) F.jobResult = 0
      ∧ (∀ f ∈ layout 0xF096, ¬ f ∈ [F.jobState, F.jobStatus, F.jobResult] → t.job (16 * p + n) f = u.job (16 * p + n) f)
      ∧ leavesRest u t (keysIn [u.keyAt (0x8100 + p) 1, Rg.jobOrder (16 * p + n), Rg.jobsSubmitted]) (rowCells .live 0xF096 (16 * p + n)) := by
  rw [run_submitAct_queues h] at ht
  obtain ⟨hstate, hstatus, hresult, hothers⟩ := job_queueJob (u := u) (v := (Act.put (u.keyAt (0x8100 + p) 1) 0).run u) (16 * p + n)
  have hjob (f : Fld) : t.job (16 * p + n) f
      = ((queueJob u (16 * p + n)).run ((Act.put (u.keyAt (0x8100 + p) 1) 0).run u)).job (16 * p + n) f := by
    rw [ht, State.job, fld_answer, State.job]
  refine ⟨by rw [ht]; rfl, (hjob _).trans hstate, (hjob _).trans hstatus, (hjob _).trans hresult, fun f hf hne => ?_, ?_⟩
  · rw [hjob, hothers f hf hne, State.job, fld_put, State.job]
  · rw [ht]
    have hkey : Within (keysIn [u.keyAt (0x8100 + p) 1, Rg.jobOrder (16 * p + n), Rg.jobsSubmitted]) (rowCells .live 0xF096 (16 * p + n))
        (.put (u.keyAt (0x8100 + p) 1) 0) := List.mem_cons_self ..
    have hqueue := run_leavesRest _ ((Act.put (u.keyAt (0x8100 + p) 1) 0).run u) (within_queueJob (u := u) (16 * p + n))
    exact leavesRest_trans (run_leavesRest _ u hkey)
      (leavesRest_trans (leavesRest_mono (fun _ => List.mem_cons_of_mem _) (fun _ _ h => h) hqueue) (leavesRest_answered _ _ _))

theorem submitAct_refuses (h : u.submitStatus p n ≠ 0) {st : Nat} {t : State} (ht : t = (Act.answer st []).run ((submitAct u p n).run u)) :
    leavesRest u t (keysIn (if u.submitStatus p n = 4 then [Key.submitBusyRefusals] else [])) noCells
      ∧ (u.submitStatus p n = 4 → t.get Key.submitBusyRefusals = u.counted Key.submitBusyRefusals) := by
  rw [run_submitAct_refused h] at ht
  constructor
  · rw [ht]
    refine leavesRest_trans (run_leavesRest _ u (within_when fun h4 => ?_)) (leavesRest_answered _ _ _)
    rw [if_pos (beq_iff_eq.mp h4), within_bump]
    exact List.mem_singleton_self _
  · intro h4
    rw [ht, h4, beq_self_eq_true, run_when_true, get_answer, get_bump_counted]

/-- R305: the write of a slot number. -/
theorem exec_jobSubmit {dt : Nat} {p : Fin 64} {n : Fin 16} (ha : (s.facing dt path).admits path (0x8100 + p.val) 1 = true) :
    exec (.jobSubmit dt path p (BitVec.ofNat 64 n.val)) s
      = .next ((Act.answer (min ((s.facing dt path).submitStatus p.val n.val) 3) []).run
          ((submitAct (s.facing dt path) p.val n.val).run (s.facing dt path))) := by
  have hv : (BitVec.ofNat 64 n.val).toNat = n.val := by
    rw [BitVec.toNat_ofNat]
    exact Nat.mod_eq_of_lt (by omega)
  have hexec : exec (.jobSubmit dt path p (BitVec.ofNat 64 n.val)) s
      = command dt (scalarWrite path (0x8100 + p.val) 1 (BitVec.ofNat 64 n.val).toNat) s := rfl
  rw [hexec, command_scalarWrite, hv, writeScalarAt_jobSubmit p.isLt n.isLt ha, Wrote.act, run_seq, run_all_cons, run_all_cons, run_all_nil,
    run_skip, submitJob_eq]

end
end Sys2Proof.Machine
end

section
/-! PROOFS. The dispatch of a job (R306, R307, R310, R313, R326). -/

namespace Sys2Proof.Machine

section
variable {s u v : State} {p row unit c x n : Nat} {f : Fld}

/-! ### The job whose turn it is -/

theorem mem_insertBy {α : Type} {le : α → α → Bool} {a y : α} {l : List α} : y ∈ insertBy le a l ↔ y = a ∨ y ∈ l := by
  induction l with
  | nil => simp [insertBy]
  | cons b l ih =>
    rw [insertBy]
    split
    · simp
    · rw [List.mem_cons, ih, List.mem_cons]
      tauto

theorem mem_sortBy {α : Type} {le : α → α → Bool} {y : α} {l : List α} : y ∈ sortBy le l ↔ y ∈ l := by
  induction l with
  | nil => rfl
  | cons b l ih => rw [sortBy, mem_insertBy, ih, List.mem_cons]

theorem nextPage_lt (h : u.nextPage = some p) : p < 64 := by
  obtain ⟨i, -, rfl⟩ := List.mem_map.mp (List.mem_of_find?_eq_some h)
  exact Nat.mod_lt _ (by decide)

theorem nextJob_page (h : u.nextJob p = some row) : row / 16 = p := by
  have hmem := (mem_sortBy.mp (List.mem_of_mem_head? h : row ∈ sortBy _ _))
  exact beq_iff_eq.mp (List.mem_filter.mp hmem).2

theorem dispatched_lt (hpage : u.nextPage = some p) (hjob : u.nextJob p = some row) : row < 1024 := by
  have := nextPage_lt hpage
  have := nextJob_page hjob
  omega

/-- A unit with a free context takes a job. -/
def runJob (row unit : Nat) : Act := Act.all [Act.setF .live 0xF096 row F.jobState 2, .put (Rg.jobUnit row) (unit + 1)]

/-- What becomes of the job whose turn it is. -/
def dispatchAct (u : State) (row unit : Nat) : Act :=
  if (u.aesKey (u.job row F.jobKeySlot) (jobUser row)).isNone then endJob row 2 0
  else if u.job row F.jobOp = 0 then Act.draw fun x => endJob row (x % 256) 0
  else if isFresh (u.job row F.jobOp) && (u.fresh (u.job row F.jobCounter) F.freshKeySlot != u.job row F.jobKeySlot
      || !u.fldOn .live 0xF094 (u.job row F.jobCounter) F.freshLoaded || u.flag (Rg.staleFresh (u.job row F.jobCounter))) then endJob row 2 0
  else if 4096 < u.job row F.jobOffset + u.job row F.jobLength then endJob row 1 0
  else if u.job row F.jobOp = 3 then takeFresh row (u.job row F.jobCounter) (runJob row unit)
  else if u.job row F.jobOp = 4 && u.keyExhausted (u.job row F.jobKeySlot) then endJob row 5 0
  else runJob row unit

/-- The state in which the next page's turn has been noted. -/
def State.pageTurned (u : State) (p : Nat) : State := (Act.put Rg.pageServed ((p + 1) % 64)).run u

theorem run_dispatchJob (hfree : ((u.jobsIn 2).filter fun r => u.get (Rg.jobUnit r) == unit + 1).length < 16)
    (hpage : u.nextPage = some p) (hjob : u.nextJob p = some row) :
    (dispatchJob unit).run u = (dispatchAct u row unit).run (u.pageTurned p) := by
  rw [dispatchJob, run_dep, if_neg (by omega), hpage]
  dsimp only
  rw [hjob]
  dsimp only
  rw [run_seq]
  rfl

/-! ### The branches of dispatch -/

theorem dispatchAct_keyless (hkey : u.aesKey (u.job row F.jobKeySlot) (jobUser row) = none) : dispatchAct u row unit = endJob row 2 0 := by
  rw [dispatchAct, hkey, Option.isNone_none, if_pos rfl]

section
variable (hkey : u.aesKey (u.job row F.jobKeySlot) (jobUser row) ≠ none)
include hkey

theorem key_isNone : (u.aesKey (u.job row F.jobKeySlot) (jobUser row)).isNone = false :=
  Option.isNone_eq_false_iff.mpr (Option.isSome_iff_ne_none.mpr hkey)

theorem dispatchAct_plain (hop : u.job row F.jobOp = 1 ∨ u.job row F.jobOp = 2) : dispatchAct u row unit
    = if 4096 < u.job row F.jobOffset + u.job row F.jobLength then endJob row 1 0 else runJob row unit := by
  have hsome := key_isNone hkey
  rw [dispatchAct, hsome]
  rcases hop with h | h <;> simp [h, isFresh]

theorem dispatchAct_stale (hop : u.job row F.jobOp = 3 ∨ u.job row F.jobOp = 4)
    (hstale : u.get (Rg.staleFresh (u.job row F.jobCounter)) ≠ 0) : dispatchAct u row unit = endJob row 2 0 := by
  have hsome := key_isNone hkey
  rw [dispatchAct, hsome]
  rcases hop with h | h <;> simp [h, isFresh, flag_eq, hstale]

variable (hslot : u.fresh (u.job row F.jobCounter) F.freshKeySlot = u.job row F.jobKeySlot)
  (hloaded : u.fldOn .live 0xF094 (u.job row F.jobCounter) F.freshLoaded = true) (hstale : u.get (Rg.staleFresh (u.job row F.jobCounter)) = 0)
  (hlen : u.job row F.jobOffset + u.job row F.jobLength ≤ 4096)
include hslot hloaded hstale hlen

theorem dispatchAct_verify (hop : u.job row F.jobOp = 4) (hexhausted : u.keyExhausted (u.job row F.jobKeySlot) = false) :
    dispatchAct u row unit = runJob row unit := by
  have hsome := key_isNone hkey
  rw [dispatchAct, hsome]
  simp [hop, flag_eq, hslot, hloaded, hstale, Nat.not_lt.mpr hlen, hexhausted]

theorem dispatchAct_generate (hop : u.job row F.jobOp = 3) :
    dispatchAct u row unit = takeFresh row (u.job row F.jobCounter) (runJob row unit) := by
  have hsome := key_isNone hkey
  rw [dispatchAct, hsome]
  simp [hop, flag_eq, hslot, hloaded, hstale, Nat.not_lt.mpr hlen]

end

/-! ### A job that ends at dispatch, and one that runs -/

/-- What one act and then another leaves. -/
theorem leavesRest_then {w : State} {ks ks' : Nat → Prop} {cs cs' : Gen → Nat → Prop} (h : leavesRest u v ks cs) (h' : leavesRest v w ks' cs') :
    leavesRest u w (fun k => ks k ∨ ks' k) (bothCells cs cs') :=
  leavesRest_trans (leavesRest_mono (fun _ => .inl) (fun _ _ => .inl) h) (leavesRest_mono (fun _ => .inr) (fun _ _ => .inr) h')

theorem pageTurned_leavesRest {cs : Gen → Nat → Prop} : leavesRest u (u.pageTurned p) (keysIn [Rg.pageServed]) cs :=
  run_leavesRest (.put Rg.pageServed ((p + 1) % 64)) u (List.mem_singleton_self _)

theorem ends_pageTurned {status : Nat} (hs : status < 256) {t : State} (ht : t = (endJob row status 0).run (u.pageTurned p)) :
    t.job row F.jobState = 3 ∧ t.job row F.jobStatus = status ∧ leavesRest u t (keysIn [Rg.pageServed]) (rowCells .live 0xF096 row) := by
  subst ht
  obtain ⟨hstate, hstatus, -⟩ := endJob_jobDone (u.pageTurned p) (row := row) hs (result := 0) (by decide)
  exact ⟨hstate, hstatus, leavesRest_trans pageTurned_leavesRest
    (leavesRest_mono (by simp [keysIn]) (fun _ _ h => h) (endJob_leavesRest (u.pageTurned p) row status 0))⟩

theorem runJob_runs (v : State) (row unit : Nat) : ((runJob row unit).run v).job row F.jobState = 2
    ∧ ((runJob row unit).run v).get (Rg.jobUnit row) = unit + 1
    ∧ leavesRest v ((runJob row unit).run v) (keysIn [Rg.jobUnit row]) (rowCells .live 0xF096 row) := by
  refine ⟨?_, ?_, run_leavesRest _ v ⟨within_setF_row _ _ _ _ _, List.mem_singleton_self _, trivial⟩⟩
  · rw [runJob, run_all_cons, run_all_cons, run_all_nil, State.job, fld_put, fld_setF_self]
    decide
  · rw [runJob, run_all_cons, run_all_cons, run_all_nil, get_put_self, show regMod (Rg.jobUnit row) = 0 from regMod_at' 52 row 1, Nat.mod_zero]

theorem runs_pageTurned {t : State} (ht : t = (runJob row unit).run (u.pageTurned p)) : t.job row F.jobState = 2
    ∧ t.get (Rg.jobUnit row) = unit + 1 ∧ leavesRest u t (keysIn [Rg.pageServed, Rg.jobUnit row]) (rowCells .live 0xF096 row) := by
  subst ht
  obtain ⟨hstate, hunit, hrest⟩ := runJob_runs (u.pageTurned p) row unit
  exact ⟨hstate, hunit, leavesRest_trans (leavesRest_mono (by simp [keysIn]) (fun _ _ h => h) pageTurned_leavesRest)
    (leavesRest_mono (fun _ h => List.mem_cons_of_mem _ h) (fun _ _ h => h) hrest)⟩

/-! ### A job that takes its freshness value -/

theorem fld_pageTurned (g : Gen) (idx row : Nat) (f : Fld) : (u.pageTurned p).fld g idx row f = u.fld g idx row f := fld_put ..

theorem fresh_pageTurned (c : Nat) (f : Fld) : (u.pageTurned p).fresh c f = u.fresh c f := fld_pageTurned ..
theorem job_pageTurned (row : Nat) (f : Fld) : (u.pageTurned p).job row f = u.job row f := fld_pageTurned ..
theorem fldOn_pageTurned (g : Gen) (idx row : Nat) (f : Fld) : (u.pageTurned p).fldOn g idx row f = u.fldOn g idx row f := by
  rw [State.fldOn, fld_pageTurned, State.fldOn]
theorem slotGeneration_pageTurned (n : Nat) : (u.pageTurned p).slotGeneration n = u.slotGeneration n := fld_pageTurned ..

/-- The turn of a page is no part of what exhausts a key. -/
theorem keyExhausted_pageTurned (slot : Nat) : (u.pageTurned p).keyExhausted slot = u.keyExhausted slot := by
  have hgen (c : Nat) : (u.pageTurned p).get (Rg.exhaustedGen c) = u.get (Rg.exhaustedGen c) := get_put_ne _ _ (by
    unfold Rg.exhaustedGen Rg.pageServed Rg.at'
    omega)
  simp only [State.keyExhausted, State.rowsWhere, State.fldOn, State.fresh, State.slotGeneration, fld_pageTurned, hgen]
  rfl

/-- A counter at its last value is exhausted, with its key slot's generation. -/
def exhaustFresh (u : State) (c : Nat) : Act :=
  Act.when (!u.fldOn .live 0xF094 c F.freshExhausted) (Act.all [Act.setF .live 0xF094 c F.freshExhausted 1,
    .put (Rg.exhaustedGen c) (u.slotGeneration (u.fresh c F.freshKeySlot) + 1), Act.vectorOf Key.freshnessEventVector])

theorem freshLast_pageTurned : (u.pageTurned p).freshLast c = u.freshLast c := by
  rw [State.freshLast, fresh_pageTurned, State.freshLast]

theorem run_takeFresh_last {a : Act} (h : u.freshLast c ≤ u.fresh c F.freshValue) : (takeFresh row c a).run (u.pageTurned p)
    = (endJob row 5 0).run ((warnFresh c).run ((exhaustFresh u c).run (u.pageTurned p))) := by
  rw [takeFresh, run_dep]
  dsimp only
  rw [freshLast_pageTurned, fresh_pageTurned, if_pos h, fldOn_pageTurned, fresh_pageTurned, slotGeneration_pageTurned, run_all_cons,
    run_all_cons, run_all_cons, run_all_nil, exhaustFresh]

theorem run_takeFresh_exhausted {a : Act} (h : u.fresh c F.freshValue < u.freshLast c) (hkey : u.keyExhausted (u.job row F.jobKeySlot) = true) :
    (takeFresh row c a).run (u.pageTurned p) = (endJob row 5 0).run (u.pageTurned p) := by
  rw [takeFresh, run_dep]
  dsimp only
  rw [freshLast_pageTurned, fresh_pageTurned, if_neg (Nat.not_le.mpr h), job_pageTurned, keyExhausted_pageTurned, if_pos hkey]

theorem run_takeFresh_next {a : Act} (h : u.fresh c F.freshValue < u.freshLast c) (hkey : u.keyExhausted (u.job row F.jobKeySlot) = false) :
    (takeFresh row c a).run (u.pageTurned p) = a.run ((warnFresh c).run ((Act.put (Rg.jobValue row) (u.fresh c F.freshValue + 1)).run
      ((Act.setF .live 0xF094 c F.freshValue (u.fresh c F.freshValue + 1)).run (u.pageTurned p)))) := by
  rw [takeFresh, run_dep]
  dsimp only
  rw [freshLast_pageTurned, fresh_pageTurned, if_neg (Nat.not_le.mpr h), job_pageTurned, keyExhausted_pageTurned, hkey,
    if_neg Bool.false_ne_true, run_all_cons, run_all_cons, run_all_cons, run_all_cons, run_all_nil]

/-- The value that is taken is stored whole: it is at most the counter's last. -/
theorem taken_lt (h : u.fresh c F.freshValue < u.freshLast c) (hwidth : u.fresh c F.freshWidth ≤ 64) :
    (u.fresh c F.freshValue + 1) % 2 ^ F.freshValue.width = u.fresh c F.freshValue + 1 := by
  have hlast : u.freshLast c ≤ 2 ^ 64 - 1 := Nat.sub_le_sub_right (Nat.pow_le_pow_right (n := 2) (by decide) hwidth) 1
  exact Nat.mod_eq_of_lt (show _ < 2 ^ 64 by omega)

/-- The counter and the job once the next value has been taken. -/
def State.tookFresh (u : State) (p row c : Nat) : State :=
  (warnFresh c).run ((Act.put (Rg.jobValue row) (u.fresh c F.freshValue + 1)).run
    ((Act.setF .live 0xF094 c F.freshValue (u.fresh c F.freshValue + 1)).run (u.pageTurned p)))

theorem tookFresh_leavesRest : leavesRest u (u.tookFresh p row c) (keysIn [Rg.pageServed, Rg.jobValue row]) (rowCells .live 0xF094 c) := by
  have hact : Within (keysIn [Rg.pageServed, Rg.jobValue row]) (rowCells .live 0xF094 c) (Act.all [.put Rg.pageServed ((p + 1) % 64),
      Act.setF .live 0xF094 c F.freshValue (u.fresh c F.freshValue + 1), .put (Rg.jobValue row) (u.fresh c F.freshValue + 1), warnFresh c]) :=
    ⟨List.mem_cons_self .., within_setF_row _ _ _ _ _, List.mem_cons_of_mem _ (List.mem_singleton_self _), within_warnFresh c, trivial⟩
  have hrest := run_leavesRest _ u hact
  rwa [run_all_cons, run_all_cons, run_all_cons, run_all_cons, run_all_nil] at hrest

theorem tookFresh_value (h : u.fresh c F.freshValue < u.freshLast c) (hwidth : u.fresh c F.freshWidth ≤ 64) :
    (u.tookFresh p row c).fresh c F.freshValue = u.fresh c F.freshValue + 1
      ∧ (u.tookFresh p row c).get (Rg.jobValue row) = u.fresh c F.freshValue + 1 := by
  obtain ⟨hregs, -⟩ := run_leavesRest (ks := keysIn []) _ ((Act.put (Rg.jobValue row) (u.fresh c F.freshValue + 1)).run
    ((Act.setF .live 0xF094 c F.freshValue (u.fresh c F.freshValue + 1)).run (u.pageTurned p))) (within_warnFresh c)
  constructor
  · rw [State.tookFresh, warnFresh_value, State.fresh, fld_put, fld_setF_self, taken_lt h hwidth]
  · rw [State.tookFresh, hregs _ List.not_mem_nil, get_put_self, show regMod (Rg.jobValue row) = 0 from regMod_at' 52 row 2, Nat.mod_zero]

theorem takes_next (hrow : row < 2 ^ 24) (hc : c < 2 ^ 24) (h : u.fresh c F.freshValue < u.freshLast c) (hwidth : u.fresh c F.freshWidth ≤ 64)
    (hkey : u.keyExhausted (u.job row F.jobKeySlot) = false) {t : State}
    (ht : t = (takeFresh row c (runJob row unit)).run (u.pageTurned p)) : t.job row F.jobState = 2
      ∧ t.fresh c F.freshValue = u.fresh c F.freshValue + 1 ∧ t.get (Rg.jobValue row) = u.fresh c F.freshValue + 1
      ∧ leavesRest u t (keysIn [Rg.pageServed, Rg.jobUnit row, Rg.jobValue row])
          (bothCells (rowCells .live 0xF096 row) (rowCells .live 0xF094 c)) := by
  replace ht : t = (runJob row unit).run (u.tookFresh p row c) := ht.trans (run_takeFresh_next h hkey)
  obtain ⟨hvalue, htaken⟩ := tookFresh_value (p := p) (row := row) h hwidth
  obtain ⟨hstate, -, hran⟩ := runJob_runs (u.tookFresh p row c) row unit
  rw [← ht] at hstate hran
  refine ⟨hstate, ?_, ?_, leavesRest_mono (fun k hk => ?_) (fun g a => Or.symm) (leavesRest_then tookFresh_leavesRest hran)⟩
  · exact (fld_other_row hran hrow hc (by decide) (.inl (by decide))).trans hvalue
  · refine (hran.1 _ fun hmem => ?_).trans htaken
    have := List.mem_singleton.mp hmem
    unfold Rg.jobValue Rg.jobUnit Rg.at' at this
    omega
  · simp only [keysIn, List.mem_cons, List.not_mem_nil, or_false] at hk ⊢
    rcases hk with (h | h) | h
    · exact .inl h
    · exact .inr (.inr h)
    · exact .inr (.inl h)

/-! ### A job that finds its counter at its last value -/

/-- The warning shares an octet with the flag and leaves it. -/
theorem warnFresh_exhausted (s : State) (c : Nat) : ((warnFresh c).run s).fresh c F.freshExhausted = s.fresh c F.freshExhausted := by
  rw [warnFresh, run_dep, run_when]
  split
  · rw [run_seq, State.fresh, Act.vectorOf, run_dep, fld_notify]
    exact fld_setF_beside s c 1 (by decide) (by decide) (by decide) (by decide)
  · rfl

theorem within_exhaustFresh : Within (keysIn [Rg.exhaustedGen c]) (rowCells .live 0xF094 c) (exhaustFresh u c) :=
  within_when fun _ => ⟨within_setF_row _ _ _ _ _, List.mem_singleton_self _, within_vectorOf _, trivial⟩

theorem exhaustFresh_exhausts (hv : v.fresh c F.freshExhausted = u.fresh c F.freshExhausted)
    (hgen : v.get (Rg.exhaustedGen c) = u.get (Rg.exhaustedGen c)) :
    ((exhaustFresh u c).run v).fresh c F.freshValue = v.fresh c F.freshValue
      ∧ ((exhaustFresh u c).run v).fresh c F.freshExhausted ≠ 0
      ∧ ((exhaustFresh u c).run v).get (Rg.exhaustedGen c) = if u.fldOn .live 0xF094 c F.freshExhausted = true then u.get (Rg.exhaustedGen c)
          else u.slotGeneration (u.fresh c F.freshKeySlot) + 1 := by
  cases hon : u.fldOn .live 0xF094 c F.freshExhausted
  · rw [exhaustFresh, hon, Bool.not_false, run_when_true, run_all_cons, run_all_cons, run_all_cons, run_all_nil, get_vectorOf, get_put_self,
      show regMod (Rg.exhaustedGen c) = 0 from regMod_at' 67 c 0, Nat.mod_zero, if_neg Bool.false_ne_true]
    refine ⟨?_, ?_, rfl⟩ <;> rw [State.fresh, Act.vectorOf, run_dep, fld_notify, fld_put]
    · exact fld_setF_disjoint _ _ _ _ (by decide)
    · rw [fld_setF_self]
      decide
  · rw [exhaustFresh, hon, Bool.not_true, run_when_false, if_pos rfl]
    rw [State.fldOn, bne_iff_ne] at hon
    exact ⟨rfl, by rw [hv]; exact hon, hgen⟩

theorem ends_last (hrow : row < 2 ^ 24) (hc : c < 2 ^ 24) (h : u.freshLast c ≤ u.fresh c F.freshValue) {a : Act} {t : State}
    (ht : t = (takeFresh row c a).run (u.pageTurned p)) : t.job row F.jobState = 3 ∧ t.job row F.jobStatus = 5
      ∧ t.fresh c F.freshValue = u.fresh c F.freshValue ∧ t.fldOn .live 0xF094 c F.freshExhausted = true
      ∧ t.get (Rg.exhaustedGen c) = (if u.fldOn .live 0xF094 c F.freshExhausted = true then u.get (Rg.exhaustedGen c)
          else u.slotGeneration (u.fresh c F.freshKeySlot) + 1)
      ∧ leavesRest u t (keysIn [Rg.pageServed, Rg.exhaustedGen c]) (bothCells (rowCells .live 0xF096 row) (rowCells .live 0xF094 c)) := by
  rw [run_takeFresh_last h] at ht
  have hgen : (u.pageTurned p).get (Rg.exhaustedGen c) = u.get (Rg.exhaustedGen c) := get_put_ne _ _ (by
    unfold Rg.exhaustedGen Rg.pageServed Rg.at'
    omega)
  obtain ⟨hvalue, hexhausted, hgeneration⟩ := exhaustFresh_exhausts (fresh_pageTurned (p := p) c F.freshExhausted) hgen
  have hexhausts := run_leavesRest _ (u.pageTurned p) (within_exhaustFresh (u := u) (c := c))
  generalize (exhaustFresh u c).run (u.pageTurned p) = v at ht hvalue hexhausted hgeneration hexhausts
  have hwarned := run_leavesRest (ks := keysIn []) _ v (within_warnFresh c)
  have hended := endJob_leavesRest ((warnFresh c).run v) row 5 0
  obtain ⟨hstate, hstatus, -⟩ := endJob_jobDone ((warnFresh c).run v) (row := row) (status := 5) (result := 0) (by decide) (by decide)
  rw [← ht] at hended hstate hstatus
  have hkept (f : Fld) (hf : f.first + f.span ≤ 4096) : t.fresh c f = ((warnFresh c).run v).fresh c f :=
    fld_other_row hended hrow hc hf (.inl (by decide))
  refine ⟨hstate, hstatus, ?_, ?_, ?_, leavesRest_mono (fun k hk => ?_) (fun g a hg => ?_)
    (leavesRest_then (leavesRest_then (leavesRest_then (pageTurned_leavesRest (p := p) (cs := noCells)) hexhausts) hwarned) hended)⟩
  · rw [hkept _ (by decide), warnFresh_value, hvalue, fresh_pageTurned]
  · rw [State.fldOn, bne_iff_ne]
    exact fun h => hexhausted (by rw [← warnFresh_exhausted, ← hkept _ (by decide)]; exact h)
  · rw [hended.1 _ List.not_mem_nil, hwarned.1 _ List.not_mem_nil, hgeneration]
  · simp only [keysIn, List.mem_cons, List.not_mem_nil, or_false] at hk ⊢
    exact hk
  · simp only [bothCells, noCells, false_or, or_self] at hg ⊢
    exact hg.symm

end

/-! ### The dispatch -/

section
variable {u : State} {unit p row : Nat} (hfree : ((u.jobsIn 2).filter fun r => u.get (Rg.jobUnit r) == unit + 1).length < 16)
  (hpage : u.nextPage = some p) (hjob : u.nextJob p = some row)
include hfree hpage hjob

theorem dispatchJob_ends {status : Nat} (hs : status < 256) (hact : dispatchAct u row unit = endJob row status 0) {t : State}
    (ht : t = (dispatchJob unit).run u) : t.job row F.jobState = 3 ∧ t.job row F.jobStatus = status
      ∧ leavesRest u t (keysIn [Rg.pageServed]) (rowCells .live 0xF096 row) :=
  ends_pageTurned hs (ht.trans ((run_dispatchJob hfree hpage hjob).trans (by rw [hact])))

theorem dispatchJob_runs (hact : dispatchAct u row unit = runJob row unit) {t : State} (ht : t = (dispatchJob unit).run u) :
    t.job row F.jobState = 2 ∧ t.get (Rg.jobUnit row) = unit + 1
      ∧ leavesRest u t (keysIn [Rg.pageServed, Rg.jobUnit row]) (rowCells .live 0xF096 row) :=
  runs_pageTurned (ht.trans ((run_dispatchJob hfree hpage hjob).trans (by rw [hact])))

end

end Sys2Proof.Machine
end

section
/-! PROOFS. A slot that is freed, and a page that is switched and closes (R308, R319). -/

namespace Sys2Proof.Machine

section
variable {s u v : State} {path : Path} {p row n x : Nat} {f : Fld} {data : List Byte}

/-! ### A write that touches State alone -/

theorem mergeFields_untouched {fs : List Fld} {old new off n : Nat} (h : ∀ f ∈ fs, f.ro = true ∨ f.touched off n = false) :
    mergeFields fs old new off n = (old, false) := by
  rw [mergeFields_eq]
  induction fs with
  | nil => rfl
  | cons f fs ih =>
    obtain ⟨hf, hrest⟩ := List.forall_mem_cons.mp h
    have hkept : mergeField new off n (old, false) f = (old, false) := by
      rcases hf with hf | hf <;> simp [mergeField, hf]
    rw [List.foldl_cons, hkept, ih hrest]

theorem setImage_self (g : Gen) (idx row stride old : Nat) : Act.setImage g idx row stride old old = .skip := by
  simp only [Act.setImage, bne_self_eq_false, List.filter_false]
  rfl

/-- The table of the job slots. -/
def jobTab : Tab := ⟨0xF096, 1024, 64, .rw, .application, false, "GloveJobs"⟩

theorem tableOf_jobs : tableOf 0xF096 = some jobTab := rfl

/-- A first octet whose State is 0 frees a Done slot, and is no clamp. -/
theorem writeJob_frees {old new : Nat} (h : imageField new F.jobState = 0) : writeJob row 0 1 old new
    = Act.all [.skip, Act.when true (freeJob row), countRow 0xF096 false] := by
  have hothers : ∀ f ∈ layoutF096.filter (fun f => f != F.jobState), f.ro = true ∨ f.touched 0 1 = false := by decide
  have htouched : F.jobState.touched 0 1 = true := by decide
  rw [writeJob, mergeFields_untouched hothers, setImage_self, htouched, h, bne_self_eq_false, Bool.and_false, Bool.or_false]

theorem imageField_overlay {b : Byte} (octs : List Byte) (hb : b.toNat < 64) : imageField (leNat (overlay octs 0 [b])) F.jobState = 0 := by
  have hvalue : leNat (overlay octs 0 [b]) = b.toNat + 256 * leNat (octs.drop 1) := rfl
  rw [hvalue]
  show (b.toNat + 256 * leNat (octs.drop 1)) / 2 ^ 6 % 2 ^ 2 = 0
  omega

theorem run_freeJob (h : u.job row F.jobState = 3) : (freeJob row).run u = (Act.setF .live 0xF096 row F.jobState 0).run u := by
  rw [freeJob, run_dep, h, beq_self_eq_true, run_when_true]

theorem job_freed : ((Act.setF .live 0xF096 row F.jobState 0).run u).job row F.jobState = 0
    ∧ (∀ f ∈ layout 0xF096, f ≠ F.jobState → ((Act.setF .live 0xF096 row F.jobState 0).run u).job row f = u.job row f) := by
  have hapart : ∀ f ∈ layout 0xF096, f ≠ F.jobState → f.disjoint F.jobState = true := by decide
  exact ⟨(fld_setF_self ..).trans (Nat.zero_mod _), fun f hf hne => fld_setF_disjoint u 0xF096 row 0 (hapart f hf hne)⟩

/-- The octet that JOB_SLOT_FREE writes. -/
def freedOctet (s : State) (dt row : Nat) : Byte := (s.after dt).octet .live (cellKey 0xF096 row 0) &&& 0x3F#8

theorem freedOctet_lt (s : State) (dt row : Nat) : (freedOctet s dt row).toNat < 64 := by
  rw [freedOctet, BitVec.toNat_and]
  exact Nat.lt_of_le_of_lt Nat.and_le_right (by decide)

theorem exec_jobSlotFree (s : State) (dt : Nat) (path : Path) (p : Fin 64) (v : Fin 16) : exec (.jobSlotFree dt path p v) s
    = command dt (rowWrite path 0xF096 (16 * p.val + v.val) false 0 [freedOctet s dt (16 * p.val + v.val)]) s := rfl

theorem jobSlotFree_frees {dt : Nat} {p : Fin 64} {v : Fin 16} (ha : (s.facing dt path).admitsRow path 0xF096 (16 * p.val + v.val) 0 1 = true)
    (hstate : (s.facing dt path).job (16 * p.val + v.val) F.jobState = 3) : Runs (.jobSlotFree dt path p v) s fun t => t.status = 0
      ∧ t.job (16 * p.val + v.val) F.jobState = 0
      ∧ (∀ f ∈ layout 0xF096, f ≠ F.jobState → t.job (16 * p.val + v.val) f = (s.facing dt path).job (16 * p.val + v.val) f)
      ∧ leavesRest (s.facing dt path) t (keysIn []) (rowCells .live 0xF096 (16 * p.val + v.val)) := by
  have hwrite := writeRowAt_admitted (data := [freedOctet s dt (16 * p.val + v.val)]) ha tableOf_jobs
  have hrow : writeUnstaged (s.facing dt path) path jobTab (16 * p.val + v.val) 0 [freedOctet s dt (16 * p.val + v.val)]
      = (0, Act.all [.skip, Act.when true (freeJob (16 * p.val + v.val)), countRow 0xF096 false]) :=
    congrArg (Prod.mk 0) (writeJob_frees (imageField_overlay _ (freedOctet_lt s dt (16 * p.val + v.val))))
  rw [hrow] at hwrite
  refine runs_rowWrite (exec_jobSlotFree ..) hwrite.1 ?_
  dsimp only
  rw [run_all_cons, run_all_cons, run_all_cons, run_all_nil, run_skip, run_when_true, run_freeJob hstate, countRow, run_when_false]
  obtain ⟨hfree, hothers⟩ := job_freed (u := s.facing dt path) (row := 16 * p.val + v.val)
  refine ⟨run_answer_status .., (fld_answer ..).trans hfree, fun f hf hne => (fld_answer ..).trans (hothers f hf hne), ?_⟩
  exact leavesRest_trans (run_leavesRest _ _ (within_setF_row .live 0xF096 (16 * p.val + v.val) F.jobState 0)) (leavesRest_answered _ _ _)

/-! ### The write of PageEnable -/

theorem objAt_pageEnable {o : Obj} (hp : p < 64) (h : u.objAt (0x8100 + p) 3 = some o) :
    isCommand o = false ∧ o.ty = .bool ∧ o.legal = .any := by
  rw [objAt_page hp] at h
  cases h
  exact ⟨rfl, rfl, rfl⟩

theorem writeScalarAt_pageEnable (hp : p < 64) (hx : x < 2) (ha : u.admits path (0x8100 + p) 3 = true) :
    writeScalarAt u path (0x8100 + p) 3 x = ⟨0, Act.all [.skip, enablePage p x], true⟩ := by
  obtain ⟨o, ho, hw⟩ := writeScalarAt_admits u path (0x8100 + p) 3 x ha
  obtain ⟨hcommand, hty, hlegal⟩ := objAt_pageEnable hp ho
  have hslot : ofSlot o.ty x = x := by
    rw [hty]
    exact Nat.mod_eq_of_lt hx
  have hvalue : u.legalValue (0x8100 + p) 3 o x = x := by
    rw [legalValue_page hp, hlegal]
    rfl
  have hstore : storeObject u (0x8100 + p) 3 x = (0, enablePage p x) := by
    unfold storeObject
    rw [template_page hp]
    rfl
  have hwrite : writeValue u path (0x8100 + p) 3 x o = ⟨0, enablePage p x, true⟩ := by
    rw [writeValue, hcommand, hstore]
    rfl
  rw [hw, hslot, hvalue, hwrite, isClamp_self]
  rfl

theorem exec_pageEnable {dt : Nat} {p : Fin 64} {v : BitVec 64} (hv : v.toNat < 2) (ha : (s.facing dt path).admits path (0x8100 + p.val) 3 = true) :
    exec (.pageEnable dt path p v) s = .next ((Act.answer 0 []).run ((enablePage p.val v.toNat).run (s.facing dt path))) :=
  (command_scalarWrite ..).trans
    (congrArg (fun w => Host.Outcome.next (w.act.run (s.facing dt path))) (writeScalarAt_pageEnable p.isLt hv ha))

/-! ### What the write of PageEnable does -/

theorem pageKeys_apart (p : Nat) : Key.pageEnable p ≠ Key.pageState p ∧ Key.pageEnable p ≠ Key.pagePendingEnable p
    ∧ Key.pageState p ≠ Key.pagePendingEnable p := by
  unfold Key.pageEnable Key.pageState Key.pagePendingEnable
  omega

/-- A Disabled page is enabled by 1, and stays as it is with 0. -/
theorem enablePage_disabled (hp : p < 64) (hx : x < 2) (h : u.get (Key.pageState p) = 0) {t : State} (ht : t = (enablePage p x).run u) :
    t.get (Key.pageEnable p) = x ∧ t.get (Key.pageState p) = 2 * x
      ∧ leavesRest u t (keysIn [Key.pageEnable p, Key.pageState p]) noCells := by
  obtain ⟨hes, -, -⟩ := pageKeys_apart p
  have hrun : (enablePage p x).run u = (Act.when (x == 1) (.put (Key.pageState p) 2)).run ((Act.put (Key.pageEnable p) x).run u) := by
    rw [enablePage, run_dep, h, run_seq]
    rfl
  have hput : ((Act.put (Key.pageEnable p) x).run u).get (Key.pageEnable p) = x := by
    rw [get_put_self, regMod_pageEnable hp, Nat.mod_eq_of_lt hx]
  refine ⟨?_, ?_, ?_⟩ <;> rw [ht, hrun]
  · rw [run_when]
    split
    · rw [get_put_ne _ _ hes, hput]
    · exact hput
  · rw [run_when]
    split
    next h1 => rw [get_put_self, regMod_pageState hp, beq_iff_eq.mp h1]
    next h1 =>
      rw [get_put_ne _ _ hes.symm, h]
      have : x ≠ 1 := fun h => h1 (beq_iff_eq.mpr h)
      omega
  · exact run_leavesRest (.seq (.put (Key.pageEnable p) x) (Act.when (x == 1) (.put (Key.pageState p) 2))) u
      ⟨List.mem_cons_self .., within_when fun _ => List.mem_cons_of_mem _ (List.mem_singleton_self _)⟩

/-- While a page closes, the value is pending. -/
theorem enablePage_closing (hp : p < 64) (hx : x < 2) (h : u.get (Key.pageState p) = 1) {t : State} (ht : t = (enablePage p x).run u) :
    t.get (Key.pageEnable p) = x ∧ t.get (Key.pagePendingEnable p) = x
      ∧ leavesRest u t (keysIn [Key.pageEnable p, Key.pagePendingEnable p]) noCells := by
  obtain ⟨-, hep, -⟩ := pageKeys_apart p
  have hrun : (enablePage p x).run u = (Act.put (Key.pagePendingEnable p) x).run ((Act.put (Key.pageEnable p) x).run u) := by
    rw [enablePage, run_dep, h, run_seq]
    rfl
  refine ⟨?_, ?_, ?_⟩ <;> rw [ht, hrun]
  · rw [get_put_ne _ _ hep, get_put_self, regMod_pageEnable hp, Nat.mod_eq_of_lt hx]
  · rw [get_put_self, regMod_pagePendingEnable hp, Nat.mod_eq_of_lt hx]
  · exact run_leavesRest (.seq (.put (Key.pageEnable p) x) (.put (Key.pagePendingEnable p) x)) u
      ⟨List.mem_cons_self .., List.mem_cons_of_mem _ (List.mem_singleton_self _)⟩

/-! ### The queued jobs of a page that begins to close -/

theorem emptyTable_jobs : emptyTable 0xF096 := fun _ => layoutImage_zero (fs := layoutF096) (by decide)
theorem emptyTable_data : emptyTable 0xF097 := fun _ => layoutImage_zero (fs := layoutF097) (by decide)

/-- The jobs of a page in a state. -/
def State.pageJobsIn (u : State) (p st : Nat) : List Nat := (u.jobsIn st).filter fun r => r / 16 == p

/-- A job in a state other than Free stands in the list of the state. -/
theorem mem_pageJobsIn {st : Nat} (hrow : row < 2 ^ 24) (hst : st ≠ 0) : row ∈ u.pageJobsIn p st ↔ u.job row F.jobState = st ∧ row / 16 = p := by
  simp only [State.pageJobsIn, State.jobsIn, State.rowsWhere, List.mem_filter, beq_iff_eq]
  refine ⟨fun ⟨⟨_, hstate⟩, hpage⟩ => ⟨hstate, hpage⟩, fun ⟨hstate, hpage⟩ => ⟨⟨?_, hstate⟩, hpage⟩⟩
  refine listed_of_fldOn (f := F.jobState) emptyTable_jobs hrow (by decide) ?_
  rw [State.fldOn, bne_iff_ne]
  exact fun h => hst (hstate.symm.trans h)

theorem pageJobsIn_page {st : Nat} (h : row ∈ u.pageJobsIn p st) : row / 16 = p := beq_iff_eq.mp (List.mem_filter.mp h).2

theorem pageJobsIn_lt {st : Nat} (h : row ∈ u.pageJobsIn p st) : row < 2 ^ 24 :=
  listedRows_lt (List.mem_of_mem_filter (List.mem_of_mem_filter h))

/-- Jobs that end one after the other, and those that stay. -/
theorem job_endJobs (l : List Nat) (hl : ∀ r ∈ l, r < 2 ^ 24) (hrow : row < 2 ^ 24) (v : State) :
    (row ∈ l → ((Act.each l fun r => endJob r 3 0).run v).job row F.jobState = 3
        ∧ ((Act.each l fun r => endJob r 3 0).run v).job row F.jobStatus = 3)
      ∧ (row ∉ l → ∀ f, f.first + f.span ≤ 4096 → ((Act.each l fun r => endJob r 3 0).run v).job row f = v.job row f) := by
  induction l generalizing v with
  | nil => exact ⟨fun h => absurd h List.not_mem_nil, fun _ _ _ => rfl⟩
  | cons r l ih =>
    obtain ⟨hr, hrest⟩ := List.forall_mem_cons.mp hl
    obtain ⟨hin, hout⟩ := ih hrest ((endJob r 3 0).run v)
    rw [run_each_cons]
    refine ⟨fun hmem => ?_, fun hnot f hf => ?_⟩
    · by_cases hlater : row ∈ l
      · exact hin hlater
      · obtain rfl : row = r := (List.mem_cons.mp hmem).resolve_right hlater
        obtain ⟨hstate, hstatus, -⟩ := endJob_jobDone v (row := row) (status := 3) (result := 0) (by decide) (by decide)
        exact ⟨(hout hlater _ (by decide)).trans hstate, (hout hlater _ (by decide)).trans hstatus⟩
    · rw [List.mem_cons, not_or] at hnot
      exact (hout hnot.2 f hf).trans (fld_other_row (endJob_leavesRest v r 3 0) hr hrow hf (.inr hnot.1))

/-- The rows of a page. -/
def pageCells (p : Nat) : Gen → Nat → Prop := fun g a => ∃ v < 16, rowCells .live 0xF096 (16 * p + v) g a

theorem pageCells_row (h : row / 16 = p) {g : Gen} {a : Nat} (ha : rowCells .live 0xF096 row g a) : pageCells p g a :=
  ⟨row % 16, Nat.mod_lt _ (by decide), by rwa [show 16 * p + row % 16 = row by omega]⟩

theorem within_endJobs {l : List Nat} (hl : ∀ r ∈ l, r / 16 = p) :
    Within (keysIn []) (pageCells p) (Act.each l fun r => endJob r 3 0) :=
  within_each fun r hr => within_mono (fun _ h => h) (fun _ _ ha => pageCells_row (hl r hr) (endCells_row ha)) _ (within_endJob r 3 0)

theorem enablePage_closes (hp : p < 64) (h : u.get (Key.pageState p) = 2) {t : State} (ht : t = (enablePage p 0).run u) :
    t.get (Key.pageEnable p) = 0 ∧ t.get (Key.pageState p) = 1
      ∧ (∀ v < 16, u.job (16 * p + v) F.jobState = 1 → t.job (16 * p + v) F.jobState = 3 ∧ t.job (16 * p + v) F.jobStatus = 3)
      ∧ (∀ v < 16, u.job (16 * p + v) F.jobState ≠ 1 → ∀ f ∈ layout 0xF096, t.job (16 * p + v) f = u.job (16 * p + v) f)
      ∧ leavesRest u t (keysIn [Key.pageEnable p, Key.pageState p]) (pageCells p) := by
  obtain ⟨hes, -, -⟩ := pageKeys_apart p
  have hrun : (enablePage p 0).run u = (Act.each (u.pageJobsIn p 1) fun r => endJob r 3 0).run
      ((Act.put (Key.pageState p) 1).run ((Act.put (Key.pageEnable p) 0).run u)) := by
    rw [enablePage, run_dep, h, run_seq]
    rfl
  have hputs := run_leavesRest (ks := keysIn [Key.pageEnable p, Key.pageState p]) (cs := pageCells p)
    (.seq (.put (Key.pageEnable p) 0) (.put (Key.pageState p) 1)) u ⟨List.mem_cons_self .., List.mem_cons_of_mem _ (List.mem_singleton_self _)⟩
  have hjob (row : Nat) (f : Fld) : ((Act.put (Key.pageState p) 1).run ((Act.put (Key.pageEnable p) 0).run u)).job row f = u.job row f := by
    rw [State.job, fld_put, fld_put, State.job]
  have hended := run_leavesRest _ ((Act.put (Key.pageState p) 1).run ((Act.put (Key.pageEnable p) 0).run u))
    (within_endJobs (p := p) (l := u.pageJobsIn p 1) fun _ => pageJobsIn_page)
  have hjobs {row : Nat} (hrow : row < 2 ^ 24) := job_endJobs (u.pageJobsIn p 1) (fun _ => pageJobsIn_lt) hrow
    ((Act.put (Key.pageState p) 1).run ((Act.put (Key.pageEnable p) 0).run u))
  have hfits : ∀ f ∈ layout 0xF096, f.first + f.span ≤ 4096 := by decide
  rw [ht, hrun]
  refine ⟨?_, ?_, fun v hv hstate => ?_, fun v hv hstate f hf => ?_,
    leavesRest_trans hputs (leavesRest_mono (by simp [keysIn]) (fun _ _ h => h) hended)⟩
  · rw [hended.1 _ List.not_mem_nil, get_put_ne _ _ hes, get_put_self, Nat.zero_mod]
  · rw [hended.1 _ List.not_mem_nil, get_put_self, regMod_pageState hp]
  · exact (hjobs (by omega)).1 ((mem_pageJobsIn (by omega) (by decide)).mpr ⟨hstate, by omega⟩)
  · exact ((hjobs (by omega)).2 (fun hmem => hstate ((mem_pageJobsIn (by omega) (by decide)).mp hmem).1) f (hfits f hf)).trans (hjob _ f)

/-! ### The end of closing -/

/-- The octets of the rows that a test picks are a page's job rows, and its data rows. -/
theorem clearJobs_cells {g : Gen} {a : Nat} (h : g = .live ∧ tableOctets 0xF096 a ∧ (a / 2 ^ 12 % 2 ^ 24 / 16 == p) = true) :
    ∃ v < 16, rowCells .live 0xF096 (16 * p + v) g a := by
  obtain ⟨hg, htable, hpage⟩ := h
  rw [tableOctets] at htable
  rw [beq_iff_eq] at hpage
  exact ⟨a / 2 ^ 12 % 2 ^ 24 % 16, Nat.mod_lt _ (by decide), hg, by unfold cellKey; omega, by unfold cellKey; omega⟩

theorem clearData_cells {g : Gen} {a : Nat} (h : g = .live ∧ tableOctets 0xF097 a ∧ (a / 2 ^ 12 % 2 ^ 24 / 64 == p) = true) :
    ∃ r < 64, rowCells .live 0xF097 (64 * p + r) g a := by
  obtain ⟨hg, htable, hpage⟩ := h
  rw [tableOctets] at htable
  rw [beq_iff_eq] at hpage
  exact ⟨a / 2 ^ 12 % 2 ^ 24 % 64, Nat.mod_lt _ (by decide), hg, by unfold cellKey; omega, by unfold cellKey; omega⟩

theorem octet_clearTable_zero {idx o : Nat} {q : Nat → Bool} (he : emptyTable idx) (hrow : row < 2 ^ 24) (ho : o < 4096) (hq : q row = true) :
    ((Act.clearTable .live idx q).run v).octet .live (cellKey idx row o) = 0#8 :=
  (octet_clearTable_cleared v hrow ho hq).trans (memDefault_empty he hrow ho)

/-- What the end of closing does. -/
def closePage (u : State) (p : Nat) : Act :=
  Act.all [Act.clearTable .live 0xF096 fun r => r / 16 == p, Act.clearTable .live 0xF097 fun r => r / 64 == p,
    .put (Key.pageState p) (if u.flag (Key.pagePendingEnable p) then 2 else 0), .put (Key.pagePendingEnable p) 0]

theorem run_pageCloses (h : u.get (Key.pageState p) = 1) (hjobs : ∀ v < 16, u.job (16 * p + v) F.jobState ≠ 2) :
    (pageCloses p).run u = (closePage u p).run u := by
  have hnone : ((u.jobsIn 2).any fun r => r / 16 == p) = false := by
    refine List.any_eq_false.mpr fun r hr hpage => ?_
    have hstate : u.job r F.jobState = 2 := beq_iff_eq.mp (List.mem_filter.mp hr).2
    rw [beq_iff_eq] at hpage
    exact hjobs (r % 16) (Nat.mod_lt _ (by decide)) (by rwa [show 16 * p + r % 16 = r by omega])
  rw [pageCloses, run_dep, h, hnone, beq_self_eq_true, Bool.not_false, Bool.and_true, run_when_true, closePage]

/-- Octets that read 0 one by one. -/
theorem rowOctets_zero {t : State} {idx row n : Nat} (h : ∀ i < n, t.octet .live (cellKey idx row i) = 0#8) :
    t.rowOctets .live idx row 0 n = List.replicate n 0#8 := by
  rw [State.rowOctets, State.octets, List.eq_replicate_iff]
  refine ⟨by rw [List.length_map, List.length_range], fun b hb => ?_⟩
  obtain ⟨i, hi, rfl⟩ := List.mem_map.mp hb
  rw [cellKey_add, Nat.zero_add]
  exact h i (List.mem_range.mp hi)

theorem closePage_closes (hp : p < 64) {t : State} (ht : t = (closePage u p).run u) :
    (∀ v < 16, t.rowOctets .live 0xF096 (16 * p + v) 0 64 = List.replicate 64 0#8)
      ∧ (∀ r < 64, t.rowOctets .live 0xF097 (64 * p + r) 0 64 = List.replicate 64 0#8)
      ∧ t.get (Key.pageState p) = (if u.get (Key.pagePendingEnable p) = 0 then 0 else 2)
      ∧ t.get (Key.pagePendingEnable p) = 0
      ∧ leavesRest u t (keysIn [Key.pageState p, Key.pagePendingEnable p])
          (fun g a => (∃ v < 16, rowCells .live 0xF096 (16 * p + v) g a) ∨ ∃ r < 64, rowCells .live 0xF097 (64 * p + r) g a) := by
  obtain ⟨-, -, hsp⟩ := pageKeys_apart p
  have hjobs := run_leavesRest _ u (empties_clearTable 0xF096 fun r => r / 16 == p).within
  have hdata := run_leavesRest _ ((Act.clearTable .live 0xF096 fun r => r / 16 == p).run u)
    (empties_clearTable 0xF097 fun r => r / 64 == p).within
  have hputs := run_leavesRest (ks := keysIn [Key.pageState p, Key.pagePendingEnable p]) (cs := noCells)
    (.seq (.put (Key.pageState p) (if u.flag (Key.pagePendingEnable p) then 2 else 0)) (.put (Key.pagePendingEnable p) 0))
    ((Act.clearTable .live 0xF097 fun r => r / 64 == p).run ((Act.clearTable .live 0xF096 fun r => r / 16 == p).run u))
    ⟨List.mem_cons_self .., List.mem_cons_of_mem _ (List.mem_singleton_self _)⟩
  rw [closePage, run_all_cons, run_all_cons, run_all_cons, run_all_cons, run_all_nil] at ht
  rw [run_seq, ← ht] at hputs
  refine ⟨fun v hv => rowOctets_zero fun i hi => ?_, fun r hr => rowOctets_zero fun i hi => ?_, ?_, ?_, ?_⟩
  · have hother : ¬ (Gen.live = .live ∧ tableOctets 0xF097 (cellKey 0xF096 (16 * p + v) i)
        ∧ (cellKey 0xF096 (16 * p + v) i / 2 ^ 12 % 2 ^ 24 / 64 == p) = true) :=
      fun h => absurd ((cellKey_table (by omega) (by omega)).symm.trans h.2.1) (by decide)
    rw [hputs.2.1 _ _ id, hdata.2.1 _ _ hother]
    exact octet_clearTable_zero emptyTable_jobs (by omega) (by omega) (beq_iff_eq.mpr (by omega))
  · rw [hputs.2.1 _ _ id]
    exact octet_clearTable_zero emptyTable_data (by omega) (by omega) (beq_iff_eq.mpr (by omega))
  · rw [ht, get_put_ne _ _ hsp, get_put_self, regMod_pageState hp, flag_eq]
    by_cases h : u.get (Key.pagePendingEnable p) = 0
    · simp [h]
    · simp [h]
  · rw [ht, get_put_self, Nat.zero_mod]
  · exact leavesRest_trans (leavesRest_mono (by simp [keysIn]) (fun _ _ h => .inl (clearJobs_cells h)) hjobs)
      (leavesRest_trans (leavesRest_mono (by simp [keysIn]) (fun _ _ h => .inr (clearData_cells h)) hdata)
        (leavesRest_mono (fun _ h => h) (fun _ _ h => h.elim) hputs))

end

/-! ### The statement -/

theorem enableValue (b : Bool) : (if b then 1 else 0 : BitVec 64).toNat = if b then 1 else 0 := by cases b <;> rfl

/-- Settles O41: a submission takes the first status that applies, a dispatch chooses by the job's key, operation and counter, and a page
that closes ends its queued jobs, and clears its rows once no job of it runs. -/
theorem jobsAreSubmittedAndDispatched : Obligations.JobsAreSubmittedAndDispatched := by
  refine ⟨?submit, ?dispatch, ?free, ?enable, ?closingEnd⟩
  case submit =>
    intro s dt path p v u row key ctr base first st ha
    have hst : (s.facing dt path).submitStatus p.val v.val = st := rfl
    refine ⟨_, exec_jobSubmit ha, fun h => ⟨?status, (submitAct_refuses h rfl).1⟩, fun h4 => (submitAct_refuses (by rw [hst, h4]; decide) rfl).2 h4,
      fun h0 => submitAct_queued h0 (by rw [hst, h0, Nat.zero_min])⟩
    exact (run_answer_status ..).trans (Nat.mod_eq_of_lt (Nat.lt_of_le_of_lt (Nat.min_le_right _ _) (by decide)))
  case dispatch =>
    intro s dt unit p row u key c op len rows hd hfree hpage hjob
    have hrow : row < 2 ^ 24 := Nat.lt_trans (dispatched_lt hpage hjob) (by decide)
    have hc : c < 2 ^ 24 := jobCounter_lt u row
    refine ⟨fun hkey => ?keyless, fun hkey hop hlen => ?tooLong, fun hkey hop hlen => ?plain, fun hkey hop hstale => ?stale,
      fun hkey hop hslot hloaded hstale hlen hexhausted => ?verify, fun hkey hop hslot hloaded hstale hlen hwidth => ?generate⟩
    case keyless => exact runs_powered rfl hd (dispatchJob_ends hfree hpage hjob (by decide) (dispatchAct_keyless hkey) rfl)
    case tooLong =>
      exact runs_powered rfl hd
        (dispatchJob_ends hfree hpage hjob (by decide) ((dispatchAct_plain hkey hop).trans (if_pos hlen)) rfl)
    case plain =>
      exact runs_powered rfl hd (dispatchJob_runs hfree hpage hjob ((dispatchAct_plain hkey hop).trans (if_neg (Nat.not_lt.mpr hlen))) rfl)
    case stale => exact runs_powered rfl hd (dispatchJob_ends hfree hpage hjob (by decide) (dispatchAct_stale hkey hop hstale) rfl)
    case verify =>
      exact runs_powered rfl hd
        (dispatchJob_runs hfree hpage hjob (dispatchAct_verify hkey hslot hloaded hstale hlen hop hexhausted) rfl)
    case generate =>
      have hrun : (dispatchJob unit.val).run u = (takeFresh row c (runJob row unit.val)).run (u.pageTurned p) := by
        rw [run_dispatchJob hfree hpage hjob, dispatchAct_generate hkey hslot hloaded hstale hlen hop]
      refine ⟨fun hnext hexhausted => ?exhausted, fun hnext hexhausted => ?next, fun hlast => ?last⟩
      case exhausted => exact runs_powered rfl hd (ends_pageTurned (by decide) (hrun.trans (run_takeFresh_exhausted hnext hexhausted)))
      case next => exact runs_powered rfl hd (takes_next hrow hc hnext hwidth hexhausted hrun)
      case last =>
        have hends := ends_last hrow hc hlast hrun
        rw [hslot] at hends
        exact runs_powered rfl hd hends
  case free => exact fun s dt path p v ha hstate => jobSlotFree_frees ha hstate
  case enable =>
    intro s dt path p b u x ha
    have hx : x < 2 := by cases b <;> decide
    have hv : (if b then 1 else 0 : BitVec 64).toNat = x := enableValue b
    have hexec {v : BitVec 64} (hv : v.toNat < 2) : exec (.pageEnable dt path p v) s
        = .next ((Act.answer 0 []).run ((enablePage p.val v.toNat).run u)) := exec_pageEnable hv ha
    refine ⟨fun h => ⟨_, hexec (hv.symm ▸ hx), ?disabled⟩, fun h => ⟨_, hexec (hv.symm ▸ hx), ?closing⟩,
      fun h => ⟨_, hexec (by decide), ?enabled⟩⟩
    case disabled =>
      rw [hv]
      obtain ⟨henable, hstate, hrest⟩ := enablePage_disabled p.isLt hx h rfl
      exact ⟨rfl, (get_answer ..).trans henable, (get_answer ..).trans hstate, leavesRest_trans hrest (leavesRest_answered _ _ _)⟩
    case closing =>
      rw [hv]
      obtain ⟨henable, hpending, hrest⟩ := enablePage_closing p.isLt hx h rfl
      exact ⟨rfl, (get_answer ..).trans henable, (get_answer ..).trans hpending, leavesRest_trans hrest (leavesRest_answered _ _ _)⟩
    case enabled =>
      obtain ⟨henable, hstate, hended, hkept, hrest⟩ := enablePage_closes p.isLt h rfl
      exact ⟨rfl, (get_answer ..).trans henable, (get_answer ..).trans hstate,
        fun v hv hjob => ⟨(fld_answer ..).trans (hended v hv hjob).1, (fld_answer ..).trans (hended v hv hjob).2⟩,
        fun v hv hjob f hf => (fld_answer ..).trans (hkept v hv hjob f hf), leavesRest_trans hrest (leavesRest_answered _ _ _)⟩
  case closingEnd =>
    intro s dt p u hd hstate hjobs
    have hkept : u.get (Key.pageState p.val) = s.get (Key.pageState p.val) := after_object s dt (by unfold Key.pageState; omega)
    have hpending : u.get (Key.pagePendingEnable p.val) = s.get (Key.pagePendingEnable p.val) :=
      after_object s dt (by unfold Key.pagePendingEnable; omega)
    have hidle : ∀ v < 16, u.job (16 * p.val + v) F.jobState ≠ 2 := fun v hv h => hjobs v hv ((after_fld ..).symm.trans h)
    have hcloses := closePage_closes (u := u) p.isLt rfl
    rw [hpending] at hcloses
    refine runs_powered rfl hd ?_
    rw [run_pageCloses (u := s.after dt) (hkept.trans hstate) hidle]
    exact hcloses

end Sys2Proof.Machine
end

section
/-! PROOFS. The keys change (R335, R339, R446) while the queue of the record seal's port is out of shape. -/

namespace Sys2Proof.Machine

/-- The seal runs without usable slots, its port 244 is in Starting on LIN attachment 160, and the stray copy is in that port's queue. -/
def stallBesideStray : State :=
  (Act.all [.put Key.recordSealState 2, .put (Key.attachmentBinding 244) 160, .put (Key.portState 244) 1,
    .setCopies [{ strayCopy with port := 244 }]]).run strayQueue

/-- The state is sound: soundness does not speak of the queues. -/
theorem stallBesideStray_sound : stallBesideStray.sound = true := sound_run _ _ strayQueue_sound

theorem stallBesideStray_watched : stallBesideStray.get Rg.porstLow = 0 ∧ stallBesideStray.get Key.deviceState ≠ 2 := by decide +kernel

/-- Whatever changes the keys has the seal reviewed (R351): it stalls, its port is Up at once, and a LIN attachment drops the copy that it
cannot send (R108). -/
theorem strayLost_tampered : strayLost (stallBesideStray.after 0) (tampered.run (stallBesideStray.after 0)) 5 := by
  unfold strayLost
  decide +kernel

/-- Refutes O45: a tamper has the seal stall, which brings up a port whose first selection drops the stray copy, and the failure counts
outside of what the seal, a change of the keys and forwarding may write. The statement takes any queue. -/
theorem not_keysAreLoadedAndDestroyed : ¬ Obligations.KeysAreLoadedAndDestroyed := by
  rintro ⟨-, -, -, htamper, -⟩
  obtain ⟨hpin, hawake⟩ := stallBesideStray_watched
  obtain ⟨-, -, -, -, hframe⟩ := of_runs rfl (htamper stallBesideStray 0 hpin hawake)
  exact not_forwardsOnly_of_strayLost (by decide) (strayCounter_notKeys (by decide)) strayLost_tampered hframe

theorem stallBesideStray_admits : (stallBesideStray.facing 0 .safety).admits .safety 0xC000 12 = true := by decide +kernel

theorem strayLost_jtagUnlock : strayLost (stallBesideStray.facing 0 .safety)
    ((scalarWrite .safety 0xC000 12 0).run (stallBesideStray.after 0)) 5 := by
  unfold strayLost
  decide +kernel

theorem strayCounter_notClamps {reason : Nat} (h : reason < 8) : ¬ clampCells .live (strayCounter reason) := by
  rintro ⟨-, htable⟩
  rw [strayCounter_table h] at htable
  exact absurd htable (by decide)

/-- Refutes O58: JtagUnlock invalidates slot 0, the seal stalls in the same way, and the failure of the stray copy counts outside of what the
seal, a change of the keys and forwarding may write. The statement takes any queue. -/
theorem not_resetsAndColdStarts : ¬ Obligations.ResetsAndColdStarts := by
  rintro ⟨⟨-, hwrites, -⟩, -⟩
  obtain ⟨-, -, -, hunlock⟩ := hwrites stallBesideStray 0 .safety 0
  obtain ⟨-, -, -, -, -, hframe⟩ := of_runs rfl (hunlock stallBesideStray_admits)
  have houtside : ¬ bothCells keyCells clampCells .live (strayCounter 5) :=
    not_or.mpr ⟨strayCounter_notKeys (by decide), strayCounter_notClamps (by decide)⟩
  exact not_forwardsOnly_of_strayLost (by decide) houtside strayLost_jtagUnlock hframe

end Sys2Proof.Machine
end

section
/-! PROOFS. The rows of SignatureJobs and the users of the signature unit: what each act on them writes and leaves (R341 to R344). -/

namespace Sys2Proof.Machine

section
variable {s t u v : State} {ks : Nat → Prop} {r r' n : Nat}

/-! ### What a job reads -/

/-- Two states agree on the tables before SignatureJobs, among them the pages and the key slots. -/
def KeysKept (u v : State) : Prop := ∀ a < 0xF099 * 2 ^ 36, v.octet .live a = u.octet .live a

theorem keysKept_of_leavesRest (hr : r < 2 ^ 24) (h : leavesRest u v ks (rowCells .live 0xF099 r)) : KeysKept u v := by
  obtain ⟨-, hcells, -⟩ := h
  refine fun a ha => hcells .live a ?_
  rintro ⟨-, hlo, -⟩
  unfold cellKey at hlo
  omega

section
variable (h : KeysKept u v)
include h

theorem KeysKept.fld {idx row : Nat} {f : Fld} (hi : idx < 0xF099) (hrow : row < 2 ^ 24) (hf : f.first + f.span ≤ 4096) :
    v.fld .live idx row f = u.fld .live idx row f :=
  fld_congr fun _ _ => h _ (by unfold cellKey; omega)

theorem KeysKept.slotKind (hn : n < 2 ^ 24) : v.slotKind n = u.slotKind n := h.fld (by decide) hn (by decide)

theorem KeysKept.usableWithin (fuel : Nat) : ∀ n < 2 ^ 24, usableWithin v fuel n = usableWithin u fuel n := by
  induction fuel with
  | zero => exact fun _ _ => rfl
  | succ fuel ih =>
    intro n hn
    have hparent : u.fld .live 0xF098 n F.keyParent < 2 ^ 24 := Nat.lt_trans (Nat.mod_lt _ (Nat.two_pow_pos _)) (by decide)
    simp only [Machine.usableWithin, State.slotState, State.slotGeneration, h.fld (idx := 0xF098) (f := F.keyState) (by decide) hn (by decide),
      h.fld (idx := 0xF098) (f := F.keyParent) (by decide) hn (by decide),
      h.fld (idx := 0xF098) (f := F.keyParentGen) (by decide) hn (by decide), ih _ hparent,
      h.fld (idx := 0xF098) (f := F.keyGeneration) (by decide) hparent (by decide)]

theorem KeysKept.usable (hn : n < 2 ^ 24) : v.usable n = u.usable n := h.usableWithin 8 n hn

end

/-! ### The end of a job -/

/-- The octets of a row that the end of its job writes: State, Status and Result, and Time. -/
def signEndCells (r : Nat) : Gen → Nat → Prop := fun g a => g = .live
  ∧ (cellKey 0xF099 r 0 ≤ a ∧ a < cellKey 0xF099 r 14 ∨ cellKey 0xF099 r 160 ≤ a ∧ a < cellKey 0xF099 r 168)

theorem signEndCells_row {g : Gen} {a : Nat} (h : signEndCells r g a) : rowCells .live 0xF099 r g a := by
  obtain ⟨hg, h⟩ := h
  unfold cellKey at h
  exact ⟨hg, by unfold cellKey; omega, by unfold cellKey; omega⟩

theorem within_endSignJob_cells (r status result : Nat) : Within ks (signEndCells r) (endSignJob r status result) := by
  have hfield (f : Fld) (x : Nat) (hf : f.first + f.span ≤ 14 ∨ 160 ≤ f.first ∧ f.first + f.span ≤ 168) :
      Within ks (signEndCells r) (Act.setF .live 0xF099 r f x) := within_setF _ _ _ _ _ fun i hi => by
    unfold Fld.first Fld.span at hf
    exact ⟨rfl, by unfold cellKey; omega⟩
  exact fun _ => ⟨hfield F.sjobState _ (by decide), hfield F.sjobStatus _ (by decide), hfield F.sjobResult _ (by decide),
    hfield F.sjobTime _ (by decide), trivial⟩

theorem within_endSignJob (r status result : Nat) : Within ks (rowCells .live 0xF099 r) (endSignJob r status result) :=
  within_mono (fun _ h => h) (fun _ _ => signEndCells_row) _ (within_endSignJob_cells r status result)

/-- What a row whose job has ended reads as. -/
def State.sjobDone (t : State) (r status result vns : Nat) : Prop :=
  t.sjob r F.sjobState = 3 ∧ t.sjob r F.sjobStatus = status ∧ t.sjob r F.sjobResult = result ∧ t.sjob r F.sjobTime = vns % 2 ^ 64

theorem run_endSignJob (s : State) (r status result : Nat) : (endSignJob r status result).run s
    = (Act.setF .live 0xF099 r F.sjobTime s.vns).run ((Act.setF .live 0xF099 r F.sjobResult result).run
      ((Act.setF .live 0xF099 r F.sjobStatus status).run ((Act.setF .live 0xF099 r F.sjobState 3).run s))) := by
  rw [endSignJob, run_dep, run_all_cons, run_all_cons, run_all_cons, run_all_cons, run_all_nil]

theorem endSignJob_sjobDone (s : State) (r : Nat) {status result : Nat} (hstatus : status < 256) (hresult : result < 256) :
    ((endSignJob r status result).run s).sjobDone r status result s.vns := by
  rw [run_endSignJob]
  refine ⟨?_, ?_, ?_, fld_setF_self ..⟩ <;> rw [State.sjob]
  · rw [fld_setF_disjoint _ _ _ _ (by decide), fld_setF_disjoint _ _ _ _ (by decide), fld_setF_disjoint _ _ _ _ (by decide), fld_setF_self]
    decide
  · rw [fld_setF_disjoint _ _ _ _ (by decide), fld_setF_disjoint _ _ _ _ (by decide), fld_setF_self]
    exact Nat.mod_eq_of_lt hstatus
  · rw [fld_setF_disjoint _ _ _ _ (by decide), fld_setF_self]
    exact Nat.mod_eq_of_lt hresult

/-- The end of a job leaves its signature, which has at most 96 octets. -/
theorem signature_endSignJob (s : State) (r status result : Nat) (hn : n ≤ 96) :
    ((endSignJob r status result).run s).rowOctets .live 0xF099 r 64 n = s.rowOctets .live 0xF099 r 64 n := by
  obtain ⟨-, hcells, -⟩ := run_leavesRest (ks := keysIn []) _ s (within_endSignJob_cells r status result)
  refine List.map_congr_left fun i hi => hcells .live _ ?_
  rintro ⟨-, h⟩
  have := List.mem_range.mp hi
  unfold cellKey at h
  omega

/-! ### The start of a job -/

theorem within_startSignJob (r : Nat) : Within (keysIn [Rg.signUser]) (rowCells .live 0xF099 r) (startSignJob r) := by
  intro s
  dsimp only
  split
  · trivial
  · split
    · exact within_draw fun _ => within_endSignJob _ _ _
    · split
      · exact within_endSignJob _ _ _
      · exact ⟨within_setF_row _ _ _ _ _, List.mem_singleton_self _⟩

/-- A row that is not queued does not take the unit, and no row takes a busy one. -/
theorem run_startSignJob_idle (h : s.get Rg.signUser ≠ 0 ∨ s.sjob r F.sjobState ≠ 1) : (startSignJob r).run s = s := by
  have hskip : (s.flag Rg.signUser || s.sjob r F.sjobState != 1) = true := by simpa [flag_eq] using h
  rw [startSignJob, run_dep, if_pos hskip, run_skip]

section
variable (huser : s.get Rg.signUser = 0) (hstate : s.sjob r F.sjobState = 1) (hop : s.sjob r F.sjobOp ≠ 0)
include huser hstate hop

/-- A queued row that no rule stops takes the idle unit. -/
theorem run_startSignJob_runs (h : s.signJobFault r = none) : (startSignJob r).run s
    = (Act.put Rg.signUser (if r = 0 then 2 else 4)).run ((Act.setF .live 0xF099 r F.sjobState 2).run s) := by
  rw [startSignJob, run_dep, if_neg (by simp [flag_eq, huser, hstate]), if_neg hop, h, run_seq]

/-- One that a rule stops ends without the unit. -/
theorem run_startSignJob_ends {st : Nat} (h : s.signJobFault r = some st) : (startSignJob r).run s = (endSignJob r st 0).run s := by
  rw [startSignJob, run_dep, if_neg (by simp [flag_eq, huser, hstate]), if_neg hop, h]

end

/-! ### The next user of the unit -/

/-- A seal statement, or an attestation, takes the idle unit (R342). -/
def kickStatement : Act := .dep fun s => Act.when (!s.flag Rg.signUser && s.flag Rg.stmtKind && s.sealReady && !s.flag Rg.stmtRun)
  (.seq (.put Rg.signUser 1) (.put Rg.stmtRun 1))
def kickAttest : Act := .dep fun s => Act.when (!s.flag Rg.signUser && s.flag Rg.attestWanted) (.put Rg.signUser 3)

theorem kickUnit_eq : kickUnit = Act.all [kickStatement, startSignJob 0, kickAttest, startSignJob 1] := rfl

theorem run_kickUnit (s : State) : kickUnit.run s
    = (startSignJob 1).run (kickAttest.run ((startSignJob 0).run (kickStatement.run s))) := by
  rw [kickUnit_eq, run_all_cons, run_all_cons, run_all_cons, run_all_cons, run_all_nil]

theorem within_kickStatement {cs : Gen → Nat → Prop} : Within (keysIn [Rg.signUser, Rg.stmtRun]) cs kickStatement :=
  fun _ => within_when fun _ => ⟨List.mem_cons_self .., List.mem_cons_of_mem _ (List.mem_singleton_self _)⟩

theorem within_kickAttest {cs : Gen → Nat → Prop} : Within (keysIn [Rg.signUser]) cs kickAttest :=
  fun _ => within_when fun _ => List.mem_singleton_self _

theorem within_kickUnit : Within (keysIn [Rg.signUser, Rg.stmtRun]) (tableCells .live 0xF099) kickUnit := by
  have hkeys (k : Nat) (h : keysIn [Rg.signUser] k) : keysIn [Rg.signUser, Rg.stmtRun] k := List.mem_cons.mpr (.inl (List.mem_singleton.mp h))
  have hstart (r : Nat) (hr : r < 2 ^ 24) : Within (keysIn [Rg.signUser, Rg.stmtRun]) (tableCells .live 0xF099) (startSignJob r) :=
    within_mono hkeys (fun _ _ => rowCells_table hr) _ (within_startSignJob r)
  rw [kickUnit_eq]
  exact ⟨within_kickStatement, hstart 0 (by decide), within_mono hkeys (fun _ _ h => h) _ within_kickAttest, hstart 1 (by decide), trivial⟩

theorem run_kickStatement_idle (h : s.get Rg.signUser ≠ 0 ∨ s.get Rg.stmtKind = 0) : kickStatement.run s = s := by
  have hoff : (!s.flag Rg.signUser && s.flag Rg.stmtKind) = false := by
    simp only [flag_eq, Bool.and_eq_false_iff, Bool.not_eq_false', bne_iff_ne, bne_eq_false_iff_eq]
    exact h
  rw [kickStatement, run_dep, hoff, Bool.false_and, Bool.false_and, run_when_false]

theorem run_kickAttest_idle (h : s.get Rg.signUser ≠ 0 ∨ s.get Rg.attestWanted = 0) : kickAttest.run s = s := by
  have hoff : (!s.flag Rg.signUser && s.flag Rg.attestWanted) = false := by
    simp only [flag_eq, Bool.and_eq_false_iff, Bool.not_eq_false', bne_iff_ne, bne_eq_false_iff_eq]
    exact h
  rw [kickAttest, run_dep, hoff, run_when_false]

/-- No user takes a busy unit. -/
theorem run_kickUnit_busy (h : s.get Rg.signUser ≠ 0) : kickUnit.run s = s := by
  rw [run_kickUnit, run_kickStatement_idle (.inl h), run_startSignJob_idle (.inl h), run_kickAttest_idle (.inl h),
    run_startSignJob_idle (.inl h)]

/-- Where nothing but one row waits, the unit looks at that row alone. -/
theorem run_kickUnit_row (r : Fin 2) (hstmt : s.get Rg.stmtKind = 0) (hattest : s.get Rg.attestWanted = 0)
    (hother : s.sjob (1 - r.val) F.sjobState ≠ 1) : kickUnit.run s = (startSignJob r.val).run s := by
  rw [run_kickUnit, run_kickStatement_idle (.inr hstmt)]
  obtain hr | hr : r.val = 0 ∨ r.val = 1 := by omega
  · rw [hr] at hother ⊢
    have hstarted := run_leavesRest _ s (within_startSignJob 0)
    have hkept : ((startSignJob 0).run s).get Rg.attestWanted = 0 := (hstarted.1 _ (by simp only [keysIn]; decide)).trans hattest
    have hrow : ((startSignJob 0).run s).sjob 1 F.sjobState = s.sjob 1 F.sjobState :=
      fld_other_row hstarted (by decide) (by decide) (by decide) (.inr (by decide))
    rw [run_kickAttest_idle (.inr hkept)]
    exact run_startSignJob_idle (.inr (by rw [hrow]; exact hother))
  · rw [hr] at hother ⊢
    rw [run_startSignJob_idle (r := 0) (.inr hother), run_kickAttest_idle (.inr hattest)]

/-- The unit leaves a row that is not queued. -/
theorem octet_startSignJob {o : Nat} (r' : Nat) (hr : r < 2 ^ 24) (hr' : r' < 2 ^ 24) (ho : o < 4096) (h : s.sjob r F.sjobState ≠ 1) :
    ((startSignJob r').run s).octet .live (cellKey 0xF099 r o) = s.octet .live (cellKey 0xF099 r o) := by
  by_cases hrow : r' = r
  · rw [hrow, run_startSignJob_idle (.inr h)]
  · obtain ⟨-, hcells, -⟩ := run_leavesRest _ s (within_startSignJob r')
    exact hcells .live _ (rowCells_apart hr' hr ho (.inr (Ne.symm hrow)))

theorem octet_kickUnit {o : Nat} (hr : r < 2 ^ 24) (ho : o < 4096) (h : s.sjob r F.sjobState ≠ 1) :
    (kickUnit.run s).octet .live (cellKey 0xF099 r o) = s.octet .live (cellKey 0xF099 r o) := by
  have hstmt (a : Nat) : (kickStatement.run s).octet .live a = s.octet .live a :=
    (run_leavesRest _ s (within_kickStatement (cs := noCells))).2.1 .live a id
  have hattest (w : State) (a : Nat) : (kickAttest.run w).octet .live a = w.octet .live a :=
    (run_leavesRest _ w (within_kickAttest (cs := noCells))).2.1 .live a id
  have hfirst : (kickStatement.run s).sjob r F.sjobState ≠ 1 := by
    rwa [State.sjob, fld_congr fun i _ => hstmt _]
  have hkept {o : Nat} (ho : o < 4096) := octet_startSignJob 0 hr (by decide) ho hfirst
  have hsecond : (kickAttest.run ((startSignJob 0).run (kickStatement.run s))).sjob r F.sjobState ≠ 1 := by
    have hspan : F.sjobState.first + F.sjobState.span ≤ 4096 := by decide
    rwa [State.sjob, fld_congr fun i hi => (hattest _ _).trans (hkept (by omega))]
  rw [run_kickUnit, octet_startSignJob 1 hr (by decide) ho hsecond, hattest, hkept ho, hstmt]

end

end Sys2Proof.Machine
end

section
/-! PROOFS. A row of SignatureJobs that is submitted by a write of the whole row (R342, R343). -/

namespace Sys2Proof.Machine

section
variable {s t u v : State} {path : Path} {r : Nat} {data : List Byte} {f : Fld}

/-! ### A write that clamps nothing -/

/-- A merge of legal values is no clamp. -/
theorem mergeFields_legal {fs : List Fld} {new : Nat}
    (h : ∀ f ∈ fs, clampTo f.legal f.width f.dflt (bits new f.bit f.width) = bits new f.bit f.width) (old off n : Nat) :
    (mergeFields fs old new off n).2 = false := by
  have hfold : ∀ (a : Nat × Bool), a.2 = false → (fs.foldl (mergeField new off n) a).2 = false := by
    induction fs with
    | nil => exact fun _ ha => ha
    | cons f fs ih =>
      intro a ha
      rw [List.foldl_cons]
      refine ih (fun g hg => h g (List.mem_cons_of_mem _ hg)) _ ?_
      unfold mergeField
      split
      · exact ha
      · simp [h f List.mem_cons_self, ha]
  exact hfold _ rfl

theorem clampTo_interval {lo hi v : Nat} (w d : Nat) (hlo : lo ≤ v) (hhi : v ≤ hi) : clampTo (.segs [(lo, hi)]) w d v = v := by
  have hvalue : clampTo (.segs [(lo, hi)]) w d v = intoInterval lo hi v := rfl
  rw [hvalue, intoInterval, if_neg (by omega), if_neg (by omega)]

theorem overlay_whole {bs xs : List Byte} (h : bs.length = xs.length) : overlay bs 0 xs = xs := by
  simp [overlay, ← h]

/-! ### The row that is stored -/

/-- The table of the rows. -/
def signTab : Tab := ⟨0xF099, 2, 256, .rw, .safety, false, "SignatureJobs"⟩

theorem tableOf_sign : tableOf 0xF099 = some signTab := rfl

/-- The fields that a write stores: all but State, which submits or frees. -/
def signFields : List Fld := layoutF099.filter fun f => f != F.sjobState

theorem signFields_apart : signFields.Pairwise (fun f f' => f.apart f' = true) ∧ ∀ f ∈ signFields, f.bit + f.width ≤ 8 * signTab.stride := by
  decide

/-- The row that a write of a whole row leaves before State acts. -/
def signImage (u : State) (r : Nat) (data : List Byte) : Nat × Bool := liveMerge u signTab 0xF099 r 0 data signFields

/-- What a submission asks for: a field of the written row. -/
def asked (data : List Byte) (f : Fld) : Nat := bits (leNat data) f.bit f.width

/-- The written values that R343 allows. -/
structure LegalSubmission (data : List Byte) : Prop where
  op : 1 ≤ asked data F.sjobOp ∧ asked data F.sjobOp ≤ 4
  offset : asked data F.sjobOffset ≤ 4095
  length : asked data F.sjobLength ≤ 4096

theorem overlay_row (hlen : data.length = 256) : overlay (u.rowOctets .live 0xF099 r 0 256) 0 data = data :=
  overlay_whole ((octets_length ..).trans hlen.symm)

/-- No field of such a row is clamped. -/
theorem clampTo_asked (hlegal : LegalSubmission data) (hf : f ∈ signFields) :
    clampTo f.legal f.width f.dflt (asked data f) = asked data f := by
  have hcases : signFields = [F.sjobOp, F.sjobKeySlot, F.sjobPage, F.sjobOffset, F.sjobLength, F.sjobStatus, F.sjobResult, F.sjobDigest,
      F.sjobSigR, F.sjobTime] := by decide
  obtain ⟨⟨hlo, hhi⟩, hoffset, hlength⟩ := hlegal
  rw [hcases] at hf
  simp only [List.mem_cons, List.not_mem_nil, or_false] at hf
  rcases hf with rfl | rfl | rfl | rfl | rfl | rfl | rfl | rfl | rfl | rfl
  · exact clampTo_interval _ _ hlo hhi
  · rfl
  · rfl
  · exact clampTo_interval _ _ (Nat.zero_le _) hoffset
  · exact clampTo_interval _ _ (Nat.zero_le _) hlength
  all_goals rfl

theorem signImage_unclamped (hlen : data.length = 256) (hlegal : LegalSubmission data) : (signImage u r data).2 = false := by
  refine mergeFields_legal (fun f hf => ?_) ..
  have hrow : overlay (u.rowOctets .live 0xF099 r 0 signTab.stride) 0 data = data := overlay_row hlen
  rw [hrow]
  exact clampTo_asked hlegal hf

/-- The fields that a submission may set: they read as written. -/
def setFields : List Fld := [F.sjobOp, F.sjobKeySlot, F.sjobPage, F.sjobOffset, F.sjobLength, F.sjobDigest, F.sjobSigR]

theorem setFields_writable (hf : f ∈ setFields) : f ∈ signFields ∧ f.ro = false ∧ f.touched 0 256 = true
    ∧ f.disjoint F.sjobState = true ∧ f.disjoint F.sjobStatus = true ∧ f.disjoint F.sjobResult = true := by
  revert f
  decide

theorem imageField_signImage (hlen : data.length = 256) (hlegal : LegalSubmission data) (hf : f ∈ setFields) :
    imageField (signImage u r data).1 f = asked data f := by
  obtain ⟨hmem, hro, htouched, -⟩ := setFields_writable hf
  obtain ⟨hapart, hfit⟩ := signFields_apart
  have hrow : overlay (u.rowOctets .live 0xF099 r 0 signTab.stride) 0 data = data := overlay_row hlen
  rw [signImage, imageField_liveMerge hapart hmem hro (hfit f hmem), liveValue, if_pos (by rw [hlen]; exact htouched), hrow]
  exact (congrArg (· % 2 ^ f.width) (clampTo_asked hlegal hmem)).trans (Nat.mod_eq_of_lt (Nat.mod_lt _ (Nat.two_pow_pos _)))

/-! ### The submission -/

/-- The row once its fields are stored and it is queued, before the unit takes it. -/
def signQueued (u : State) (r : Nat) (data : List Byte) : State :=
  (Act.all [storeLive u signTab 0xF099 r (signImage u r data), Act.setF .live 0xF099 r F.sjobState 1,
    Act.setF .live 0xF099 r F.sjobStatus 0, Act.setF .live 0xF099 r F.sjobResult 0]).run u

theorem run_writeSignJob (hlen : data.length = 256) (hfree : u.sjob r F.sjobState = 0) (hstate : asked data F.sjobState = 1) :
    (writeUnstaged u path signTab r 0 data).2.run u = kickUnit.run (signQueued u r data) := by
  have hrow : overlay (u.rowOctets .live 0xF099 r 0 256) 0 data = data := overlay_row hlen
  have hwrite : (writeUnstaged u path signTab r 0 data).2 = Act.all [Act.setImage .live 0xF099 r 256 (leNat (u.rowOctets .live 0xF099 r 0 256))
      (signImage u r data).1, countRow 0xF099 (signImage u r data).2, Act.when (F.sjobState.touched 0 data.length)
        (if u.sjob r F.sjobState = 0 && imageField (leNat (overlay (u.rowOctets .live 0xF099 r 0 256) 0 data)) F.sjobState = 1
          then submitSignJob r
          else Act.when (u.sjob r F.sjobState == 3 && imageField (leNat (overlay (u.rowOctets .live 0xF099 r 0 256) 0 data)) F.sjobState == 0)
            (Act.setF .live 0xF099 r F.sjobState 0))] := rfl
  have hnew : imageField (leNat data) F.sjobState = 1 := hstate
  have htouched : F.sjobState.touched 0 256 = true := by decide
  rw [hwrite, hrow, hlen, htouched, hfree, hnew, if_pos (by decide)]
  simp only [signQueued, storeLive, submitSignJob, run_all_cons, run_all_nil, run_when_true, signTab]

theorem signQueued_leavesRest (hlen : data.length = 256) (hlegal : LegalSubmission data) :
    leavesRest u (signQueued u r data) (keysIn []) (rowCells .live 0xF099 r) := by
  have himage : signImage u r data = ((signImage u r data).1, false) := Prod.ext rfl (signImage_unclamped hlen hlegal)
  rw [signQueued, himage, run_all_cons]
  exact leavesRest_trans (storeLive_unclamped (by decide) _) (run_leavesRest _ _
    ⟨within_setF_row _ _ _ _ _, within_setF_row _ _ _ _ _, within_setF_row _ _ _ _ _, trivial⟩)

theorem state_signQueued : (signQueued u r data).sjob r F.sjobState = 1 := by
  rw [signQueued, run_all_cons, run_all_cons, run_all_cons, run_all_cons, run_all_nil, State.sjob, fld_setF_disjoint _ _ _ _ (by decide),
    fld_setF_disjoint _ _ _ _ (by decide), fld_setF_self]
  decide

theorem sjob_signQueued (hlen : data.length = 256) (hlegal : LegalSubmission data) (hr : r < 2 ^ 24) (hf : f ∈ setFields) :
    (signQueued u r data).sjob r f = asked data f := by
  obtain ⟨hmem, -, -, hstate, hstatus, hresult⟩ := setFields_writable hf
  obtain ⟨-, hfit⟩ := signFields_apart
  rw [signQueued, run_all_cons, run_all_cons, run_all_cons, run_all_cons, run_all_nil, State.sjob, fld_setF_disjoint _ _ _ _ hresult,
    fld_setF_disjoint _ _ _ _ hstatus, fld_setF_disjoint _ _ _ _ hstate,
    fld_storeLive hr (by decide) (by decide) (by decide) (hfit f hmem), imageField_signImage hlen hlegal hf]

/-! ### What the unit finds -/

/-- Whether the key serves the job, and the page, where its operation works on data, is the user's (R343). -/
def SignFits (u : State) (r : Nat) (data : List Byte) : Prop :=
  asked data F.sjobKeySlot ≠ 1 ∧ u.usable (asked data F.sjobKeySlot) = true
    ∧ suits (asked data F.sjobOp) (u.slotKind (asked data F.sjobKeySlot)) = true
    ∧ (onData (asked data F.sjobOp) = true → u.page (asked data F.sjobPage) F.pageUser = r + 1)

/-- Whether the operation works on data past the end of its page. -/
def SignExceeds (data : List Byte) : Prop :=
  onData (asked data F.sjobOp) = true ∧ 4096 < asked data F.sjobOffset + asked data F.sjobLength

theorem signJobFault_signQueued (hlen : data.length = 256) (hlegal : LegalSubmission data) (hr : r < 2 ^ 24) :
    (signQueued u r data).signJobFault r
      = if asked data F.sjobKeySlot = 1 || !u.usable (asked data F.sjobKeySlot)
            || !suits (asked data F.sjobOp) (u.slotKind (asked data F.sjobKeySlot))
            || (onData (asked data F.sjobOp) && u.page (asked data F.sjobPage) F.pageUser != r + 1) then some 2
        else if onData (asked data F.sjobOp) && decide (4096 < asked data F.sjobOffset + asked data F.sjobLength) then some 1
        else none := by
  have hkept := keysKept_of_leavesRest hr (signQueued_leavesRest (u := u) (r := r) hlen hlegal)
  have hfield {f : Fld} (hf : f ∈ setFields) : (signQueued u r data).sjob r f = asked data f := sjob_signQueued hlen hlegal hr hf
  have hkey : asked data F.sjobKeySlot < 2 ^ 24 := Nat.lt_trans (Nat.mod_lt _ (Nat.two_pow_pos _)) (by decide)
  have hpage : asked data F.sjobPage < 2 ^ 24 := Nat.lt_trans (Nat.mod_lt _ (Nat.two_pow_pos _)) (by decide)
  have huser : (signQueued u r data).page (asked data F.sjobPage) F.pageUser = u.page (asked data F.sjobPage) F.pageUser :=
    hkept.fld (by decide) hpage (by decide)
  unfold State.signJobFault
  rw [hfield (f := F.sjobOp) (by decide), hfield (f := F.sjobKeySlot) (by decide), hfield (f := F.sjobPage) (by decide),
    hfield (f := F.sjobOffset) (by decide), hfield (f := F.sjobLength) (by decide)]
  dsimp only
  rw [hkept.usable hkey, hkept.slotKind hkey, huser]

section
variable (hlen : data.length = 256) (hlegal : LegalSubmission data) (hr : r < 2 ^ 24)
include hlen hlegal hr

theorem signJobFault_unfit (h : ¬ SignFits u r data) : (signQueued u r data).signJobFault r = some 2 := by
  rw [signJobFault_signQueued hlen hlegal hr, if_pos]
  unfold SignFits at h
  simp only [Bool.or_eq_true, decide_eq_true_eq, Bool.not_eq_true', Bool.and_eq_true, bne_iff_ne]
  by_contra hno
  simp only [not_or, not_and, not_not, Bool.not_eq_false] at hno
  obtain ⟨⟨⟨hone, husable⟩, hsuits⟩, hpage⟩ := hno
  exact h ⟨hone, husable, hsuits, hpage⟩

theorem signJobFault_fits (h : SignFits u r data) :
    (signQueued u r data).signJobFault r
      = if onData (asked data F.sjobOp) && decide (4096 < asked data F.sjobOffset + asked data F.sjobLength) then some 1 else none := by
  obtain ⟨hone, husable, hsuits, hpage⟩ := h
  rw [signJobFault_signQueued hlen hlegal hr, if_neg]
  simpa [hone, husable, hsuits] using hpage

end

/-! ### The answer to the write -/

/-- The state that a submission answers. -/
def signAnswered (u : State) (r : Nat) (data : List Byte) : State := (Act.answer 0 []).run (kickUnit.run (signQueued u r data))

/-- Each of the four commands that submit a row answers that state. -/
theorem runs_signWrite {dt : Nat} {row : Fin 2} {P : State → Prop} (ha : (s.facing dt path).admitsRow path 0xF099 row.val 0 256 = true)
    (hlen : data.length = 256) (hfree : (s.facing dt path).sjob row.val F.sjobState = 0) (hstate : asked data F.sjobState = 1)
    (h : P (signAnswered (s.facing dt path) row.val data)) :
    Runs (.signData dt path row 0 data) s P ∧ Runs (.signDigest dt path row 0 data) s P
      ∧ Runs (.verifyData dt path row 0 data) s P ∧ Runs (.verifyDigest dt path row 0 data) s P := by
  obtain ⟨hwrite, -⟩ := writeRowAt_admitted (off := 0) (data := data) (hlen.symm ▸ ha) tableOf_sign
  have hruns {c : Instr} (hc : exec c s = command dt (rowWrite path 0xF099 row.val false 0 data) s) : Runs c s P := by
    refine runs_rowWrite hc hwrite ?_
    rw [run_writeSignJob hlen hfree hstate]
    exact h
  exact ⟨hruns rfl, hruns rfl, hruns rfl, hruns rfl⟩

section
variable (hlen : data.length = 256) (hlegal : LegalSubmission data)
include hlen hlegal

theorem get_signQueued (k : Nat) : (signQueued u r data).get k = u.get k :=
  (signQueued_leavesRest hlen hlegal).1 k List.not_mem_nil

theorem signQueued_tries (hr : r < 2 ^ 24) (huser : u.get Rg.signUser = 0) :
    (signQueued u r data).get Rg.signUser = 0 ∧ (signQueued u r data).sjob r F.sjobOp ≠ 0 := by
  have ⟨⟨hop, _⟩, _, _⟩ := hlegal
  rw [get_signQueued hlen hlegal, sjob_signQueued hlen hlegal hr (by decide)]
  exact ⟨huser, by omega⟩

/-- A row that finds the unit busy is queued. -/
theorem signAnswered_busy (hr : r < 2 ^ 24) (hbusy : u.get Rg.signUser ≠ 0) (ht : t = signAnswered u r data) :
    t.status = 0 ∧ t.sjob r F.sjobState = 1 ∧ (∀ f ∈ setFields, t.sjob r f = asked data f)
      ∧ leavesRest u t (keysIn [Rg.signUser]) (rowCells .live 0xF099 r) := by
  rw [signAnswered, run_kickUnit_busy (by rwa [get_signQueued hlen hlegal])] at ht
  subst ht
  refine ⟨rfl, (fld_answer ..).trans state_signQueued, fun f hf => (fld_answer ..).trans (sjob_signQueued hlen hlegal hr hf), ?_⟩
  exact leavesRest_trans (leavesRest_mono (fun _ h => absurd h List.not_mem_nil) (fun _ _ h => h) (signQueued_leavesRest hlen hlegal))
    (leavesRest_answered _ _ _)

end

section
variable {row : Fin 2} (hlen : data.length = 256) (hlegal : LegalSubmission data) (huser : u.get Rg.signUser = 0) (hstmt : u.get Rg.stmtKind = 0)
  (hattest : u.get Rg.attestWanted = 0) (hother : u.sjob (1 - row.val) F.sjobState ≠ 1)
include hlen hlegal hstmt hattest hother

/-- On an idle unit the row is tried at once. -/
theorem signAnswered_idle : signAnswered u row.val data = (Act.answer 0 []).run ((startSignJob row.val).run (signQueued u row.val data)) := by
  have hrow : (signQueued u row.val data).sjob (1 - row.val) F.sjobState = u.sjob (1 - row.val) F.sjobState :=
    fld_other_row (signQueued_leavesRest hlen hlegal) (by omega) (by omega) (by decide) (.inr (by omega))
  rw [signAnswered, run_kickUnit_row row (by rwa [get_signQueued hlen hlegal]) (by rwa [get_signQueued hlen hlegal]) (by rwa [hrow])]

theorem signAnswered_leavesRest :
    leavesRest u (signAnswered u row.val data) (keysIn [Rg.signUser]) (rowCells .live 0xF099 row.val) := by
  rw [signAnswered_idle hlen hlegal hstmt hattest hother]
  exact leavesRest_trans (leavesRest_mono (fun _ h => absurd h List.not_mem_nil) (fun _ _ h => h) (signQueued_leavesRest hlen hlegal))
    (leavesRest_trans (run_leavesRest _ _ (within_startSignJob row.val)) (leavesRest_answered _ _ _))

include huser

/-- A row that no rule stops takes the unit. -/
theorem signAnswered_starts (h : (signQueued u row.val data).signJobFault row.val = none) (ht : t = signAnswered u row.val data) :
    t.status = 0 ∧ t.sjob row.val F.sjobState = 2 ∧ t.get Rg.signUser = (if row.val = 0 then 2 else 4)
      ∧ leavesRest u t (keysIn [Rg.signUser]) (rowCells .live 0xF099 row.val) := by
  have hrest := signAnswered_leavesRest hlen hlegal hstmt hattest hother
  obtain ⟨hidle, hop⟩ := signQueued_tries hlen hlegal (r := row.val) (by omega) huser
  rw [← ht] at hrest
  rw [signAnswered_idle hlen hlegal hstmt hattest hother, run_startSignJob_runs hidle state_signQueued hop h] at ht
  refine ⟨by rw [ht]; rfl, ?_, ?_, hrest⟩
  · rw [ht, State.sjob, fld_answer, fld_put, fld_setF_self]
    decide
  · rw [ht, get_answer, get_put_self, regMod_internal (by decide), Nat.mod_zero]

/-- A row that a rule stops ends without the unit. -/
theorem signAnswered_ends {st : Nat} (hst : st < 256) (h : (signQueued u row.val data).signJobFault row.val = some st)
    (ht : t = signAnswered u row.val data) :
    t.status = 0 ∧ t.sjob row.val F.sjobState = 3 ∧ t.sjob row.val F.sjobStatus = st ∧ t.get Rg.signUser = 0
      ∧ leavesRest u t (keysIn [Rg.signUser]) (rowCells .live 0xF099 row.val) := by
  have hrest := signAnswered_leavesRest hlen hlegal hstmt hattest hother
  obtain ⟨hidle, hop⟩ := signQueued_tries hlen hlegal (r := row.val) (by omega) huser
  rw [← ht] at hrest
  rw [signAnswered_idle hlen hlegal hstmt hattest hother, run_startSignJob_ends hidle state_signQueued hop h] at ht
  obtain ⟨hstate, hstatus, -⟩ := endSignJob_sjobDone (signQueued u row.val data) row.val hst (result := 0) (by decide)
  obtain ⟨hregs, -⟩ := run_leavesRest (ks := keysIn []) _ (signQueued u row.val data) (within_endSignJob row.val st 0)
  subst ht
  exact ⟨rfl, (fld_answer ..).trans hstate, (fld_answer ..).trans hstatus, (get_answer ..).trans ((hregs _ List.not_mem_nil).trans hidle), hrest⟩

end

end

end Sys2Proof.Machine
end

section
/-! PROOFS. The end of a row's operation, and AttestGenerate (R341 to R344). -/

namespace Sys2Proof.Machine

section
variable {s t u w : State} {r : Nat}

/-! ### The end of an operation -/

theorem curveOf_size (kind : Nat) : (curveOf kind).size = 32 ∨ (curveOf kind).size = 48 := by
  unfold curveOf
  split
  · exact .inr rfl
  · exact .inl rfl

theorem curveOf_order (kind : Nat) : 1 < (curveOf kind).n := by
  unfold curveOf
  split <;> decide

theorem ecdsaSign_length (c : Curve) (d k : Nat) (digest : List Byte) : (ecdsaSign c d k digest).length = 2 * c.size := by
  unfold ecdsaSign
  split
  · exact List.length_replicate
  · rw [List.length_append, beBytes, beBytes, List.length_reverse, List.length_reverse, leBytes_length, leBytes_length]
    omega

/-- A signature leaves Time and what comes behind it in its row. -/
theorem ecdsaSign_fits (kind d k : Nat) (digest : List Byte) : (ecdsaSign (curveOf kind) d k digest).length ≤ 96 := by
  rw [ecdsaSign_length]
  have := curveOf_size kind
  omega

/-- What the operation of a row signs or verifies. -/
def State.signedDigest (s : State) (r : Nat) : List Byte :=
  let kind := s.slotKind (s.sjob r F.sjobKeySlot)
  if onData (s.sjob r F.sjobOp) then
    digestOf kind (s.gloveData (s.sjob r F.sjobPage) (s.sjob r F.sjobOffset) (s.sjob r F.sjobLength))
  else s.rowOctets .live 0xF099 r 16 (curveOf kind).size

/-- The digest in a row has the size of its key's curve. -/
theorem signedDigest_eq (s : State) (r : Nat) : s.signedDigest r
    = if onData (s.sjob r F.sjobOp) then digestOf (s.slotKind (s.sjob r F.sjobKeySlot))
        (s.gloveData (s.sjob r F.sjobPage) (s.sjob r F.sjobOffset) (s.sjob r F.sjobLength))
      else if (curveOf (s.slotKind (s.sjob r F.sjobKeySlot))).size = 48 then s.rowOctets .live 0xF099 r 16 48
      else s.rowOctets .live 0xF099 r 16 32 := by
  unfold State.signedDigest
  dsimp only
  obtain h | h := curveOf_size (s.slotKind (s.sjob r F.sjobKeySlot)) <;> rw [h] <;> rfl

/-- The nonce that the DRBG gives, and the signature that it makes. -/
def State.signNonce (s : State) (c : Curve) : Nat := 1 + Config.freeValue s.free % (c.n - 1 + 1 - 1)
def State.signature (s : State) (r : Nat) : List Byte :=
  let n := s.sjob r F.sjobKeySlot
  ecdsaSign (curveOf (s.slotKind n)) (s.scalarOf n) (s.signNonce (curveOf (s.slotKind n))) (s.signedDigest r)

theorem signNonce_range (s : State) (kind : Nat) : 1 ≤ s.signNonce (curveOf kind) ∧ s.signNonce (curveOf kind) < (curveOf kind).n := by
  have horder := curveOf_order kind
  have hlt := Nat.mod_lt (Config.freeValue s.free) (show 0 < (curveOf kind).n - 1 + 1 - 1 by omega)
  unfold State.signNonce
  omega

/-- Whether the signature of a row fits the public key in its slot. -/
def State.signatureFits (s : State) (r : Nat) : Bool :=
  let n := s.sjob r F.sjobKeySlot
  ecdsaVerify (curveOf (s.slotKind n)) (s.publicOf n).1 (s.publicOf n).2 (s.signedDigest r)
    (s.rowOctets .live 0xF099 r 64 (2 * (curveOf (s.slotKind n)).size))

section
variable (hstate : s.sjob r F.sjobState = 2)
include hstate

theorem run_finishSignJob_fault {st : Nat} (h : s.signJobFault r = some st) : (finishSignJob r).run s = (endSignJob r st 0).run s := by
  rw [finishSignJob, run_dep, if_neg (by simp [hstate]), h]

variable (hfault : s.signJobFault r = none)
include hfault

theorem run_finishSignJob_signs (h : signs (s.sjob r F.sjobOp) = true) : (finishSignJob r).run s
    = (endSignJob r 0 0).run ((Act.setRow .live 0xF099 r 64 (s.signature r)).run (Act.drawn.run s)) := by
  rw [finishSignJob, run_dep, if_neg (by simp [hstate]), hfault]
  dsimp only
  rw [if_pos h, ← signedDigest_eq, signWith, run_dep, run_drawIn, run_seq, if_pos rfl]
  rfl

theorem run_finishSignJob_verifies (h : signs (s.sjob r F.sjobOp) = false) : (finishSignJob r).run s
    = (endSignJob r 0 (if s.signatureFits r then 1 else 2)).run s := by
  rw [finishSignJob, run_dep, if_neg (by simp [hstate]), hfault]
  dsimp only
  rw [if_neg (by rw [h]; exact Bool.false_ne_true), ← signedDigest_eq]
  rfl

end

theorem within_setSignature {ks : Nat → Prop} (r : Nat) {sig : List Byte} (h : sig.length ≤ 96) :
    Within ks (rowCells .live 0xF099 r) (Act.setRow .live 0xF099 r 64 sig) :=
  within_block _ _ _ fun i hi => by
    rw [cellKey_add]
    exact rowCells_mem (by omega)

/-! ### The unit behind it -/

/-- The row whose operation the unit runs ends, and the unit takes its next user. -/
theorem run_signatureEnds (row : Fin 2) (h : u.get Rg.signUser = if row.val = 0 then 2 else 4) :
    signatureEnds.run u = kickUnit.run ((finishSignJob row.val).run ((Act.put Rg.signUser 0).run u)) := by
  obtain hr | hr : row.val = 0 ∨ row.val = 1 := by omega
  · rw [hr] at h ⊢
    rw [signatureEnds, run_dep, h, if_pos rfl]
    simp only [run_all_cons, run_all_nil]
  · rw [hr] at h ⊢
    rw [signatureEnds, run_dep, h, if_neg (by decide)]
    simp only [run_all_cons, run_all_nil]

section
variable (hr : r < 2 ^ 24) (hdone : w.sjob r F.sjobState = 3)
include hr hdone

theorem sjob_kickUnit_done {f : Fld} (hf : f.first + f.span ≤ 4096) : (kickUnit.run w).sjob r f = w.sjob r f :=
  fld_congr fun _ _ => octet_kickUnit hr (by omega) (by rw [hdone]; decide)

theorem rowOctets_kickUnit_done {off n : Nat} (hn : off + n ≤ 4096) :
    (kickUnit.run w).rowOctets .live 0xF099 r off n = w.rowOctets .live 0xF099 r off n :=
  List.map_congr_left fun i hi => by
    have := List.mem_range.mp hi
    rw [cellKey_add]
    exact octet_kickUnit hr (by omega) (by rw [hdone]; decide)

end

/-- What ends a row and what the unit takes next stay in its tables. -/
theorem signatureEnds_leavesRest (hr : r < 2 ^ 24) (h : leavesRest ((Act.put Rg.signUser 0).run u) w (keysIn []) (rowCells .live 0xF099 r)) :
    leavesRest u (kickUnit.run w) (keysIn [Rg.signUser, Rg.stmtRun]) (tableCells .live 0xF099) := by
  have hput : Within (keysIn [Rg.signUser, Rg.stmtRun]) (tableCells .live 0xF099) (.put Rg.signUser 0) := List.mem_cons_self ..
  exact leavesRest_trans (run_leavesRest _ u hput) (leavesRest_trans
    (leavesRest_mono (fun _ h => absurd h List.not_mem_nil) (fun _ _ => rowCells_table hr) h) (run_leavesRest _ w within_kickUnit))

section
variable {row : Fin 2} (huser : u.get Rg.signUser = if row.val = 0 then 2 else 4) (hstate : u.sjob row.val F.sjobState = 2)
include huser hstate

/-- A row whose key no longer serves it ends with that status. -/
theorem signatureEnds_fault {st : Nat} (hst : st < 256) (h : u.signJobFault row.val = some st) (ht : t = signatureEnds.run u) :
    t.sjob row.val F.sjobState = 3 ∧ t.sjob row.val F.sjobStatus = st
      ∧ leavesRest u t (keysIn [Rg.signUser, Rg.stmtRun]) (tableCells .live 0xF099) := by
  have hrow : row.val < 2 ^ 24 := by omega
  rw [run_signatureEnds row huser, run_finishSignJob_fault (s := (Act.put Rg.signUser 0).run u) hstate h] at ht
  obtain ⟨hdone, hstatus, -⟩ := endSignJob_sjobDone ((Act.put Rg.signUser 0).run u) row.val hst (result := 0) (by decide)
  rw [ht]
  exact ⟨(sjob_kickUnit_done hrow hdone (by decide)).trans hdone, (sjob_kickUnit_done hrow hdone (by decide)).trans hstatus,
    signatureEnds_leavesRest hrow (run_leavesRest _ _ (within_endSignJob _ _ _))⟩

variable (hfault : u.signJobFault row.val = none)
include hfault

/-- A row that signs ends with a signature. -/
theorem signatureEnds_signs (h : signs (u.sjob row.val F.sjobOp) = true) (ht : t = signatureEnds.run u) :
    t.sjobDone row.val 0 0 u.vns ∧ t.rowOctets .live 0xF099 row.val 64 (u.signature row.val).length = u.signature row.val
      ∧ leavesRest u t (keysIn [Rg.signUser, Rg.stmtRun]) (tableCells .live 0xF099) := by
  have hrow : row.val < 2 ^ 24 := by omega
  have hfits : (u.signature row.val).length ≤ 96 := ecdsaSign_fits ..
  have hsigned : (finishSignJob row.val).run ((Act.put Rg.signUser 0).run u)
      = (endSignJob row.val 0 0).run
        ((Act.setRow .live 0xF099 row.val 64 (u.signature row.val)).run (Act.drawn.run ((Act.put Rg.signUser 0).run u))) :=
    run_finishSignJob_signs (s := (Act.put Rg.signUser 0).run u) hstate hfault h
  rw [run_signatureEnds row huser, hsigned] at ht
  generalize hv : (Act.setRow .live 0xF099 row.val 64 (u.signature row.val)).run (Act.drawn.run ((Act.put Rg.signUser 0).run u)) = v at ht
  have hstored : leavesRest ((Act.put Rg.signUser 0).run u) v (keysIn []) (rowCells .live 0xF099 row.val) := by
    rw [← hv]
    exact run_leavesRest (.seq .drawn (Act.setRow .live 0xF099 row.val 64 (u.signature row.val))) _ ⟨trivial, within_setSignature _ hfits⟩
  have hsig : v.rowOctets .live 0xF099 row.val 64 (u.signature row.val).length = u.signature row.val := by
    rw [← hv]
    exact octets_block_self ..
  have hdone := endSignJob_sjobDone v row.val (status := 0) (result := 0) (by decide) (by decide)
  rw [vns_of_leavesRest hstored] at hdone
  obtain ⟨hended, hstatus, hresult, htime⟩ := hdone
  rw [ht]
  refine ⟨⟨(sjob_kickUnit_done hrow hended (by decide)).trans hended, (sjob_kickUnit_done hrow hended (by decide)).trans hstatus,
    (sjob_kickUnit_done hrow hended (by decide)).trans hresult, (sjob_kickUnit_done hrow hended (by decide)).trans htime⟩, ?_,
    signatureEnds_leavesRest hrow (leavesRest_trans hstored (run_leavesRest _ _ (within_endSignJob _ _ _)))⟩
  rw [rowOctets_kickUnit_done hrow hended (by omega), signature_endSignJob _ _ _ _ hfits, hsig]

/-- A row that verifies ends with its verdict. -/
theorem signatureEnds_verifies (h : signs (u.sjob row.val F.sjobOp) = false) (ht : t = signatureEnds.run u) :
    t.sjobDone row.val 0 (if u.signatureFits row.val then 1 else 2) u.vns
      ∧ leavesRest u t (keysIn [Rg.signUser, Rg.stmtRun]) (tableCells .live 0xF099) := by
  have hrow : row.val < 2 ^ 24 := by omega
  have hverified : (finishSignJob row.val).run ((Act.put Rg.signUser 0).run u)
      = (endSignJob row.val 0 (if u.signatureFits row.val then 1 else 2)).run ((Act.put Rg.signUser 0).run u) :=
    run_finishSignJob_verifies (s := (Act.put Rg.signUser 0).run u) hstate hfault h
  rw [run_signatureEnds row huser, hverified] at ht
  obtain ⟨hended, hstatus, hresult, htime⟩ := endSignJob_sjobDone ((Act.put Rg.signUser 0).run u) row.val (status := 0)
    (result := if u.signatureFits row.val then 1 else 2) (by decide) (by split <;> decide)
  rw [ht]
  exact ⟨⟨(sjob_kickUnit_done hrow hended (by decide)).trans hended, (sjob_kickUnit_done hrow hended (by decide)).trans hstatus,
    (sjob_kickUnit_done hrow hended (by decide)).trans hresult, (sjob_kickUnit_done hrow hended (by decide)).trans htime⟩,
    signatureEnds_leavesRest hrow (run_leavesRest _ _ (within_endSignJob _ _ _))⟩

end

/-- A row is stopped with 0x01 or 0x02. -/
theorem signJobFault_lt {st : Nat} (h : u.signJobFault r = some st) : st < 256 := by
  unfold State.signJobFault at h
  dsimp only at h
  split at h
  · obtain rfl := Option.some.inj h
    decide
  · split at h
    · obtain rfl := Option.some.inj h
      decide
    · exact absurd h (by simp)

/-! ### Attestation -/

theorem isCommand_attestGenerate {s : State} {o : Obj} (h : s.objAt 0x8300 1 = some o) : isCommand o = true := by
  cases h
  rfl

theorem startAttest_refuses (h : u.usable 1 = false ∨ u.get Key.tamperLatched ≠ 0) : startAttest u = (2, .skip) := by
  have hstop : (!u.usable 1 || u.flag Key.tamperLatched) = true := by simpa [flag_eq] using h
  rw [startAttest, if_pos hstop]

theorem startAttest_starts (husable : u.usable 1 = true) (hlatch : u.get Key.tamperLatched = 0) :
    startAttest u = (0, .seq (.put Rg.attestWanted 1) kickUnit) := by
  rw [startAttest, if_neg (by simp [flag_eq, husable, hlatch])]

/-- An attestation waits for the unit, or has it at once. -/
theorem attestStarted (u : State) (clamps : Bool)
    (ht : t = (Wrote.act ⟨3, commandAct (.runs (.seq (.put Rg.attestWanted 1) kickUnit)) 0x8300 1 clamps, true⟩).run u) :
    t.status = 3 ∧ t.get Key.attestGenerate = 3 ∧ t.get Rg.attestWanted = 1
      ∧ leavesRest u t (keysIn [Key.attestGenerate, Rg.attestWanted, Rg.signUser, Rg.stmtRun])
          (bothCells (tableCells .live 0xF099) clampCells) := by
  have hrun := ht.trans (run_executed u 3 (.seq (.put Rg.attestWanted 1) kickUnit) 0x8300 1 clamps)
  have hclamp := run_leavesRest (ks := keysIn []) (Act.when clamps (countClamp 0x8300 1)) u
    (within_when fun _ => within_countClamp_cells (by decide) (by decide))
  generalize (Act.when clamps (countClamp 0x8300 1)).run u = v at hrun hclamp
  rw [run_seq] at hrun
  have hkick := run_leavesRest _ ((Act.put Rg.attestWanted 1).run ((Act.put Key.attestGenerate 3).run v)) within_kickUnit
  have ⟨hregs, _⟩ := hkick
  subst hrun
  refine ⟨rfl, ?_, ?_, ?_⟩
  · exact (get_answer ..).trans ((hregs _ (by simp only [keysIn]; decide)).trans
      ((get_put_ne _ _ (by decide)).trans ((get_put_self ..).trans rfl)))
  · exact (get_answer ..).trans ((hregs _ (by simp only [keysIn]; decide)).trans
      ((get_put_self ..).trans (by rw [regMod_internal (by decide), Nat.mod_zero])))
  · have hputs : Within (keysIn [Key.attestGenerate, Rg.attestWanted, Rg.signUser, Rg.stmtRun]) (bothCells (tableCells .live 0xF099) clampCells)
        (.seq (.put Key.attestGenerate 3) (.put Rg.attestWanted 1)) := by simp [keysIn]
    refine leavesRest_trans (leavesRest_mono (fun _ h => absurd h List.not_mem_nil) (fun _ _ => .inr) hclamp)
      (leavesRest_trans (run_leavesRest _ v hputs) (leavesRest_trans (leavesRest_mono ?_ (fun _ _ => .inl) hkick) (leavesRest_answered _ _ _)))
    exact fun _ h => List.mem_cons_of_mem _ (List.mem_cons_of_mem _ h)

theorem attestGenerate_answers {dt : Nat} {path : Path} {v : BitVec 64} (ha : (s.facing dt path).admits path 0x8300 1 = true) :
    ((s.facing dt path).usable 1 = false ∨ (s.facing dt path).get Key.tamperLatched ≠ 0 → Runs (.attestGenerate dt path v) s fun t =>
      t.status = 2 ∧ leavesRest (s.facing dt path) t (keysIn []) noCells)
    ∧ ((s.facing dt path).usable 1 = true → (s.facing dt path).get Key.tamperLatched = 0 → Runs (.attestGenerate dt path v) s fun t =>
      t.status = 3 ∧ t.get Key.attestGenerate = 3 ∧ t.get Rg.attestWanted = 1
        ∧ leavesRest (s.facing dt path) t (keysIn [Key.attestGenerate, Rg.attestWanted, Rg.signUser, Rg.stmtRun])
            (bothCells (tableCells .live 0xF099) clampCells)) := by
  obtain ⟨x, clamps, hw⟩ := writeScalarAt_command v.toNat ha (fun _ => isCommand_attestGenerate) rfl
  have hcommand : runCommand (s.facing dt path) path 0x8300 1 x = .starts (startAttest (s.facing dt path)) := rfl
  have hexec {r : Wrote} (h : writeScalarAt (s.facing dt path) path 0x8300 1 v.toNat = r) :
      exec (.attestGenerate dt path v) s = .next (r.act.run (s.facing dt path)) :=
    (command_scalarWrite ..).trans (congrArg (fun w => Host.Outcome.next (w.act.run (s.facing dt path))) h)
  rw [hcommand] at hw
  constructor
  · intro h
    rw [startAttest_refuses h] at hw
    exact ⟨_, hexec hw, rfl, leavesRest_answered _ 2 []⟩
  · intro husable hlatch
    rw [startAttest_starts husable hlatch] at hw
    exact ⟨_, hexec hw, attestStarted _ clamps rfl⟩

end

/-! ### The statement -/

/-- Settles O46: a submitted row keeps what was written and is tried by the unit where this is idle; the end of an operation ends its row
with a verdict or a signature, and what the unit takes next leaves that row; attestation waits only with a usable slot 1. -/
theorem signatureJobsRun : Obligations.SignatureJobsRun := by
  refine ⟨?submitted, ?ended, fun s dt path v ha => attestGenerate_answers ha⟩
  case submitted =>
    intro s dt path r data u x key rest fit queued starts ends ha hlen hfree hstate hop hop' hoffset hlength
    have hlegal : LegalSubmission data := ⟨⟨hop, hop'⟩, hoffset, hlength⟩
    have hr : r.val < 2 ^ 24 := by omega
    refine ⟨fun hbusy => ?busy, fun huser hstmt hattest hother =>
      ⟨fun hfit hin => ?starts, fun hno => ?unfit, fun hfit hdata hlong => ?exceeds⟩⟩
    case busy => exact runs_signWrite ha hlen hfree hstate (signAnswered_busy hlen hlegal hr hbusy rfl)
    case starts =>
      have hfault : (signQueued u r.val data).signJobFault r.val = none := by
        rw [signJobFault_fits hlen hlegal hr hfit, if_neg]
        rw [Bool.and_eq_true, decide_eq_true_eq]
        exact fun ⟨hdata, hlong⟩ => Nat.not_lt.mpr (hin hdata) hlong
      exact runs_signWrite ha hlen hfree hstate (signAnswered_starts hlen hlegal huser hstmt hattest hother hfault rfl)
    case unfit =>
      exact runs_signWrite ha hlen hfree hstate (signAnswered_ends hlen hlegal huser hstmt hattest hother (by decide)
        (signJobFault_unfit hlen hlegal hr hno) rfl)
    case exceeds =>
      have hfault : (signQueued u r.val data).signJobFault r.val = some 1 := by
        rw [signJobFault_fits hlen hlegal hr hfit, if_pos]
        exact Bool.and_eq_true_iff.mpr ⟨hdata, decide_eq_true hlong⟩
      exact runs_signWrite ha hlen hfree hstate (signAnswered_ends hlen hlegal huser hstmt hattest hother (by decide) hfault rfl)
  case ended =>
    intro s dt r u op n c digest hpower huser hstate
    refine ⟨fun st hfault => runs_powered rfl hpower (signatureEnds_fault huser hstate (signJobFault_lt hfault) hfault rfl),
      fun hfault => runs_powered rfl hpower ?_⟩
    cases hsigns : signs op with
    | true =>
      obtain ⟨⟨hdone, hstatus, -, htime⟩, hsig, hrest⟩ := signatureEnds_signs huser hstate hfault hsigns rfl
      obtain ⟨hlo, hhi⟩ := signNonce_range u (u.slotKind n)
      exact ⟨hdone, hstatus, htime, fun _ => ⟨_, hlo, hhi, hsig⟩, fun h => absurd h (by decide), hrest⟩
    | false =>
      obtain ⟨⟨hdone, hstatus, hresult, htime⟩, hrest⟩ := signatureEnds_verifies huser hstate hfault hsigns rfl
      exact ⟨hdone, hstatus, htime, fun h => absurd h (by decide), fun _ => hresult, hrest⟩

end Sys2Proof.Machine
end
